-- ==== Sys2Proof/Word.lean ====
section
/-! DEFINITION. The widths the part uses as words: a byte on a wire, an encoder count, a counter.
Everything else of the part (distances, speeds, chute and station numbers, times) is a plain number. -/

namespace Sys2Proof

/-- One byte of the scanner line, of a frame's payload or of the configuration memory. -/
abbrev Byte := BitVec 8

/-- A value of the 24-bit encoder count E, which wraps modulo 2^24 (R1). -/
abbrev Count := BitVec 24

/-- A 16-bit counter of the Status Unit (R37, R58, R75, R97, R110, R132, R143, R154, R173). -/
abbrev Tally16 := BitVec 16

/-- A 32-bit flow counter (R35). -/
abbrev Flow32 := BitVec 32

end Sys2Proof
end

