-- ==== Sys2Proof/Syntax.lean ====
section
/-! DEFINITION. The commands of the block: one constructor for each row of the table of operations and events,
with the operands that the row's rule says the event carries. -/

namespace Sys2Proof

/-- One of the two diverters, each with its chute, confirm eye and bay inputs (R111, R133). -/
inductive Div where
  | d0
  | d1
  deriving DecidableEq, Repr

/-- The four photo-eyes of R14: EYE_IN, EYE_OUT, CONF0 and CONF1. -/
inductive Eye where
  | entry
  | exit
  | confirm (d : Div)
  deriving DecidableEq, Repr

/-- One of the two upstream sources of R38. -/
inductive Source where
  | a
  | b
  deriving DecidableEq, Repr

/-- How one block names a segment record to another: by its slot and its entry count (R15, R17). -/
structure RecRef where
  /-- 0 to 15 -/
  slot : Nat
  /-- E_in -/
  ein : Count
  deriving DecidableEq, Repr

/-- A frame received on the hall line, of a kind that the command names. -/
structure RxFrame where
  /-- the station number of the arbitration field -/
  sender : BitVec 6
  /-- the payload bytes, in the order sent -/
  payload : List Byte
  /-- this station read a bit of the objection slot dominant, driven by another station (R159) -/
  voided : Bool
  deriving DecidableEq, Repr

/-- A removal of the record being identified that comes together with the write of the identification
and is taken first (R17, R73, R89): the event that removes it, taken between the identity table's part and the write. -/
inductive Race where
  /-- LEADING_EDGE_ACCEPTED of the exit eye (R25) -/
  | exitEdge
  /-- OVERDUE_POINT of a record (R27) -/
  | overdue (r : RecRef)
  /-- LEADING_EDGE_ACCEPTED of a confirm eye (R124, R126) -/
  | confirmEdge (d : Div)
  /-- EYE_RAW_CHANGE: the edge itself when Gf is 0 (R11), or a return to CLEAR that a waiting overdue test takes (R27) -/
  | rawChange (eye : Eye) (blocked : Bool)
  /-- JAM_CLR, a segment clear (R33) -/
  | jamClr
  /-- STATUS_QUERY, with a segment clear (R33, R180) -/
  | statusQuery (f : RxFrame)
  deriving DecidableEq, Repr

/-- The commands, in the table's order. -/
inductive Instr where
  /-- RESET_N going low or the power-on detector firing (R174) -/
  | reset
  /-- the rise of RESET_N, or the detector's release (R174) -/
  | resetRelease
  /-- the SPI read ends with the 256 bytes of the configuration memory (R175) -/
  | configurationLoadDone (image : List Byte)
  /-- a phase of the INVALID blink pattern ends (R178) -/
  | alertBlinkTimer
  /-- a rising edge on ENC (R1) -/
  | encoderTick
  /-- 16 ms have passed since the last window close (R3) -/
  | windowClose
  /-- an eye input changes to the given level, true meaning blocked (R11, R12) -/
  | eyeRawChange (eye : Eye) (blocked : Bool)
  /-- a BLOCKING filter has run Gf ticks (R11) -/
  | leadingEdgeAccepted (eye : Eye)
  /-- a CLEARING filter has run Gf ticks (R12) -/
  | trailingEdgeAccepted (eye : Eye)
  /-- a record reaches position 2047 (R18, R23) -/
  | longBagPoint (r : RecRef)
  /-- a record reaches the late grace end (R18, R53) -/
  | lateGraceEnd (r : RecRef)
  /-- a record reaches P_dec (R18, R74) -/
  | readDecisionPoint (r : RecRef)
  /-- a record reaches the commit point of diverter d (R18, R113) -/
  | commitPoint (d : Div) (r : RecRef)
  /-- a record reaches P_exit + X + 1 (R18, R27) -/
  | overduePoint (r : RecRef)
  /-- E reaches the fire count of the first grant of diverter d (R120) -/
  | fire (d : Div)
  /-- E reaches the release count of diverter d's engagement (R121) -/
  | release (d : Div)
  /-- E reaches the free-from count of diverter d's engagement (R121) -/
  | recoveryEnd (d : Div)
  /-- E reaches the window end of an entry of diverter d's confirm list (R125) -/
  | confirmWindowEnd (d : Div)
  /-- a waiting HANDOVER has gone stale (R169) -/
  | handoverStale
  /-- a byte of the scanner line, with its framing error mark and a removal that comes together with it (R61, R89) -/
  | scanByte (byte : Byte) (framingError : Bool) (race : Option Race)
  /-- six ticks of the time base without a byte (R63) -/
  | scanGapTimeout
  /-- a settled change of FULLn to the given level (R134) -/
  | fullSensorChange (d : Div) (level : Bool)
  /-- a settled change of CLOSEn to the given level (R134) -/
  | closeSwitchChange (d : Div) (level : Bool)
  /-- a settled rise of CLRn (R136) -/
  | chuteClear (d : Div)
  /-- a rising edge sampled on JAM_CLR (R33) -/
  | jamClr
  /-- a refresh period ends (R172) -/
  | refreshTimer
  /-- the downstream silence timer runs out (R30) -/
  | downstreamSilence
  /-- a source's silence timer runs out (R40) -/
  | upstreamSilence (src : Source)
  /-- 60,000 ms have passed on the minute timer (R81) -/
  | minuteTimer
  /-- a received frame of kind 0 (R170) -/
  | segmentState (f : RxFrame)
  /-- a received frame of kind 1 (R41) -/
  | handover (f : RxFrame)
  /-- a received frame of kind 2 (R91) -/
  | divertDone (f : RxFrame)
  /-- a received frame of kind 3 (R93) -/
  | identityNotice (f : RxFrame)
  /-- a received frame of kind 4 (R105) -/
  | chuteState (f : RxFrame)
  /-- a received frame of kind 5 (R150) -/
  | strayNotice (f : RxFrame)
  /-- a received frame of kind 6 (R180) -/
  | statusQuery (f : RxFrame)
  /-- a received frame of kind 7 (R160) -/
  | statusReply (f : RxFrame)
  /-- a received frame of kind 8 + code (R160) -/
  | unknownKind (code : BitVec 3) (f : RxFrame)
  /-- the line becomes free and the first waiting frame starts (R155) -/
  | frameStart
  /-- the attempt in transmission ends; the bits read on HL_RX from its start bit on, true being recessive (R157, R158, R161) -/
  | attemptEnd (read : List Bool)
  /-- the QUIET timer expires (R162) -/
  | quietTimer
  /-- the line has read dominant for 32 bit times (R163) -/
  | lineFault
  /-- the line has read recessive for 128 bit times (R163) -/
  | lineFaultExit
  /-- a frame whose bits, read from its start bit on, break the wire's rules (R159) -/
  | rxMalformed (bits : List Bool)
  deriving DecidableEq, Repr

end Sys2Proof
end

