-- ==== Sys2Proof/Decode.lean ====
section
/-! DEFINITION. The command that a word spells by the table's bits. No row of the table gives bits
(the part has no register window and no instruction words), so every word is refused. -/

namespace Sys2Proof

/-- No row of the table of operations and events gives a pattern of bits. -/
def decodeTableWord (_nbits _w : Nat) : Option Instr := none

end Sys2Proof
end

