-- ==== Sys2Proof/Machine/Bits.lean ====
section
/-! DEFINITION. Bits, bytes and encoder counts: bits are numbered and sent from the most significant end (00, "Numbers"),
multi-byte fields stand most significant byte first (10.5, R176), and counts are compared by forward distance (R2). -/

namespace Sys2Proof.Machine

open Sys2Proof

/-- The forward distance from count a to count b, (b − a) modulo 2^24 (R2). -/
def fwd (a b : Count) : Nat := (b - a).toNat

/-- Count b is at or after count a (R2). -/
def atOrAfter (b a : Count) : Bool := fwd a b < 2 ^ 23

/-- Count c lies at or after `first` and at or before `last` (R124, R126). -/
def within (first last c : Count) : Bool := atOrAfter c first && atOrAfter last c

/-- A time of t ms as a distance in ticks at speed figure v: ceil(t × v / 128) (R10). -/
def ticksOf (t v : Nat) : Nat := (t * v + 127) / 128

/-- The count that lies n ticks after c, modulo 2^24. -/
def ahead (c : Count) (n : Nat) : Count := c + BitVec.ofNat 24 n

/-- The w low bits of n, most significant first. -/
def natBits (w n : Nat) : List Bool := (List.range w).map fun i => n.testBit (w - 1 - i)

/-- The number that bits spell, most significant first. -/
def bitsNat (bits : List Bool) : Nat := bits.foldl (fun n b => 2 * n + b.toNat) 0

/-- Bits packed from the most significant bit of the first byte, ended with 0 bits to a whole byte (R181). -/
def packBits (bits : List Bool) : List Byte :=
  (List.range ((bits.length + 7) / 8)).map fun k =>
    BitVec.ofNat 8 (bitsNat (((bits.drop (8 * k)).take 8 ++ List.replicate 8 false).take 8))

/-- The number that bytes spell, most significant byte first. -/
def bytesNat (bytes : List Byte) : Nat := bytes.foldl (fun n b => 256 * n + b.toNat) 0

/-- n as w bytes, most significant byte first. -/
def natBytes (w n : Nat) : List Byte := (List.range w).map fun i => BitVec.ofNat 8 (n / 256 ^ (w - 1 - i))

/-- The number in bits hi to lo of n. -/
def field (n hi lo : Nat) : Nat := n / 2 ^ lo % 2 ^ (hi + 1 - lo)

end Sys2Proof.Machine
end

