-- ==== Sys2Proof/Config.lean ====
section
/-! DEFINITION. What is fixed while the station runs: the part's constants, and the values that a station takes from its
configuration memory (11.1). The spec leaves no result open, so there is no free value here. -/

namespace Sys2Proof

/-- Segment records at most (R15). -/
def maxRecords : Nat := 16
/-- Expect records at most (R44). -/
def maxExpects : Nat := 8
/-- Frames in the outbound queue at most (R166). -/
def maxFrames : Nat := 8
/-- Grants in a grant list at most (R112). -/
def maxGrants : Nat := 3
/-- Entries in a confirm list at most (R112). -/
def maxConfirms : Nat := 2
/-- The long-bag point and the longest length measured (R22, R23). -/
def longBag : Nat := 2047
/-- The largest gap measured (R16, R22). -/
def maxGap : Nat := 16383
/-- The fill saturates here (R135). -/
def maxFill : Nat := 4095
/-- A window lasts 16 ms (R3). -/
def windowPeriodMs : Nat := 16
/-- Ticks of the time base without a byte that make a gap (R63). -/
def gapPeriodMs : Nat := 6
/-- The minute of the identity table (R81). -/
def minutePeriodMs : Nat := 60000
/-- The QUIET period (R162). -/
def quietPeriodMs : Nat := 1000
/-- The longest payload a frame may carry (R159). -/
def maxPayload : Nat := 20
/-- The payload bits that tag numbers, sailings and cabins may use (R41). -/
def maxTag : Nat := 9999999999
/-- The largest sailing code a frame may carry (R41). -/
def maxSailing : Nat := 4095
/-- The largest cabin (R41). -/
def maxCabin : Nat := 99999

/-- The sailing slot of a cabin range (R100). -/
inductive Slot where
  | a
  | b
  | any
  deriving DecidableEq, Repr

/-- One range of the cabin range table (R100). -/
structure Range where
  slot : Slot
  low : Nat
  high : Nat
  primary : Nat
  /-- 0 meaning none -/
  overflow : Nat
  deriving DecidableEq, Repr

/-- The READER section (R176, R177). -/
structure ReaderConfig where
  pRead : Nat
  pDec : Nat
  /-- the read margin M -/
  margin : Nat
  /-- S_lat, in ms -/
  latency : Nat
  sailingA : Nat
  sailingB : Nat
  deriving DecidableEq, Repr

/-- A DIVERTER section (R111). -/
structure DiverterConfig where
  chute : Nat
  pDiv : Nat
  /-- the commit distance K -/
  commit : Nat
  /-- the actuation time A, in ms -/
  actuation : Nat
  /-- the hold distance H -/
  hold : Nat
  /-- the recovery time R, in ms -/
  recovery : Nat
  /-- W_conf -/
  window : Nat
  capacity : Nat
  deriving DecidableEq, Repr

/-- A station's loaded configuration (R176, R177). -/
structure StationConfig where
  station : Nat
  /-- 0 for none -/
  upA : Nat
  /-- 0 for none -/
  upB : Nat
  /-- 0 for none -/
  down : Nat
  priority : Source
  /-- 1, 2, 3 for 125, 250, 500 kbit/s -/
  bitRate : Nat
  reader : Bool
  desk : Bool
  /-- bits 7 to 1 select the summaries of R179 -/
  alertMask : Byte
  pExit : Nat
  dExit : Nat
  /-- the exit band X -/
  band : Nat
  /-- the filter length Gf -/
  gf : Nat
  gMin : Nat
  eMin : Nat
  lateGrace : Nat
  vStop : Nat
  vTol : Nat
  /-- the refresh period, in seconds -/
  refresh : Nat
  readerSection : Option ReaderConfig
  div0 : Option DiverterConfig
  div1 : Option DiverterConfig
  problem : Nat
  maxPasses : Nat
  ageLimit : Nat
  ranges : List Range
  deriving DecidableEq, Repr

/-- The section of a diverter, absent when the station has no such diverter (R111). -/
def StationConfig.diverter (c : StationConfig) : Div → Option DiverterConfig
  | .d0 => c.div0
  | .d1 => c.div1

/-- The station number of a source, 0 for none (R38). -/
def StationConfig.upstream (c : StationConfig) : Source → Nat
  | .a => c.upA
  | .b => c.upB

/-- The feed-start role: no upstream neighbour (R176). -/
def StationConfig.feedStart (c : StationConfig) : Bool := c.upA == 0 && c.upB == 0

/-- A chute named in a DIVERTER section is an own chute of the station (R111). -/
def StationConfig.ownChute (c : StationConfig) (chute : Nat) : Bool :=
  c.div0.any (·.chute == chute) || c.div1.any (·.chute == chute)

/-- One refresh period in ms (R172). -/
def StationConfig.refreshMs (c : StationConfig) : Nat := 1000 * c.refresh

/-- The silence time of R30 and R40: three of this station's refresh periods. -/
def StationConfig.silenceMs (c : StationConfig) : Nat := 3 * c.refreshMs

end Sys2Proof
end

