-- ==== Sys2Proof/Machine/State.lean ====
section
/-! DEFINITION. Everything the spec gives one station to hold, block by block, as plain data, and its value after reset. -/

namespace Sys2Proof.Machine

open Sys2Proof

/-! ## Belt and tracking (BTU) -/

/-- The speed state of R6. -/
inductive SpeedState where
  | stopped
  | moving
  | steady
  deriving DecidableEq, Repr

/-- The states of an eye's glitch filter (R11, R12). -/
inductive FilterState where
  | clear
  | blocking
  | blocked
  | clearing
  deriving DecidableEq, Repr

/-- A glitch filter (R11, R12, R13). -/
structure Filter where
  st : FilterState
  /-- the raw edge count in BLOCKING, the raw clear count in CLEARING -/
  raw : Count
  /-- the filter started in BLOCKED, and its first accepted trailing edge is not delivered (R13) -/
  mute : Bool
  deriving DecidableEq, Repr

/-- The gap reference of R21. -/
inductive GapRef where
  | none
  | count (c : Count)
  | lost
  deriving DecidableEq, Repr

/-- The origin of a record (R16). -/
inductive Origin where
  | announced
  | blind
  | inducted
  deriving DecidableEq, Repr

/-- What a tag says of a bag (R16). -/
structure Identity where
  tag : Nat
  sailing : Nat
  cabin : Nat
  deriving DecidableEq, Repr

/-- The stray reasons of R144. -/
inductive Reason where
  | noRead
  | badCheck
  | ambiguous
  | blind
  | chuteUnavailable
  | noCabin
  | wrongSailing
  | duplicateTag
  | tagConflict
  | oversize
  | lapLimit
  | lost
  | swept
  deriving DecidableEq, Repr

/-- The read status of a record (R16). -/
inductive ReadStatus where
  | none
  | read
  | noRead
  deriving DecidableEq, Repr

/-- The divert status of a record (R16, R112). -/
inductive DivertStatus where
  | none
  | granted
  | fired
  | missed
  | withdrawn
  deriving DecidableEq, Repr

/-- The points of R18. -/
inductive Point where
  | lateGraceEnd
  | readDecision
  | commit (d : Div)
  | longBag
  | overdue
  deriving DecidableEq, Repr

/-- A segment record (R16). -/
structure SegRec where
  slot : Nat
  ein : Count
  len : Option Nat
  /-- absent meaning unknown -/
  front : Option Nat
  back : Option Nat
  origin : Origin
  ident : Option Identity
  /-- the number of the identity entry it refers to -/
  entry : Option Nat
  dest : Option Nat
  reason : Option Reason
  passes : Nat
  readStatus : ReadStatus
  divert : DivertStatus
  tight : Bool
  closeBehind : Bool
  lateId : Bool
  ambiguous : Bool
  /-- the model's own: the points of R18 whose event has not been taken for this record -/
  awaiting : List Point
  /-- the model's own: R23 has made it OVERSIZE -/
  longBag : Bool
  deriving DecidableEq, Repr

/-- The slot and entry count that name a record (R15). -/
def SegRec.ref (r : SegRec) : RecRef := ⟨r.slot, r.ein⟩

/-- The open record, whose trailing edge the entry eye will deliver next (R19). -/
structure OpenRec where
  ref : RecRef
  /-- opened again by an entry glitch: its trailing edge takes steps 1 and 5 of R22 alone -/
  reopened : Bool
  deriving DecidableEq, Repr

/-- An expect record (R43). -/
structure ExpectRec where
  source : Source
  ident : Option Identity
  dest : Option Nat
  reason : Option Reason
  passes : Nat
  /-- 0 meaning unknown -/
  len : Nat
  /-- remaining distance, eighth-ticks -/
  drem : Int
  tol : Nat
  deriving DecidableEq, Repr

/-- The reported state of an upstream source (R39). -/
inductive Reported where
  | none
  | stopped
  | moving
  | steady
  deriving DecidableEq, Repr

/-- The upstream state of a source (R39, R40). -/
structure Upstream where
  reported : Reported
  vsrc : Nat
  /-- the silence timer: ms since its start or restart, absent while stopped -/
  timer : Option Nat
  silent : Bool
  deriving DecidableEq, Repr

/-- The downstream state (R30). -/
structure Downstream where
  heard : Bool
  lastBlocked : Bool
  /-- the silence timer: ms since its restart, absent while stopped -/
  timer : Option Nat
  silent : Bool
  deriving DecidableEq, Repr

/-- The flow counters of R35. -/
structure Flow where
  entered : Flow32
  exited : Flow32
  diverted0 : Flow32
  diverted1 : Flow32
  swept : Flow32
  cleared : Flow32
  untracked : Flow32
  deriving DecidableEq, Repr

/-- What the Belt Tracking Unit holds. -/
structure Btu where
  /-- the encoder count E -/
  e : Count
  /-- the last eight window counts, oldest first (R5) -/
  history : List Nat
  /-- the ticks of the open window, 256 meaning clamped (R4) -/
  winCount : Nat
  v : Nat
  prevV : Nat
  speed : SpeedState
  steadyCount : Nat
  reportedV : Nat
  /-- the window timer, absent while stopped -/
  windowMs : Option Nat
  fEntry : Filter
  fExit : Filter
  fConf0 : Filter
  fConf1 : Filter
  /-- the segment queue, oldest first -/
  queue : List SegRec
  openRec : Option OpenRec
  gapRef : GapRef
  /-- the next entry trailing edge is an untracked bag's (R20, R21) -/
  skipTrailing : Bool
  /-- the expect list, oldest first -/
  expects : List ExpectRec
  upA : Upstream
  upB : Upstream
  down : Downstream
  blockedFlag : Bool
  /-- the RUN_PERMIT output -/
  permit : Bool
  flow : Flow
  /-- the last sample of JAM_CLR (R33) -/
  jamSample : Bool
  deriving DecidableEq, Repr

/-! ## Reads (RDU) -/

/-- The record assembler (R61, R62). -/
inductive Assembler where
  | idle
  /-- the characters held, the letter first -/
  | assembling (held : List Byte)
  | discarding
  deriving DecidableEq, Repr

/-- What the Read Unit holds. -/
structure Rdu where
  asm : Assembler
  /-- the gap timer, absent while stopped (R63) -/
  gapMs : Option Nat
  deriving DecidableEq, Repr

/-! ## The identity table (IDT) -/

/-- The states of an entry (R77). -/
inductive EntryState where
  | onSegment
  | onLoop
  | diverted
  | manual
  deriving DecidableEq, Repr

/-- Whether an entry was last written by a read or by a desk notice (R77). -/
inductive EntrySource where
  | read
  | notice
  deriving DecidableEq, Repr

/-- A valid entry (R77). -/
structure IdtEntry where
  tag : Nat
  sailing : Nat
  wildcard : Bool
  cabin : Nat
  dest : Nat
  state : EntryState
  source : EntrySource
  age : Nat
  deriving DecidableEq, Repr

/-- What the Identity Table holds. -/
structure Idt where
  /-- entries 0 to 127; an absent one is not valid -/
  entries : List (Option IdtEntry)
  /-- the rotation pointer (R82) -/
  pointer : Nat
  /-- the minute timer, absent while stopped (R81) -/
  minuteMs : Option Nat
  deriving DecidableEq, Repr

/-! ## Routing (RRV) and chutes (DVS) -/

/-- The states of a chute in the view (R104); an account's state is never UNKNOWN (R133). -/
inductive ChuteState where
  | isOpen
  | nearFull
  | full
  | closed
  | unknown
  deriving DecidableEq, Repr

/-- An entry of the chute view (R104). -/
structure ViewEntry where
  state : ChuteState
  owner : Nat
  fill : Nat
  capacity : Nat
  age : Nat
  deriving DecidableEq, Repr

/-- What the Route Resolver holds beside the loaded sailings and ranges. -/
structure Rrv where
  /-- the entries of chutes 1 to 31 -/
  view : List ViewEntry
  deriving DecidableEq, Repr

/-- A grant not yet fired (R112). -/
structure Grant where
  ref : RecRef
  fire : Count
  release : Count
  freeFrom : Count
  deriving DecidableEq, Repr

/-- The states of an engagement (R119). -/
inductive EngState where
  | idle
  | engaged
  | recovering
  deriving DecidableEq, Repr

/-- The last engagement fired (R112). -/
structure LastFire where
  fire : Count
  release : Count
  freeFrom : Count
  /-- the fired record, absent once the reference is dropped (R118) -/
  fired : Option RecRef
  confirmed : Bool
  closeBehind : Option RecRef
  deriving DecidableEq, Repr

/-- An entry of a confirm list (R112). -/
structure Confirm where
  ref : RecRef
  fire : Count
  windowEnd : Count
  /-- the model's own: the window end has come and the decision waits for a pending edge (R125) -/
  waiting : Bool
  deriving DecidableEq, Repr

/-- A chute account (R133). -/
structure Account where
  chute : Nat
  capacity : Nat
  fill : Nat
  fullSensor : Bool
  closeSwitch : Bool
  state : ChuteState
  lastSent : ChuteState
  deriving DecidableEq, Repr

/-- The settling of a chute's bay inputs: the settle counts of FULLn, CLOSEn and CLRn, and the settled level of CLRn; those of
FULLn and CLOSEn are in the account (R133, R134). -/
structure Bay where
  full : Nat
  close : Nat
  clr : Nat
  clrLevel : Bool
  deriving DecidableEq, Repr

/-- What the Divert Scheduler holds for one diverter. -/
structure Diverter where
  grants : List Grant
  eng : EngState
  last : Option LastFire
  confirms : List Confirm
  account : Option Account
  bay : Bay
  deriving DecidableEq, Repr

/-- What the Divert Scheduler holds. -/
structure Dvs where
  d0 : Diverter
  d1 : Diverter
  deriving DecidableEq, Repr

/-! ## The hall line (HLC) -/

/-- The line states of R165. -/
inductive LineState where
  | offline
  | active
  | quiet
  | lineFault
  | listenOnly
  deriving DecidableEq, Repr

/-- The fields of a HANDOVER (R55). -/
structure Handover where
  toStation : Nat
  v : Nat
  dExit : Nat
  len : Nat
  ident : Option Identity
  origin : Origin
  /-- 0 for none -/
  dest : Nat
  reason : Option Reason
  passes : Nat
  lateId : Bool
  deriving DecidableEq, Repr

/-- The fields of a DIVERT_DONE (R130). -/
structure DivertDone where
  chute : Nat
  len : Nat
  ident : Option Identity
  swept : Bool
  deriving DecidableEq, Repr

/-- The fields of a STRAY_NOTICE (R149). -/
structure StrayNotice where
  reason : Reason
  ident : Option Identity
  passes : Nat
  chute : Nat
  origin : Origin
  deriving DecidableEq, Repr

/-- The fields of a CHUTE_STATE (R140). -/
structure ChuteReport where
  chute : Nat
  state : ChuteState
  fill : Nat
  capacity : Nat
  deriving DecidableEq, Repr

/-- A frame that a station queues (10.5). -/
inductive Frame where
  | segmentState (v : Nat) (speed : SpeedState) (blocked : Bool)
  /-- the exit count stays with the frame and is not sent (R56) -/
  | handover (h : Handover) (exitCount : Count)
  | divertDone (d : DivertDone)
  | identityNotice (i : Identity) (dest : Nat)
  | chuteState (c : ChuteReport)
  | strayNotice (n : StrayNotice)
  | statusReply (bytes : List Byte)
  deriving DecidableEq, Repr

/-- A frame of the outbound queue (R166). -/
structure OutFrame where
  frame : Frame
  /-- the retry count is 1 -/
  retried : Bool
  sending : Bool
  /-- in transmission, and a frame of its class has joined since its start bit (R167) -/
  overtaken : Bool
  deriving DecidableEq, Repr

/-- What the station drives on a frame it objects to (R158, R159). -/
inductive Objection where
  | none
  /-- both bit times of the objection slot -/
  | slot
  /-- the nine bit times that follow a length over 20 -/
  | early
  deriving DecidableEq, Repr

/-- What the Hall Line Controller holds. -/
structure Hlc where
  line : LineState
  queue : List OutFrame
  /-- the drop tally (R161) -/
  tally : Nat
  /-- the QUIET timer, absent while stopped -/
  quietMs : Option Nat
  /-- the duplicate-station condition (R164) -/
  dup : Bool
  /-- the refresh timer, absent while stopped (R172) -/
  refreshMs : Option Nat
  objection : Objection
  deriving DecidableEq, Repr

/-! ## Configuration (CFL) and status (STU) -/

/-- Why an image is INVALID (R178). -/
inductive BadReason where
  | noMemory
  | badSignature
  | badCheck
  | badValue
  deriving DecidableEq, Repr

/-- The CFL's load state, with the configuration it holds (R174, R178). -/
inductive LoadState where
  | loading
  | valid (c : StationConfig)
  | invalid (r : BadReason)
  deriving DecidableEq, Repr

/-- What the Configuration Loader holds. -/
structure Cfl where
  load : LoadState
  /-- the SPI read is under way: CFG_CS is low (R175) -/
  reading : Bool
  /-- the level of RESET_N, true being high -/
  resetN : Bool
  /-- the phase of the blink pattern of R178 -/
  blinkPhase : Nat
  blinkMs : Nat
  deriving DecidableEq, Repr

/-- The 16-bit counters, in the order of the counter groups 1 to 3 of R181. -/
inductive Ctr where
  -- group 1, BTU: R37, R58, R154
  | entryGlitch | tightEntry | exitUnexpected | exitOverdue | lateUpdate
  | expectFull | noShow | handoverForeign | handoverNotMine | blindArrival | lateAttach | blindStray
  | straySet | strayReplaced | strayKept | strayCarried | strayCleared
  -- group 1, RDU: R75, R154
  | malformed | scanUnused | manualIgnored | badCheck | unassociated | ambiguousRead | doubleRead | tagConflict
  | noRead | goodRead | noReadDecision | ambiguousUnresolved
  | deskAccepted | deskRefusedCheck | deskRefusedSailing | deskRefusedCabin | deskRefusedClosed
  -- group 2, IDT: R97
  | newTag | returning | manualHit | duplicateTag | idtFull | tagClash | manualReused
  | divertDoneHit | divertDoneDuplicate | divertDoneUnmatched | divertDoneSwept | divertElsewhere
  | noticeStored | noticeOnSegment
  -- group 2, RRV: R110
  | sailingA | sailingB | sailingNone | wrongSailing | noCabin | decodePrimary | decodeOverflow | decodePrimaryFull
  | chuteUnavailable | chuteOwnerChange | chuteClaim | viewChange | viewExpired
  -- group 2, CFL and STU
  | sectionSkipped | queryTaken | queryOther
  -- group 3, DVS: R132 with the refusals of R115, R143 for each diverter's chute
  | grant
  | refusedChuteNotOpen | refusedNotSteady | refusedLengthUnknown | refusedLongBag | refusedSpeedTooHigh
  | refusedFrontGap | refusedBackGap | refusedDiverterBusy | refusedGrantListFull
  | withdrawnChute | withdrawnSpeed | withdrawnGap | withdrawnDestination
  | grantCancelled | fire | closeBehind | confirmOverrun | missedDivert | sweptBag | unexpectedChuteEdge
  | passCounted | lapLimit | passesClamped
  | fillClamped0 | chuteCleared0 | chuteFull0 | chuteClosed0
  | fillClamped1 | chuteCleared1 | chuteFull1 | chuteClosed1
  -- group 3, HLC: R173
  | queuedSegmentState | queuedHandover | queuedDivertDone | queuedIdentityNotice | queuedChuteState
  | queuedStrayNotice | queuedStatusReply
  | frameSent | frameTaken | arbitrationLost | collision | ownObjected | rxMalformed | unknownKind | superseded
  | droppedFailed | droppedFull | droppedStale | quietEntered | lineFaultEntered | duplicateStation
  deriving DecidableEq, Repr

/-- The event bits, in the order of state page 8 (R181). -/
inductive Ev where
  -- BTU: R37, R4, R58
  | untracked | exitUnexpected | exitOverdue | downstreamSilent | overspeed
  | upstreamSilent | expectFull | noShow | handoverForeign
  -- RDU: R75, R154
  | scanMalformed | unassociated | ambiguousRead | readConflict | deskRefused
  -- IDT: R97
  | idtFull | duplicate
  -- RRV: R110
  | wrongSailing | noCabin | chuteUnavailable | chuteOwner | chuteClaim | viewExpired
  -- DVS: R132, R143
  | missedDivert | swept | chuteEdge | confirmOverrun | lapLimit | fillClamped
  -- HLC: R173
  | collision | rxMalformed | unknownKind | dropped
  -- CFL: R176
  | sectionSkipped
  deriving DecidableEq, Repr

/-- How many counters there are. -/
def numCtrs : Nat := 117

/-- How many event bits there are. -/
def numEvs : Nat := 33

/-- What the Status Unit holds. -/
structure Stu where
  counters : List Tally16
  events : List Bool
  deriving DecidableEq, Repr

/-- The levels of the input wires that are sampled (R11, R13, R33, R133, R134). -/
structure Pins where
  eyeIn : Bool
  eyeOut : Bool
  conf0 : Bool
  conf1 : Bool
  full0 : Bool
  full1 : Bool
  close0 : Bool
  close1 : Bool
  clr0 : Bool
  clr1 : Bool
  jam : Bool
  deriving DecidableEq, Repr

/-- One station, with the commands that wait to be taken, first in first out. -/
structure State where
  pending : List Instr
  pins : Pins
  cfl : Cfl
  btu : Btu
  rdu : Rdu
  idt : Idt
  rrv : Rrv
  dvs : Dvs
  hlc : Hlc
  stu : Stu
  deriving DecidableEq, Repr

/-- No command stops the machine: the spec gives each of them its effect in every state. -/
inductive Fault where
  deriving DecidableEq, Repr

/-- Why a command has no meaning. -/
inductive Refusal where
  /-- Raised by no arm of exec: every command has its meaning. Safe, were it raised: the machine would stop. -/
  | notModelled (mnemonic : String)
  deriving DecidableEq, Repr

/-! ## The state after reset: each block's "Power-on state" line -/

/-- A filter in CLEAR with no count held (R13). -/
def Filter.reset : Filter := ⟨.clear, 0, false⟩

/-- R39, R40. -/
def Upstream.reset : Upstream := ⟨.none, 0, none, false⟩

/-- R30. -/
def Downstream.reset : Downstream := ⟨false, false, none, false⟩

/-- R35. -/
def Flow.reset : Flow := ⟨0, 0, 0, 0, 0, 0, 0⟩

/-- The power-on state of chapters 1, 2 and 3. -/
def Btu.reset : Btu where
  e := 0
  history := List.replicate 8 0
  winCount := 0
  v := 0
  prevV := 0
  speed := .stopped
  steadyCount := 0
  reportedV := 0
  windowMs := none
  fEntry := Filter.reset
  fExit := Filter.reset
  fConf0 := Filter.reset
  fConf1 := Filter.reset
  queue := []
  openRec := none
  gapRef := .none
  skipTrailing := false
  expects := []
  upA := Upstream.reset
  upB := Upstream.reset
  down := Downstream.reset
  blockedFlag := false
  permit := false
  flow := Flow.reset
  jamSample := false

/-- R76. -/
def Rdu.reset : Rdu := ⟨.idle, none⟩

/-- R77, R82. -/
def Idt.reset : Idt := ⟨List.replicate 128 none, 127, none⟩

/-- R104. -/
def ViewEntry.reset : ViewEntry := ⟨.unknown, 0, 0, 0, 3⟩

/-- R104. -/
def Rrv.reset : Rrv := ⟨List.replicate 31 ViewEntry.reset⟩

/-- R134: no count held, CLRn settled low until it is sampled. -/
def Bay.reset : Bay := ⟨0, 0, 0, false⟩

/-- R112, R131, R133. -/
def Diverter.reset : Diverter := ⟨[], .idle, none, [], none, Bay.reset⟩

/-- R112, R131. -/
def Dvs.reset : Dvs := ⟨Diverter.reset, Diverter.reset⟩

/-- R165, R166, R172. -/
def Hlc.reset : Hlc := ⟨.offline, [], 0, none, false, none, .none⟩

/-- R174, while RESET_N is low. -/
def Cfl.reset : Cfl := ⟨.loading, false, false, 0, 0⟩

/-- R179 and the report tables. -/
def Stu.reset : Stu := ⟨List.replicate numCtrs 0, List.replicate numEvs false⟩

/-- DESIGN CHOICE (log 24), unsafe: the spec gives the input wires no level; every input is low. -/
def Pins.reset : Pins := ⟨false, false, false, false, false, false, false, false, false, false, false⟩

/-- The station while it is held in reset (R174), with no command waiting. -/
def State.reset : State where
  pending := []
  pins := Pins.reset
  cfl := Cfl.reset
  btu := Btu.reset
  rdu := Rdu.reset
  idt := Idt.reset
  rrv := Rrv.reset
  dvs := Dvs.reset
  hlc := Hlc.reset
  stu := Stu.reset

end Sys2Proof.Machine
end

