-- ==== Sys2Proof/Machine/Flags.lean ====
section
/-! DEFINITION. Counters, event bits, level conditions, block summaries and the outputs that follow from them (R179, R178). -/

namespace Sys2Proof.Machine

open Sys2Proof

/-- One more, saturating at 65535 (R37). -/
def satInc (c : Tally16) : Tally16 := if c = 65535 then c else c + 1

/-- A counter rises by 1. -/
def State.bump (c : Ctr) (s : State) : State :=
  { s with stu := { s.stu with counters := s.stu.counters.modify c.ctorIdx satInc } }

/-- The value of a counter. -/
def State.ctr (s : State) (c : Ctr) : Tally16 := s.stu.counters.getD c.ctorIdx 0

/-- An event bit is set. -/
def State.raiseEv (e : Ev) (s : State) : State :=
  { s with stu := { s.stu with events := s.stu.events.set e.ctorIdx true } }

/-- An event bit. -/
def State.ev (s : State) (e : Ev) : Bool := s.stu.events.getD e.ctorIdx false

/-- The configuration, present exactly while it is VALID (R178). -/
def State.cfg (s : State) : Option StationConfig :=
  match s.cfl.load with
  | .valid c => some c
  | .loading => none
  | .invalid _ => none

/-- The blocks that report, in the order of R179. -/
inductive Block where
  | btu
  | rdu
  | idt
  | rrv
  | dvs
  | hlc
  | cfl
  deriving DecidableEq, Repr

/-- All blocks, in the order of every mask and summary list (R179). -/
def Block.all : List Block := [.btu, .rdu, .idt, .rrv, .dvs, .hlc, .cfl]

/-- The first event bit of a block, and how many it has, in the order of state page 8. -/
def Block.events : Block → Nat × Nat
  | .btu => (0, 9)
  | .rdu => (9, 5)
  | .idt => (14, 2)
  | .rrv => (16, 6)
  | .dvs => (22, 6)
  | .hlc => (28, 4)
  | .cfl => (32, 1)

/-- An account's state (R133), when the diverter has one. -/
def Diverter.inState (d : Diverter) (c : ChuteState) : Bool := d.account.any (·.state == c)

/-- CHUTE_FULL and CHUTE_CLOSED of each diverter's chute (R143). -/
def State.chuteLevels (s : State) : List Bool :=
  [s.dvs.d0.inState .full, s.dvs.d0.inState .closed, s.dvs.d1.inState .full, s.dvs.d1.inState .closed]

/-- The load state is INVALID (R178). -/
def LoadState.isInvalid : LoadState → Bool
  | .invalid _ => true
  | .valid _ => false
  | .loading => false

/-- QUIET, LINE_FAULT and DUPLICATE_STATION (R173). -/
def State.lineLevels (s : State) : List Bool :=
  [s.hlc.line == .quiet, s.hlc.line == .lineFault, s.hlc.dup]

/-- The level conditions of a block (R179). -/
def State.blockLevels (s : State) : Block → List Bool
  | .btu => []
  | .rdu => []
  | .idt => []
  | .rrv => []
  | .dvs => s.chuteLevels
  | .hlc => s.lineLevels
  | .cfl => [s.cfl.load.isInvalid]

/-- A block's summary is raised while any of its event bits is set or any of its level conditions holds (R179). -/
def State.summary (s : State) (b : Block) : Bool :=
  ((s.stu.events.drop b.events.1).take b.events.2).any id || (s.blockLevels b).any id

/-- Bit 7 − i of a mask, for the block numbered i (R180, R176). -/
def maskBit (mask : Byte) (i : Nat) : Bool := mask.getLsbD (7 - i)

/-- The event bits of every block that the mask selects are cleared (R180). -/
def State.clearEvents (mask : Byte) (s : State) : State :=
  { s with stu := { s.stu with
      events := s.stu.events.mapIdx fun i b =>
        b && !(Block.all.zipIdx.any fun p => maskBit mask p.2 && decide (p.1.events.1 ≤ i ∧ i < p.1.events.1 + p.1.events.2)) } }

/-- The reason codes of R178. -/
def BadReason.code : BadReason → Nat
  | .noMemory => 1
  | .badSignature => 2
  | .badCheck => 3
  | .badValue => 4

/-- The length in ms of a phase of the blink pattern: on and off in turn as many times as the code, then a long off (R178). -/
def blinkPeriod (r : BadReason) (phase : Nat) : Nat := if phase = 2 * r.code then 1000 else 250

/-- ALERT is on in the even phases before the long off (R178). -/
def blinkOn (r : BadReason) (phase : Nat) : Bool := phase < 2 * r.code && phase % 2 == 0

/-- The ALERT output: any summary selected by the mask once VALID (R179), the blink pattern while INVALID (R178), off while LOADING (R174). -/
def State.alert (s : State) : Bool :=
  match s.cfl.load with
  | .loading => false
  | .invalid r => blinkOn r s.cfl.blinkPhase
  | .valid c => Block.all.zipIdx.any fun p => maskBit c.alertMask p.2 && s.summary p.1

/-- The diverter named. -/
def Dvs.get (v : Dvs) : Div → Diverter
  | .d0 => v.d0
  | .d1 => v.d1

/-- The diverter named takes a new value. -/
def Dvs.put (v : Dvs) (d : Div) (x : Diverter) : Dvs :=
  match d with
  | .d0 => { v with d0 := x }
  | .d1 => { v with d1 := x }

/-- The other diverter. -/
def otherDiv : Div → Div
  | .d0 => .d1
  | .d1 => .d0

/-- The output DIVn is on exactly while its engagement is ENGAGED (R119). -/
def State.divOut (s : State) (d : Div) : Bool := (s.dvs.get d).eng == .engaged

end Sys2Proof.Machine
end

