-- ==== Sys2Proof/Machine/Operands.lean ====
section
/-! DEFINITION. The payloads of the frames: the catalogue of 10.5 and the HANDOVER layout of 10.6, as encoders from the
fields a station sends and as readers that answer none for a payload that is ill-formed for its kind
(R41, R91, R93, R105, R150, R170, R180). -/

namespace Sys2Proof.Machine

open Sys2Proof

/-! ## Codes -/

/-- The codes of R144. -/
def Reason.code : Reason → Nat
  | .noRead => 1
  | .badCheck => 2
  | .ambiguous => 3
  | .blind => 4
  | .chuteUnavailable => 5
  | .noCabin => 8
  | .wrongSailing => 9
  | .duplicateTag => 10
  | .tagConflict => 11
  | .oversize => 12
  | .lapLimit => 13
  | .lost => 14
  | .swept => 15

/-- The reason a code names (R144). -/
def Reason.ofCode : Nat → Option Reason
  | 1 => some .noRead
  | 2 => some .badCheck
  | 3 => some .ambiguous
  | 4 => some .blind
  | 5 => some .chuteUnavailable
  | 8 => some .noCabin
  | 9 => some .wrongSailing
  | 10 => some .duplicateTag
  | 11 => some .tagConflict
  | 12 => some .oversize
  | 13 => some .lapLimit
  | 14 => some .lost
  | 15 => some .swept
  | _ => none

/-- The classes of R144. -/
inductive ReasonClass where
  | soft
  | hard
  | report
  deriving DecidableEq, Repr

/-- The class of a reason (R144). -/
def Reason.cls : Reason → ReasonClass
  | .noRead => .soft
  | .badCheck => .soft
  | .ambiguous => .soft
  | .blind => .soft
  | .chuteUnavailable => .soft
  | .noCabin => .hard
  | .wrongSailing => .hard
  | .duplicateTag => .hard
  | .tagConflict => .hard
  | .oversize => .hard
  | .lapLimit => .hard
  | .lost => .report
  | .swept => .report

/-- A soft reason, which a later good read clears (R144). -/
def Reason.soft (r : Reason) : Bool := r.cls == .soft

/-- A hard reason (R144). -/
def Reason.hard (r : Reason) : Bool := r.cls == .hard

/-- The origin codes of 10.5 and 10.6. -/
def Origin.code : Origin → Nat
  | .announced => 1
  | .blind => 2
  | .inducted => 3

/-- The origin a code names. -/
def Origin.ofCode : Nat → Option Origin
  | 1 => some .announced
  | 2 => some .blind
  | 3 => some .inducted
  | _ => none

/-- The speed state codes of 10.5. -/
def SpeedState.code : SpeedState → Nat
  | .stopped => 1
  | .moving => 2
  | .steady => 3

/-- The speed state a code names. -/
def SpeedState.ofCode : Nat → Option SpeedState
  | 1 => some .stopped
  | 2 => some .moving
  | 3 => some .steady
  | _ => none

/-- The reported state of a source, as R181 codes it. -/
def Reported.code : Reported → Nat
  | .none => 0
  | .stopped => 1
  | .moving => 2
  | .steady => 3

/-- The chute state codes of 10.5 and R181. -/
def ChuteState.code : ChuteState → Nat
  | .isOpen => 1
  | .nearFull => 2
  | .full => 3
  | .closed => 4
  | .unknown => 5

/-- The chute state a CHUTE_STATE frame's code names: an owner does not send UNKNOWN (R105). -/
def ChuteState.ofCode : Nat → Option ChuteState
  | 1 => some .isOpen
  | 2 => some .nearFull
  | 3 => some .full
  | 4 => some .closed
  | _ => none

/-- The line state codes of R181. -/
def LineState.code : LineState → Nat
  | .offline => 0
  | .active => 1
  | .quiet => 2
  | .lineFault => 3
  | .listenOnly => 4

/-- The engagement codes of R181. -/
def EngState.code : EngState → Nat
  | .idle => 0
  | .engaged => 1
  | .recovering => 2

/-- 0 for an absent number, as frames encode "none". -/
def orZero (n : Option Nat) : Nat := n.getD 0

/-! ## Encoders -/

/-- The nine bytes of an identity: bytes 9 to 17 of the HANDOVER payload (10.6). -/
def Identity.bytes (i : Identity) : List Byte := natBytes 5 i.tag ++ natBytes 4 (i.sailing * 2 ^ 18 + i.cabin)

/-- An identity when present. -/
def identBytes : Option Identity → List Byte
  | none => []
  | some i => i.bytes

/-- The kind codes of 10.5. -/
def Frame.kind : Frame → Nat
  | .segmentState _ _ _ => 0
  | .handover _ _ => 1
  | .divertDone _ => 2
  | .identityNotice _ _ => 3
  | .chuteState _ => 4
  | .strayNotice _ => 5
  | .statusReply _ => 7

/-- The payload of a HANDOVER (10.6). -/
def Handover.payload (h : Handover) : List Byte :=
  natBytes 1 (h.ident.isSome.toNat * 128 + h.lateId.toNat * 64 + h.toStation)
    ++ natBytes 1 (((h.reason.map Reason.code).getD 0) * 16 + h.passes)
    ++ natBytes 1 (h.origin.code * 64 + h.dest)
    ++ natBytes 2 h.v ++ natBytes 2 h.dExit ++ natBytes 2 h.len
    ++ identBytes h.ident

/-- The payload of a DIVERT_DONE (10.5). -/
def DivertDone.payload (d : DivertDone) : List Byte :=
  natBytes 1 d.chute ++ natBytes 1 (d.ident.isSome.toNat * 128 + d.swept.toNat * 64) ++ natBytes 2 d.len ++ identBytes d.ident

/-- The payload of a STRAY_NOTICE (10.5). -/
def StrayNotice.payload (n : StrayNotice) : List Byte :=
  natBytes 1 n.reason.code ++ natBytes 1 (n.ident.isSome.toNat * 128) ++ natBytes 1 n.passes ++ natBytes 1 n.chute
    ++ natBytes 1 n.origin.code ++ identBytes n.ident

/-- The payload of a CHUTE_STATE (10.5). -/
def ChuteReport.payload (c : ChuteReport) : List Byte :=
  natBytes 1 c.chute ++ natBytes 1 c.state.code ++ natBytes 2 c.fill ++ natBytes 2 c.capacity

/-- The payload of a frame (10.5). -/
def Frame.payload : Frame → List Byte
  | .segmentState v speed blocked => natBytes 2 v ++ natBytes 1 speed.code ++ natBytes 1 blocked.toNat
  | .handover h _ => h.payload
  | .divertDone d => d.payload
  | .identityNotice i dest => i.bytes ++ natBytes 1 dest
  | .chuteState c => c.payload
  | .strayNotice n => n.payload
  | .statusReply bytes => bytes

/-! ## Readers -/

/-- A tag, a sailing and a cabin that a frame may carry (R41). -/
def Identity.inRange (i : Identity) : Bool := i.tag ≤ maxTag && i.sailing ≤ maxSailing && i.cabin ≤ maxCabin

/-- The identity in nine bytes. -/
def readIdentity (bytes : List Byte) : Identity where
  tag := bytesNat (bytes.take 5)
  sailing := field (bytesNat ((bytes.drop 5).take 4)) 31 18
  cabin := field (bytesNat ((bytes.drop 5).take 4)) 17 0

/-- What follows the first n bytes of a payload with an identity present flag: nothing, or an identity in range.
The outer none is a length that disagrees with the flag, or an identity out of range (R41, R91, R150). -/
def readOptIdentity (present : Bool) (rest : List Byte) : Option (Option Identity) :=
  if present then
    if rest.length = 9 then
      if (readIdentity rest).inRange then some (some (readIdentity rest)) else none
    else none
  else if rest.length = 0 then some none else none

/-- A bit of a byte, as a flag. -/
def flagBit (b : Byte) (i : Nat) : Bool := b.getLsbD i

/-- A stray reason that a HANDOVER may carry: 0, or one of the codes 1 to 5 and 8 to 13 (R41). -/
def readCarriedReason (code : Nat) : Option (Option Reason) :=
  if code = 0 then some none
  else match Reason.ofCode code with
    | none => none
    | some r => if r.cls = .report then none else some (some r)

/-- The checks of R41 on the fields that a HANDOVER's bytes give. -/
def Handover.wellFormed (h : Handover) : Bool :=
  h.toStation != 0 && h.toStation < 63 && h.dExit ≤ 2047 && h.len ≤ 2047 && h.v ≤ 1023 && h.dest ≤ 31 && h.passes ≤ 7
    && (h.dest != 0) == (h.ident.isSome || h.reason.isSome)

/-- A HANDOVER's payload (R41, 10.6). -/
def readHandover : List Byte → Option Handover
  | b0 :: b1 :: b2 :: v1 :: v0 :: x1 :: x0 :: l1 :: l0 :: rest => do
    let ident ← readOptIdentity (flagBit b0 7) rest
    let reason ← readCarriedReason (field b1.toNat 7 4)
    let origin ← Origin.ofCode (field b2.toNat 7 6)
    let h : Handover :=
      { toStation := field b0.toNat 5 0, v := bytesNat [v1, v0], dExit := bytesNat [x1, x0], len := bytesNat [l1, l0]
        ident := ident, origin := origin, dest := field b2.toNat 5 0, reason := reason
        passes := field b1.toNat 3 0, lateId := flagBit b0 6 }
    if h.wellFormed then some h else none
  | _ => none

/-- A DIVERT_DONE's payload (R91). -/
def readDivertDone : List Byte → Option DivertDone
  | c :: flags :: l1 :: l0 :: rest => do
    let ident ← readOptIdentity (flagBit flags 7) rest
    if c.toNat != 0 && c.toNat ≤ 31 && bytesNat [l1, l0] ≤ 2047 then
      some { chute := c.toNat, len := bytesNat [l1, l0], ident := ident, swept := flagBit flags 6 }
    else none
  | _ => none

/-- An IDENTITY_NOTICE's payload: the identity and the destination (R93). -/
def readIdentityNotice (p : List Byte) : Option (Identity × Nat) :=
  if p.length = 10 then
    let i := readIdentity (p.take 9)
    let d := bytesNat (p.drop 9)
    if i.inRange && d != 0 && d ≤ 31 then some (i, d) else none
  else none

/-- A CHUTE_STATE's payload (R105). -/
def readChuteState : List Byte → Option ChuteReport
  | [c, st, f1, f0, k1, k0] => do
    let state ← ChuteState.ofCode st.toNat
    let fill := bytesNat [f1, f0]
    let cap := bytesNat [k1, k0]
    if c.toNat != 0 && c.toNat ≤ 31 && fill ≤ maxFill && cap != 0 && cap ≤ 4095 then
      some { chute := c.toNat, state := state, fill := fill, capacity := cap }
    else none
  | _ => none

/-- A STRAY_NOTICE's payload (R150). -/
def readStrayNotice : List Byte → Option StrayNotice
  | r :: flags :: passes :: chute :: origin :: rest => do
    let ident ← readOptIdentity (flagBit flags 7) rest
    let reason ← Reason.ofCode r.toNat
    let org ← Origin.ofCode origin.toNat
    if passes.toNat ≤ 7 && chute.toNat ≤ 31 && !(chute.toNat == 0 && reason == .swept) then
      some { reason := reason, ident := ident, passes := passes.toNat, chute := chute.toNat, origin := org }
    else none
  | _ => none

/-- A SEGMENT_STATE's payload: V, the speed state and the blocked flag (R170). -/
def readSegmentState : List Byte → Option (Nat × SpeedState × Bool)
  | [v1, v0, sp, bl] => do
    let speed ← SpeedState.ofCode sp.toNat
    if bytesNat [v1, v0] ≤ 1023 && bl.toNat ≤ 1 then some (bytesNat [v1, v0], speed, bl.toNat == 1) else none
  | _ => none

/-- The fields of a STATUS_QUERY (R180). -/
structure Query where
  target : Nat
  group : Nat
  page : Nat
  zero : Bool
  clear : Bool
  mask : Byte
  tag : Byte
  deriving DecidableEq, Repr

/-- A STATUS_QUERY's payload (R180). -/
def readStatusQuery : List Byte → Option Query
  | [t, g, m, tag] =>
    if t.toNat != 0 && t.toNat ≤ 63 then
      some { target := t.toNat, group := field g.toNat 7 6, page := field g.toNat 5 2, zero := flagBit g 1
             clear := flagBit g 0, mask := m, tag := tag }
    else none
  | _ => none

/-- A STATUS_REPLY is 4 to 20 bytes long (R181). -/
def statusReplyFormed (p : List Byte) : Bool := decide (4 ≤ p.length ∧ p.length ≤ 20)

end Sys2Proof.Machine
end

