-- ==== Sys2Proof/Machine/Outbound.lean ====
section
/-! DEFINITION. The outbound queue of the Hall Line Controller (10.4): how a frame joins, what it replaces, what a full queue drops. -/

namespace Sys2Proof.Machine

open Sys2Proof

/-- The kind code of a queued frame. -/
def OutFrame.kind (f : OutFrame) : Nat := f.frame.kind

/-- Two frames of one class, of which a newer replaces a waiting older (R167). -/
def Frame.sameClass : Frame → Frame → Bool
  | .segmentState _ _ _, .segmentState _ _ _ => true
  | .chuteState c, .chuteState d => c.chute == d.chute
  | .statusReply _, .statusReply _ => true
  | _, _ => false

/-- A waiting frame of the class of f (R166, R167). -/
def OutFrame.absorbs (f : Frame) (o : OutFrame) : Bool := !o.sending && f.sameClass o.frame

/-- A frame as it is queued: waiting, with retry count 0 (R166, R167). -/
def OutFrame.fresh (f : Frame) : OutFrame := ⟨f, false, false, false⟩

/-- The frame in transmission is marked when a frame of its class joins (R167). -/
def OutFrame.overtakenBy (f : Frame) (o : OutFrame) : OutFrame :=
  if o.sending && f.sameClass o.frame then { o with overtaken := true } else o

/-- The counter frames-queued of a kind (R173). -/
def queuedCtr : Frame → Ctr
  | .segmentState _ _ _ => .queuedSegmentState
  | .handover _ _ => .queuedHandover
  | .divertDone _ => .queuedDivertDone
  | .identityNotice _ _ => .queuedIdentityNotice
  | .chuteState _ => .queuedChuteState
  | .strayNotice _ => .queuedStrayNotice
  | .statusReply _ => .queuedStatusReply

/-- A frame joins at its place: behind the frame in transmission and behind the frames of its kind and of lower kinds (R166). -/
def insertFrame (f : OutFrame) : List OutFrame → List OutFrame
  | [] => [f]
  | x :: xs => if x.sending || x.kind ≤ f.kind then x :: insertFrame f xs else f :: x :: xs

/-- A frame that waits again after its attempt takes the place of the oldest of its kind (R166). -/
def reinsertFrame (f : OutFrame) : List OutFrame → List OutFrame
  | [] => [f]
  | x :: xs => if x.kind < f.kind then x :: reinsertFrame f xs else f :: x :: xs

/-- The new frame takes the place of the waiting frame of its class, with retry count 0 (R167). -/
def replaceFrame (f : Frame) : List OutFrame → List OutFrame
  | [] => []
  | x :: xs => if x.absorbs f then .fresh f :: xs else x :: replaceFrame f xs

/-- The highest kind code among the waiting frames, 0 when none waits (R168). -/
def highestWaiting (q : List OutFrame) : Nat := q.foldl (fun m o => if o.sending then m else max m o.kind) 0

/-- The youngest waiting frame of a kind leaves (R168): the last of them in the order, in which a replacement stands at the place
of the frame it replaced (R167; log 47, DESIGN CHOICE). -/
def dropYoungest (k : Nat) (q : List OutFrame) : List OutFrame :=
  (q.reverse.eraseP fun o => !o.sending && o.kind == k).reverse

/-- The outbound queue takes a new value. -/
def State.setOutbound (q : List OutFrame) (s : State) : State := { s with hlc := { s.hlc with queue := q } }

/-- A frame joins the waiting frames in the queue that is left for it, and the frame in transmission is told (R166, R167). -/
def State.joinFrame (f : Frame) (q : List OutFrame) (s : State) : State :=
  (s.setOutbound (q.map (·.overtakenBy f))).bump (queuedCtr f)

/-- A frame is queued: it replaces a waiting frame of its class (R167), drops a frame of higher kind or itself
from a full queue (R168), or joins at its place (R166). -/
def State.queueFrame (f : Frame) (s : State) : State :=
  let q := s.hlc.queue
  if q.any (·.absorbs f) then (s.bump .superseded).joinFrame f (replaceFrame f q)
  else if q.length < maxFrames then s.joinFrame f (insertFrame (.fresh f) q)
  else if f.kind < highestWaiting q then
    ((s.bump .droppedFull).raiseEv .dropped).joinFrame f (insertFrame (.fresh f) (dropYoungest (highestWaiting q) q))
  else (s.bump .droppedFull).raiseEv .dropped

/-- A SEGMENT_STATE is queued with V, the speed state and the blocked flag as they stand, and the reported V follows (R8). -/
def State.queueSegmentState (s : State) : State :=
  let t := s.queueFrame (.segmentState s.btu.v s.btu.speed s.btu.blockedFlag)
  { t with btu := { t.btu with reportedV := s.btu.v } }

end Sys2Proof.Machine
end

