-- ==== Sys2Proof/Machine/Ops.lean ====
section
/-! DEFINITION. The operations that the commands share: addressing, changing and removing a segment record (R17, R28),
withdrawing and cancelling grants (R117, R118), offering a stray reason (R146), the blocked flag and the run permit
(R29, R31), the overdue test (R27), and the segment clear (R34). `c` is always the loaded configuration. -/

namespace Sys2Proof.Machine

open Sys2Proof

/-! ## Named updates -/

/-- The BTU takes a new value. -/
def State.setBtu (b : Btu) (s : State) : State := { s with btu := b }

/-- The segment queue takes a new value. -/
def State.setQueue (q : List SegRec) (s : State) : State := s.setBtu { s.btu with queue := q }

/-- A diverter takes a new value. -/
def State.setDiv (d : Div) (x : Diverter) (s : State) : State := { s with dvs := s.dvs.put d x }

/-- The entries of the identity table take a new value. -/
def State.setEntries (es : List (Option IdtEntry)) (s : State) : State := { s with idt := { s.idt with entries := es } }

/-- The chute view takes a new value. -/
def State.setView (v : List ViewEntry) (s : State) : State := { s with rrv := { s.rrv with view := v } }

/-- The filter of an eye. -/
def Btu.filter (b : Btu) : Eye → Filter
  | .entry => b.fEntry
  | .exit => b.fExit
  | .confirm .d0 => b.fConf0
  | .confirm .d1 => b.fConf1

/-- The filter of an eye takes a new value. -/
def Btu.setFilter (b : Btu) (eye : Eye) (f : Filter) : Btu :=
  match eye with
  | .entry => { b with fEntry := f }
  | .exit => { b with fExit := f }
  | .confirm .d0 => { b with fConf0 := f }
  | .confirm .d1 => { b with fConf1 := f }

/-- The upstream state of a source. -/
def Btu.upstream (b : Btu) : Source → Upstream
  | .a => b.upA
  | .b => b.upB

/-- The upstream state of a source takes a new value. -/
def Btu.setUpstream (b : Btu) (src : Source) (u : Upstream) : Btu :=
  match src with
  | .a => { b with upA := u }
  | .b => { b with upB := u }

/-! ## Addressing a record (R15, R17) -/

/-- The record at a slot with an entry count, when it is in the queue. -/
def State.findRec (s : State) (ref : RecRef) : Option SegRec := s.btu.queue.find? fun r => r.ref == ref

/-- The record addressed is changed; the others stay. -/
def State.mapRec (ref : RecRef) (f : SegRec → SegRec) (s : State) : State :=
  s.setQueue (s.btu.queue.map fun r => if r.ref = ref then f r else r)

/-- A change addressed to a record by slot and entry count: applied when the record is there, otherwise a late update (R17). -/
def State.updateRec (ref : RecRef) (f : SegRec → SegRec) (s : State) : State :=
  if (s.findRec ref).isSome then s.mapRec ref f else s.bump .lateUpdate

/-- The position of a record, the forward distance from its entry count to E (R2). -/
def State.position (s : State) (r : SegRec) : Nat := fwd r.ein s.btu.e

/-! ## Points (R18) -/

/-- Where a point stands, for the points that the station's configuration gives (R18). -/
def pointPosition (c : StationConfig) : Point → Option Nat
  | .lateGraceEnd => some (c.lateGrace + 1)
  | .readDecision => if c.reader then c.readerSection.map (·.pDec) else none
  | .commit d => (c.diverter d).map fun v => v.pDiv - v.commit
  | .longBag => some longBag
  | .overdue => some (c.pExit + c.band + 1)

/-- All points. -/
def Point.all : List Point := [.lateGraceEnd, .readDecision, .commit .d0, .commit .d1, .longBag, .overdue]

/-- The points still ahead of a record that joins at a position; one already passed is not delivered to it (R18, log 5). -/
def pointsAhead (c : StationConfig) (pos : Nat) : List Point := Point.all.filter fun p => (pointPosition c p).any (pos < ·)

/-- The record whose event for a point is to be taken now: it is in the queue, has reached the point and has not been handed
the event before (R18, log 1, log 5). -/
def State.recAt (c : StationConfig) (p : Point) (ref : RecRef) (s : State) : Option SegRec :=
  match s.findRec ref with
  | none => none
  | some r => if r.awaiting.contains p && (pointPosition c p).any (· ≤ s.position r) then some r else none

/-- The record's event for a point has been taken. -/
def State.takePoint (p : Point) (ref : RecRef) (s : State) : State :=
  s.mapRec ref fun r => { r with awaiting := r.awaiting.erase p }

/-! ## Grants (R117, R118) -/

/-- The grants of a diverter that a cause reaches leave the list, each record becoming WITHDRAWN and each counted under the cause (R117). -/
def State.withdraw (d : Div) (cause : Ctr) (p : Grant → Bool) (s : State) : State :=
  ((s.dvs.get d).grants.filter p).foldl
    (fun t g => (t.updateRec g.ref fun r => { r with divert := .withdrawn }).bump cause)
    (s.setDiv d { s.dvs.get d with grants := (s.dvs.get d).grants.filter fun g => !p g })

/-- Every grant of both diverters that a cause reaches. -/
def State.withdrawBoth (cause : Ctr) (p : Grant → Bool) (s : State) : State := (s.withdraw .d0 cause p).withdraw .d1 cause p

/-- The DVS is told of a record's destination: a grant the record holds at a diverter of another chute is withdrawn (R117). -/
def State.tellDestination (c : StationConfig) (ref : RecRef) (dest : Option Nat) (s : State) : State :=
  let at_ := fun (d : Div) (t : State) =>
    if (c.diverter d).any (fun v => some v.chute != dest) then t.withdraw d .withdrawnDestination (·.ref == ref) else t
  at_ .d1 (at_ .d0 s)

/-- What the removal of a record takes from one diverter: its grants and confirm entries, and the references that the
engagement holds, but for the fired record at its own confirm (R118, log 26). -/
def Diverter.forget (x : Diverter) (ref : RecRef) (ownConfirm : Bool) : Diverter :=
  { x with
    grants := x.grants.filter (·.ref != ref)
    confirms := x.confirms.filter (·.ref != ref)
    last := x.last.map fun l =>
      { l with
        fired := if l.fired = some ref ∧ ownConfirm = false then none else l.fired
        closeBehind := if l.closeBehind = some ref then none else l.closeBehind } }

/-- A counter rises n times. -/
def State.bumpN (c : Ctr) : Nat → State → State
  | 0, s => s
  | n + 1, s => (State.bumpN c n s).bump c

/-- The DVS is told that a record has left; each grant it held counts grant-cancelled (R118). -/
def State.forgetRec (d : Div) (ref : RecRef) (ownConfirm : Bool) (s : State) : State :=
  (s.setDiv d ((s.dvs.get d).forget ref ownConfirm)).bumpN .grantCancelled ((s.dvs.get d).grants.filter (·.ref == ref)).length

/-! ## The run permit and the blocked flag (R29, R31) -/

/-- The run permit is off for a downstream reason: the neighbour has been heard, and has reported blocked or fallen silent (R29). -/
def State.downstreamStops (c : StationConfig) (s : State) : Bool :=
  c.down != 0 && s.btu.down.heard && (s.btu.down.lastBlocked || s.btu.down.silent)

/-- The blocked flag that the causes of R29 give. -/
def State.blockedNow (c : StationConfig) (s : State) : Bool :=
  if s.btu.queue.length ≥ 14 || s.downstreamStops c then true
  else if s.btu.queue.length ≤ 12 then false else s.btu.blockedFlag

/-- The blocked flag is evaluated; a change queues a SEGMENT_STATE (R29). -/
def State.evalBlocked (c : StationConfig) (s : State) : State :=
  if s.blockedNow c = s.btu.blockedFlag then s
  else (s.setBtu { s.btu with blockedFlag := s.blockedNow c }).queueSegmentState

/-- The run permit of a configured station (R31). -/
def State.permitNow (c : StationConfig) (s : State) : Bool :=
  c.down == 0 || (s.btu.down.heard && !s.btu.down.lastBlocked && !s.btu.down.silent)

/-- The run permit is evaluated, and with it the blocked flag (R31, R29, log 15). -/
def State.evalPermit (c : StationConfig) (s : State) : State :=
  (s.setBtu { s.btu with permit := s.permitNow c }).evalBlocked c

/-! ## Stray reasons (R145, R146, R149) -/

/-- Whether an offered reason takes, by the reason the record holds (R146). -/
def offerTakes (held : Option Reason) (offered : Reason) : Bool :=
  match held with
  | none => true
  | some h => h.soft && offered.hard

/-- A reason is offered to a record (R146): set or replacing, it makes the destination the problem chute (R145), and a
STRAY_NOTICE with the destination held before is queued (R149). An offer after a clearing is set, a MANUAL hit's clearing included
(R148 leaves it open: log 50). -/
def State.offer (c : StationConfig) (ref : RecRef) (reason : Reason) (s : State) : State :=
  match s.findRec ref with
  | none => s.bump .lateUpdate
  | some r =>
    if offerTakes r.reason reason then
      ((((s.mapRec ref fun q => { q with reason := some reason, dest := some c.problem }).bump
          (if r.reason.isNone then .straySet else .strayReplaced)).tellDestination c ref (some c.problem)).queueFrame
        (.strayNotice { reason := reason, ident := r.ident, passes := r.passes, chute := orZero r.dest, origin := r.origin }))
    else s.bump .strayKept

/-! ## Leaving the queue (R28) -/

/-- Why a record leaves (R28). -/
inductive Cause where
  | exitMatch
  | exitOverdue
  | confirmed (d : Div)
  | swept
  | cleared
  deriving DecidableEq, Repr

/-- The flow counter that a cause raises (R28, R35). -/
def Flow.count (f : Flow) : Cause → Flow
  | .exitMatch => { f with exited := f.exited + 1 }
  | .exitOverdue => { f with exited := f.exited + 1 }
  | .confirmed .d0 => { f with diverted0 := f.diverted0 + 1 }
  | .confirmed .d1 => { f with diverted1 := f.diverted1 + 1 }
  | .swept => { f with swept := f.swept + 1 }
  | .cleared => { f with cleared := f.cleared + 1 }

/-- The state that the record's identity entry goes to (R28, R90). -/
def Cause.entryState : Cause → EntryState
  | .exitMatch => .onLoop
  | .exitOverdue => .onLoop
  | .confirmed _ => .diverted
  | .swept => .onLoop
  | .cleared => .onLoop

/-- An entry goes to a state with age 0, its data and source kept (R90). -/
def moveEntry (st : EntryState) (e : Option IdtEntry) : Option IdtEntry := e.map fun x => { x with state := st, age := 0 }

/-- The identity entry that a leaving record held leaves ON_SEGMENT (R90). -/
def releaseEntry (cause : Cause) (idx : Option Nat) (es : List (Option IdtEntry)) : List (Option IdtEntry) :=
  match idx with
  | none => es
  | some i => es.modify i (moveEntry cause.entryState)

/-- The open record, none when it is the record that leaves (R28). -/
def closeOpen (ref : RecRef) (o : Option OpenRec) : Option OpenRec := o.filter (·.ref != ref)

/-- A record leaves the queue by a cause, and the rest of the station is told (R28). -/
def State.remove (c : StationConfig) (ref : RecRef) (cause : Cause) (s : State) : State :=
  match s.findRec ref with
  | none => s
  | some r =>
    ((((s.setBtu { s.btu with
          queue := s.btu.queue.eraseP (·.ref == ref)
          flow := s.btu.flow.count cause
          openRec := closeOpen ref s.btu.openRec }).setEntries
        (releaseEntry cause r.entry s.idt.entries)).forgetRec .d0 ref (cause == .confirmed .d0)).forgetRec .d1 ref
        (cause == .confirmed .d1)).evalBlocked c

/-! ## The overdue test (R27) -/

/-- A count puts a record inside the exit band (R25). -/
def inBand (c : StationConfig) (r : SegRec) (at_ : Count) : Bool :=
  atOrAfter at_ r.ein && decide (c.pExit - c.band ≤ fwd r.ein at_ ∧ fwd r.ein at_ ≤ c.pExit + c.band)

/-- An exit edge that belongs to the record is pending acceptance (R27). -/
def State.exitPending (c : StationConfig) (r : SegRec) (s : State) : Bool :=
  s.btu.fExit.st == .blocking && inBand c r s.btu.fExit.raw

/-- The oldest record, when its overdue point has been taken and no exit edge of its own is pending (R27). -/
def State.overdueNow (c : StationConfig) (s : State) : Option SegRec :=
  match s.btu.queue with
  | [] => none
  | r :: _ =>
    if !r.awaiting.contains .overdue && decide (c.pExit + c.band + 1 ≤ s.position r) && !s.exitPending c r then some r else none

/-- A record is removed as exit overdue, and a LOST notice is queued (R27). -/
def State.removeOverdue (c : StationConfig) (r : SegRec) (s : State) : State :=
  (((s.remove c r.ref .exitOverdue).bump .exitOverdue).raiseEv .exitOverdue).queueFrame
    (.strayNotice { reason := .lost, ident := r.ident, passes := r.passes, chute := 0, origin := r.origin })

/-- The overdue test takes records in queue order, until the oldest is not overdue (R27, log 8). -/
def State.settleOverdue (c : StationConfig) : Nat → State → State
  | 0, s => s
  | n + 1, s =>
    match s.overdueNow c with
    | none => s
    | some r => State.settleOverdue c n (s.removeOverdue c r)

/-- The overdue test after an event that may have made it due: the queue holds at most 16 records (R15). -/
def State.settle (c : StationConfig) (s : State) : State := s.settleOverdue c maxRecords

/-! ## Segment clear (R34, R59) -/

/-- What a segment clear leaves of a diverter: no grant, no confirm entry, no record references (R131). -/
def Diverter.cleared (x : Diverter) : Diverter :=
  { x with grants := [], confirms := [], last := x.last.map fun l => { l with fired := none, closeBehind := none } }

/-- The segment clear: one event (R34). -/
def State.segmentClear (c : StationConfig) (s : State) : State :=
  let refs := s.btu.queue
  ((((({ s with dvs := ⟨s.dvs.d0.cleared, s.dvs.d1.cleared⟩ }).bumpN .grantCancelled
        (s.dvs.d0.grants.length + s.dvs.d1.grants.length)).setEntries
      (refs.foldl (fun es (r : SegRec) => releaseEntry .cleared r.entry es) s.idt.entries))).setBtu
    { s.btu with
      queue := []
      expects := []
      openRec := none
      flow := { s.btu.flow with cleared := s.btu.flow.cleared + BitVec.ofNat 32 refs.length } }).evalBlocked c

end Sys2Proof.Machine
end

