-- ==== Sys2Proof/Machine/Routing.lean ====
section
/-! DEFINITION. The Route Resolver (chapter 6): the sailing check, the cabin range lookup, the destination decode on the
chute view, and the view's writes by frames and by the own accounts. -/

namespace Sys2Proof.Machine

open Sys2Proof

/-- The results of the sailing check (R99). -/
inductive Sailing where
  | a
  | b
  | noSailing
  | refused
  deriving DecidableEq, Repr

/-- The sailing check against the two accepted codes (R99). -/
def sailingCheck (rc : ReaderConfig) (code : Nat) : Sailing :=
  if code = 0 then .noSailing
  else if code = rc.sailingA then .a
  else if code = rc.sailingB then .b
  else .refused

/-- A range serves a check result (R101). -/
def serves (g : Range) (sl : Sailing) : Bool :=
  match g.slot, sl with
  | .any, .refused => false
  | .any, _ => true
  | .a, .a => true
  | .b, .b => true
  | _, _ => false

/-- The first range that serves the result and includes the cabin; none is NO_CABIN (R101). -/
def lookupRange (ranges : List Range) (sl : Sailing) (cabin : Nat) : Option Range :=
  ranges.find? fun g => serves g sl && decide (g.low ≤ cabin ∧ cabin ≤ g.high)

/-- The view entry of a chute 1 to 31 (R104). -/
def Rrv.entry (v : Rrv) (chute : Nat) : ViewEntry := v.view.getD (chute - 1) ViewEntry.reset

/-- OPEN, NEAR_FULL or UNKNOWN (R102). -/
def ChuteState.usable (st : ChuteState) : Bool := st == .isOpen || st == .nearFull || st == .unknown

/-- Where a destination decode ends (R102). -/
inductive Decode where
  /-- step 1: NO_CABIN -/
  | noCabin
  /-- step 2 -/
  | primary (chute : Nat)
  /-- step 3 -/
  | overflow (chute : Nat)
  /-- step 4 -/
  | primaryFull (chute : Nat)
  /-- step 5: CHUTE_UNAVAILABLE -/
  | unavailable
  deriving DecidableEq, Repr

/-- The choice between a range's chutes by the view (R102, steps 2 to 5). -/
def chooseChute (v : Rrv) (g : Range) : Decode :=
  if (v.entry g.primary).state.usable then .primary g.primary
  else if g.overflow != 0 && (v.entry g.overflow).state.usable then .overflow g.overflow
  else if (v.entry g.primary).state = .full then .primaryFull g.primary
  else .unavailable

/-- The destination decode (R102). -/
def decodeDestination (c : StationConfig) (v : Rrv) (sl : Sailing) (cabin : Nat) : Decode :=
  match lookupRange c.ranges sl cabin with
  | none => .noCabin
  | some g => chooseChute v g

/-- The chute a decode gives, when it gives one (R102). -/
def Decode.chute : Decode → Option Nat
  | .noCabin => none
  | .primary n => some n
  | .overflow n => some n
  | .primaryFull n => some n
  | .unavailable => none

/-- The stray reason a decode finds (R102). -/
def Decode.reason : Decode → Option Reason
  | .noCabin => some .noCabin
  | .primary _ => none
  | .overflow _ => none
  | .primaryFull _ => none
  | .unavailable => some .chuteUnavailable

/-- What the STU counts of a decode made at an identification (R102, R110). -/
def State.countDecode (d : Decode) (s : State) : State :=
  match d with
  | .noCabin => (s.bump .noCabin).raiseEv .noCabin
  | .primary _ => s.bump .decodePrimary
  | .overflow _ => s.bump .decodeOverflow
  | .primaryFull _ => s.bump .decodePrimaryFull
  | .unavailable => (s.bump .chuteUnavailable).raiseEv .chuteUnavailable

/-- What the STU counts of a sailing check made at an identification (R99, R110). -/
def State.countSailing (sl : Sailing) (s : State) : State :=
  match sl with
  | .a => s.bump .sailingA
  | .b => s.bump .sailingB
  | .noSailing => s.bump .sailingNone
  | .refused => (s.bump .wrongSailing).raiseEv .wrongSailing

/-- The view entry of a chute is written. -/
def State.writeView (chute : Nat) (e : ViewEntry) (s : State) : State := s.setView (s.rrv.view.set (chute - 1) e)

/-- The DVS writes the entry of an own chute from its account (R107). -/
def State.writeOwnView (c : StationConfig) (a : Account) (s : State) : State :=
  s.writeView a.chute { state := a.state, owner := c.station, fill := a.fill, capacity := a.capacity, age := 0 }

/-- A CHUTE_STATE taken by the RRV (R106), or a claim of an own chute (R107). -/
def State.takeChuteState (c : StationConfig) (sender : Nat) (r : ChuteReport) (s : State) : State :=
  if c.ownChute r.chute then (s.bump .chuteClaim).raiseEv .chuteClaim
  else
    let old := s.rrv.entry r.chute
    let t := s.writeView r.chute { state := r.state, owner := sender, fill := r.fill, capacity := r.capacity, age := 0 }
    let t := if old.owner != 0 && old.owner != sender then (t.bump .chuteOwnerChange).raiseEv .chuteOwner else t
    if old.state != r.state then t.bump .viewChange else t

/-- One refresh period older, saturating at 3; an entry that reaches 3 becomes UNKNOWN (R108). -/
def ViewEntry.older (e : ViewEntry) : ViewEntry :=
  let age := min 3 (e.age + 1)
  { e with age := age, state := if age = 3 then .unknown else e.state }

/-- An entry that ageing turns UNKNOWN now (R108). -/
def ViewEntry.expires (e : ViewEntry) : Bool := e.older.age == 3 && e.state != .unknown

/-- The chute numbered by a place in the view. -/
def chuteAt (i : Nat) : Nat := i + 1

/-- How many entries of a view turn UNKNOWN at a refresh expiry: own chutes do not age (R107, R108). -/
def expiring (c : StationConfig) (view : List ViewEntry) : Nat :=
  (view.zipIdx.filter fun p => !c.ownChute (chuteAt p.2) && p.1.expires).length

/-- The RRV ages the view at a refresh expiry (R108). -/
def State.ageView (c : StationConfig) (s : State) : State :=
  let n := expiring c s.rrv.view
  let t := (s.setView (s.rrv.view.mapIdx fun i e => if c.ownChute (chuteAt i) then e else e.older)).bumpN .viewExpired n
  if n = 0 then t else t.raiseEv .viewExpired

end Sys2Proof.Machine
end

