-- ==== Sys2Proof/Machine/Chutes.lean ====
section
/-! DEFINITION. Chute accounts (chapter 8): the derived state, the rise of the fill, the frames and view writes that follow,
and the commands of the bay inputs. -/

namespace Sys2Proof.Machine

open Sys2Proof

/-- The NEAR_FULL threshold (R137). -/
def nearFullFrom (capacity : Nat) : Nat := capacity - capacity / 8

/-- The state that an account's fields give (R137). -/
def Account.derive (a : Account) : ChuteState :=
  if a.closeSwitch then .closed
  else if a.fullSensor then .full
  else if a.capacity ≤ a.fill then .full
  else if nearFullFrom a.capacity ≤ a.fill then .nearFull
  else .isOpen

/-- A chute that can take another bag: OPEN or NEAR_FULL (R115, R138). -/
def ChuteState.grantable (st : ChuteState) : Bool := st == .isOpen || st == .nearFull

/-- The counters of a diverter's chute (R143). -/
def fillClampedCtr : Div → Ctr
  | .d0 => .fillClamped0
  | .d1 => .fillClamped1
/-- R143. -/
def chuteClearedCtr : Div → Ctr
  | .d0 => .chuteCleared0
  | .d1 => .chuteCleared1
/-- R143. -/
def chuteFullCtr : Div → Ctr
  | .d0 => .chuteFull0
  | .d1 => .chuteFull1
/-- R143. -/
def chuteClosedCtr : Div → Ctr
  | .d0 => .chuteClosed0
  | .d1 => .chuteClosed1

/-- A diverter's account takes a new value. -/
def State.setAccount (d : Div) (a : Account) (s : State) : State := s.setDiv d { s.dvs.get d with account := some a }

/-- A CHUTE_STATE is queued with the account's fields, and last state sent takes the state it carries (R140, R141). -/
def State.sendChuteState (d : Div) (a : Account) (s : State) : State :=
  (s.setAccount d { a with lastSent := a.state }).queueFrame
    (.chuteState { chute := a.chute, state := a.state, fill := a.fill, capacity := a.capacity })

/-- What a change of state does (R138): the waiting grants are withdrawn when the chute stops taking bags, and the new state is counted. -/
def State.chuteTurned (d : Div) (was now : ChuteState) (s : State) : State :=
  let t := if was.grantable && !now.grantable then s.withdraw d .withdrawnChute (fun _ => true) else s
  match now with
  | .full => t.bump (chuteFullCtr d)
  | .closed => t.bump (chuteClosedCtr d)
  | .isOpen => t
  | .nearFull => t
  | .unknown => t

/-- The fields of an account change, and its state is derived afresh (R137), with what follows from that (R138, R139, R140). -/
def State.changeAccount (c : StationConfig) (d : Div) (f : Account → Account) (s : State) : State :=
  match (s.dvs.get d).account with
  | none => s
  | some old =>
    let a := { f old with state := (f old).derive }
    let t := s.setAccount d a
    let t := if a.state = old.state then t else t.chuteTurned d old.state a.state
    let t := if a.state = old.state ∧ a.fill = old.fill then t else t.writeOwnView c a
    if a.state = a.lastSent then t else t.sendChuteState d a

/-- A bag's units (R135). -/
def unitsOf (len : Nat) : Nat := (len + 63) / 64

/-- The fill of a diverter's chute rises by a bag's units (R135). -/
def State.fillRise (c : StationConfig) (d : Div) (units : Nat) (s : State) : State :=
  let t := s.changeAccount c d fun a => { a with fill := min maxFill (a.fill + units) }
  if (s.dvs.get d).account.any (fun a => maxFill < a.fill + units) then (t.bump (fillClampedCtr d)).raiseEv .fillClamped else t

/-- The account a diverter starts with, from the levels of its bay inputs (R133). -/
def newAccount (v : DiverterConfig) (full close : Bool) : Account :=
  let a : Account :=
    { chute := v.chute, capacity := v.capacity, fill := 0, fullSensor := full, closeSwitch := close, state := .isOpen, lastSent := .isOpen }
  { a with state := a.derive, lastSent := a.derive }

/-- The level of FULLn. -/
def Pins.full (p : Pins) : Div → Bool
  | .d0 => p.full0
  | .d1 => p.full1

/-- The level of CLOSEn. -/
def Pins.close (p : Pins) : Div → Bool
  | .d0 => p.close0
  | .d1 => p.close1

/-- The level of CLRn. -/
def Pins.clr (p : Pins) : Div → Bool
  | .d0 => p.clr0
  | .d1 => p.clr1

/-- The settling of a diverter's bay inputs takes a new value. -/
def State.setBay (d : Div) (b : Bay) (s : State) : State := s.setDiv d { s.dvs.get d with bay := b }

/-- The account of a diverter is made, its view entry written and its CHUTE_STATE queued (R133, R107, R140);
the settling of its bay inputs starts from the levels of that moment (R134). -/
def State.makeAccount (c : StationConfig) (d : Div) (s : State) : State :=
  match c.diverter d with
  | none => s
  | some v =>
    let a := newAccount v (s.pins.full d) (s.pins.close d)
    (((s.setBay d ⟨0, 0, 0, s.pins.clr d⟩).setAccount d a).writeOwnView c a).sendChuteState d a

/-- The refresh frame of a diverter's chute (R141). -/
def State.refreshChute (d : Div) (s : State) : State :=
  match (s.dvs.get d).account with
  | none => s
  | some a => s.sendChuteState d a

/-- The wire FULLn takes a level. -/
def State.setFullPin (d : Div) (level : Bool) (s : State) : State :=
  match d with
  | .d0 => { s with pins := { s.pins with full0 := level } }
  | .d1 => { s with pins := { s.pins with full1 := level } }

/-- The wire CLOSEn takes a level. -/
def State.setClosePin (d : Div) (level : Bool) (s : State) : State :=
  match d with
  | .d0 => { s with pins := { s.pins with close0 := level } }
  | .d1 => { s with pins := { s.pins with close1 := level } }

/-- The wire CLRn is high. -/
def State.raiseClrPin (d : Div) (s : State) : State :=
  match d with
  | .d0 => { s with pins := { s.pins with clr0 := true } }
  | .d1 => { s with pins := { s.pins with clr1 := true } }

/-- A settled change of FULLn (R134): its settle count returns to 0; before VALID only the wire changes (R142, log 3). -/
def execFullSensorChange (d : Div) (level : Bool) (s : State) : Host.Outcome State Fault Refusal :=
  match s.cfg with
  | none => .next (s.setFullPin d level)
  | some c =>
    .next (((s.setFullPin d level).setBay d { (s.dvs.get d).bay with full := 0 }).changeAccount c d fun a =>
      { a with fullSensor := level })

/-- A settled change of CLOSEn (R134). -/
def execCloseSwitchChange (d : Div) (level : Bool) (s : State) : Host.Outcome State Fault Refusal :=
  match s.cfg with
  | none => .next (s.setClosePin d level)
  | some c =>
    .next (((s.setClosePin d level).setBay d { (s.dvs.get d).bay with close := 0 }).changeAccount c d fun a =>
      { a with closeSwitch := level })

/-- A settled rise of CLRn clears the chute (R136); a diverter without an account is not sampled (R133), and before VALID only the
wire changes (R142, log 3). -/
def execChuteClear (d : Div) (s : State) : Host.Outcome State Fault Refusal :=
  match s.cfg with
  | none => .next (s.raiseClrPin d)
  | some c =>
    if (s.dvs.get d).account.isSome then
      .next ((((s.raiseClrPin d).setBay d { (s.dvs.get d).bay with clr := 0, clrLevel := true }).changeAccount c d fun a =>
        { a with fill := 0 }).bump (chuteClearedCtr d))
    else .next (s.raiseClrPin d)

end Sys2Proof.Machine
end

