-- ==== Sys2Proof/Machine/Divert.lean ====
section
/-! DEFINITION. Divert scheduling (chapter 7): the commit decision, fire, release and recovery, the confirm list, and what an
edge of a confirm eye means. -/

namespace Sys2Proof.Machine

open Sys2Proof

/-! ## The commit decision (R113 to R116) -/

/-- What is formed at a commit (R114). -/
structure Plan where
  lead : Nat
  fire : Count
  release : Count
  freeFrom : Count
  deriving DecidableEq, Repr

/-- The lead and the three counts of R114, for a bag of length `len`. -/
def planOf (v : DiverterConfig) (speed : Nat) (ein : Count) (len : Nat) : Plan :=
  let lead := ticksOf v.actuation speed
  let release := ahead ein (v.pDiv + v.hold + len)
  { lead := lead, fire := ahead ein (v.pDiv - lead), release := release, freeFrom := ahead release (ticksOf v.recovery speed) }

/-- The busy-until count (R114). -/
def Diverter.busyUntil (x : Diverter) : Option Count :=
  match x.grants.getLast? with
  | some g => some g.freeFrom
  | none => if x.eng = .idle then none else x.last.map (·.freeFrom)

/-- The refusal counter of the first condition of R115 that fails, none when every one holds. -/
def refusal (c : StationConfig) (v : DiverterConfig) (x : Diverter) (speed : SpeedState) (r : SegRec) (p : Plan) : Option Ctr :=
  if !x.account.any (fun a => a.state.grantable) then some .refusedChuteNotOpen
  else if speed ≠ .steady then some .refusedNotSteady
  else if r.len.isNone then some .refusedLengthUnknown
  else if !r.len.any (· < longBag) then some .refusedLongBag
  else if v.commit ≤ p.lead then some .refusedSpeedTooHigh
  else if r.front.isNone || r.tight then some .refusedFrontGap
  else if r.back.any (· < c.gMin) then some .refusedBackGap
  else if x.busyUntil.any (fun b => !atOrAfter p.fire b) then some .refusedDiverterBusy
  else if maxGrants ≤ x.grants.length then some .refusedGrantListFull
  else none

/-- A grant is decided for a record bound for diverter d's chute (R114, R115, R116). -/
def State.decideGrant (c : StationConfig) (d : Div) (v : DiverterConfig) (r : SegRec) (s : State) : State :=
  let x := s.dvs.get d
  let p := planOf v s.btu.v r.ein (r.len.getD 0)
  match refusal c v x s.btu.speed r p with
  | some ctr => (s.mapRec r.ref fun q => { q with divert := .withdrawn }).bump ctr
  | none =>
    ((s.mapRec r.ref fun q => { q with divert := .granted }).setDiv d
      { x with grants := x.grants ++ [⟨r.ref, p.fire, p.release, p.freeFrom⟩] }).bump .grant

/-- A record reaches the commit point of diverter d (R113). -/
def execCommitPoint (d : Div) (ref : RecRef) (s : State) : Host.Outcome State Fault Refusal :=
  match s.cfg with
  | none => .next s
  | some c =>
    match c.diverter d, s.recAt c (.commit d) ref with
    | some v, some r =>
      let t := s.takePoint (.commit d) ref
      .next (if r.dest = some v.chute then t.decideGrant c d v r else t)
    | _, _ => .next s

/-! ## Confirm entries (R123, R125) -/

/-- A confirm entry ends as a missed divert (R125). -/
def State.endMissed (d : Div) (e : Confirm) (s : State) : State :=
  (((s.setDiv d { s.dvs.get d with confirms := (s.dvs.get d).confirms.erase e }).updateRec e.ref
      fun q => { q with divert := .missed }).bump .missedDivert).raiseEv .missedDivert

/-- The entries of a diverter that wait for an edge which no longer is pending end as missed diverts (R125). -/
def State.endWaiting (d : Div) (s : State) : State :=
  ((s.dvs.get d).confirms.filter (·.waiting)).foldl (fun t e => t.endMissed d e) s

/-- An edge that may belong to the entry is pending in CONFn's filter (R125). -/
def State.confirmPending (d : Div) (e : Confirm) (s : State) : Bool :=
  (s.btu.filter (.confirm d)).st == .blocking && within e.fire e.windowEnd (s.btu.filter (.confirm d)).raw

/-- E reaches a window end of diverter d's confirm list (R125). -/
def execConfirmWindowEnd (d : Div) (s : State) : Host.Outcome State Fault Refusal :=
  match (s.dvs.get d).confirms.find? fun e => atOrAfter s.btu.e e.windowEnd && !(e.waiting && s.confirmPending d e) with
  | none => .next s
  | some e =>
    if s.confirmPending d e then
      .next (s.setDiv d { s.dvs.get d with
        confirms := (s.dvs.get d).confirms.map fun x => if x = e then { x with waiting := true } else x })
    else .next (s.endMissed d e)

/-! ## Fire, release, recovery (R119 to R123) -/

/-- The record next behind a record in the segment queue (R122). -/
def nextBehind (ref : RecRef) : List SegRec → Option SegRec
  | [] => none
  | r :: rest => if r.ref = ref then rest.head? else nextBehind ref rest

/-- The close-behind mark of the engagement that is written over is cleared, unless the other diverter's engagement also
holds the record (R122). -/
def State.unmark (d : Div) (s : State) : State :=
  match (s.dvs.get d).last.bind (·.closeBehind) with
  | none => s
  | some ref =>
    if (s.dvs.get (otherDiv d)).last.bind (·.closeBehind) = some ref then s
    else s.mapRec ref fun q => { q with closeBehind := false }

/-- A fire on a full confirm list ends its oldest entry first (R123). -/
def State.makeRoom (d : Div) (s : State) : State :=
  match (s.dvs.get d).confirms with
  | [] => s
  | e :: rest =>
    if maxConfirms ≤ (e :: rest).length then ((s.endMissed d e).bump .confirmOverrun).raiseEv .confirmOverrun else s

/-- The record behind a fired record is marked when the paddle would still be out for it (R122). -/
def State.markBehind (d : Div) (v : DiverterConfig) (ref : RecRef) (s : State) : State :=
  match nextBehind ref s.btu.queue with
  | none => s
  | some b =>
    if b.front.any (· < v.hold) then
      ((s.mapRec b.ref fun q => { q with closeBehind := true }).setDiv d
        { s.dvs.get d with last := (s.dvs.get d).last.map fun l => { l with closeBehind := some b.ref } }).bump .closeBehind
    else s

/-- The grant becomes the engagement, with a confirm entry, and the record becomes FIRED (R120, R123). -/
def State.engage (d : Div) (v : DiverterConfig) (g : Grant) (s : State) : State :=
  let x := s.dvs.get d
  ((s.setDiv d { x with
      grants := x.grants.erase g
      eng := .engaged
      last := some ⟨g.fire, g.release, g.freeFrom, some g.ref, false, none⟩
      confirms := x.confirms ++ [⟨g.ref, g.fire, ahead g.fire v.window, false⟩] }).mapRec g.ref
    fun q => { q with divert := .fired }).bump .fire

/-- E reaches the fire count of the first grant of diverter d (R120, R122, R123). -/
def execFire (d : Div) (s : State) : Host.Outcome State Fault Refusal :=
  match s.cfg with
  | none => .next s
  | some c =>
    match c.diverter d, (s.dvs.get d).grants with
    | some v, g :: _ =>
      if atOrAfter s.btu.e g.fire then .next ((((s.unmark d).makeRoom d).engage d v g).markBehind d v g.ref) else .next s
    | _, _ => .next s

/-- E reaches the release count: DIVn goes off (R121). -/
def execRelease (d : Div) (s : State) : Host.Outcome State Fault Refusal :=
  match (s.dvs.get d).last with
  | none => .next s
  | some l =>
    if (s.dvs.get d).eng = .engaged ∧ atOrAfter s.btu.e l.release = true then
      .next (s.setDiv d { s.dvs.get d with eng := if l.freeFrom = l.release then .idle else .recovering })
    else .next s

/-- E reaches the free-from count: a RECOVERING engagement becomes IDLE (R121). -/
def execRecoveryEnd (d : Div) (s : State) : Host.Outcome State Fault Refusal :=
  match (s.dvs.get d).last with
  | none => .next s
  | some l =>
    if (s.dvs.get d).eng = .recovering ∧ atOrAfter s.btu.e l.freeFrom = true then
      .next (s.setDiv d { s.dvs.get d with eng := .idle })
    else .next s

/-! ## Edges of a confirm eye (R124, R126, R127) -/

/-- The entry that an edge at a count confirms: the oldest of those whose record is FIRED and whose window holds the count (R124). -/
def State.confirmedBy (d : Div) (at_ : Count) (s : State) : Option Confirm :=
  (s.dvs.get d).confirms.find? fun e =>
    (s.findRec e.ref).any (fun r => r.divert == .fired) && within e.fire e.windowEnd at_

/-- The record that an edge sweeps: the last engagement's close-behind record, when the engagement is confirmed and spans the count (R126). -/
def State.sweptBy (d : Div) (at_ : Count) (s : State) : Option SegRec :=
  match (s.dvs.get d).last with
  | none => none
  | some l =>
    if l.confirmed && within l.fire l.release at_ then
      (l.closeBehind.bind s.findRec).filter fun r => r.closeBehind
    else none

/-- A DIVERT_DONE for a record is queued (R130). -/
def State.queueDivertDone (chute : Nat) (r : SegRec) (swept : Bool) (s : State) : State :=
  s.queueFrame (.divertDone { chute := chute, len := orZero r.len, ident := r.ident, swept := swept })

/-- A confirmed divert (R124). -/
def State.confirm (c : StationConfig) (d : Div) (v : DiverterConfig) (e : Confirm) (r : SegRec) (s : State) : State :=
  let x := s.dvs.get d
  ((((s.setDiv d { x with
      confirms := x.confirms.erase e
      last := x.last.map fun l => if l.fired = some e.ref then { l with confirmed := true } else l }).remove c e.ref
    (.confirmed d)).fillRise c d (unitsOf (orZero r.len))).queueDivertDone v.chute r false).settle c

/-- A sweep (R126). -/
def State.sweep (c : StationConfig) (d : Div) (v : DiverterConfig) (r : SegRec) (s : State) : State :=
  let x := s.dvs.get d
  (((((((s.setDiv d { x with last := x.last.map fun l => { l with closeBehind := none } }).remove c r.ref .swept).fillRise c d
    (unitsOf (orZero r.len))).queueDivertDone v.chute r true).queueFrame
    (.strayNotice { reason := .swept, ident := r.ident, passes := r.passes, chute := v.chute, origin := r.origin })).bump .sweptBag).raiseEv
      .swept).settle c

/-- An accepted leading edge from CONFn, carrying a count (R124, R126, R127). -/
def State.confirmEdge (c : StationConfig) (d : Div) (at_ : Count) (s : State) : State :=
  let unexpected := (s.bump .unexpectedChuteEdge).raiseEv .chuteEdge
  match c.diverter d with
  | none => unexpected
  | some v =>
    match s.confirmedBy d at_ with
    | some e =>
      match s.findRec e.ref with
      | some r => (s.confirm c d v e r).endWaiting d
      | none => unexpected
    | none =>
      match s.sweptBy d at_ with
      | some r => (s.sweep c d v r).endWaiting d
      | none => unexpected.endWaiting d

end Sys2Proof.Machine
end

