-- ==== Sys2Proof/Machine/Handover.lean ====
section
/-! DEFINITION. Handover and the expect list (chapter 3): the upstream state, expect records, their advance and matching,
late attachment, and the HANDOVER a station queues. -/

namespace Sys2Proof.Machine

open Sys2Proof

/-! ## Upstream state (R38 to R40) -/

/-- The source a frame's sender is, when it is one (R38). -/
def sourceOf (c : StationConfig) (sender : Nat) : Option Source :=
  if sender = 0 then none
  else if sender = c.upA then some .a
  else if sender = c.upB then some .b
  else none

/-- The reported state that a speed state becomes (R39). -/
def Reported.ofSpeed : SpeedState → Reported
  | .stopped => .stopped
  | .moving => .moving
  | .steady => .steady

/-- A source's SEGMENT_STATE: its state and speed, and the silence timer restarted (R39, R40). -/
def Upstream.hearState (u : Upstream) (v : Nat) (sp : SpeedState) : Upstream :=
  { u with reported := Reported.ofSpeed sp, vsrc := if sp = .stopped then 0 else v, timer := some 0, silent := false }

/-- A source's accepted HANDOVER: its speed unless it reported STOPPED, and the silence timer restarted (R39, R40). -/
def Upstream.hearHandover (u : Upstream) (v : Nat) : Upstream :=
  { u with vsrc := if u.reported = .stopped then 0 else v, timer := some 0, silent := false }

/-- A source's upstream state is changed. -/
def State.mapUpstream (src : Source) (f : Upstream → Upstream) (s : State) : State :=
  s.setBtu (s.btu.setUpstream src (f (s.btu.upstream src)))

/-- A source's silence timer runs out (R40). -/
def execUpstreamSilence (src : Source) (s : State) : Host.Outcome State Fault Refusal :=
  if (s.btu.upstream src).timer.isSome then
    .next ((s.mapUpstream src fun u => { u with timer := none, silent := true }).raiseEv .upstreamSilent)
  else .next s

/-! ## The expect list (R43 to R50) -/

/-- An expect record made from an accepted HANDOVER (R43). -/
def expectOf (c : StationConfig) (src : Source) (h : Handover) : ExpectRec where
  source := src
  ident := h.ident
  dest := if h.dest = 0 then none else some h.dest
  reason := h.reason
  passes := h.passes
  len := h.len
  drem := 8 * h.dExit
  tol := c.eMin + h.dExit / 8

/-- The whole ticks d of an expect record: D_rem / 8 truncated toward zero (R46). -/
def ExpectRec.ticks (x : ExpectRec) : Int := x.drem.tdiv 8

/-- |d| ≤ Tol (R46). -/
def ExpectRec.matchable (x : ExpectRec) : Bool := x.ticks.natAbs ≤ x.tol

/-- d < −Tol (R47). -/
def ExpectRec.noShow (x : ExpectRec) : Bool := decide (x.ticks < -(x.tol : Int))

/-- One window's advance by the source's V_src, saturating at −32768 (R45). -/
def ExpectRec.advance (v : Nat) (x : ExpectRec) : ExpectRec := { x with drem := max (-32768) (x.drem - v) }

/-- The advance of the expect list at a window close, and the removal of its no-shows (R45, R47). -/
def State.advanceExpects (s : State) : State :=
  let moved := s.btu.expects.map fun x => x.advance (s.btu.upstream x.source).vsrc
  let n := (moved.filter (·.noShow)).length
  let t := (s.setBtu { s.btu with expects := moved.filter fun x => !x.noShow }).bumpN .noShow n
  if n = 0 then t else t.raiseEv .noShow

/-- A source's candidate: the oldest of its records that is matchable (R48). -/
def candidate (xs : List ExpectRec) (src : Source) : Option ExpectRec := xs.find? fun x => x.source == src && x.matchable

/-- The record an arrival is matched to (R49). -/
def matchArrival (c : StationConfig) (xs : List ExpectRec) : Option ExpectRec :=
  match candidate xs .a, candidate xs .b with
  | some a, some b =>
    if a.drem.natAbs < b.drem.natAbs then some a
    else if b.drem.natAbs < a.drem.natAbs then some b
    else if c.priority = .a then some a else some b
  | some a, none => some a
  | none, some b => some b
  | none, none => none

/-- A matched record leaves the expect list (R44, R50). -/
def State.dropExpect (x : ExpectRec) (s : State) : State := s.setBtu { s.btu with expects := s.btu.expects.erase x }

/-! ## The passes test on joining and late attachment (R129) -/

/-- The passes of a record that has joined are tested against this station's maximum (R129). -/
def State.testPasses (c : StationConfig) (ref : RecRef) (s : State) : State :=
  match s.findRec ref with
  | none => s
  | some r =>
    if c.maxPasses ≤ r.passes then
      let t := if c.maxPasses < r.passes then (s.mapRec ref fun q => { q with passes := c.maxPasses }).bump .passesClamped else s
      t.offer c ref .lapLimit
    else s

/-! ## Receiving a HANDOVER (R41, R42, R52) -/

/-- A record that a late announcement may attach to (R52). It has not reached the late grace end; at the very tick of reaching it,
its late grace end not yet taken, the announcement may still be taken first (log 6). -/
def State.attachable (c : StationConfig) (s : State) (r : SegRec) : Bool :=
  r.origin == .blind && r.ident.isNone && !r.lateId
    && (decide (s.position r ≤ c.lateGrace) || (s.position r == c.lateGrace + 1 && r.awaiting.contains .lateGraceEnd))

/-- What a late attachment writes (R52). -/
def SegRec.attach (h : Handover) (r : SegRec) : SegRec :=
  match h.ident with
  | none => { r with lateId := true }
  | some i =>
    { r with lateId := true, ident := some i, dest := if r.reason.isSome then r.dest else if h.dest = 0 then none else some h.dest }

/-- The oldest attachable record takes the announcement (R52). -/
def State.attachLate (c : StationConfig) (r : SegRec) (h : Handover) (s : State) : State :=
  (((s.updateRec r.ref (SegRec.attach h)).bump .lateAttach).tellDestination c r.ref (SegRec.attach h r).dest).testPasses c r.ref

/-- An accepted HANDOVER from a source (R42). -/
def State.acceptHandover (c : StationConfig) (src : Source) (h : Handover) (s : State) : State :=
  let t := s.mapUpstream src fun u => u.hearHandover h.v
  match t.btu.queue.find? (t.attachable c) with
  | some r => t.attachLate c r h
  | none =>
    if t.btu.expects.length < maxExpects then t.setBtu { t.btu with expects := t.btu.expects ++ [expectOf c src h] }
    else (t.bump .expectFull).raiseEv .expectFull

/-- A well-formed HANDOVER is screened by address and source (R41). -/
def State.takeHandover (c : StationConfig) (sender : Nat) (h : Handover) (s : State) : State :=
  if h.toStation ≠ c.station then s.bump .handoverNotMine
  else match sourceOf c sender with
    | none => (s.bump .handoverForeign).raiseEv .handoverForeign
    | some src => s.acceptHandover c src h

/-! ## Sending a HANDOVER (R55) -/

/-- The HANDOVER of an exit match (R55). -/
def handoverOf (c : StationConfig) (v : Nat) (r : SegRec) : Handover where
  toStation := c.down
  v := v
  dExit := c.dExit
  len := orZero r.len
  ident := r.ident
  origin := r.origin
  dest := orZero r.dest
  reason := r.reason
  passes := r.passes
  lateId := r.lateId

/-- The HANDOVER of an unexpected exit (R26, R55). -/
def handoverUnexpected (c : StationConfig) (v : Nat) : Handover where
  toStation := c.down
  v := v
  dExit := c.dExit
  len := 0
  ident := none
  origin := .blind
  dest := c.problem
  reason := some .blind
  passes := 0
  lateId := false

/-- A HANDOVER is queued when there is a downstream neighbour, with the exit count it keeps (R55, R56, R57). -/
def State.queueHandover (c : StationConfig) (h : Handover) (exitCount : Count) (s : State) : State :=
  if c.down = 0 then s else s.queueFrame (.handover h exitCount)

/-- A record reaches the late grace end (R53). -/
def execLateGraceEnd (ref : RecRef) (s : State) : Host.Outcome State Fault Refusal :=
  match s.cfg with
  | none => .next s
  | some c =>
    match s.recAt c .lateGraceEnd ref with
    | none => .next s
    | some r =>
      let t := s.takePoint .lateGraceEnd ref
      .next (if r.origin = .blind ∧ r.lateId = false ∧ r.ident = none then (t.offer c ref .blind).bump .blindStray else t)

end Sys2Proof.Machine
end

