-- ==== Sys2Proof/Machine/Tracking.lean ====
section
/-! DEFINITION. Segment tracking (chapter 2): entry arrivals and trailing edges, the exit match, the overdue and long-bag
points, the downstream silence and the segment clear. -/

namespace Sys2Proof.Machine

open Sys2Proof

/-! ## Entry arrivals (R19, R20) -/

/-- The lowest-numbered free slot (R15). -/
def freeSlot (q : List SegRec) : Nat := ((List.range maxRecords).find? fun i => !q.any (·.slot == i)).getD 0

/-- A record as it joins (R16): with no fields announced. -/
def freshRec (c : StationConfig) (s : State) (ein : Count) (origin : Origin) : SegRec where
  slot := freeSlot s.btu.queue
  ein := ein
  len := none
  front := none
  back := none
  origin := origin
  ident := none
  entry := none
  dest := none
  reason := none
  passes := 0
  readStatus := .none
  divert := .none
  tight := false
  closeBehind := false
  lateId := false
  ambiguous := false
  awaiting := pointsAhead c (fwd ein s.btu.e)
  longBag := false

/-- A record as it joins with the fields of its expect record (R50); a carried reason brings this station's problem chute (R147). -/
def announcedRec (c : StationConfig) (s : State) (ein : Count) (x : ExpectRec) : SegRec :=
  { freshRec c s ein .announced with
    len := if x.len = 0 then none else some x.len
    ident := x.ident
    dest := if x.reason.isSome then some c.problem else x.dest
    reason := x.reason
    passes := x.passes }

/-- A record joins at the young end and becomes the open record (R19). -/
def State.join (c : StationConfig) (r : SegRec) (s : State) : State :=
  (s.setBtu { s.btu with
    queue := s.btu.queue ++ [r]
    openRec := some ⟨r.ref, false⟩
    flow := { s.btu.flow with entered := s.btu.flow.entered + 1 } }).evalBlocked c

/-- An entry arrival matched to an expect record (R50, R147, R129). -/
def State.joinAnnounced (c : StationConfig) (ein : Count) (x : ExpectRec) (s : State) : State :=
  let r := announcedRec c s ein x
  let t := (s.dropExpect x).join c r
  (if x.reason.isSome then t.bump .strayCarried else t).testPasses c r.ref

/-- An entry arrival opens a record (R19, R50, R51). -/
def State.openArrival (c : StationConfig) (ein : Count) (s : State) : State :=
  if c.feedStart then s.join c (freshRec c s ein .inducted)
  else match matchArrival c s.btu.expects with
    | some x => s.joinAnnounced c ein x
    | none => (s.join c (freshRec c s ein .blind)).bump .blindArrival

/-- The record is below the minimum gap: a grant it holds is withdrawn (R20, R22, R117). -/
def State.gapSet (c : StationConfig) (ref : RecRef) (gap : Nat) (s : State) : State :=
  if gap < c.gMin then s.withdrawBoth .withdrawnGap (·.ref == ref) else s

/-- The back gap that an untracked arrival leaves to the youngest record (R20, log 10). -/
def State.backGapUntracked (c : StationConfig) (ein : Count) (s : State) : State :=
  match s.btu.queue.getLast?, s.btu.gapRef with
  | some r, .count g =>
    if r.back.isNone then
      (s.mapRec r.ref fun q => { q with back := some (min maxGap (fwd g ein)) }).gapSet c r.ref (min maxGap (fwd g ein))
    else s
  | _, _ => s

/-- An arrival on a full queue is not recorded (R20). -/
def State.untrackedArrival (c : StationConfig) (ein : Count) (s : State) : State :=
  let t := if c.feedStart then s
    else match matchArrival c s.btu.expects with
      | some x => s.dropExpect x
      | none => s
  let t := t.backGapUntracked c ein
  (t.setBtu { t.btu with
    gapRef := .lost
    skipTrailing := true
    openRec := none
    flow := { t.btu.flow with untracked := t.btu.flow.untracked + 1 } }).raiseEv .untracked

/-- An entry arrival: an accepted leading edge of the entry eye, with its raw edge count (R19). -/
def State.entryArrival (c : StationConfig) (ein : Count) (s : State) : State :=
  if maxRecords ≤ s.btu.queue.length then s.untrackedArrival c ein
  else match s.btu.queue.find? (·.ein == ein) with
    | some r => (s.setBtu { s.btu with openRec := some ⟨r.ref, true⟩ }).bump .entryGlitch
    | none => s.openArrival c ein

/-! ## Entry trailing edges (R21 to R24) -/

/-- The gap reference at an accepted entry trailing edge (R21). -/
def State.setGapRef (t : Count) (s : State) : State :=
  s.setBtu { s.btu with gapRef := if s.btu.skipTrailing then .lost else .count t, skipTrailing := false, openRec := none }

/-- Step 1 of R22: the length, and OVERSIZE for a span of 2047 or more; a record that R23 made OVERSIZE keeps its length (log 9). -/
def State.measure (c : StationConfig) (r : SegRec) (t : Count) (s : State) : State :=
  if r.longBag then s
  else
    let span := fwd r.ein t
    let u := s.mapRec r.ref fun q => { q with len := some (max 1 (min longBag span)) }
    if longBag ≤ span then u.offer c r.ref .oversize else u

/-- Step 2 of R22: the front gap that the gap reference gives. -/
def frontGap (g : GapRef) (ein : Count) : Option Nat :=
  match g with
  | .none => some maxGap
  | .count x => some (min maxGap (fwd x ein))
  | .lost => none

/-- The record ahead: the next older one in the queue (R22). -/
def aheadOf (ref : RecRef) : List SegRec → Option SegRec
  | [] => none
  | [_] => none
  | a :: b :: rest => if b.ref = ref then some a else aheadOf ref (b :: rest)

/-- Steps 2 to 4 of R22 for the open record. -/
def State.setGaps (c : StationConfig) (r : SegRec) (s : State) : State :=
  match frontGap s.btu.gapRef r.ein with
  | none => s
  | some g =>
    let t := s.mapRec r.ref fun q => { q with front := some g, tight := q.tight || decide (g < c.gMin) }
    let t := if g < c.gMin then t.bump .tightEntry else t
    match aheadOf r.ref t.btu.queue with
    | none => t
    | some a =>
      if a.back.isNone then (t.mapRec a.ref fun q => { q with back := some g }).gapSet c a.ref g else t

/-- An accepted trailing edge of the entry eye, with its raw clear count (R22, R24). -/
def State.entryTrailing (c : StationConfig) (at_ : Count) (s : State) : State :=
  match s.btu.openRec with
  | none => s.setGapRef at_
  | some o =>
    match s.findRec o.ref with
    | none => s.setGapRef at_
    | some r =>
      if o.reopened then (s.measure c r at_).setGapRef at_
      else ((s.measure c r at_).setGaps c r).setGapRef at_

/-! ## The long-bag point (R23) -/

/-- R23 makes the open record OVERSIZE. -/
def State.makeLong (c : StationConfig) (ref : RecRef) (s : State) : State :=
  (s.mapRec ref fun q => { q with len := some longBag, longBag := true }).offer c ref .oversize

/-- A record reaches the long-bag point: the open record with the entry filter in BLOCKED; in CLEARING the decision waits (R23). -/
def execLongBagPoint (ref : RecRef) (s : State) : Host.Outcome State Fault Refusal :=
  match s.cfg with
  | none => .next s
  | some c =>
    match s.recAt c .longBag ref with
    | none => .next s
    | some _ =>
      let t := s.takePoint .longBag ref
      .next (if s.btu.openRec.any (·.ref == ref) && s.btu.fEntry.st == .blocked then t.makeLong c ref else t)

/-- The entry filter has returned from CLEARING to BLOCKED: a waiting long-bag decision is taken (R23). -/
def State.longBagReturn (c : StationConfig) (s : State) : State :=
  match s.btu.openRec.bind fun o => s.findRec o.ref with
  | none => s
  | some r =>
    if !r.awaiting.contains .longBag && !r.longBag && decide (longBag ≤ s.position r) then s.makeLong c r.ref else s

/-! ## Exit (R25, R26, R128) -/

/-- The passes rule at an exit match (R128). -/
def State.passesRule (c : StationConfig) (r : SegRec) (s : State) : State :=
  if r.dest.any c.ownChute then
    let n := min c.maxPasses (r.passes + 1)
    let t := (s.mapRec r.ref fun q => { q with passes := n }).bump .passCounted
    if n = c.maxPasses then ((t.offer c r.ref .lapLimit).bump .lapLimit).raiseEv .lapLimit else t
  else s

/-- The exit match of the oldest record (R25). -/
def State.exitMatch (c : StationConfig) (r : SegRec) (at_ : Count) (s : State) : State :=
  let t := s.passesRule c r
  let q := (t.findRec r.ref).getD r
  ((t.queueHandover c (handoverOf c t.btu.v q) at_).remove c r.ref .exitMatch).settle c

/-- An unexpected exit (R26). -/
def State.exitUnexpected (c : StationConfig) (at_ : Count) (s : State) : State :=
  (((s.bump .exitUnexpected).raiseEv .exitUnexpected).queueHandover c (handoverUnexpected c s.btu.v) at_).queueFrame
    (.strayNotice { reason := .blind, ident := none, passes := 0, chute := 0, origin := .blind })

/-- An exit edge: an accepted leading edge of the exit eye, with its raw edge count (R25, R26). -/
def State.exitEdge (c : StationConfig) (at_ : Count) (s : State) : State :=
  match s.btu.queue with
  | [] => s.exitUnexpected c at_
  | r :: _ => if inBand c r at_ then s.exitMatch c r at_ else s.exitUnexpected c at_

/-- A record reaches the overdue point (R27). -/
def State.overduePoint (c : StationConfig) (ref : RecRef) (s : State) : State :=
  match s.recAt c .overdue ref with
  | none => s
  | some _ => (s.takePoint .overdue ref).settle c

/-- A record reaches the overdue point (R27). -/
def execOverduePoint (ref : RecRef) (s : State) : Host.Outcome State Fault Refusal :=
  match s.cfg with
  | none => .next s
  | some c => .next (s.overduePoint c ref)

/-! ## Downstream silence and the segment clear -/

/-- The downstream silence timer runs out (R30, R31). -/
def execDownstreamSilence (s : State) : Host.Outcome State Fault Refusal :=
  match s.cfg with
  | none => .next s
  | some c =>
    if s.btu.down.timer.isSome then
      .next (((s.setBtu { s.btu with down := { s.btu.down with timer := none, silent := true } }).raiseEv .downstreamSilent).evalPermit c)
    else .next s

/-- The wire JAM_CLR is high. -/
def State.raiseJamPin (s : State) : State := { s with pins := { s.pins with jam := true } }

/-- A rising edge sampled on JAM_CLR (R33): before VALID only the wire changes. -/
def State.jamClr (s : State) : State :=
  match s.cfg with
  | none => s.raiseJamPin
  | some c => (s.raiseJamPin.setBtu { s.btu with jamSample := true }).segmentClear c

/-- A rising edge sampled on JAM_CLR (R33). -/
def execJamClr (s : State) : Host.Outcome State Fault Refusal := .next s.jamClr

end Sys2Proof.Machine
end

