-- ==== Sys2Proof/Machine/Belt.lean ====
section
/-! DEFINITION. Belt motion and speed (chapter 1): the encoder count, the windows and the speed state, and the glitch filters
whose accepted edges go to their owners. -/

namespace Sys2Proof.Machine

open Sys2Proof

/-! ## The encoder and the window (R1 to R8) -/

/-- One tick in the open window, 256 marking a clamped window (R4). -/
def winTick (n : Nat) : Nat := if n < 256 then n + 1 else 256

/-- A rising edge on ENC (R1, R4); ignored while there is no configuration. -/
def execEncoderTick (s : State) : Host.Outcome State Fault Refusal :=
  match s.cfg with
  | none => .next s
  | some _ =>
    let t := s.setBtu { s.btu with e := s.btu.e + 1, winCount := winTick s.btu.winCount }
    .next (if s.btu.winCount = 255 then t.raiseEv .overspeed else t)

/-- The speed state and the steady count after a window close (R6). -/
def speedUpdate (c : StationConfig) (v prevV : Nat) (st : SpeedState) (count : Nat) : SpeedState × Nat :=
  if v ≤ c.vStop then (.stopped, 0)
  else if st = .stopped then (.moving, 0)
  else if v ≤ prevV + c.vTol ∧ prevV ≤ v + c.vTol then
    let n := min 8 (count + 1)
    (if n = 8 then .steady else .moving, n)
  else (.moving, 0)

/-- The monitor closes the window (R4, R5, R6). -/
def Btu.closeWindow (c : StationConfig) (b : Btu) : Btu :=
  let history := b.history.drop 1 ++ [min 255 b.winCount]
  let v := min 1023 history.sum
  let p := speedUpdate c v b.v b.speed b.steadyCount
  { b with history := history, winCount := 0, v := v, prevV := b.v, speed := p.1, steadyCount := p.2, windowMs := some 0 }

/-- The window close sets OVERSPEED: a clamped window (R4), or a sum over 1023 (R5). -/
def Btu.overspeed (b : Btu) : Bool := b.winCount == 256 || 1023 < (b.history.drop 1 ++ [min 255 b.winCount]).sum

/-- V is further from the reported V than twice V_tol (R8). -/
def farFrom (c : StationConfig) (v reported : Nat) : Bool := decide (reported + 2 * c.vTol < v ∨ v + 2 * c.vTol < reported)

/-- A window closes (R3 to R8, R45, R47). -/
def State.windowClose (c : StationConfig) (s : State) : State :=
  let t := s.setBtu (s.btu.closeWindow c)
  let t := if s.btu.overspeed then t.raiseEv .overspeed else t
  let t := if s.btu.speed = .steady ∧ t.btu.speed ≠ .steady then t.withdrawBoth .withdrawnSpeed (fun _ => true) else t
  let t := if t.btu.speed ≠ s.btu.speed ∨ farFrom c t.btu.v t.btu.reportedV = true then t.queueSegmentState else t
  t.advanceExpects

/-- A window closes; none closes while there is no configuration (R9). -/
def execWindowClose (s : State) : Host.Outcome State Fault Refusal :=
  match s.cfg with
  | none => .next s
  | some c => .next (s.windowClose c)

/-! ## The glitch filters (R11 to R14) -/

/-- A filter as it starts at VALID, from the eye's raw level (R13): in BLOCKED, with the trailing edge that ends it not to be
delivered, or in CLEAR. -/
def startFilter (blocked : Bool) : Filter := if blocked then ⟨.blocked, 0, true⟩ else Filter.reset

/-- The level of an eye's wire. -/
def Pins.eye (p : Pins) : Eye → Bool
  | .entry => p.eyeIn
  | .exit => p.eyeOut
  | .confirm .d0 => p.conf0
  | .confirm .d1 => p.conf1

/-- An eye's wire takes a level. -/
def State.setEyePin (eye : Eye) (blocked : Bool) (s : State) : State :=
  { s with pins :=
    match eye with
    | .entry => { s.pins with eyeIn := blocked }
    | .exit => { s.pins with eyeOut := blocked }
    | .confirm .d0 => { s.pins with conf0 := blocked }
    | .confirm .d1 => { s.pins with conf1 := blocked } }

/-- The filter of an eye takes a new value. -/
def State.setFilter (eye : Eye) (f : Filter) (s : State) : State := s.setBtu (s.btu.setFilter eye f)

/-- An accepted leading edge goes to the eye's owner with its raw edge count (R14). -/
def State.deliverLeading (c : StationConfig) (eye : Eye) (raw : Count) (s : State) : State :=
  match eye with
  | .entry => s.entryArrival c raw
  | .exit => s.exitEdge c raw
  | .confirm d => s.confirmEdge c d raw

/-- An accepted trailing edge goes to the eye's owner: the exit eye's is not used, a confirm eye's only rearms (R14). -/
def State.deliverTrailing (c : StationConfig) (eye : Eye) (raw : Count) (s : State) : State :=
  match eye with
  | .entry => s.entryTrailing c raw
  | .exit => s
  | .confirm _ => s

/-- A BLOCKING filter that has run Gf ticks accepts its leading edge and delivers it (R11). -/
def State.acceptLeading (c : StationConfig) (eye : Eye) (s : State) : State :=
  let f := s.btu.filter eye
  if f.st = .blocking ∧ c.gf ≤ fwd f.raw s.btu.e then
    (s.setFilter eye { f with st := .blocked }).deliverLeading c eye f.raw
  else s

/-- A CLEARING filter that has run Gf ticks accepts its trailing edge; the first one of a filter that started in BLOCKED is not
delivered (R12, R13, log 11). -/
def State.acceptTrailing (c : StationConfig) (eye : Eye) (s : State) : State :=
  let f := s.btu.filter eye
  if f.st = .clearing ∧ c.gf ≤ fwd f.raw s.btu.e then
    let t := s.setFilter eye { f with st := .clear, mute := false }
    if f.mute then t else t.deliverTrailing c eye f.raw
  else s

/-- What waits for a pending edge when its filter returns to CLEAR: the overdue test (R27) or confirm entries (R125). -/
def State.edgeVanished (c : StationConfig) (eye : Eye) (s : State) : State :=
  match eye with
  | .entry => s
  | .exit => s.settle c
  | .confirm d => s.endWaiting d

/-- A filter takes a raw change of its input (R11, R12); with Gf 0 the edge is accepted at once (log 12). -/
def State.filterStep (c : StationConfig) (eye : Eye) (blocked : Bool) (s : State) : State :=
  let f := s.btu.filter eye
  match f.st, blocked with
  | .clear, true =>
    let t := s.setFilter eye { f with st := .blocking, raw := s.btu.e }
    if c.gf = 0 then t.acceptLeading c eye else t
  | .blocking, false => (s.setFilter eye { f with st := .clear }).edgeVanished c eye
  | .blocked, false =>
    let t := s.setFilter eye { f with st := .clearing, raw := s.btu.e }
    if c.gf = 0 then t.acceptTrailing c eye else t
  | .clearing, true =>
    let t := s.setFilter eye { f with st := .blocked }
    if eye = .entry then t.longBagReturn c else t
  | .clear, false => s
  | .blocking, true => s
  | .blocked, true => s
  | .clearing, false => s

/-- An eye input changes level (R11, R12); no filter runs while there is no configuration (R9). -/
def State.eyeRawChange (eye : Eye) (blocked : Bool) (s : State) : State :=
  if s.pins.eye eye = blocked then s
  else
    let t := s.setEyePin eye blocked
    match s.cfg with
    | none => t
    | some c => t.filterStep c eye blocked

/-- An eye input changes level (R11, R12). -/
def execEyeRawChange (eye : Eye) (blocked : Bool) (s : State) : Host.Outcome State Fault Refusal :=
  .next (s.eyeRawChange eye blocked)

/-- A leading edge is accepted (R11, R14). -/
def execLeadingEdgeAccepted (eye : Eye) (s : State) : Host.Outcome State Fault Refusal :=
  match s.cfg with
  | none => .next s
  | some c => .next (s.acceptLeading c eye)

/-- A trailing edge is accepted (R12, R14). -/
def execTrailingEdgeAccepted (eye : Eye) (s : State) : Host.Outcome State Fault Refusal :=
  match s.cfg with
  | none => .next s
  | some c => .next (s.acceptTrailing c eye)

end Sys2Proof.Machine
end

