-- ==== Sys2Proof/Machine/Identity.lean ====
section
/-! DEFINITION. The Identity Table (chapter 5): the probe, the tag test, the two allocations, and what reads, DIVERT_DONE
frames and desk notices do to an entry. -/

namespace Sys2Proof.Machine

open Sys2Proof

/-- Entry i, absent when it is not valid (R77). -/
def entryAt (es : List (Option IdtEntry)) (i : Nat) : Option IdtEntry := es.getD i none

/-- A probe with a tag number and a sailing code matches an entry (R78). -/
def IdtEntry.matchedBy (e : IdtEntry) (tag sailing : Nat) : Bool :=
  e.tag == tag && (e.sailing == sailing || e.wildcard || sailing == 0)

/-- The entry a probe hits (R78). -/
def probe (es : List (Option IdtEntry)) (tag sailing : Nat) : Option Nat :=
  es.findIdx? fun o => o.any (·.matchedBy tag sailing)

/-- The tag test: a valid entry with the tag number, whatever its sailing code (R78). -/
def tagTest (es : List (Option IdtEntry)) (tag : Nat) : Option Nat := es.findIdx? fun o => o.any (·.tag == tag)

/-- A field of an entry is changed. -/
def State.modifyEntry (i : Nat) (f : IdtEntry → IdtEntry) (s : State) : State := s.setEntries (s.idt.entries.modify i (Option.map f))

/-- An entry is written over whole. -/
def State.writeEntry (i : Nat) (e : IdtEntry) (s : State) : State := s.setEntries (s.idt.entries.set i (some e))

/-- A hit restarts the age (R78, R81). -/
def State.restartAge (i : Nat) (s : State) : State := s.modifyEntry i fun e => { e with age := 0 }

/-- The rotating allocation may take the entry (R82). -/
def reusable (ageLimit : Nat) : Option IdtEntry → Bool
  | none => true
  | some e =>
    match e.state with
    | .diverted => true
    | .onLoop => ageLimit ≤ e.age
    | .manual => ageLimit ≤ e.age
    | .onSegment => false

/-- The rotating entries in the order examined: from the pointer downward, then from 127 on (R82). -/
def rotation (pointer : Nat) : List Nat := (List.range 112).map fun k => 16 + (pointer + 96 - k) % 112

/-- The entry the rotating allocation takes (R82), none when it fails (R83). -/
def rotating (ageLimit pointer : Nat) (es : List (Option IdtEntry)) : Option Nat :=
  (rotation pointer).find? fun i => reusable ageLimit (entryAt es i)

/-- Where the pointer moves when an entry is taken (R82). -/
def pointerAfter (i : Nat) : Nat := if i = 16 then 127 else i - 1

/-- Entry i is valid in a state. -/
def inState (es : List (Option IdtEntry)) (i : Nat) (st : EntryState) : Bool := (entryAt es i).any (·.state == st)

/-- An entry's destination is written. -/
def State.setEntryDest (i dest : Nat) (s : State) : State := s.modifyEntry i fun e => { e with dest := dest }

/-- The record that refers to an entry (R80). -/
def State.referrer (s : State) (i : Nat) : Option RecRef := (s.btu.queue.find? fun r => r.entry == some i).map SegRec.ref

/-- An entry lost that was MANUAL counts manual-reused (R82, R96). -/
def State.countReuse (i : Nat) (s : State) : State := if inState s.idt.entries i .manual then s.bump .manualReused else s

/-! ## Reads (R84 to R89) -/

/-- What the identity table's part of an identification gives back (R72, R85). -/
inductive IdtAnswer where
  /-- an entry in ON_SEGMENT made by this read; a destination to decode (R86) -/
  | made (i : Nat)
  /-- an ON_LOOP entry moved to ON_SEGMENT; a destination to decode (R87) -/
  | returning (i : Nat)
  /-- a MANUAL entry moved to ON_SEGMENT, with its destination (R87) -/
  | manual (i dest : Nat)
  /-- no entry; a destination to decode (R83, R84) -/
  | noEntry
  /-- DUPLICATE_TAG (R88) -/
  | duplicate
  deriving DecidableEq, Repr

/-- The entry the record is given. -/
def IdtAnswer.entry : IdtAnswer → Option Nat
  | .made i => some i
  | .returning i => some i
  | .manual i _ => some i
  | .noEntry => none
  | .duplicate => none

/-- A read writes an entry whole, in ON_SEGMENT; its destination is written at the end of the identification (R86). -/
def newEntry (i : Identity) : IdtEntry where
  tag := i.tag
  sailing := i.sailing
  wildcard := i.sailing == 0
  cabin := i.cabin
  dest := 0
  state := .onSegment
  source := .read
  age := 0

/-- A read that misses is given an entry (R86). -/
def State.makeEntry (i : Nat) (id : Identity) (s : State) : State × IdtAnswer :=
  (((s.countReuse i).writeEntry i (newEntry id)).bump .newTag, .made i)

/-- A read that misses: the tag test (R84), then the rotating allocation (R82, R83). -/
def State.missedRead (c : StationConfig) (id : Identity) (s : State) : State × IdtAnswer :=
  match tagTest s.idt.entries id.tag with
  | some i =>
    if inState s.idt.entries i .onSegment then (s.bump .tagClash, .noEntry)
    else (s.bump .tagClash).makeEntry i id
  | none =>
    match rotating c.ageLimit s.idt.pointer s.idt.entries with
    | none => ((s.bump .idtFull).raiseEv .idtFull, .noEntry)
    | some i => ({ s with idt := { s.idt with pointer := pointerAfter i } }).makeEntry i id

/-- The identity table's part of an identification (R85 to R88). -/
def State.readIdt (c : StationConfig) (id : Identity) (s : State) : State × IdtAnswer :=
  match probe s.idt.entries id.tag id.sailing with
  | none => s.missedRead c id
  | some i =>
    match entryAt s.idt.entries i with
    | none => s.missedRead c id
    | some e =>
      let t := s.restartAge i
      match e.state with
      | .onLoop => ((t.modifyEntry i fun x => { x with state := .onSegment }).bump .returning, .returning i)
      | .manual => ((t.modifyEntry i fun x => { x with state := .onSegment }).bump .manualHit, .manual i e.dest)
      | .diverted => ((t.bump .duplicateTag).raiseEv .duplicate, .duplicate)
      | .onSegment =>
        let u := (t.bump .duplicateTag).raiseEv .duplicate
        match u.referrer i with
        | none => (u, .duplicate)
        | some ref => (u.offer c ref .duplicateTag, .duplicate)

/-- The identity table's part is undone when the write is discarded (R89): an entry made goes to ON_LOOP, an entry moved
returns to what it was with age 0. `old` is the entry before the identification. -/
def State.undoRead (a : IdtAnswer) (old : Option IdtEntry) (s : State) : State :=
  match a with
  | .made i => s.modifyEntry i fun e => { e with state := .onLoop, age := 0 }
  | .returning i => s.setEntries (s.idt.entries.set i (old.map fun e => { e with age := 0 }))
  | .manual i _ => s.setEntries (s.idt.entries.set i (old.map fun e => { e with age := 0 }))
  | .noEntry => s
  | .duplicate => s

/-! ## DIVERT_DONE (R91, R92) -/

/-- The STU counts divert-elsewhere when the entry's destination is not the frame's chute (R92). -/
def State.countElsewhere (e : IdtEntry) (chute : Nat) (s : State) : State :=
  if e.dest = chute then s else s.bump .divertElsewhere

/-- A DIVERT_DONE with an identity and the swept flag clear (R92). -/
def State.retire (c : StationConfig) (id : Identity) (chute : Nat) (s : State) : State :=
  match probe s.idt.entries id.tag id.sailing with
  | none => s.bump .divertDoneUnmatched
  | some i =>
    match entryAt s.idt.entries i with
    | none => s.bump .divertDoneUnmatched
    | some e =>
      let t := s.restartAge i
      match e.state with
      | .onLoop => ((t.modifyEntry i fun x => { x with state := .diverted }).bump .divertDoneHit).countElsewhere e chute
      | .manual => ((t.modifyEntry i fun x => { x with state := .diverted }).bump .divertDoneHit).countElsewhere e chute
      | .diverted => (t.bump .divertDoneUnmatched).countElsewhere e chute
      | .onSegment =>
        let u := (t.bump .divertDoneDuplicate).raiseEv .duplicate
        match u.referrer i with
        | none => u
        | some ref => u.offer c ref .duplicateTag

/-- A DIVERT_DONE taken by the IDT: without an identity or swept it is passed over (R91, log 16). -/
def State.takeDivertDone (c : StationConfig) (d : DivertDone) (s : State) : State :=
  if c.reader || c.desk then
    match d.ident with
    | none => s
    | some id => if d.swept then s.bump .divertDoneSwept else s.retire c id d.chute
  else s

/-! ## Notices (R93 to R96) -/

/-- An entry rewritten with a notice's data, its state and number kept (R94, R95). -/
def noticeEntry (id : Identity) (dest : Nat) (st : EntryState) : IdtEntry where
  tag := id.tag
  sailing := id.sailing
  wildcard := id.sailing == 0
  cabin := id.cabin
  dest := dest
  state := st
  source := .notice
  age := 0

/-- A notice is stored in an entry as MANUAL (R94). -/
def State.storeNotice (i : Nat) (id : Identity) (dest : Nat) (s : State) : State :=
  (s.writeEntry i (noticeEntry id dest .manual)).bump .noticeStored

/-- A notice applied to the record on the segment: identity, destination, every reason cleared, passes 0 (R95, R148). -/
def State.applyNotice (c : StationConfig) (ref : RecRef) (id : Identity) (dest : Nat) (s : State) : State :=
  match s.findRec ref with
  | none => s.bump .lateUpdate
  | some r =>
    let t := (s.mapRec ref fun q => { q with ident := some id, dest := some dest, reason := none, passes := 0 }).tellDestination c ref
      (some dest)
    if r.reason.isSome then t.bump .strayCleared else t

/-- A notice that hits an entry in ON_SEGMENT (R95). -/
def State.noticeOnSegment (c : StationConfig) (i : Nat) (id : Identity) (dest : Nat) (s : State) : State :=
  let t := (s.writeEntry i (noticeEntry id dest .onSegment)).bump .noticeOnSegment
  match t.referrer i with
  | none => t
  | some ref => t.applyNotice c ref id dest

/-- The oldest of the held entries not in ON_SEGMENT, the lowest-numbered among equals, with its age (R96 step 4). -/
def oldestHeld (es : List (Option IdtEntry)) : Nat → Option (Nat × Nat)
  | 0 => none
  | n + 1 =>
    match entryAt es n with
    | none => oldestHeld es n
    | some e =>
      if e.state = .onSegment then oldestHeld es n
      else match oldestHeld es n with
        | none => some (n, e.age)
        | some p => if p.2 < e.age then some (n, e.age) else some p

/-- A notice that misses is given a held entry (R96). -/
def State.missedNotice (id : Identity) (dest : Nat) (s : State) : State :=
  let es := s.idt.entries
  match tagTest es id.tag with
  | some i =>
    if inState es i .onSegment then s.bump .tagClash
    else (s.bump .tagClash).storeNotice i id dest
  | none =>
    match (List.range 16).find? fun i => (entryAt es i).isNone with
    | some i => s.storeNotice i id dest
    | none =>
      match oldestHeld es 16 with
      | some p => (s.countReuse p.1).storeNotice p.1 id dest
      | none => (s.bump .idtFull).raiseEv .idtFull

/-- A desk notice taken by the IDT (R93). -/
def State.takeNotice (c : StationConfig) (id : Identity) (dest : Nat) (s : State) : State :=
  match probe s.idt.entries id.tag id.sailing with
  | none => s.missedNotice id dest
  | some i =>
    if inState s.idt.entries i .onSegment then s.noticeOnSegment c i id dest
    else s.storeNotice i id dest

/-! ## Ageing (R81) -/

/-- Every valid entry ages by one minute, saturating at 63 (R81). -/
def State.ageEntries (s : State) : State :=
  s.setEntries (s.idt.entries.map (Option.map fun e => { e with age := min 63 (e.age + 1) }))

/-- The minute timer expires (R81). -/
def execMinuteTimer (s : State) : Host.Outcome State Fault Refusal :=
  match s.cfg with
  | none => .next s
  | some _ => .next { s.ageEntries with idt := { s.ageEntries.idt with minuteMs := some 0 } }

end Sys2Proof.Machine
end

