-- ==== Sys2Proof/Machine/Wire.lean ====
section
/-! DEFINITION. The bits of a frame on the hall line (R156, 10.6), how a transmitter judges its attempt from the bits it reads
(R157, R158, R161), and how a receiver judges the bits of a frame (R159). A bit is true when it is recessive. -/

namespace Sys2Proof.Machine

open Sys2Proof

/-- One covered bit enters the check register (R156). -/
def checkStep (reg : BitVec 16) (bit : Bool) : BitVec 16 :=
  if reg.msb = bit then reg <<< 1 else (reg <<< 1) ^^^ 0x1021

/-- The 16-bit check of the covered bits (R156). -/
def checkOf (bits : List Bool) : BitVec 16 := bits.foldl checkStep 0xFFFF

/-- A byte and its guard bit, the inverse of its last bit (R156). -/
def guarded (b : Byte) : List Bool := natBits 8 b.toNat ++ [!b.getLsbD 0]

/-- The bits that the check covers: arbitration field, length and payload, without the guard bits (R156). -/
def coveredBits (kind sender : Nat) (payload : List Byte) : List Bool :=
  natBits 4 kind ++ natBits 6 sender ++ natBits 5 payload.length ++ payload.flatMap fun b => natBits 8 b.toNat

/-- The objection slot as the transmitter sends it: two recessive bit times (R156). -/
def slotBits : List Bool := [true, true]

/-- The seven recessive end bits (R156). -/
def endBits : List Bool := List.replicate 7 true

/-- A frame's bits, all 43 + 9n of them (R156, 10.6): start bit, arbitration field, length, guarded payload, guarded check,
objection slot and end bits; a code above 15 has no place. -/
def frameBits (kind sender : Nat) (payload : List Byte) : List Bool :=
  let check := (checkOf (coveredBits kind sender payload)).toNat
  false :: natBits 4 kind ++ natBits 6 sender ++ natBits 5 payload.length ++ payload.flatMap guarded
    ++ guarded (BitVec.ofNat 8 (check / 256)) ++ guarded (BitVec.ofNat 8 (check % 256)) ++ slotBits ++ endBits

/-- The bits of a sent frame that come before its objection slot (R158). -/
def beforeSlot (sent : List Bool) : List Bool := sent.take (sent.length - (slotBits.length + endBits.length))

/-- How an attempt ends (R157, R158, R161). -/
inductive AttemptOutcome where
  | sent
  | lost
  | collision
  /-- the objection slot was read dominant -/
  | objected
  deriving DecidableEq, Repr

/-- The two bit times of the objection slot: dominant in either voids the frame (R159, R161). -/
def judgeSlot (read : List Bool) : AttemptOutcome := if (read.take 2).all id then .sent else .objected

/-- After the arbitration field a bit read other than the one sent is a collision (R158). A bit not given reads recessive. -/
def judgeBody : List Bool → List Bool → AttemptOutcome
  | [], read => judgeSlot read
  | b :: sent, read => if b = read.headD true then judgeBody sent read.tail else .collision

/-- In the arbitration field a recessive bit read dominant has lost (R157). -/
def judgeArbitration : Nat → List Bool → List Bool → AttemptOutcome
  | 0, sent, read => judgeBody sent read
  | _ + 1, [], read => judgeSlot read
  | n + 1, b :: sent, read => if b && !read.headD true then .lost else judgeArbitration n sent read.tail

/-- The outcome of an attempt, from the bits of the frame sent and the bits read, the start bit first: the bits before the slot
are compared, then the slot is judged; the end bits decide nothing. -/
def judgeAttempt (sent read : List Bool) : AttemptOutcome := judgeArbitration 10 (beforeSlot sent).tail read.tail

/-- What a receiver makes of a frame's bits (R159). -/
inductive WireVerdict where
  /-- no fault of the wire's -/
  | good
  /-- a fault, to be objected to in the slot -/
  | bad
  /-- a length over 20, objected to at once -/
  | tooLong
  deriving DecidableEq, Repr

/-- The bit at a place, recessive where the line went on idle. -/
def bitAt (bits : List Bool) (i : Nat) : Bool := bits.getD i true

/-- w bits from a place, as a number. -/
def numAt (bits : List Bool) (i w : Nat) : Nat := bitsNat ((List.range w).map fun k => bitAt bits (i + k))

/-- The byte numbered k after the length field, which starts at bit 16 + 9k counted from 0 (10.6). -/
def byteAt (bits : List Bool) (k : Nat) : Byte := BitVec.ofNat 8 (numAt bits (16 + 9 * k) 8)

/-- The guard bit of that byte is the inverse of its last bit. -/
def guardGood (bits : List Bool) (k : Nat) : Bool := bitAt bits (16 + 9 * k + 8) == !(byteAt bits k).getLsbD 0

/-- The receiver's judgement of the arbitration field, the length, the guard bits and the check (R159). -/
def judgeWire (bits : List Bool) : WireVerdict :=
  let kind := numAt bits 1 4
  let sender := numAt bits 5 6
  let n := numAt bits 11 5
  if n > maxPayload then .tooLong
  else
    let payload := (List.range n).map (byteAt bits)
    let check := (byteAt bits n).toNat * 256 + (byteAt bits (n + 1)).toNat
    if (List.range (n + 2)).all (guardGood bits)
        && check == (checkOf (coveredBits kind sender payload)).toNat && sender != 0 && sender != 63 then .good
    else .bad

end Sys2Proof.Machine
end

