-- ==== Sys2Proof/Machine/Line.lean ====
section
/-! DEFINITION. The hall line (chapter 10): what a station makes of a received frame (R159, R160, R164), the kinds it takes, the
attempts of its own frames (R155 to R161), the line states (R162 to R165), stale handovers (R169) and the refresh timer (R172). -/

namespace Sys2Proof.Machine

open Sys2Proof

/-- The HLC takes a new value. -/
def State.setHlc (h : Hlc) (s : State) : State := { s with hlc := h }

/-- The line states in which frames are received and acted on (R165). -/
def LineState.actsOn : LineState → Bool
  | .offline => false
  | .active => true
  | .quiet => true
  | .lineFault => false
  | .listenOnly => true

/-- What the station drives on a frame, latched (R159, log 30). -/
def State.setObjection (o : Objection) (s : State) : State := s.setHlc { s.hlc with objection := o }

/-- A fault found in a received frame: an ACTIVE station objects, every receiver counts it (R159). -/
def State.rxFault (o : Objection) (s : State) : State :=
  ((s.setObjection (if s.hlc.line = .active then o else .none)).bump .rxMalformed).raiseEv .rxMalformed

/-- A frame under this station's own number (R164). -/
def State.duplicateFound (s : State) : State :=
  (s.setHlc { s.hlc with line := .listenOnly, quietMs := none, dup := true, objection := .none }).bump .duplicateStation

/-- What a station makes of a frame that the wire delivered whole (R159, R160, R164). -/
inductive Reception where
  /-- no frame is received in this line state -/
  | deaf
  /-- a fault, with what an ACTIVE station drives -/
  | fault (o : Objection)
  /-- the slot was dominant: void everywhere -/
  | voided
  /-- under this station's own number -/
  | duplicate
  /-- received complete and unobjected -/
  | good
  deriving DecidableEq, Repr

/-- The judgement of a received frame whose payload is, or is not, well-formed for its kind (R159, R160, R164). -/
def reception (c : StationConfig) (line : LineState) (f : RxFrame) (formed : Bool) : Reception :=
  if !line.actsOn then .deaf
  else if maxPayload < f.payload.length then .fault .early
  else if f.sender = 0 || f.sender = 63 || !formed then .fault .slot
  else if f.voided then .voided
  else if f.sender.toNat = c.station then .duplicate
  else .good

/-- A frame is judged, and one received complete and unobjected is handed to `take` (R160). -/
def State.receive (c : StationConfig) (f : RxFrame) (formed : Bool) (take : State → State) (s : State) : State :=
  match reception c s.hlc.line f formed with
  | .deaf => s
  | .fault o => s.rxFault o
  | .voided => s.setObjection .none
  | .duplicate => s.duplicateFound
  | .good => take (s.setObjection .none)

/-! ## The kinds that a block takes -/

/-- A SEGMENT_STATE as downstream state (R30, R31). -/
def State.hearDownstream (c : StationConfig) (blocked : Bool) (s : State) : State :=
  (s.setBtu { s.btu with down := ⟨true, blocked, some 0, false⟩ }).evalPermit c

/-- The BTU takes a SEGMENT_STATE as downstream state, as upstream state, or both (R170). -/
def State.takeSegmentState (c : StationConfig) (sender : Nat) (v : Nat) (sp : SpeedState) (blocked : Bool) (s : State) : State :=
  let t := match sourceOf c sender with
    | none => s
    | some src => s.mapUpstream src fun u => u.hearState v sp
  if sender ≠ 0 ∧ sender = c.down then t.hearDownstream c blocked else t

/-- A received SEGMENT_STATE (R170). -/
def execSegmentState (f : RxFrame) (s : State) : Host.Outcome State Fault Refusal :=
  match s.cfg with
  | none => .next s
  | some c =>
    match readSegmentState f.payload with
    | none => .next (s.receive c f false id)
    | some p => .next (s.receive c f true fun t => (t.bump .frameTaken).takeSegmentState c f.sender.toNat p.1 p.2.1 p.2.2)

/-- A received HANDOVER (R41). -/
def execHandover (f : RxFrame) (s : State) : Host.Outcome State Fault Refusal :=
  match s.cfg with
  | none => .next s
  | some c =>
    match readHandover f.payload with
    | none => .next (s.receive c f false id)
    | some h => .next (s.receive c f true fun t => (t.bump .frameTaken).takeHandover c f.sender.toNat h)

/-- A received DIVERT_DONE (R91). -/
def execDivertDone (f : RxFrame) (s : State) : Host.Outcome State Fault Refusal :=
  match s.cfg with
  | none => .next s
  | some c =>
    match readDivertDone f.payload with
    | none => .next (s.receive c f false id)
    | some d => .next (s.receive c f true fun t => (t.bump .frameTaken).takeDivertDone c d)

/-- A received IDENTITY_NOTICE, taken at a reader station (R93, R79). -/
def execIdentityNotice (f : RxFrame) (s : State) : Host.Outcome State Fault Refusal :=
  match s.cfg with
  | none => .next s
  | some c =>
    match readIdentityNotice f.payload with
    | none => .next (s.receive c f false id)
    | some p =>
      .next (s.receive c f true fun t => if c.reader then (t.bump .frameTaken).takeNotice c p.1 p.2 else t.bump .frameTaken)

/-- A received CHUTE_STATE (R105, R106). -/
def execChuteState (f : RxFrame) (s : State) : Host.Outcome State Fault Refusal :=
  match s.cfg with
  | none => .next s
  | some c =>
    match readChuteState f.payload with
    | none => .next (s.receive c f false id)
    | some r => .next (s.receive c f true fun t => (t.bump .frameTaken).takeChuteState c f.sender.toNat r)

/-- A received STRAY_NOTICE, checked and taken by no block (R150, R160, log 17). -/
def execStrayNotice (f : RxFrame) (s : State) : Host.Outcome State Fault Refusal :=
  match s.cfg with
  | none => .next s
  | some c => .next (s.receive c f (readStrayNotice f.payload).isSome id)

/-- A received STATUS_REPLY, taken by no block (R160, R170, log 17). -/
def execStatusReply (f : RxFrame) (s : State) : Host.Outcome State Fault Refusal :=
  match s.cfg with
  | none => .next s
  | some c => .next (s.receive c f (statusReplyFormed f.payload) id)

/-- An unknown kind is not handed on, but it is counted, under the own number too (R160, R164, log 18). -/
def State.countUnknown (s : State) : State := (s.bump .unknownKind).raiseEv .unknownKind

/-- A received frame of kind 8 to 15 (R160). From sender 0 or 63 it is the fault of R159: objected to, counted rx-malformed and not
counted unknown-kind, although R160 says that such a kind is not objected to (log 45, DESIGN CHOICE). -/
def execUnknownKind (_code : BitVec 3) (f : RxFrame) (s : State) : Host.Outcome State Fault Refusal :=
  match s.cfg with
  | none => .next s
  | some c =>
    let t := s.receive c f true id
    match reception c s.hlc.line f true with
    | .good => .next t.countUnknown
    | .duplicate => .next t.countUnknown
    | .deaf => .next t
    | .fault _ => .next t
    | .voided => .next t

/-- A frame whose bits break the wire's rules (R159): bits without such a fault are no malformed frame. -/
def execRxMalformed (bits : List Bool) (s : State) : Host.Outcome State Fault Refusal :=
  if s.hlc.line.actsOn then
    match judgeWire bits with
    | .good => .next s
    | .bad => .next (s.rxFault .slot)
    | .tooLong => .next (s.rxFault .early)
  else .next s

/-! ## The station's own frames (R155 to R161, R166, R167) -/

/-- A frame in transmission is at the head of the queue (R166). -/
def Hlc.transmitting (h : Hlc) : Bool := h.queue.any (·.sending)

/-- An ACTIVE station starts its first waiting frame as the line becomes free (R155). -/
def execFrameStart (s : State) : Host.Outcome State Fault Refusal :=
  match s.hlc.queue with
  | [] => .next s
  | f :: rest =>
    if s.hlc.line = .active ∧ s.hlc.transmitting = false then
      .next (s.setHlc { s.hlc with queue := { f with sending := true, overtaken := false } :: rest, objection := .none })
    else .next s

/-- The bits that the station puts on the line for a frame (R156). -/
def txBits (c : StationConfig) (f : Frame) : List Bool := frameBits f.kind c.station f.payload

/-- The station enters QUIET from ACTIVE when its drop tally has reached 3 (R161, R162). It drives no objection from then on
(R165), also where a collision was the third drop and R158 has the station drive that frame's slot (log 44, DESIGN CHOICE). -/
def State.enterQuiet (s : State) : State :=
  if s.hlc.line = .active ∧ 3 ≤ s.hlc.tally then
    (s.setHlc { s.hlc with line := .quiet, quietMs := some 0, objection := .none }).bump .quietEntered
  else s

/-- The frame waits again in its place after a lost or failed attempt (R166), with its retry count as the attempt leaves it. -/
def State.waitAgain (f : OutFrame) (rest : List OutFrame) (retried : Bool) (s : State) : State :=
  s.setOutbound (reinsertFrame { f with sending := false, retried := retried, overtaken := false } rest)

/-- The frame leaves after a lost or failed attempt, because a frame of its class has joined during it (R167). -/
def State.supersede (rest : List OutFrame) (s : State) : State := (s.setOutbound rest).bump .superseded

/-- The second failed attempt drops the frame (R161). -/
def State.dropFailed (rest : List OutFrame) (s : State) : State :=
  (((s.setHlc { s.hlc with queue := rest, tally := min 3 (s.hlc.tally + 1) }).bump .droppedFailed).raiseEv .dropped).enterQuiet

/-- A failed attempt counts against the frame (R161), unless it is superseded (R167). -/
def State.attemptFailed (f : OutFrame) (rest : List OutFrame) (s : State) : State :=
  if f.overtaken then s.supersede rest
  else if f.retried then s.dropFailed rest
  else s.waitAgain f rest true

/-- A lost arbitration does not count against the frame (R157, R161). -/
def State.attemptLost (f : OutFrame) (rest : List OutFrame) (s : State) : State :=
  if f.overtaken then (s.bump .arbitrationLost).supersede rest
  else (s.bump .arbitrationLost).waitAgain f rest f.retried

/-- A transmitter that has a collision stops driving, is counted, and objects in the slot of that frame (R158), while it is ACTIVE:
in any other line state it drives no objection (R163, R165). The slot that the station itself drives then counts no own-objected,
although R161 counts one for a dominant slot (log 49, DESIGN CHOICE). -/
def State.collide (s : State) : State :=
  ((s.setObjection (if s.hlc.line = .active then .slot else .none)).bump .collision).raiseEv .collision

/-- A frame sent leaves the queue and clears the drop tally (R161). -/
def State.attemptSent (rest : List OutFrame) (s : State) : State :=
  (s.setHlc { s.hlc with queue := rest, tally := 0 }).bump .frameSent

/-- What the end of an attempt does, by its outcome (R157, R158, R161); a collision that makes the third drop ends with no
objection, because the station is then QUIET (log 44). An attempt ends in one way and counts once: own-objected counts where the
slot was read dominant after an attempt without a collision (log 49, DESIGN CHOICE). -/
def State.endAttempt (f : OutFrame) (rest : List OutFrame) (o : AttemptOutcome) (s : State) : State :=
  match o with
  | .sent => s.attemptSent rest
  | .lost => s.attemptLost f rest
  | .collision => s.collide.attemptFailed f rest
  | .objected => (s.bump .ownObjected).attemptFailed f rest

/-- The attempt of the frame in transmission ends, judged from the bits read on the line (R157, R158, R161). -/
def execAttemptEnd (read : List Bool) (s : State) : Host.Outcome State Fault Refusal :=
  match s.cfg with
  | none => .next s
  | some c =>
    match s.hlc.queue with
    | [] => .next s
    | f :: rest => if f.sending then .next (s.endAttempt f rest (judgeAttempt (txBits c f.frame) read)) else .next s

/-! ## Line states (R162, R163) -/

/-- The QUIET timer expires (R162). -/
def execQuietTimer (s : State) : Host.Outcome State Fault Refusal :=
  if s.hlc.line = .quiet then
    .next (s.setHlc { s.hlc with line := .active, quietMs := none, tally := 0 }).queueSegmentState
  else .next s

/-- The line has read dominant for 32 bit times (R163); from QUIET the timer stops and the tally clears (R162). -/
def execLineFault (s : State) : Host.Outcome State Fault Refusal :=
  if s.hlc.line.actsOn then
    .next ((s.setHlc { s.hlc with
      line := .lineFault, quietMs := none, objection := .none
      tally := if s.hlc.line = .quiet then 0 else s.hlc.tally }).bump .lineFaultEntered)
  else .next s

/-- The line has read recessive for 128 bit times (R163). -/
def execLineFaultExit (s : State) : Host.Outcome State Fault Refusal :=
  if s.hlc.line = .lineFault then
    if s.hlc.dup then .next (s.setHlc { s.hlc with line := .listenOnly })
    else .next (s.setHlc { s.hlc with line := .active }).queueSegmentState
  else .next s

/-! ## Stale handovers and the refresh timer (R169, R172) -/

/-- A waiting HANDOVER whose exit count lies too far behind E (R169). -/
def staleFrame (c : StationConfig) (e : Count) (o : OutFrame) : Bool :=
  !o.sending &&
    match o.frame with
    | .handover _ x => decide (c.dExit + c.lateGrace < fwd x e)
    | .segmentState _ _ _ => false
    | .divertDone _ => false
    | .identityNotice _ _ => false
    | .chuteState _ => false
    | .strayNotice _ => false
    | .statusReply _ => false

/-- A waiting HANDOVER has gone stale: the oldest such leaves the queue (R169, log 28). -/
def execHandoverStale (s : State) : Host.Outcome State Fault Refusal :=
  match s.cfg with
  | none => .next s
  | some c =>
    if s.hlc.queue.any (staleFrame c s.btu.e) then
      .next (((s.setOutbound (s.hlc.queue.eraseP (staleFrame c s.btu.e))).bump .droppedStale).raiseEv .dropped)
    else .next s

/-- A refresh period ends: SEGMENT_STATE (R171), the ageing of the view (R108), the own CHUTE_STATE frames (R141). -/
def State.refresh (c : StationConfig) (s : State) : State :=
  ((((s.setHlc { s.hlc with refreshMs := some 0 }).queueSegmentState).ageView c).refreshChute .d0).refreshChute .d1

/-- The refresh timer expires (R172); it does not run while there is no configuration. -/
def execRefreshTimer (s : State) : Host.Outcome State Fault Refusal :=
  match s.cfg with
  | none => .next s
  | some c => .next (s.refresh c)

end Sys2Proof.Machine
end

