-- ==== Sys2Proof/Machine/Status.lean ====
section
/-! DEFINITION. Status queries and replies (11.3): the head and the pages of a STATUS_REPLY, the zeroing of a counter group, the
clearing of event bits, and the segment clear that a query may carry (R180, R181, R36). -/

namespace Sys2Proof.Machine

open Sys2Proof

/-- An item of a state page: how many bits it takes, and its value (R181). -/
abbrev Item := Nat × Nat

/-- A flag, mark or level takes 1 bit (R181). -/
def flagItem (b : Bool) : Item := (1, b.toNat)

/-- Items packed with no space between them (R181). -/
def packItems (items : List Item) : List Byte := packBits (items.flatMap fun i => natBits i.1 i.2)

/-! ## Counter pages -/

/-- Where the counters of groups 1 to 3 start, and how many each has (R181). -/
def groupSpan : Nat → Nat × Nat
  | 1 => (0, 34)
  | 2 => (34, 30)
  | 3 => (64, 53)
  | _ => (0, 0)

/-- The flow counters in the order of R35. -/
def Flow.list (f : Flow) : List Flow32 := [f.entered, f.exited, f.diverted0, f.diverted1, f.swept, f.cleared, f.untracked]

/-- A counter page: entries 8p to 8p + 7 as 16-bit values, or four flow counters as 32-bit values in group 0 (R181). -/
def State.counterPage (s : State) (group page : Nat) : List Byte :=
  if group = 0 then ((s.btu.flow.list.drop (4 * page)).take 4).flatMap fun x => natBytes 4 x.toNat
  else
    ((((s.stu.counters.drop (groupSpan group).1).take (groupSpan group).2).drop (8 * page)).take 8).flatMap fun x => natBytes 2 x.toNat

/-! ## State pages -/

/-- Page 8: the event bits, then the level conditions (R181). -/
def State.page8 (s : State) : List Item :=
  (s.stu.events ++ s.chuteLevels ++ s.lineLevels ++ [s.cfl.load.isInvalid]).map flagItem

/-- A source's places on page 9; one that is not configured reads 0 (R181). -/
def sourceItems (configured : Bool) (u : Upstream) : List Item :=
  if configured then [(2, u.reported.code), (10, u.vsrc), flagItem u.silent] else [(2, 0), (10, 0), (1, 0)]

/-- Page 9 (R181). -/
def State.page9 (c : StationConfig) (s : State) : List Item :=
  [(5, s.btu.queue.length), (5, (s.btu.queue.filter fun r => r.reason.any Reason.soft).length)
  , (5, (s.btu.queue.filter fun r => r.reason.any Reason.hard).length), (4, s.btu.expects.length)]
    ++ sourceItems (c.upA != 0) s.btu.upA ++ sourceItems (c.upB != 0) s.btu.upB
    ++ [flagItem s.btu.down.heard, flagItem s.btu.down.lastBlocked, flagItem s.btu.down.silent, (2, s.hlc.tally)]

/-- The number of valid entries in a state (R97). -/
def Idt.countIn (t : Idt) (st : EntryState) : Nat := (t.entries.filter fun o => o.any (·.state == st)).length

/-- A diverter's places on page 10 (R132). -/
def Diverter.items (x : Diverter) : List Item := [(2, x.eng.code), (2, x.grants.length), (2, x.confirms.length)]

/-- Page 10 (R181); the counts of entries take 8 bits each (log 22), and the four states stand in the order in which R77 lists
them, since R181 names no order (log 48, DESIGN CHOICE). -/
def State.page10 (s : State) : List Item :=
  [(8, s.idt.countIn .onSegment), (8, s.idt.countIn .onLoop), (8, s.idt.countIn .diverted), (8, s.idt.countIn .manual)
  , (7, s.idt.pointer)] ++ s.dvs.d0.items ++ s.dvs.d1.items

/-- An account's places on page 11, 0 where there is none (R143, R181). -/
def accountItems : Option Account → List Item
  | none => [(5, 0), (3, 0), (12, 0), (12, 0), (1, 0), (1, 0), (3, 0)]
  | some a =>
    [(5, a.chute), (3, a.state.code), (12, a.fill), (12, a.capacity), flagItem a.fullSensor, flagItem a.closeSwitch, (3, a.lastSent.code)]

/-- Page 11 (R181). -/
def State.page11 (s : State) : List Item := accountItems s.dvs.d0.account ++ accountItems s.dvs.d1.account

/-- The fill share of a view entry (R181). -/
def fillShare (e : ViewEntry) : Nat := if e.capacity = 0 then 0 else min 15 (16 * e.fill / e.capacity)

/-- A view entry's places (R181). -/
def ViewEntry.items (e : ViewEntry) : List Item := [(3, e.state.code), (2, e.age), (6, e.owner), (4, fillShare e)]

/-- Pages 12 to 15: eight view entries each, the last with seven (R181). -/
def State.viewPage (s : State) (k : Nat) : List Item := ((s.rrv.view.drop (8 * k)).take 8).flatMap ViewEntry.items

/-- The body of a reply (R181). -/
def State.replyBody (c : StationConfig) (group page : Nat) (s : State) : List Byte :=
  if page < 8 then s.counterPage group page
  else if page = 8 then packItems s.page8
  else if page = 9 then packItems (s.page9 c)
  else if page = 10 then packItems s.page10
  else if page = 11 then packItems s.page11
  else packItems (s.viewPage (page - 12))

/-! ## The query (R180) -/

/-- The head of a reply (R181). -/
def State.replyHead (q : Query) (s : State) : List Byte :=
  [q.tag]
    ++ packItems [(4, s.hlc.queue.length), (1, 0), (3, s.hlc.line.code)]
    ++ packItems (Block.all.map (fun b => flagItem (s.summary b)) ++ [flagItem s.btu.blockedFlag])
    ++ packItems [(2, s.btu.speed.code), flagItem s.btu.permit, flagItem q.zero, flagItem q.clear, (3, 0)]

/-- A STATUS_REPLY assembled from the values as they stand (R181). -/
def State.reply (c : StationConfig) (q : Query) (s : State) : List Byte := s.replyHead q ++ s.replyBody c q.group q.page

/-- The zeroing of the flow counters: entered takes the queue count (R36). -/
def State.zeroFlow (s : State) : State :=
  s.setBtu { s.btu with flow := { Flow.reset with entered := BitVec.ofNat 32 s.btu.queue.length } }

/-- The zeroing of a counter group (R180). -/
def State.zeroGroup (group : Nat) (s : State) : State :=
  if group = 0 then s.zeroFlow
  else
    { s with stu := { s.stu with
        counters := s.stu.counters.mapIdx fun i x =>
          if (groupSpan group).1 ≤ i ∧ i < (groupSpan group).1 + (groupSpan group).2 then 0 else x } }

/-- A query taken by the station, in the order of R180. -/
def State.takeQuery (c : StationConfig) (q : Query) (s : State) : State :=
  let t := s.bump .queryTaken
  let t := t.queueFrame (.statusReply (t.reply c q))
  let t := if q.zero then t.zeroGroup q.group else t
  let t := t.clearEvents q.mask
  if q.clear then t.segmentClear c else t

/-- A query is for this station, for all, or for another (R180). -/
def State.screenQuery (c : StationConfig) (q : Query) (s : State) : State :=
  if q.target = c.station ∨ q.target = 63 then s.takeQuery c q else s.bump .queryOther

/-- A received STATUS_QUERY (R180). Its frame-taken is counted before the reply is assembled, so the reply shows it and a
zeroing of group 3 takes it: the spec gives no order (log 46, DESIGN CHOICE). -/
def State.statusQuery (f : RxFrame) (s : State) : State :=
  match s.cfg with
  | none => s
  | some c =>
    match readStatusQuery f.payload with
    | none => s.receive c f false id
    | some q => s.receive c f true fun t => (t.bump .frameTaken).screenQuery c q

/-- A received STATUS_QUERY (R180, log 46). -/
def execStatusQuery (f : RxFrame) (s : State) : Host.Outcome State Fault Refusal := .next (s.statusQuery f)

end Sys2Proof.Machine
end

