-- ==== Sys2Proof/Machine/Scan.lean ====
section
/-! DEFINITION. Tag reads and read association (chapter 4) and the desk path (R151, R152): the record assembler, the check
character, the candidates of a read, the identification and its undoing, and the read decision point. -/

namespace Sys2Proof.Machine

open Sys2Proof

/-! ## Bytes of the scanner line (R60 to R63) -/

/-- R, N and M: the letters that begin a record. -/
def letterR : Byte := 0x52
/-- N -/
def letterN : Byte := 0x4E
/-- M -/
def letterM : Byte := 0x4D
/-- X, the check character for 10 -/
def letterX : Byte := 0x58
/-- carriage return -/
def charCR : Byte := 0x0D
/-- line feed -/
def charLF : Byte := 0x0A

/-- The digits 0 to 9. -/
def isDigit (b : Byte) : Bool := decide (0x30 ≤ b.toNat ∧ b.toNat ≤ 0x39)

/-- What the assembler makes of a byte, given the characters held (R62). -/
inductive Fit where
  | collect
  | complete
  | abandon
  deriving DecidableEq, Repr

/-- The place that the next byte takes in the record (R62). -/
def fitByte (held : List Byte) (b : Byte) : Fit :=
  if held.head? = some letterN then (if b = charCR then .complete else .abandon)
  else if held.length < 20 then (if isDigit b then .collect else .abandon)
  else if held.length = 20 then (if isDigit b || b == letterX then .collect else .abandon)
  else if b = charCR then .complete else .abandon

/-! ## The check character (R64) -/

/-- The multipliers 2, 3, 5, 7, repeating. -/
def multiplier (i : Nat) : Nat := [2, 3, 5, 7].getD (i % 4) 0

/-- The check over the digits, 0 to 10 (R64). -/
def checkDigits (digits : List Nat) : Nat := (digits.zipIdx.map fun p => p.1 * multiplier p.2).sum % 11

/-- The character that a check is written as. -/
def checkChar (n : Nat) : Byte := if n = 10 then letterX else BitVec.ofNat 8 (0x30 + n)

/-- The decimal number of some digits. -/
def decimal (digits : List Nat) : Nat := digits.foldl (fun n d => 10 * n + d) 0

/-- The digit that a character stands for. -/
def digitOf (b : Byte) : Nat := b.toNat - 0x30

/-- The 19 digits of a complete R or M record. -/
def recordDigits (held : List Byte) : List Nat := ((held.drop 1).take 19).map digitOf

/-- The tag, sailing and cabin of a complete R or M record (R64). -/
def recordIdentity (held : List Byte) : Identity where
  tag := decimal ((recordDigits held).take 10)
  sailing := decimal (((recordDigits held).drop 10).take 4)
  cabin := decimal ((recordDigits held).drop 14)

/-- The record's check character equals the check of its digits (R64). -/
def recordValid (held : List Byte) : Bool := held.getD 20 0 == checkChar (checkDigits (recordDigits held))

/-! ## Candidates (R65, R66) -/

/-- What a read record tells of the bag (R69). -/
inductive Scan where
  | noRead
  | badCheck
  | valid (id : Identity)
  deriving DecidableEq, Repr

/-- The scan count E_scan (R65). -/
def scanCount (rc : ReaderConfig) (s : State) : Count := s.btu.e - BitVec.ofNat 24 (ticksOf rc.latency s.btu.v)

/-- A record is a candidate for a read at a scan count (R65, R66). -/
def isCandidate (rc : ReaderConfig) (scan : Count) (r : SegRec) : Bool :=
  atOrAfter scan r.ein && decide (rc.pRead ≤ fwd r.ein scan + rc.margin)
    && r.len.all fun l => decide (fwd r.ein scan ≤ rc.pRead + rc.margin + l)

/-- The candidates, oldest first. -/
def candidates (rc : ReaderConfig) (s : State) : List SegRec := s.btu.queue.filter (isCandidate rc (scanCount rc s))

/-! ## Failed reads, double reads, conflicts (R67 to R71) -/

/-- Two identities have the same tag (R69). -/
def Identity.sameTag (i j : Identity) : Bool := i.tag == j.tag && i.sailing == j.sailing

/-- A candidate of an ambiguous read: left alone when it is READ, otherwise marked and offered AMBIGUOUS (R68). -/
def State.ambiguousCandidate (c : StationConfig) (r : SegRec) (s : State) : State :=
  if r.readStatus = .read then s
  else (s.updateRec r.ref fun q => { q with ambiguous := true }).offer c r.ref .ambiguous

/-- An ambiguous read (R68). -/
def State.ambiguousRead (c : StationConfig) (rs : List SegRec) (s : State) : State :=
  rs.foldl (fun t r => t.ambiguousCandidate c r) ((s.bump .ambiguousRead).raiseEv .ambiguousRead)

/-- A failed read on a single candidate that is not READ (R70). -/
def State.failedRead (c : StationConfig) (r : SegRec) (reason : Reason) (s : State) : State :=
  let t := s.updateRec r.ref fun q => { q with readStatus := .noRead }
  if r.ident.isNone then t.offer c r.ref reason else t

/-- A tag conflict (R71). -/
def State.conflict (c : StationConfig) (r : SegRec) (s : State) : State :=
  (((s.updateRec r.ref fun q => { q with readStatus := .read }).bump .tagConflict).raiseEv .readConflict).offer c r.ref .tagConflict

/-! ## Identification (R72, R73) -/

/-- What steps 1 to 3 of an identification found (R72). -/
structure Finding where
  id : Identity
  /-- the sailing check refused the read -/
  refused : Bool
  answer : IdtAnswer
  /-- the entry that the read hit, as it was before -/
  old : Option IdtEntry
  /-- the chute of the decode or of the MANUAL entry -/
  chute : Option Nat
  reason : Option Reason
  deriving DecidableEq, Repr

/-- The read hit a MANUAL entry. -/
def IdtAnswer.isManual : IdtAnswer → Bool
  | .manual _ _ => true
  | .made _ => false
  | .returning _ => false
  | .noEntry => false
  | .duplicate => false

/-- Steps 2 and 3 of R72 for a read whose sailing was accepted. -/
def State.findEntry (c : StationConfig) (sl : Sailing) (id : Identity) (s : State) : State × Finding :=
  let p := s.readIdt c id
  let old := (p.2.entry.bind fun i => entryAt s.idt.entries i)
  let decode := decodeDestination c p.1.rrv sl id.cabin
  match p.2 with
  | .duplicate => (p.1, ⟨id, false, p.2, old, none, some .duplicateTag⟩)
  | .manual _ dest => (p.1, ⟨id, false, p.2, old, some dest, none⟩)
  | .made _ => (p.1.countDecode decode, ⟨id, false, p.2, old, decode.chute, decode.reason⟩)
  | .returning _ => (p.1.countDecode decode, ⟨id, false, p.2, old, decode.chute, decode.reason⟩)
  | .noEntry => (p.1.countDecode decode, ⟨id, false, p.2, old, decode.chute, decode.reason⟩)

/-- Steps 1 to 3 of R72. -/
def State.find (c : StationConfig) (rc : ReaderConfig) (id : Identity) (s : State) : State × Finding :=
  let sl := sailingCheck rc id.sailing
  let t := s.countSailing sl
  if sl = .refused then (t, ⟨id, true, .noEntry, none, none, some .wrongSailing⟩) else t.findEntry c sl id

/-- The reason a record still holds after the identification's clearing: none after a MANUAL hit, a hard one otherwise (R73, R148). -/
def Finding.heldAfter (f : Finding) (r : SegRec) : Option Reason :=
  if f.answer.isManual then none else r.reason.filter fun x => !x.soft

/-- The reason the record ends the identification with (R73, R146). -/
def Finding.finalReason (f : Finding) (r : SegRec) : Option Reason :=
  match f.reason with
  | none => f.heldAfter r
  | some x => if offerTakes (f.heldAfter r) x then some x else f.heldAfter r

/-- The destination the record ends the identification with (R73). -/
def Finding.finalDest (c : StationConfig) (f : Finding) (r : SegRec) : Option Nat :=
  if (f.finalReason r).isSome then some c.problem else f.chute

/-- The record as the identification writes it (R73). -/
def Finding.write (c : StationConfig) (f : Finding) (r : SegRec) : SegRec :=
  { r with
    ident := if f.refused && maxSailing < f.id.sailing then r.ident else some f.id
    entry := f.answer.entry.or r.entry
    readStatus := .read
    ambiguous := false
    reason := f.finalReason r
    passes := if f.answer.isManual then 0 else r.passes
    dest := f.finalDest c r }

/-- The entry's destination is the one the record ends the identification with (R85). -/
def State.writeEntryDest (f : Finding) (dest : Option Nat) (s : State) : State :=
  match f.answer.entry with
  | none => s
  | some i => s.setEntryDest i (orZero dest)

/-- The stray counters and the notice of the write: a clearing, then an offer (R148, R146, R149). -/
def State.reportWrite (c : StationConfig) (f : Finding) (r : SegRec) (s : State) : State :=
  let t := if r.reason.isSome && (f.heldAfter r).isNone then s.bump .strayCleared else s
  match f.reason with
  | none => t
  | some x =>
    if offerTakes (f.heldAfter r) x then
      (t.bump (if (f.heldAfter r).isNone then .straySet else .strayReplaced)).queueFrame
        (.strayNotice { reason := x, ident := (f.write c r).ident, passes := (f.write c r).passes, chute := orZero r.dest
                        origin := r.origin })
    else t.bump .strayKept

/-- Step 4 of R72: the write, or its discarding as a late update with the table's part undone (R73, R89). `r` is the record as
the read found it. A discarded write does not count good-read (log 43, DESIGN CHOICE). -/
def State.writeFinding (c : StationConfig) (f : Finding) (r : SegRec) (s : State) : State :=
  match s.findRec r.ref with
  | none => ((s.bump .lateUpdate).writeEntryDest f (f.finalDest c r)).undoRead f.answer f.old
  | some q =>
    ((((s.mapRec r.ref (f.write c)).bump .goodRead).tellDestination c r.ref (f.finalDest c q)).reportWrite c f q).writeEntryDest f
      (f.finalDest c q)

/-- The removal that comes together with the write and is taken first (R89, log 7). -/
def State.takeRace (c : StationConfig) (race : Option Race) (s : State) : State :=
  match race with
  | none => s
  | some .exitEdge => s.acceptLeading c .exit
  | some (.overdue r) => s.overduePoint c r
  | some (.confirmEdge d) => s.acceptLeading c (.confirm d)
  | some (.rawChange eye blocked) => s.eyeRawChange eye blocked
  | some .jamClr => s.jamClr
  | some (.statusQuery f) => s.statusQuery f

/-- An identification (R72). -/
def State.identify (c : StationConfig) (rc : ReaderConfig) (id : Identity) (r : SegRec) (race : Option Race) (s : State) : State :=
  let p := s.find c rc id
  (p.1.takeRace c race).writeFinding c p.2 r

/-! ## Association (R67 to R70) -/

/-- A read with exactly one candidate (R69). -/
def State.singleRead (c : StationConfig) (rc : ReaderConfig) (scan : Scan) (r : SegRec) (race : Option Race) (s : State) : State :=
  match scan with
  | .valid id =>
    if r.readStatus = .read ∧ r.ident.any (·.sameTag id) = true then s.bump .doubleRead
    else if r.ident.any (fun i => !i.sameTag id) then s.conflict c r
    else s.identify c rc id r race
  | .badCheck => if r.readStatus = .read then s else s.failedRead c r .badCheck
  | .noRead => if r.readStatus = .read then s.bump .doubleRead else (s.bump .noRead).failedRead c r .noRead

/-- A read is associated with a bag on the belt by the count of its candidates (R66 to R69). -/
def State.associate (c : StationConfig) (rc : ReaderConfig) (scan : Scan) (race : Option Race) (s : State) : State :=
  match candidates rc s with
  | [] => (s.bump .unassociated).raiseEv .unassociated
  | [r] => s.singleRead c rc scan r race
  | rs => s.ambiguousRead c rs

/-! ## The desk path (R151, R152) -/

/-- A refused M record (R151). -/
def State.deskRefuse (ctr : Ctr) (s : State) : State := (s.bump ctr).raiseEv .deskRefused

/-- An accepted M record (R152). -/
def State.deskAccept (c : StationConfig) (id : Identity) (dest : Nat) (s : State) : State :=
  let t := (s.bump .deskAccepted).queueFrame (.identityNotice id dest)
  if c.reader then t.takeNotice c id dest else t

/-- The desk path takes a complete M record (R151). -/
def State.deskRecord (c : StationConfig) (rc : ReaderConfig) (valid : Bool) (id : Identity) (s : State) : State :=
  if !valid then s.deskRefuse .deskRefusedCheck
  else if sailingCheck rc id.sailing = .refused then s.deskRefuse .deskRefusedSailing
  else match decodeDestination c s.rrv (sailingCheck rc id.sailing) id.cabin with
    | .noCabin => s.deskRefuse .deskRefusedCabin
    | .unavailable => s.deskRefuse .deskRefusedClosed
    | .primary n => s.deskAccept c id n
    | .overflow n => s.deskAccept c id n
    | .primaryFull n => s.deskAccept c id n

/-! ## The assembler (R61, R62, R63) -/

/-- The assembler and its gap timer take new values. -/
def State.setAsm (a : Assembler) (gap : Option Nat) (s : State) : State := { s with rdu := ⟨a, gap⟩ }

/-- A record is abandoned (R61, R62, R63). -/
def State.scanAbandon (s : State) : State := (s.bump .malformed).raiseEv .scanMalformed

/-- A complete record is the receipt event; it goes by its kind and the station's roles (R60, R64, log 42). -/
def State.receipt (c : StationConfig) (held : List Byte) (race : Option Race) (s : State) : State :=
  if held.head? = some letterN then
    match c.reader, c.readerSection with
    | true, some rc => s.associate c rc .noRead race
    | _, _ => s.bump .scanUnused
  else
    let valid := recordValid held
    let t := if valid then s else s.bump .badCheck
    if held.head? = some letterR then
      match c.reader, c.readerSection with
      | true, some rc => t.associate c rc (if valid then .valid (recordIdentity held) else .badCheck) race
      | _, _ => t.bump .scanUnused
    else
      match c.desk, c.readerSection with
      | true, some rc => t.deskRecord c rc valid (recordIdentity held)
      | _, _ => t.bump .manualIgnored

/-- A byte in IDLE (R61). -/
def State.byteIdle (b : Byte) (framing : Bool) (s : State) : State :=
  if !framing && (b == letterR || b == letterN || b == letterM) then s.setAsm (.assembling [b]) (some 0)
  else if !framing && (b == charLF || b == charCR) then s
  else s.scanAbandon.setAsm .discarding (some 0)

/-- A byte in ASSEMBLING (R62). -/
def State.byteAssembling (c : StationConfig) (held : List Byte) (b : Byte) (framing : Bool) (race : Option Race) (s : State) : State :=
  if framing then s.scanAbandon.setAsm .discarding (some 0)
  else match fitByte held b with
    | .collect => s.setAsm (.assembling (held ++ [b])) (some 0)
    | .complete => (s.setAsm .idle none).receipt c held race
    | .abandon => if b = charCR then s.scanAbandon.setAsm .idle none else s.scanAbandon.setAsm .discarding (some 0)

/-- A byte in DISCARDING (R62). -/
def State.byteDiscarding (b : Byte) (framing : Bool) (s : State) : State :=
  if b = charCR ∧ framing = false then s.setAsm .idle none else s.setAsm .discarding (some 0)

/-- A byte received on SCAN_RX (R61, R62); ignored while there is no configuration (R60). -/
def execScanByte (b : Byte) (framing : Bool) (race : Option Race) (s : State) : Host.Outcome State Fault Refusal :=
  match s.cfg with
  | none => .next s
  | some c =>
    match s.rdu.asm with
    | .idle => .next (s.byteIdle b framing)
    | .assembling held => .next (s.byteAssembling c held b framing race)
    | .discarding => .next (s.byteDiscarding b framing)

/-- Six ticks of the time base without a byte (R63). -/
def execScanGapTimeout (s : State) : Host.Outcome State Fault Refusal :=
  match s.rdu.asm with
  | .idle => .next s
  | .assembling _ => .next (s.scanAbandon.setAsm .idle none)
  | .discarding => .next (s.setAsm .idle none)

/-! ## The read decision point (R74) -/

/-- A record reaches P_dec at a reader station (R74). -/
def execReadDecisionPoint (ref : RecRef) (s : State) : Host.Outcome State Fault Refusal :=
  match s.cfg with
  | none => .next s
  | some c =>
    match s.recAt c .readDecision ref with
    | none => .next s
    | some r =>
      let t := s.takePoint .readDecision ref
      if r.readStatus = .none then
        let t := (t.mapRec ref fun q => { q with readStatus := .noRead }).bump .noReadDecision
        let t := if r.ident.isNone then t.offer c ref .noRead else t
        .next (if r.ambiguous then t.bump .ambiguousUnresolved else t)
      else .next t

end Sys2Proof.Machine
end

