-- ==== Sys2Proof/Machine/ConfigImage.lean ====
section
/-! DEFINITION. The judgement of a configuration image: the header (R175), the section chain and layouts (R176), and the values
and cross checks (R177, with R38, R98, R100, R111). -/

namespace Sys2Proof.Machine

open Sys2Proof

/-- The byte of an image at a place, 0 where the list is too short (log 35). -/
def imageByte (img : List Byte) (i : Nat) : Nat := (img.getD i 0).toNat

/-- Two bytes, high byte first. -/
def imageWord (img : List Byte) (i : Nat) : Nat := 256 * imageByte img i + imageByte img (i + 1)

/-- The used length (R175). -/
def usedLength (img : List Byte) : Nat := imageWord img 3

/-- The sum of bytes 0 to used length − 1, leaving out bytes 5 and 6, modulo 65536 (R175). -/
def imageSum (img : List Byte) : Nat :=
  ((((img.take (usedLength img)).zipIdx.filter fun p => p.2 != 5 && p.2 != 6).map fun p => p.1.toNat).sum) % 65536

/-- Steps 1 to 4 of R175: the first that fails, none when all pass. -/
def judgeHeader (img : List Byte) : Option BadReason :=
  if img.all (· == 0xFF) then some .noMemory
  else if !(imageByte img 0 == 0xA5 && imageByte img 1 == 0x3C && imageByte img 2 == 1) then some .badSignature
  else if usedLength img < 8 || 256 < usedLength img then some .badValue
  else if imageWord img 5 != imageSum img then some .badCheck
  else none

/-! ## The section chain (R176) -/

/-- The known sections that a walk of the chain has met, each by its offset in the image, and how many it skipped. -/
structure Sections where
  station : Option Nat
  geometry : Option Nat
  speed : Option Nat
  reader : Option Nat
  div0 : Option Nat
  div1 : Option Nat
  route : Option Nat
  skipped : Nat
  deriving DecidableEq, Repr

/-- No section met. -/
def Sections.empty : Sections := ⟨none, none, none, none, none, none, none, 0⟩

/-- A section is misplaced (R176). -/
def misplaced (img : List Byte) (off : Nat) : Bool :=
  let size := imageByte img (off + 1)
  let next := imageByte img (off + 2)
  off < 8 || size < 3 || usedLength img ≤ off + size - 1 || (next != 0 && next < off + size)

/-- A section is met: none when its size is not its layout's, or when it is one too many (R176). -/
def Sections.meet (t : Sections) (kind size off : Nat) : Option Sections :=
  match kind with
  | 1 => if size = 11 ∧ t.station = none then some { t with station := some off } else none
  | 2 => if size = 15 ∧ t.geometry = none then some { t with geometry := some off } else none
  | 3 => if size = 6 ∧ t.speed = none then some { t with speed := some off } else none
  | 4 => if size = 14 ∧ t.reader = none then some { t with reader := some off } else none
  | 5 =>
    if size ≠ 16 then none
    else if t.div0 = none then some { t with div0 := some off }
    else if t.div1 = none then some { t with div1 := some off }
    else none
  | 6 => if 6 ≤ size ∧ (size - 6) % 6 = 0 ∧ (size - 6) / 6 ≤ 24 ∧ t.route = none then some { t with route := some off } else none
  | _ => some { t with skipped := t.skipped + 1 }

/-- The walk of the chain from an offset, 0 ending it (R176): the sections met, and whether the whole chain was good. Offsets
rise by at least 3 at every section, so that 86 steps suffice for 256 bytes. -/
def walkChain (img : List Byte) : Nat → Nat → Sections → Sections × Bool
  | 0, _, t => (t, false)
  | n + 1, off, t =>
    if off = 0 then (t, true)
    else if misplaced img off then (t, false)
    else match t.meet (imageByte img off) (imageByte img (off + 1)) off with
      | none => (t, false)
      | some u => walkChain img n (imageByte img (off + 2)) u

/-! ## The values (R176, R177) -/

/-- The slot codes of a range (R176). -/
def Slot.ofCode : Nat → Option Slot
  | 1 => some .a
  | 2 => some .b
  | 3 => some .any
  | _ => none

/-- The range whose 6 bytes start at an offset (R176). -/
def imageRange (img : List Byte) (off : Nat) : Option Range :=
  let n := bytesNat ((img.drop off).take 6)
  (Slot.ofCode (field n 47 46)).map fun sl =>
    { slot := sl, low := field n 45 29, high := field n 28 12, primary := field n 9 5, overflow := field n 4 0 }

/-- The READER section at an offset. -/
def imageReader (img : List Byte) (o : Nat) : ReaderConfig where
  pRead := imageWord img (o + 3)
  pDec := imageWord img (o + 5)
  margin := imageWord img (o + 7)
  latency := imageByte img (o + 9)
  sailingA := imageWord img (o + 10)
  sailingB := imageWord img (o + 12)

/-- A DIVERTER section at an offset. -/
def imageDiverter (img : List Byte) (o : Nat) : DiverterConfig where
  chute := imageByte img (o + 3)
  pDiv := imageWord img (o + 4)
  commit := imageWord img (o + 6)
  actuation := imageByte img (o + 8)
  hold := imageWord img (o + 9)
  recovery := imageByte img (o + 11)
  window := imageWord img (o + 12)
  capacity := imageWord img (o + 14)

/-- The priority source codes: 0 A, 1 B (R176). -/
def sourceCode : Nat → Option Source
  | 0 => some .a
  | 1 => some .b
  | _ => none

/-- The configuration that an image's sections give; none when a required section is missing or a code has no meaning (R176). -/
def readConfig (img : List Byte) (t : Sections) : Option StationConfig := do
  let st ← t.station
  let g ← t.geometry
  let sp ← t.speed
  let ro ← t.route
  let prio ← sourceCode (imageByte img (st + 7))
  let ranges ← ((List.range ((imageByte img (ro + 1) - 6) / 6)).mapM fun k => imageRange img (ro + 6 + 6 * k))
  let roles := img.getD (st + 9) 0
  some
    { station := imageByte img (st + 3), upA := imageByte img (st + 4), upB := imageByte img (st + 5), down := imageByte img (st + 6)
      priority := prio, bitRate := imageByte img (st + 8)
      reader := roles.getLsbD 7, desk := roles.getLsbD 6, alertMask := img.getD (st + 10) 0
      pExit := imageWord img (g + 3), dExit := imageWord img (g + 5), band := imageWord img (g + 7), gf := imageByte img (g + 9)
      gMin := imageWord img (g + 10), eMin := imageByte img (g + 12), lateGrace := imageWord img (g + 13)
      vStop := imageByte img (sp + 3), vTol := imageByte img (sp + 4), refresh := imageByte img (sp + 5)
      readerSection := t.reader.map (imageReader img)
      div0 := t.div0.map (imageDiverter img), div1 := t.div1.map (imageDiverter img)
      problem := imageByte img (ro + 3), maxPasses := imageByte img (ro + 4), ageLimit := imageByte img (ro + 5)
      ranges := ranges }

/-- READER's ranges and cross checks (R177, R98). -/
def readerGood (r : ReaderConfig) : Bool :=
  decide (r.pRead ≤ 16383 ∧ r.pDec ≤ 16383 ∧ r.margin ≤ 1023 ∧ r.latency ≤ 255 ∧ r.sailingA ≤ 4095 ∧ r.sailingB ≤ 4095
    ∧ r.pRead ≤ r.pDec ∧ (r.sailingA = r.sailingB → r.sailingA = 0))

/-- A DIVERTER's ranges, and its place ahead of the exit band (R111). -/
def diverterGood (c : StationConfig) (v : DiverterConfig) : Bool :=
  decide (1 ≤ v.chute ∧ v.chute ≤ 31 ∧ 1 ≤ v.pDiv ∧ v.pDiv ≤ 16383 ∧ 1 ≤ v.commit ∧ v.commit ≤ v.pDiv ∧ v.actuation ≤ 255
    ∧ v.hold ≤ 2047 ∧ v.recovery ≤ 255 ∧ 1 ≤ v.window ∧ v.window ≤ 4095 ∧ 1 ≤ v.capacity ∧ v.capacity ≤ 4095
    ∧ v.pDiv + c.band < c.pExit)

/-- A range's values and its checks against the problem chute (R100). -/
def rangeGood (c : StationConfig) (g : Range) : Bool :=
  decide (g.low ≤ maxCabin ∧ g.high ≤ maxCabin ∧ g.low ≤ g.high ∧ 1 ≤ g.primary ∧ g.primary ≤ 31 ∧ g.overflow ≤ 31
    ∧ g.overflow ≠ g.primary ∧ g.primary ≠ c.problem ∧ g.overflow ≠ c.problem)

/-- STATION's ranges and cross checks (R177, R38). -/
def stationGood (c : StationConfig) : Bool :=
  decide (1 ≤ c.station ∧ c.station ≤ 62 ∧ c.upA ≤ 62 ∧ c.upB ≤ 62 ∧ c.down ≤ 62 ∧ 1 ≤ c.bitRate ∧ c.bitRate ≤ 3
    ∧ c.upA ≠ c.station ∧ c.upB ≠ c.station ∧ c.down ≠ c.station ∧ (c.upA = c.upB → c.upA = 0))

/-- GEOMETRY's ranges and cross checks (R177). -/
def geometryGood (c : StationConfig) : Bool :=
  decide (1 ≤ c.pExit ∧ c.pExit ≤ 16383 ∧ c.dExit ≤ 2047 ∧ c.band ≤ 1023 ∧ c.gf ≤ 31 ∧ c.gMin ≤ 16383 ∧ c.eMin ≤ 255
    ∧ c.lateGrace ≤ 1023 ∧ c.band ≤ c.pExit ∧ c.pExit + c.band ≤ 16382 ∧ c.gf + c.band < c.pExit)

/-- SPEED's ranges (R177). -/
def speedGood (c : StationConfig) : Bool :=
  decide (c.vStop ≤ 63 ∧ 1 ≤ c.vTol ∧ c.vTol ≤ 31 ∧ 1 ≤ c.refresh ∧ c.refresh ≤ 8)

/-- ROUTE's ranges (R177). -/
def routeGood (c : StationConfig) : Bool :=
  decide (1 ≤ c.problem ∧ c.problem ≤ 31 ∧ 1 ≤ c.maxPasses ∧ c.maxPasses ≤ 7 ∧ c.ageLimit ≤ 63 ∧ c.ranges.length ≤ 24)
    && c.ranges.all (rangeGood c)

/-- A reader or desk station carries a READER section and at least one range (R98, R100, R176). -/
def rolesGood (c : StationConfig) : Bool :=
  !(c.reader || c.desk) || (c.readerSection.isSome && !c.ranges.isEmpty)

/-- The two diverters do not feed one chute (R111). -/
def chutesDiffer (c : StationConfig) : Bool :=
  match c.div0, c.div1 with
  | some v, some w => v.chute != w.chute
  | _, _ => true

/-- Every value lies within its range and the cross checks hold (R177). -/
def configGood (c : StationConfig) : Bool :=
  stationGood c && geometryGood c && speedGood c && routeGood c && rolesGood c && chutesDiffer c
    && c.readerSection.all readerGood && c.div0.all (diverterGood c) && c.div1.all (diverterGood c)

/-- The judgement of an image (R175, R176, R177): the reason or the configuration, and the sections skipped. -/
def judgeImage (img : List Byte) : Except BadReason StationConfig × Nat :=
  match judgeHeader img with
  | some r => (.error r, 0)
  | none =>
    let w := walkChain img 86 (imageByte img 7) Sections.empty
    match (if w.2 then readConfig img w.1 else none) with
    | none => (.error .badValue, w.1.skipped)
    | some c => (if configGood c then .ok c else .error .badValue, w.1.skipped)

end Sys2Proof.Machine
end

