-- ==== Sys2Proof/Machine/Startup.lean ====
section
/-! DEFINITION. Reset, the load of the configuration, and the blink pattern of an INVALID one (11.1, 11.2). -/

namespace Sys2Proof.Machine

open Sys2Proof

/-- RESET_N goes low or the power-on detector fires: every block takes its power-on state (R174). The wires keep their levels,
and the commands that wait keep waiting (log 24). -/
def execReset (s : State) : Host.Outcome State Fault Refusal :=
  .next { State.reset with pending := s.pending, pins := s.pins }

/-- RESET_N rises: the CFL begins the read (R174, R175). -/
def execResetRelease (s : State) : Host.Outcome State Fault Refusal :=
  if s.cfl.resetN then .next s
  else .next { s with cfl := { s.cfl with resetN := true, reading := true } }

/-- What the CFL sends to begin the read: the read command and the address (R175). -/
def configReadCommand : List Byte := [0x03, 0x00]

/-- The level of CFG_CS: low while the read is under way (R175). -/
def State.cfgCs (s : State) : Bool := !s.cfl.reading

/-- The bytes that the CFL sends on CFG_MOSI for the read under way, in the order sent, none when there is no read (R175, log 39). -/
def State.cfgMosi (s : State) : List Byte := if s.cfl.reading then configReadCommand else []

/-- The blocks start from their power-on states: filters, window and silence timers, the level of JAM_CLR (R13, R21, R33, R40,
R178). -/
def State.startBtu (c : StationConfig) (s : State) : State :=
  s.setBtu { s.btu with
    windowMs := some 0
    fEntry := startFilter (s.pins.eye .entry)
    fExit := startFilter (s.pins.eye .exit)
    fConf0 := startFilter (s.pins.eye (.confirm .d0))
    fConf1 := startFilter (s.pins.eye (.confirm .d1))
    gapRef := if s.pins.eye .entry then .lost else .none
    upA := if c.upA = 0 then s.btu.upA else { s.btu.upA with timer := some 0 }
    upB := if c.upB = 0 then s.btu.upB else { s.btu.upB with timer := some 0 }
    jamSample := s.pins.jam }

/-- The minute and refresh timers start, and the line state becomes ACTIVE (R81, R165, R172, R178). -/
def State.startTimers (s : State) : State :=
  { s with idt := { s.idt with minuteMs := some 0 }, hlc := { s.hlc with line := .active, refreshMs := some 0 } }

/-- The configuration is judged VALID (R178): the blocks start, the accounts are made, the run permit is evaluated and a
SEGMENT_STATE is queued (R133, R31, R171). -/
def State.goValid (c : StationConfig) (s : State) : State :=
  let t := { s with cfl := { s.cfl with load := .valid c, reading := false } }
  (((((t.startBtu c).startTimers).makeAccount c .d0).makeAccount c .d1).evalPermit c).queueSegmentState

/-- The configuration is judged INVALID (R178). -/
def State.goInvalid (r : BadReason) (s : State) : State :=
  { s with cfl := { s.cfl with load := .invalid r, reading := false, blinkPhase := 0, blinkMs := 0 } }

/-- The skipped sections are counted, and the event bit is raised once the station is ACTIVE (R176, log 23). -/
def State.countSkipped (n : Nat) (s : State) : State :=
  let t := s.bumpN .sectionSkipped n
  if n ≠ 0 ∧ t.hlc.line = .active then t.raiseEv .sectionSkipped else t

/-- The read ends and the image is judged (R175 to R178); without a read under way there is nothing to judge. -/
def execConfigurationLoadDone (image : List Byte) (s : State) : Host.Outcome State Fault Refusal :=
  if s.cfl.reading = true ∧ s.cfl.load = .loading then
    let j := judgeImage image
    match j.1 with
    | .ok c => .next ((s.goValid c).countSkipped j.2)
    | .error r => .next ((s.goInvalid r).countSkipped j.2)
  else .next s

/-- The phase after a phase of the blink pattern (R178). -/
def nextPhase (r : BadReason) (phase : Nat) : Nat := if phase < 2 * r.code then phase + 1 else 0

/-- A phase of the blink pattern ends (R178). -/
def execAlertBlinkTimer (s : State) : Host.Outcome State Fault Refusal :=
  match s.cfl.load with
  | .invalid r => .next { s with cfl := { s.cfl with blinkPhase := nextPhase r s.cfl.blinkPhase, blinkMs := 0 } }
  | .loading => .next s
  | .valid _ => .next s

end Sys2Proof.Machine
end

