-- ==== Sys2Proof/Machine/Dispatch.lean ====
section
/-! DEFINITION. One arm for each command: the meaning that the command has. -/

namespace Sys2Proof.Machine

open Sys2Proof

/-- The effect of a command on everything but the queue of waiting commands. -/
def exec (i : Instr) (s : State) : Host.Outcome State Fault Refusal :=
  match i with
  | .reset => Sys2Proof.Machine.execReset s
  | .resetRelease => Sys2Proof.Machine.execResetRelease s
  | .configurationLoadDone image => Sys2Proof.Machine.execConfigurationLoadDone image s
  | .alertBlinkTimer => Sys2Proof.Machine.execAlertBlinkTimer s
  | .encoderTick => Sys2Proof.Machine.execEncoderTick s
  | .windowClose => Sys2Proof.Machine.execWindowClose s
  | .eyeRawChange eye blocked => Sys2Proof.Machine.execEyeRawChange eye blocked s
  | .leadingEdgeAccepted eye => Sys2Proof.Machine.execLeadingEdgeAccepted eye s
  | .trailingEdgeAccepted eye => Sys2Proof.Machine.execTrailingEdgeAccepted eye s
  | .longBagPoint r => Sys2Proof.Machine.execLongBagPoint r s
  | .lateGraceEnd r => Sys2Proof.Machine.execLateGraceEnd r s
  | .readDecisionPoint r => Sys2Proof.Machine.execReadDecisionPoint r s
  | .commitPoint d r => Sys2Proof.Machine.execCommitPoint d r s
  | .overduePoint r => Sys2Proof.Machine.execOverduePoint r s
  | .fire d => Sys2Proof.Machine.execFire d s
  | .release d => Sys2Proof.Machine.execRelease d s
  | .recoveryEnd d => Sys2Proof.Machine.execRecoveryEnd d s
  | .confirmWindowEnd d => Sys2Proof.Machine.execConfirmWindowEnd d s
  | .handoverStale => Sys2Proof.Machine.execHandoverStale s
  | .scanByte byte framingError race => Sys2Proof.Machine.execScanByte byte framingError race s
  | .scanGapTimeout => Sys2Proof.Machine.execScanGapTimeout s
  | .fullSensorChange d level => Sys2Proof.Machine.execFullSensorChange d level s
  | .closeSwitchChange d level => Sys2Proof.Machine.execCloseSwitchChange d level s
  | .chuteClear d => Sys2Proof.Machine.execChuteClear d s
  | .jamClr => Sys2Proof.Machine.execJamClr s
  | .refreshTimer => Sys2Proof.Machine.execRefreshTimer s
  | .downstreamSilence => Sys2Proof.Machine.execDownstreamSilence s
  | .upstreamSilence src => Sys2Proof.Machine.execUpstreamSilence src s
  | .minuteTimer => Sys2Proof.Machine.execMinuteTimer s
  | .segmentState f => Sys2Proof.Machine.execSegmentState f s
  | .handover f => Sys2Proof.Machine.execHandover f s
  | .divertDone f => Sys2Proof.Machine.execDivertDone f s
  | .identityNotice f => Sys2Proof.Machine.execIdentityNotice f s
  | .chuteState f => Sys2Proof.Machine.execChuteState f s
  | .strayNotice f => Sys2Proof.Machine.execStrayNotice f s
  | .statusQuery f => Sys2Proof.Machine.execStatusQuery f s
  | .statusReply f => Sys2Proof.Machine.execStatusReply f s
  | .unknownKind code f => Sys2Proof.Machine.execUnknownKind code f s
  | .frameStart => Sys2Proof.Machine.execFrameStart s
  | .attemptEnd read => Sys2Proof.Machine.execAttemptEnd read s
  | .quietTimer => Sys2Proof.Machine.execQuietTimer s
  | .lineFault => Sys2Proof.Machine.execLineFault s
  | .lineFaultExit => Sys2Proof.Machine.execLineFaultExit s
  | .rxMalformed bits => Sys2Proof.Machine.execRxMalformed bits s

end Sys2Proof.Machine
end

