-- ==== Sys2Proof/Machine/TimeBase.lean ====
section
/-! DEFINITION. One millisecond of the time base (00, "Time base"), which is what a step is on an empty queue (log 2): every running
timer advances, the inputs are sampled, and the events that this brings are the commands that wait next. -/

namespace Sys2Proof.Machine

open Sys2Proof

/-- A running timer one ms later. -/
def later (t : Option Nat) : Option Nat := t.map (· + 1)

/-- A running timer that has reached its period. -/
def expired (t : Option Nat) (period : Nat) : Bool := t.any (period ≤ ·)

/-- Every running timer advances by 1 ms. -/
def State.advanceTimers (s : State) : State :=
  { s with
    btu := { s.btu with
      windowMs := later s.btu.windowMs
      upA := { s.btu.upA with timer := later s.btu.upA.timer }
      upB := { s.btu.upB with timer := later s.btu.upB.timer }
      down := { s.btu.down with timer := later s.btu.down.timer } }
    rdu := { s.rdu with gapMs := later s.rdu.gapMs }
    idt := { s.idt with minuteMs := later s.idt.minuteMs }
    hlc := { s.hlc with quietMs := later s.hlc.quietMs, refreshMs := later s.hlc.refreshMs }
    cfl := { s.cfl with blinkMs := if s.cfl.load.isInvalid then s.cfl.blinkMs + 1 else s.cfl.blinkMs } }

/-- The samples that settle a bay input (R134). -/
def settlePeriod : Nat := 16

/-- A settle count after a sample (R134). -/
def settleStep (sample settled : Bool) (n : Nat) : Nat := if sample = settled then 0 else n + 1

/-- One sample of a diverter's bay inputs (R134): a settled change that is an event waits for its command, and a settled fall of
CLRn, which is none, is taken at once. -/
def State.sampleBay (d : Div) (s : State) : State :=
  match (s.dvs.get d).account with
  | none => s
  | some a =>
    let b := (s.dvs.get d).bay
    let clr := settleStep (s.pins.clr d) b.clrLevel b.clr
    let fell := settlePeriod ≤ clr ∧ s.pins.clr d = false
    s.setBay d
      { full := settleStep (s.pins.full d) a.fullSensor b.full
        close := settleStep (s.pins.close d) a.closeSwitch b.close
        clr := if fell then 0 else clr
        clrLevel := if fell then false else b.clrLevel }

/-- A low sample of JAM_CLR; a high one after a low one is the edge, whose command takes it (R33). -/
def State.sampleJam (s : State) : State := s.setBtu { s.btu with jamSample := s.btu.jamSample && s.pins.jam }

/-- The 1 ms sampling of a configured station's inputs (R33, R134). -/
def State.sampleInputs (s : State) : State :=
  match s.cfg with
  | none => s
  | some _ => ((s.sampleBay .d0).sampleBay .d1).sampleJam

/-- A command, when its timer has run out. -/
def whenDue (due : Bool) (i : Instr) : List Instr := if due then [i] else []

/-- The settled changes of a diverter's bay inputs (R134). -/
def bayEvents (d : Div) (s : State) : List Instr :=
  let b := (s.dvs.get d).bay
  whenDue (settlePeriod ≤ b.full) (.fullSensorChange d (s.pins.full d))
    ++ whenDue (settlePeriod ≤ b.close) (.closeSwitchChange d (s.pins.close d))
    ++ whenDue (settlePeriod ≤ b.clr) (.chuteClear d)

/-- The expiries and the sampled events of a configured station. -/
def expiries (c : StationConfig) (s : State) : List Instr :=
  whenDue (expired s.btu.windowMs windowPeriodMs) .windowClose
    ++ whenDue (expired s.rdu.gapMs gapPeriodMs) .scanGapTimeout
    ++ bayEvents .d0 s ++ bayEvents .d1 s
    ++ whenDue (s.pins.jam && !s.btu.jamSample) .jamClr
    ++ whenDue (expired s.hlc.refreshMs c.refreshMs) .refreshTimer
    ++ whenDue (expired s.btu.down.timer c.silenceMs) .downstreamSilence
    ++ whenDue (expired s.btu.upA.timer c.silenceMs) (.upstreamSilence .a)
    ++ whenDue (expired s.btu.upB.timer c.silenceMs) (.upstreamSilence .b)
    ++ whenDue (expired s.idt.minuteMs minutePeriodMs) .minuteTimer
    ++ whenDue (expired s.hlc.quietMs quietPeriodMs) .quietTimer

/-- What the present timers make due (R3, R63, R172, R30, R40, R81, R162, R178). -/
def dueCommands (s : State) : List Instr :=
  match s.cfl.load with
  | .loading => []
  | .invalid r => whenDue (blinkPeriod r s.cfl.blinkPhase ≤ s.cfl.blinkMs) .alertBlinkTimer
  | .valid c => expiries c s

/-- What the time base has made of the station one ms later, its queue aside. -/
def State.oneMs (s : State) : State := s.advanceTimers.sampleInputs

/-- One millisecond with no command waiting. -/
def State.idle (s : State) : State := { s.oneMs with pending := s.pending ++ dueCommands s.oneMs }

end Sys2Proof.Machine
end

