-- ==== Sys2Proof/Safety.lean ====
section
/-! DEFINITION. What claims about the station speak of: what a command leaves unchanged, what the Status Unit counts, and the
laws that the spec says hold at every moment, as predicates of the state that every step keeps. -/

namespace Sys2Proof.Machine

open Sys2Proof

/-! ## What a command leaves unchanged -/

/-- The parts of a station. -/
inductive Part where
  | pins
  | cfl
  | btu
  | rdu
  | idt
  | rrv
  | dvs
  | hlc
  | stu
  deriving DecidableEq, Repr

/-- Between s and t the waiting commands, and every part but the ones listed, are unchanged. -/
def OnlyParts (ps : List Part) (s t : State) : Prop :=
  t.pending = s.pending ∧ (.pins ∈ ps ∨ t.pins = s.pins) ∧ (.cfl ∈ ps ∨ t.cfl = s.cfl) ∧ (.btu ∈ ps ∨ t.btu = s.btu)
    ∧ (.rdu ∈ ps ∨ t.rdu = s.rdu) ∧ (.idt ∈ ps ∨ t.idt = s.idt) ∧ (.rrv ∈ ps ∨ t.rrv = s.rrv)
    ∧ (.dvs ∈ ps ∨ t.dvs = s.dvs) ∧ (.hlc ∈ ps ∨ t.hlc = s.hlc) ∧ (.stu ∈ ps ∨ t.stu = s.stu)

/-- Of the hall line's part, only the outbound queue changes. -/
def OnlyFrames (s t : State) : Prop := t.hlc = { s.hlc with queue := t.hlc.queue }

/-- Of a diverter, only its waiting grants change. -/
def OnlyGrants (s t : State) : Prop := ∀ d, t.dvs.get d = { s.dvs.get d with grants := (t.dvs.get d).grants }

/-- The records stand in the queue in the order they stood, and every record but the ones named is unchanged. -/
def OnlyRecords (refs : List RecRef) (s t : State) : Prop :=
  t.btu.queue.map SegRec.ref = s.btu.queue.map SegRec.ref ∧ ∀ q ∈ s.btu.queue, q.ref ∉ refs → q ∈ t.btu.queue

/-! ## What the Status Unit counts -/

/-- The counters that the queuing of a frame moves (R166, R167, R168). -/
def Ctr.ofQueue : Ctr → Bool
  | .queuedSegmentState | .queuedHandover | .queuedDivertDone | .queuedIdentityNotice | .queuedChuteState
  | .queuedStrayNotice | .queuedStatusReply | .superseded | .droppedFull => true
  | _ => false

/-- Each counter listed rises by 1, saturating, and every other counter keeps its value. -/
def Counted (cs : List Ctr) (s t : State) : Prop := ∀ k, t.ctr k = if k ∈ cs then satInc (s.ctr k) else s.ctr k

/-- The same of every counter but those that the queuing of a frame moves. -/
def CountedBeside (cs : List Ctr) (s t : State) : Prop :=
  ∀ k, k.ofQueue = false → t.ctr k = if k ∈ cs then satInc (s.ctr k) else s.ctr k

/-- Each event bit listed is set, and every other one keeps its value. -/
def Raised (es : List Ev) (s t : State) : Prop := ∀ e, t.ev e = (s.ev e || decide (e ∈ es))

/-- The same of every event bit but DROPPED, which the queuing of a frame may set (R168). -/
def RaisedBeside (es : List Ev) (s t : State) : Prop := ∀ e, e ≠ .dropped → t.ev e = (s.ev e || decide (e ∈ es))

/-- A frame waits in the outbound queue. -/
def Queued (f : Frame) (s : State) : Prop := ∃ o ∈ s.hlc.queue, o.frame = f ∧ o.sending = false

/-! ## What the blocked flag follows -/

/-- What the causes of R29 make of a blocked flag: set at a queue count of 14 or more and for a downstream reason (the neighbour heard,
and reporting blocked or silent), clear at 12 or fewer without one, and at 13 as it was. -/
def flagOf (c : StationConfig) (count : Nat) (down : Downstream) (was : Bool) : Bool :=
  if 14 ≤ count ∨ (c.down ≠ 0 ∧ down.heard = true ∧ (down.lastBlocked = true ∨ down.silent = true)) then true
  else if count ≤ 12 then false
  else was

/-- From s to t the blocked flag has followed the queue count and the downstream state that t holds. A change has queued a
SEGMENT_STATE with the new flag (in a queue with room), with the reported V following; without a change none is queued (R29, R8). -/
def FlagFollows (c : StationConfig) (s t : State) : Prop :=
  t.btu.blockedFlag = flagOf c t.btu.queue.length t.btu.down s.btu.blockedFlag
    ∧ (t.btu.blockedFlag ≠ s.btu.blockedFlag → t.btu.reportedV = s.btu.v
      ∧ (s.hlc.queue.length < 8 → Queued (.segmentState s.btu.v s.btu.speed t.btu.blockedFlag) t))
    ∧ (t.btu.blockedFlag = s.btu.blockedFlag → t.btu.reportedV = s.btu.reportedV
      ∧ ∀ o ∈ t.hlc.queue, o.kind = 0 → o ∈ s.hlc.queue)

/-! ## What a rise of a fill brings -/

/-- Between two values of its account a chute stops taking bags: it goes from OPEN or NEAR_FULL to FULL or CLOSED (R138). -/
def Account.stopsTaking (a b : Account) : Bool :=
  (a.state == .isOpen || a.state == .nearFull) && (b.state == .full || b.state == .closed)

/-- From s to t the record named has left and the fill of diverter d's chute has risen by its units, the account going from a to b. The
rise is held at 4095 with its count and FILL_CLAMPED (R135), the state is the first row of R137 that holds, a chute that stops taking
bags withdraws every grant that remains, each counted, and a change to FULL or CLOSED is counted (R138). The own view entry follows
each change of state or fill (R139), and a state other than the last one sent is sent, no other CHUTE_STATE being queued (R140). -/
def FillRose (c : StationConfig) (d : Div) (gone : RecRef) (units : Nat) (a b : Account) (s t : State) : Prop :=
  b = { a with fill := min 4095 (a.fill + units), state := b.state, lastSent := b.state }
    ∧ b.state = (if a.closeSwitch then .closed else if a.fullSensor then .full else if a.capacity ≤ b.fill then .full
        else if a.capacity - a.capacity / 8 ≤ b.fill then .nearFull else .isOpen)
    ∧ (t.dvs.get d).grants = (if a.stopsTaking b then [] else (s.dvs.get d).grants.filter (·.ref != gone))
    ∧ (t.ctr .withdrawnChute).toNat = min 65535 ((s.ctr .withdrawnChute).toNat
        + if a.stopsTaking b then ((s.dvs.get d).grants.filter (·.ref != gone)).length else 0)
    ∧ t.ctr (chuteFullCtr d) = (if b.state ≠ a.state ∧ b.state = .full then satInc (s.ctr (chuteFullCtr d)) else s.ctr (chuteFullCtr d))
    ∧ t.ctr (chuteClosedCtr d)
      = (if b.state ≠ a.state ∧ b.state = .closed then satInc (s.ctr (chuteClosedCtr d)) else s.ctr (chuteClosedCtr d))
    ∧ t.ctr (fillClampedCtr d) = (if 4095 < a.fill + units then satInc (s.ctr (fillClampedCtr d)) else s.ctr (fillClampedCtr d))
    ∧ t.ev .fillClamped = (s.ev .fillClamped || decide (4095 < a.fill + units))
    ∧ (b.state ≠ a.state ∨ b.fill ≠ a.fill → 1 ≤ a.chute → a.chute ≤ 31 → t.rrv.entry a.chute = ⟨b.state, c.station, b.fill, a.capacity, 0⟩)
    ∧ (∀ n, 1 ≤ n → n ≤ 31 → n ≠ a.chute → t.rrv.entry n = s.rrv.entry n)
    ∧ (b.state = a.state → b.fill = a.fill → t.rrv = s.rrv)
    ∧ (b.state ≠ a.lastSent → s.hlc.queue.length ≤ 4 → Queued (.chuteState ⟨a.chute, b.state, b.fill, a.capacity⟩) t)
    ∧ (b.state = a.lastSent → ∀ o ∈ t.hlc.queue, o.kind = 4 → o ∈ s.hlc.queue)

/-! ## What an offer of a stray reason counts and reports -/

/-- The counters of R146 rise by the offers listed and by no other, each offer going by the reason that its record held: stray-set where
it held none, stray-replaced where a hard reason was offered over a soft one, stray-kept otherwise. -/
def StrayCounted (offers : List (Option Reason × Reason)) (s t : State) : Prop :=
  (t.ctr .straySet).toNat = min 65535 ((s.ctr .straySet).toNat + (offers.filter fun p => p.1.isNone).length)
    ∧ (t.ctr .strayReplaced).toNat
      = min 65535 ((s.ctr .strayReplaced).toNat + (offers.filter fun p => p.1.any Reason.soft && p.2.hard).length)
    ∧ (t.ctr .strayKept).toNat
      = min 65535 ((s.ctr .strayKept).toNat + (offers.filter fun p => p.1.isSome && !(p.1.any Reason.soft && p.2.hard)).length)

/-- The one offer of a reason to a record queues a STRAY_NOTICE with the destination held before when it takes (in a queue with room), and
queues no frame when the held reason stays (R146, R149). -/
def StrayNoticed (r : SegRec) (x : Reason) (s t : State) : Prop :=
  (r.reason = none ∨ (r.reason.any Reason.soft = true ∧ x.hard = true) → s.hlc.queue.length < 8 →
      Queued (.strayNotice ⟨x, r.ident, r.passes, r.dest.getD 0, r.origin⟩) t)
    ∧ (¬ (r.reason = none ∨ (r.reason.any Reason.soft = true ∧ x.hard = true)) → t.hlc.queue = s.hlc.queue)

/-! ## The laws of a station -/

/-- Each table has the size that the spec gives it (R5, R77, R104, R181), no list and no count is larger than the spec allows, the
segment queue (R15), the expect list (R44), the outbound queue (R165), the grant and confirm lists (R112), the fill of an own
chute (R137), the drop tally (R161), and the rotation pointer names a rotating entry (R82). -/
def SizeLaw (s : State) : Prop :=
  s.stu.counters.length = 117 ∧ s.stu.events.length = 33 ∧ s.btu.history.length = 8 ∧ s.idt.entries.length = 128
    ∧ s.rrv.view.length = 31 ∧ s.btu.queue.length ≤ 16 ∧ s.btu.expects.length ≤ 8 ∧ s.hlc.queue.length ≤ 8 ∧ s.hlc.tally ≤ 3
    ∧ 16 ≤ s.idt.pointer ∧ s.idt.pointer ≤ 127
    ∧ ∀ d, (s.dvs.get d).grants.length ≤ 3 ∧ (s.dvs.get d).confirms.length ≤ 2
      ∧ ∀ a, (s.dvs.get d).account = some a → a.fill ≤ 4095

/-- The flow counters keep their equation modulo 2^32 (R35). -/
def FlowBalance (s : State) : Prop :=
  s.btu.flow.entered
    = s.btu.flow.exited + (s.btu.flow.diverted0 + s.btu.flow.diverted1) + s.btu.flow.swept + s.btu.flow.cleared
      + BitVec.ofNat 32 s.btu.queue.length

/-- The blocked flag of a configured station is the one that R29 gives for its queue count and its downstream state (R29). -/
def FlagLaw (s : State) : Prop :=
  ∀ c, s.cfg = some c → s.btu.blockedFlag = flagOf c s.btu.queue.length s.btu.down s.btu.blockedFlag

/-- Each record is alone in one of the 16 slots, and no two have one entry count (R15). -/
def SlotLaw (s : State) : Prop :=
  (s.btu.queue.map SegRec.slot).Nodup ∧ (∀ r ∈ s.btu.queue, r.slot < 16) ∧ (s.btu.queue.map SegRec.ein).Nodup

/-- The records stand in the order of their entry counts, oldest first: each has travelled further than those behind it, and an
entry edge that is pending acceptance lies no further back than any record (R15, R11, R19). -/
def OrderLaw (s : State) : Prop :=
  (s.btu.queue.map s.position).Pairwise (· > ·)
    ∧ (s.btu.fEntry.st = .blocking → ∀ r ∈ s.btu.queue, fwd s.btu.fEntry.raw s.btu.e ≤ s.position r)

/-- A record has a destination exactly when it carries an identity or a stray reason, and a reason brings the problem chute
(R145); an announcement keeps the first half of it (R41); there is no record before a configuration is VALID (R57). -/
def DestinationLaw (s : State) : Prop :=
  (∀ x ∈ s.btu.expects, x.dest.isSome ↔ x.ident.isSome ∨ x.reason.isSome)
    ∧ (s.cfg = none → s.btu.queue = [])
    ∧ ∀ c, s.cfg = some c → ∀ r ∈ s.btu.queue,
      (r.dest.isSome ↔ r.ident.isSome ∨ r.reason.isSome) ∧ (r.reason.isSome → r.dest = some c.problem)

/-- No two valid entries of the identity table share a tag number (R78). -/
def TagLaw (s : State) : Prop :=
  ∀ i j x y, entryAt s.idt.entries i = some x → entryAt s.idt.entries j = some y → x.tag = y.tag → i = j

/-- Each ON_SEGMENT entry is referenced by exactly one record, and a record that references entries references an ON_SEGMENT one
(R80); such a record is READ and carries an identity, since only an identification makes a reference (R73). -/
def ReferenceLaw (s : State) : Prop :=
  (∀ i, inState s.idt.entries i .onSegment = true → ∃ r ∈ s.btu.queue, r.entry = some i)
    ∧ (s.btu.queue.Pairwise fun a b => a.entry = none ∨ a.entry ≠ b.entry)
    ∧ ∀ r ∈ s.btu.queue, ∀ i, r.entry = some i →
      inState s.idt.entries i .onSegment = true ∧ r.readStatus = .read ∧ r.ident.isSome

/-- The configured maximum passes is at least 1, no record's passes are above it, and a record whose passes have reached it carries
a hard or a report reason (R128, R129). -/
def PassesLaw (s : State) : Prop :=
  ∀ c, s.cfg = some c → 1 ≤ c.maxPasses
    ∧ ∀ r ∈ s.btu.queue, r.passes ≤ c.maxPasses ∧ (r.passes = c.maxPasses → ∃ x, r.reason = some x ∧ x.soft = false)

/-- The state of an own chute is the one its fields give, and it is not UNKNOWN (R137, R133). -/
def AccountLaw (s : State) : Prop :=
  ∀ d a, (s.dvs.get d).account = some a → a.state = a.derive

/-- The line state goes with the configuration, the QUIET timer and the duplicate-station condition (R165, R162, R164). -/
def LineLaw (s : State) : Prop :=
  (s.hlc.line = .offline ↔ s.cfg = none) ∧ (s.hlc.line = .quiet ↔ s.hlc.quietMs.isSome)
    ∧ (s.hlc.dup = true → s.hlc.line = .listenOnly ∨ s.hlc.line = .lineFault) ∧ (s.hlc.line = .listenOnly → s.hlc.dup = true)

/-- The station drives, or will drive, an objection only while it is ACTIVE (R158, R159, R165). -/
def ObjectionLaw (s : State) : Prop := s.hlc.objection ≠ .none → s.hlc.line = .active

/-- Before a configuration is VALID the run permit is off and no chute has an account (R31, R133). -/
def StartLaw (s : State) : Prop := s.cfg = none → s.btu.permit = false ∧ ∀ d, (s.dvs.get d).account = none

/-- An engagement that is not IDLE is one that was fired and whose counts are held; no grant and no engagement is held before a
configuration is VALID, so DIVn is off (R112, R119, R131). -/
def EngagementLaw (s : State) : Prop :=
  ∀ d, ((s.dvs.get d).eng ≠ .idle → (s.dvs.get d).last.isSome)
    ∧ (s.cfg = none → (s.dvs.get d).grants = [] ∧ (s.dvs.get d).eng = .idle)

/-- What a station's diverters keep: both laws above. -/
def DivertLaw (s : State) : Prop := AccountLaw s ∧ EngagementLaw s

/-- The frames of an outbound queue that wait. -/
def waitingFrames (q : List OutFrame) : List OutFrame := q.filter fun o => !o.sending

/-- Only the head of the outbound queue is in transmission, the waiting frames stand in the order of their kind codes, no two
of them are of one class, and a frame in transmission with a waiting frame of its class is marked as overtaken (R166, R167). -/
def OutboundLaw (s : State) : Prop :=
  (∀ o ∈ s.hlc.queue.tail, o.sending = false)
    ∧ ((waitingFrames s.hlc.queue).Pairwise fun a b => a.kind ≤ b.kind ∧ a.frame.sameClass b.frame = false)
    ∧ ∀ o ∈ s.hlc.queue, o.sending = true → (∃ p ∈ waitingFrames s.hlc.queue, o.frame.sameClass p.frame = true) →
      o.overtaken = true

end Sys2Proof.Machine
end

