-- ==== Sys2Proof/Certificates/Slice0/Obligations.lean ====
section
/-! DEFINITION. The statements for the provers: what each command does, what the frames on the line carry, and the laws that
every step keeps. -/

open Sys2Proof Sys2Proof.Machine

/-- A step takes the command at the front of the queue and is exec of it with the rest of the queue. Formalises 00_scope.md, the
commands of the opcode table. The queue is the model's (log 2, log 32). -/
def Obligations.StepRunsFrontCommand : Prop :=
  ∀ (i : Instr) (rest : List Instr) (s : State),
    step { s with pending := i :: rest } = exec i { s with pending := rest }

/-- Every command answers a next state, in every state, and leaves the waiting commands alone. Formalises R1 to R181: every
command has its effect in every state. A command whose cause does not hold has no effect (log 1). -/
def Obligations.EveryCommandAnswersNext : Prop :=
  ∀ (i : Instr) (s : State),
    ∃ t, exec i s = .next t ∧ t.pending = s.pending

/-- A step on an empty queue is one millisecond of the time base (the model's choice, log 2). Formalises R3, R30, R33, R40, R63,
R81, R134, R136, R162, R172, R178. That the idle step is one millisecond is the model's choice (log 2), and so is the place
where samples are taken (log 3). -/
def Obligations.IdleMillisecondAdvancesTimers : Prop :=
  ∀ (s : State),
    (s.pending = []) →
    ∃ t, step s = .next t ∧ t.pins = s.pins ∧ t.stu = s.stu ∧ t.rrv = s.rrv
      ∧ t.cfl = { s.cfl with blinkMs := if s.cfl.load.isInvalid then s.cfl.blinkMs + 1 else s.cfl.blinkMs }
      ∧ t.btu = { s.btu with
          windowMs := s.btu.windowMs.map (· + 1)
          upA := { s.btu.upA with timer := s.btu.upA.timer.map (· + 1) }
          upB := { s.btu.upB with timer := s.btu.upB.timer.map (· + 1) }
          down := { s.btu.down with timer := s.btu.down.timer.map (· + 1) }
          jamSample := t.btu.jamSample }
      ∧ t.rdu = { s.rdu with gapMs := s.rdu.gapMs.map (· + 1) }
          ∧ t.idt = { s.idt with minuteMs := s.idt.minuteMs.map (· + 1) }
      ∧ t.hlc = { s.hlc with refreshMs := s.hlc.refreshMs.map (· + 1), quietMs := s.hlc.quietMs.map (· + 1) }
      ∧ (∀ d, t.dvs.get d = { s.dvs.get d with bay := (t.dvs.get d).bay })
      ∧ (s.cfg = none → t.btu.jamSample = s.btu.jamSample ∧ t.dvs = s.dvs)
      ∧ (s.cfl.load = .loading → t.pending = [])
      ∧ (∀ r, s.cfl.load = .invalid r →
          (Instr.alertBlinkTimer ∈ t.pending ↔ (if s.cfl.blinkPhase = 2 * r.code then 1000 else 250) ≤ t.cfl.blinkMs)
          ∧ ∀ i ∈ t.pending, i = Instr.alertBlinkTimer)
      ∧ (∀ c ∈ s.cfg,
          (Instr.windowClose ∈ t.pending ↔ ∃ n ∈ t.btu.windowMs, 16 ≤ n)
          ∧ (Instr.scanGapTimeout ∈ t.pending ↔ ∃ n ∈ t.rdu.gapMs, 6 ≤ n)
          ∧ (Instr.refreshTimer ∈ t.pending ↔ ∃ n ∈ t.hlc.refreshMs, 1000 * c.refresh ≤ n)
          ∧ (Instr.downstreamSilence ∈ t.pending ↔ ∃ n ∈ t.btu.down.timer, 3 * (1000 * c.refresh) ≤ n)
          ∧ (Instr.upstreamSilence .a ∈ t.pending ↔ ∃ n ∈ t.btu.upA.timer, 3 * (1000 * c.refresh) ≤ n)
          ∧ (Instr.upstreamSilence .b ∈ t.pending ↔ ∃ n ∈ t.btu.upB.timer, 3 * (1000 * c.refresh) ≤ n)
          ∧ (Instr.minuteTimer ∈ t.pending ↔ ∃ n ∈ t.idt.minuteMs, 60000 ≤ n)
          ∧ (Instr.quietTimer ∈ t.pending ↔ ∃ n ∈ t.hlc.quietMs, 1000 ≤ n)
          ∧ (Instr.jamClr ∈ t.pending ↔ s.pins.jam = true ∧ s.btu.jamSample = false)
          ∧ t.btu.jamSample = (s.btu.jamSample && s.pins.jam)
          ∧ (∀ i ∈ t.pending, i = .windowClose ∨ i = .scanGapTimeout ∨ i = .refreshTimer ∨ i = .downstreamSilence
              ∨ i = .upstreamSilence .a
              ∨ i = .upstreamSilence .b ∨ i = .minuteTimer ∨ i = .quietTimer ∨ i = .jamClr
              ∨ ∃ d, i = .fullSensorChange d (s.pins.full d) ∨ i = .closeSwitchChange d (s.pins.close d) ∨ i = .chuteClear d)
          ∧ ∀ d, (Instr.fullSensorChange d (s.pins.full d) ∈ t.pending ↔ 16 ≤ (t.dvs.get d).bay.full)
            ∧ (Instr.closeSwitchChange d (s.pins.close d) ∈ t.pending ↔ 16 ≤ (t.dvs.get d).bay.close)
            ∧ (Instr.chuteClear d ∈ t.pending ↔ 16 ≤ (t.dvs.get d).bay.clr)
            ∧ ((s.dvs.get d).account = none → t.dvs.get d = s.dvs.get d)
            ∧ ∀ a ∈ (s.dvs.get d).account,
              (t.dvs.get d).bay.full = (if s.pins.full d = a.fullSensor then 0 else (s.dvs.get d).bay.full + 1)
              ∧ (t.dvs.get d).bay.close = (if s.pins.close d = a.closeSwitch then 0 else (s.dvs.get d).bay.close + 1)
              ∧ (s.pins.clr d = (s.dvs.get d).bay.clrLevel → (t.dvs.get d).bay.clr = 0
                  ∧ (t.dvs.get d).bay.clrLevel = (s.dvs.get d).bay.clrLevel)
              ∧ (s.pins.clr d ≠ (s.dvs.get d).bay.clrLevel →
                  (s.pins.clr d = true ∨ (s.dvs.get d).bay.clr < 15 → (t.dvs.get d).bay.clr = (s.dvs.get d).bay.clr + 1
                      ∧ (t.dvs.get d).bay.clrLevel = (s.dvs.get d).bay.clrLevel)
                  ∧ (s.pins.clr d = false → 15 ≤ (s.dvs.get d).bay.clr → (t.dvs.get d).bay.clr = 0
                      ∧ (t.dvs.get d).bay.clrLevel = false)))

/-- RESET puts every block in its power-on state, and RESET_RELEASE begins the read of the configuration. Formalises R174, R175
and the power-on state lines of R1 to R181. That RESET_RELEASE with RESET_N high changes nothing is the model's choice
(log 1); the wires and the waiting commands keep (log 24); the model's own fields have their own reset values (log 33); the
address is sent as one byte (log 39). -/
def Obligations.ResetAndReleaseBeginTheLoad : Prop :=
  ∀ (s : State),
    (∃ t, exec .reset s = .next t ∧ t.pending = s.pending ∧ t.pins = s.pins ∧ t.cfl.load = .loading ∧ t.cfl.reading = false
    ∧ t.cfl.resetN = false ∧ t.cfgCs = true ∧ t.cfgMosi = []
      ∧ t.btu.e = 0 ∧ t.btu.history = List.replicate 8 0 ∧ t.btu.winCount = 0 ∧ t.btu.v = 0 ∧ t.btu.prevV = 0
          ∧ t.btu.speed = .stopped
      ∧ t.btu.steadyCount = 0 ∧ t.btu.reportedV = 0 ∧ t.btu.windowMs = none ∧ (∀ eye, (t.btu.filter eye).st = .clear)
      ∧ t.btu.queue = [] ∧ t.btu.openRec = none ∧ t.btu.gapRef = .none ∧ t.btu.expects = []
      ∧ t.btu.upA = ⟨.none, 0, none, false⟩ ∧ t.btu.upB = ⟨.none, 0, none, false⟩ ∧ t.btu.down = ⟨false, false, none, false⟩
      ∧ t.btu.blockedFlag = false ∧ t.btu.permit = false ∧ t.btu.flow = ⟨0, 0, 0, 0, 0, 0, 0⟩
      ∧ t.rdu = ⟨.idle, none⟩ ∧ t.idt.entries = List.replicate 128 none ∧ t.idt.pointer = 127 ∧ t.idt.minuteMs = none
      ∧ t.rrv.view = List.replicate 31 ⟨.unknown, 0, 0, 0, 3⟩
      ∧ (∀ d, (t.dvs.get d).grants = [] ∧ (t.dvs.get d).eng = .idle ∧ (t.dvs.get d).last = none ∧ (t.dvs.get d).confirms = []
          ∧ (t.dvs.get d).account = none ∧ t.divOut d = false)
      ∧ t.hlc.line = .offline ∧ t.hlc.queue = [] ∧ t.hlc.tally = 0 ∧ t.hlc.quietMs = none ∧ t.hlc.refreshMs = none
          ∧ t.hlc.dup = false
      ∧ t.hlc.objection = .none
      ∧ (∀ k, t.ctr k = 0) ∧ (∀ e, t.ev e = false) ∧ t.alert = false)
    ∧ (s.cfl.resetN = false → (∃ t, exec .resetRelease s = .next t
        ∧ t = { s with cfl := { s.cfl with resetN := true, reading := true } } ∧ t.cfgCs = false ∧ t.cfgMosi = [0x03, 0x00]))
    ∧ (s.cfl.resetN = true → (∃ t, exec .resetRelease s = .next t ∧ t = s))

/-- CONFIGURATION_LOAD_DONE with a VALID image starts the blocks from their power-on states. Formalises R3, R13, R21, R29, R31,
R40, R81, R107, R133, R171, R172, R178. Which sampled levels the station starts from is read as log 3 says, and a raw count
that no filter holds is 0 (log 33). -/
def Obligations.ValidLoadStartsTheStation : Prop :=
  ∀ (image : List Byte) (c : StationConfig) (n : Nat) (s : State),
    (s.cfl.reading = true) → (s.cfl.load = .loading) → (judgeImage image = (.ok c, n)) → SizeLaw s →
    ∃ t, exec (.configurationLoadDone image) s = .next t ∧ t.cfg = some c ∧ t.cfl.reading = false ∧ t.hlc.line = .active
      ∧ t.btu.windowMs = some 0 ∧ t.hlc.refreshMs = some 0 ∧ t.idt.minuteMs = some 0
      ∧ t.btu.permit = (c.down == 0 || (s.btu.down.heard && !s.btu.down.lastBlocked && !s.btu.down.silent))
      ∧ (∀ eye, t.btu.filter eye = if s.pins.eye eye then ⟨.blocked, 0, true⟩ else ⟨.clear, 0, false⟩)
      ∧ t.btu.blockedFlag = flagOf c s.btu.queue.length s.btu.down s.btu.blockedFlag ∧ t.btu.reportedV = s.btu.v
      ∧ t.btu.gapRef = (if s.pins.eyeIn then .lost else .none) ∧ t.btu.jamSample = s.pins.jam
      ∧ t.btu.upA.timer = (if c.upA = 0 then s.btu.upA.timer else some 0)
      ∧ t.btu.upB.timer = (if c.upB = 0 then s.btu.upB.timer else some 0)
      ∧ (∀ d, ∀ v ∈ c.diverter d, ∃ a ∈ (t.dvs.get d).account,
          a.chute = v.chute ∧ a.capacity = v.capacity ∧ a.fill = 0 ∧ a.fullSensor = s.pins.full d
              ∧ a.closeSwitch = s.pins.close d
          ∧ a.state = (if s.pins.close d then .closed else if s.pins.full d then .full else .isOpen) ∧ a.lastSent = a.state
          ∧ t.rrv.entry v.chute = ⟨a.state, c.station, 0, v.capacity, 0⟩
          ∧ (s.hlc.queue = [] → Queued (.chuteState ⟨v.chute, a.state, 0, v.capacity⟩) t))
      ∧ (∀ d, c.diverter d = none → t.dvs.get d = s.dvs.get d)
      ∧ (s.hlc.queue = [] → Queued (.segmentState s.btu.v s.btu.speed t.btu.blockedFlag) t)
      ∧ (n ≠ 0 → t.ev .sectionSkipped = true)
      ∧ t.btu.e = s.btu.e ∧ t.btu.queue = s.btu.queue ∧ t.btu.expects = s.btu.expects ∧ t.btu.flow = s.btu.flow
      ∧ t.idt.entries = s.idt.entries ∧ t.idt.pointer = s.idt.pointer
      ∧ t.btu = { s.btu with windowMs := some 0, permit := t.btu.permit, blockedFlag := t.btu.blockedFlag, fEntry := t.btu.fEntry, fExit := t.btu.fExit, fConf0 := t.btu.fConf0, fConf1 := t.btu.fConf1, gapRef := t.btu.gapRef, jamSample := t.btu.jamSample, upA := { s.btu.upA with timer := t.btu.upA.timer }, upB := { s.btu.upB with timer := t.btu.upB.timer }, reportedV := t.btu.reportedV }
      ∧ t.hlc = { s.hlc with line := .active, refreshMs := some 0, queue := t.hlc.queue }
          ∧ OnlyParts [.cfl, .btu, .idt, .rrv, .dvs, .hlc, .stu] s t

/-- CONFIGURATION_LOAD_DONE with an INVALID image keeps the station OFFLINE under the reason of the first failing step.
Formalises R175, R176, R177, R178. Skipped sections are counted for an INVALID image too (log 23). -/
def Obligations.InvalidLoadNamesTheFirstFailure : Prop :=
  ∀ (image : List Byte) (r : BadReason) (n : Nat) (s : State),
    (image.length = 256) →
    ((∀ b ∈ image, b = 0xFF) → judgeImage image = (.error .noMemory, 0))
    ∧ (¬ (∀ b ∈ image, b = 0xFF) → ¬ (image.getD 0 0 = 0xA5 ∧ image.getD 1 0 = 0x3C ∧ image.getD 2 0 = 1) →
        judgeImage image = (.error .badSignature, 0))
    ∧ (image.getD 0 0 = 0xA5 ∧ image.getD 1 0 = 0x3C ∧ image.getD 2 0 = 1 →
        (¬ (8 ≤ usedLength image ∧ usedLength image ≤ 256) → judgeImage image = (.error .badValue, 0))
        ∧ (8 ≤ usedLength image ∧ usedLength image ≤ 256 →
            256 * (image.getD 5 0).toNat + (image.getD 6 0).toNat
              ≠ ((((List.range (usedLength image)).filter fun k => k ≠ 5
                  ∧ k ≠ 6).map fun k => (image.getD k 0).toNat).sum) % 65536 →
            judgeImage image = (.error .badCheck, 0))
        ∧ (8 ≤ usedLength image ∧ usedLength image ≤ 256 →
            256 * (image.getD 5 0).toNat + (image.getD 6 0).toNat
              = ((((List.range (usedLength image)).filter fun k => k ≠ 5
                  ∧ k ≠ 6).map fun k => (image.getD k 0).toNat).sum) % 65536 →
            judgeImage image = (.error r, n) → r = .badValue))
    ∧ (s.cfl.reading = true → s.cfl.load = .loading → judgeImage image = (.error r, n) → s.hlc.line = .offline →
        (∃ t, exec (.configurationLoadDone image) s = .next t
            ∧ t.cfl = { s.cfl with load := .invalid r, reading := false, blinkPhase := 0, blinkMs := 0 }
          ∧ t.stu.events = s.stu.events ∧ (∀ k, k ≠ .sectionSkipped → t.ctr k = s.ctr k) ∧ OnlyParts [.cfl, .stu] s t))

/-- An image judged VALID gives only values within the ranges and the cross checks of R177, R38, R98, R100 and R111. Formalises
R38, R98, R100, R111, R176, R177. -/
def Obligations.ValidImageIsWithinItsRanges : Prop :=
  ∀ (image : List Byte) (c : StationConfig) (n : Nat),
    (judgeImage image = (.ok c, n)) →
    (1 ≤ c.station ∧ c.station ≤ 62 ∧ c.upA ≤ 62 ∧ c.upB ≤ 62 ∧ c.down ≤ 62 ∧ 1 ≤ c.bitRate ∧ c.bitRate ≤ 3
      ∧ c.upA ≠ c.station ∧ c.upB ≠ c.station ∧ c.down ≠ c.station ∧ (c.upA = c.upB → c.upA = 0))
    ∧ (1 ≤ c.pExit ∧ c.pExit ≤ 16383 ∧ c.dExit ≤ 2047 ∧ c.band ≤ 1023 ∧ c.gf ≤ 31 ∧ c.gMin ≤ 16383 ∧ c.eMin ≤ 255
        ∧ c.lateGrace ≤ 1023
      ∧ c.band ≤ c.pExit ∧ c.pExit + c.band ≤ 16382 ∧ c.gf < c.pExit - c.band)
    ∧ (c.vStop ≤ 63 ∧ 1 ≤ c.vTol ∧ c.vTol ≤ 31 ∧ 1 ≤ c.refresh ∧ c.refresh ≤ 8)
    ∧ (1 ≤ c.problem ∧ c.problem ≤ 31 ∧ 1 ≤ c.maxPasses ∧ c.maxPasses ≤ 7 ∧ c.ageLimit ≤ 63 ∧ c.ranges.length ≤ 24)
    ∧ (∀ g ∈ c.ranges, g.low ≤ g.high ∧ g.high ≤ 99999 ∧ 1 ≤ g.primary ∧ g.primary ≤ 31 ∧ g.overflow ≤ 31
        ∧ g.overflow ≠ g.primary
        ∧ g.primary ≠ c.problem ∧ g.overflow ≠ c.problem)
    ∧ (c.reader = true ∨ c.desk = true → c.readerSection.isSome ∧ c.ranges ≠ [])
    ∧ (∀ r ∈ c.readerSection, r.pRead ≤ r.pDec ∧ r.pDec ≤ 16383 ∧ r.margin ≤ 1023 ∧ r.latency ≤ 255 ∧ r.sailingA ≤ 4095
        ∧ r.sailingB ≤ 4095 ∧ (r.sailingA = r.sailingB → r.sailingA = 0))
    ∧ (∀ d, ∀ v ∈ c.diverter d, 1 ≤ v.chute ∧ v.chute ≤ 31 ∧ v.pDiv ≤ 16383 ∧ 1 ≤ v.commit ∧ v.commit ≤ v.pDiv
        ∧ v.actuation ≤ 255
        ∧ v.hold ≤ 2047 ∧ v.recovery ≤ 255 ∧ 1 ≤ v.window ∧ v.window ≤ 4095 ∧ 1 ≤ v.capacity ∧ v.capacity ≤ 4095
        ∧ v.pDiv < c.pExit - c.band)
    ∧ (∀ v ∈ c.div0, ∀ w ∈ c.div1, v.chute ≠ w.chute)

/-- ALERT_BLINK_TIMER walks the pattern of an INVALID station: on and off as many times as the code, then a long off. Formalises
R178. The numbering of the phases is the model's (log 33). -/
def Obligations.BlinkPatternShowsReasonCode : Prop :=
  ∀ (r : BadReason) (s : State),
    (s.cfl.load = .invalid r) → (s.cfl.blinkPhase ≤ 2 * r.code) →
    s.alert = decide (s.cfl.blinkPhase < 2 * r.code ∧ s.cfl.blinkPhase % 2 = 0)
    ∧ blinkPeriod r s.cfl.blinkPhase = (if s.cfl.blinkPhase < 2 * r.code then 250 else 1000)
    ∧ (∃ t, exec .alertBlinkTimer s = .next t
        ∧ t = { s with cfl := { s.cfl with blinkPhase := (s.cfl.blinkPhase + 1) % (2 * r.code + 1), blinkMs := 0 } })

/-- ENCODER_TICK adds one to E modulo 2^24 and to the open window; before VALID it changes nothing. Formalises R1, R4. OVERSPEED
is set at the 256th tick already (log 13). -/
def Obligations.EncoderTickCountsOne : Prop :=
  ∀ (s : State),
    SizeLaw s →
    (s.cfg = none → (∃ t, exec .encoderTick s = .next t ∧ t = s))
    ∧ (∀ c ∈ s.cfg, (∃ t, exec .encoderTick s = .next t
        ∧ t.btu = { s.btu with e := s.btu.e + 1, winCount := if s.btu.winCount < 256 then s.btu.winCount + 1 else 256 }
        ∧ Counted [] s t ∧ Raised (if s.btu.winCount = 255 then [.overspeed] else []) s t ∧ OnlyParts [.btu, .stu] s t))

/-- WINDOW_CLOSE forms the history, V and the previous V, and nothing else changes them. Formalises R4, R5. OVERSPEED at the
close of a clamped window is a reading of the spec (log 13), and the restart of the window timer at the command is the
model's choice (log 2). -/
def Obligations.WindowCloseFormsSpeedFigure : Prop :=
  ∀ (c : StationConfig) (i : Instr) (s : State),
    (s.cfg = some c) → SizeLaw s →
    (∃ t, exec .windowClose s = .next t ∧ t.btu.history = s.btu.history.drop 1 ++ [min 255 s.btu.winCount]
    ∧ t.btu.v = min 1023 t.btu.history.sum
      ∧ t.btu.prevV = s.btu.v ∧ t.btu.winCount = 0 ∧ t.btu.windowMs = some 0
      ∧ t.ev .overspeed = (s.ev .overspeed || decide (s.btu.winCount = 256 ∨ 1023 < t.btu.history.sum))
      ∧ t.btu.e = s.btu.e ∧ t.btu.openRec = s.btu.openRec ∧ t.btu.gapRef = s.btu.gapRef ∧ t.btu.flow = s.btu.flow
      ∧ (∀ eye, t.btu.filter eye = s.btu.filter eye) ∧ t.btu.upA = s.btu.upA ∧ t.btu.upB = s.btu.upB ∧ t.btu.down = s.btu.down
      ∧ t.btu.permit = s.btu.permit ∧ t.btu.blockedFlag = s.btu.blockedFlag ∧ OnlyParts [.btu, .dvs, .hlc, .stu] s t)
    ∧ (i ≠ .windowClose → i ≠ .reset →
        (∀ t, exec i s = .next t → t.btu.history = s.btu.history ∧ t.btu.v = s.btu.v ∧ t.btu.prevV = s.btu.prevV
          ∧ (i ≠ .encoderTick → t.btu.winCount = s.btu.winCount)))
    ∧ State.reset.btu.history = List.replicate 8 0 ∧ State.reset.btu.winCount = 0 ∧ State.reset.btu.v = 0
        ∧ State.reset.btu.prevV = 0

/-- The speed state and the steady count after a window close, row by row. Formalises R6. -/
def Obligations.SpeedStateFollowsItsTable : Prop :=
  ∀ (c : StationConfig) (i : Instr) (s : State),
    (s.cfg = some c) →
    (∃ t, exec .windowClose s = .next t ∧ (t.btu.v ≤ c.vStop → t.btu.speed = .stopped ∧ t.btu.steadyCount = 0)
      ∧ (c.vStop < t.btu.v → s.btu.speed = .stopped → t.btu.speed = .moving ∧ t.btu.steadyCount = 0)
      ∧ (c.vStop < t.btu.v → s.btu.speed ≠ .stopped → t.btu.v ≤ s.btu.v + c.vTol → s.btu.v ≤ t.btu.v + c.vTol →
          t.btu.steadyCount = min 8 (s.btu.steadyCount + 1) ∧ t.btu.speed = if t.btu.steadyCount = 8 then .steady
              else .moving)
      ∧ (c.vStop < t.btu.v → s.btu.speed ≠ .stopped → ¬ (t.btu.v ≤ s.btu.v + c.vTol ∧ s.btu.v ≤ t.btu.v + c.vTol) →
          t.btu.speed = .moving ∧ t.btu.steadyCount = 0))
    ∧ State.reset.btu.speed = .stopped ∧ State.reset.btu.steadyCount = 0
    ∧ (i ≠ .windowClose → i ≠ .reset → (∀ t, exec i s = .next t → t.btu.speed = s.btu.speed
        ∧ t.btu.steadyCount = s.btu.steadyCount))

/-- A window close that leaves STEADY withdraws every grant, and one that changes the state or moves V queues a SEGMENT_STATE.
Formalises R7, R8, R9, R117, R171. -/
def Obligations.WindowCloseTellsTheNewSpeed : Prop :=
  ∀ (c : StationConfig) (s : State),
    (s.cfg = none → (∃ t, exec .windowClose s = .next t ∧ t = s))
    ∧ (s.cfg = some c → (∃ t, exec .windowClose s = .next t ∧ t.btu.queue = s.btu.queue.map (fun (r : SegRec) =>
        if s.btu.speed = .steady ∧ t.btu.speed ≠ .steady
            ∧ (s.dvs.d0.grants ++ s.dvs.d1.grants).any (fun g => g.ref == r.ref) = true
                then { r with divert := .withdrawn } else r)
      ∧ (∀ d, t.dvs.get d = { s.dvs.get d with
          grants := if s.btu.speed = .steady ∧ t.btu.speed ≠ .steady then [] else (s.dvs.get d).grants })
      ∧ (t.btu.speed ≠ s.btu.speed ∨ s.btu.reportedV + 2 * c.vTol < t.btu.v ∨ t.btu.v + 2 * c.vTol < s.btu.reportedV →
          t.btu.reportedV = t.btu.v ∧ (s.hlc.queue.length < 8 →
              Queued (.segmentState t.btu.v t.btu.speed s.btu.blockedFlag) t))
      ∧ (¬ (t.btu.speed ≠ s.btu.speed ∨ s.btu.reportedV + 2 * c.vTol < t.btu.v ∨ t.btu.v + 2 * c.vTol < s.btu.reportedV) →
          t.btu.reportedV = s.btu.reportedV ∧ t.hlc = s.hlc)
      ∧ (s.stu.counters.length = 117 → (t.ctr .withdrawnSpeed).toNat = min 65535 ((s.ctr .withdrawnSpeed).toNat
          + if s.btu.speed = .steady ∧ t.btu.speed ≠ .steady then (s.dvs.d0.grants ++ s.dvs.d1.grants).length else 0))
      ∧ OnlyFrames s t ∧ OnlyParts [.btu, .dvs, .hlc, .stu] s t))

/-- A window close lowers each expect record by its source's V_src and removes exactly the no-shows. Formalises R45, R47. -/
def Obligations.WindowCloseAdvancesExpectList : Prop :=
  ∀ (c : StationConfig) (s : State),
    (s.cfg = some c) → SizeLaw s →
    ∃ t, exec .windowClose s = .next t
    ∧ t.btu.expects = (s.btu.expects.map fun x => { x with drem := max (-32768) (x.drem - (s.btu.upstream x.source).vsrc) }).filter
        (fun x => !decide (x.drem.tdiv 8 < -(x.tol : Int)))
      ∧ (t.ctr .noShow).toNat = min 65535 ((s.ctr .noShow).toNat + (s.btu.expects.length - t.btu.expects.length))
      ∧ t.ev .noShow = (s.ev .noShow || decide (t.btu.expects.length < s.btu.expects.length))

/-- A glitch filter's transitions: raw changes, and the edges that are accepted but delivered to no rule. Formalises R9, R11,
R12, R13, R14. How a filter remembers that it started in BLOCKED is the model's (log 11); with Gf 0 the change is the
accepted edge (log 12); before VALID the wire alone changes (log 3). -/
def Obligations.EyeChangesMoveTheFilter : Prop :=
  ∀ (c : StationConfig) (eye : Eye) (b : Bool) (s : State),
    (s.pins.eye eye = b → (∃ t, exec (.eyeRawChange eye b) s = .next t ∧ t = s))
    ∧ (s.cfg = none → (∃ t, exec (.eyeRawChange eye b) s = .next t ∧ t = s.setEyePin eye b ∧ t.pins.eye eye = b
        ∧ OnlyParts [.pins] s t))
    ∧ (s.cfg = some c → c.gf = 0 →
        (s.pins.eye eye = false → (s.btu.filter eye).st = .clear →
          exec (.eyeRawChange eye true) s = exec (.leadingEdgeAccepted eye) { s.setEyePin eye true with
            btu := s.btu.setFilter eye ⟨.blocking, s.btu.e, (s.btu.filter eye).mute⟩ })
        ∧ (s.pins.eye eye = true → (s.btu.filter eye).st = .blocked →
          exec (.eyeRawChange eye false) s = exec (.trailingEdgeAccepted eye) { s.setEyePin eye false with
            btu := s.btu.setFilter eye ⟨.clearing, s.btu.e, (s.btu.filter eye).mute⟩ }))
    ∧ (s.cfg = some c → 0 < c.gf → s.pins.eye eye = false → (s.btu.filter eye).st = .clear →
        (∃ t, exec (.eyeRawChange eye true) s = .next t
            ∧ t.btu = s.btu.setFilter eye ⟨.blocking, s.btu.e, (s.btu.filter eye).mute⟩
          ∧ t.pins.eye eye = true ∧ OnlyParts [.pins, .btu] s t))
    ∧ (s.cfg = some c → s.pins.eye eye = true → (s.btu.filter eye).st = .blocking →
        (∃ t, exec (.eyeRawChange eye false) s = .next t ∧ (t.btu.filter eye).st = .clear
            ∧ (t.btu.filter eye).mute = (s.btu.filter eye).mute ∧ t.pins.eye eye = false
          ∧ (eye = .entry → t.btu = s.btu.setFilter eye ⟨.clear, (s.btu.filter eye).raw, (s.btu.filter eye).mute⟩
              ∧ OnlyParts [.pins, .btu] s t)))
    ∧ (s.cfg = some c → 0 < c.gf → s.pins.eye eye = true → (s.btu.filter eye).st = .blocked →
        (∃ t, exec (.eyeRawChange eye false) s = .next t
            ∧ t.btu = s.btu.setFilter eye ⟨.clearing, s.btu.e, (s.btu.filter eye).mute⟩
          ∧ t.pins.eye eye = false ∧ OnlyParts [.pins, .btu] s t))
    ∧ (s.cfg = some c → s.pins.eye eye = false → (s.btu.filter eye).st = .clearing →
        (∃ t, exec (.eyeRawChange eye true) s = .next t ∧ (t.btu.filter eye).st = .blocked
            ∧ (t.btu.filter eye).mute = (s.btu.filter eye).mute
          ∧ (eye ≠ .entry → t.btu = s.btu.setFilter eye ⟨.blocked, (s.btu.filter eye).raw, (s.btu.filter eye).mute⟩
              ∧ OnlyParts [.pins, .btu] s t)))
    ∧ (s.cfg = some c → (s.btu.filter eye).st = .clearing → c.gf ≤ fwd (s.btu.filter eye).raw s.btu.e →
        (s.btu.filter eye).mute = true ∨ eye ≠ .entry →
        (∃ t, exec (.trailingEdgeAccepted eye) s = .next t
            ∧ t.btu = s.btu.setFilter eye ⟨.clear, (s.btu.filter eye).raw, false⟩ ∧ OnlyParts [.btu] s t))

/-- An accepted entry edge: the record that joins, the glitch at a held count, and the bag on a full queue. Formalises R15, R16,
R18, R19, R20, R29, R49, R50, R51, R117, R129, R146, R147. That the back gap stays absent while the gap reference is NONE or
LOST is a reading of the spec (log 10), and so is which points count as already passed (log 5). -/
def Obligations.EntryArrivalOpensARecord : Prop :=
  ∀ (c : StationConfig) (s : State),
    (s.cfg = some c) → SizeLaw s → SlotLaw s → (s.btu.fEntry.st = .blocking) → (c.gf ≤ fwd s.btu.fEntry.raw s.btu.e) →
    (s.btu.queue.length < 16 → (∀ q ∈ s.btu.queue, q.ein ≠ s.btu.fEntry.raw) →
        (∃ t, exec (.leadingEdgeAccepted .entry) s = .next t ∧ t.btu.queue.dropLast = s.btu.queue
            ∧ t.btu.queue.length = s.btu.queue.length + 1
          ∧ t.btu.flow = { s.btu.flow with entered := s.btu.flow.entered + 1 }
              ∧ t.btu.fEntry = { s.btu.fEntry with st := .blocked }
          ∧ t.btu = { s.btu with queue := t.btu.queue, flow := t.btu.flow, fEntry := t.btu.fEntry, openRec := t.btu.openRec, expects := t.btu.expects, blockedFlag := t.btu.blockedFlag, reportedV := t.btu.reportedV }
          ∧ FlagFollows c s t
          ∧ OnlyFrames s t ∧ OnlyGrants s t ∧ OnlyParts [.btu, .dvs, .hlc, .stu] s t
          ∧ ∃ r ∈ t.btu.queue.getLast?, r.ein = s.btu.fEntry.raw ∧ t.btu.openRec = some ⟨r.ref, false⟩
            ∧ r.slot < 16 ∧ (∀ q ∈ s.btu.queue, q.slot ≠ r.slot) ∧ (∀ k < r.slot, ∃ q ∈ s.btu.queue, q.slot = k)
            ∧ r.front = none ∧ r.back = none ∧ r.entry = none ∧ r.readStatus = .none ∧ r.tight = false ∧ r.closeBehind = false
            ∧ r.lateId = false ∧ r.ambiguous = false ∧ r.longBag = false
            ∧ ((s.dvs.d0.grants ++ s.dvs.d1.grants).any (·.ref == r.ref) = false → r.divert = .none)
            ∧ r.awaiting.Nodup ∧ (.longBag ∈ r.awaiting ↔ fwd r.ein s.btu.e < 2047)
            ∧ (.overdue ∈ r.awaiting ↔ fwd r.ein s.btu.e < c.pExit + c.band + 1)
            ∧ (.lateGraceEnd ∈ r.awaiting ↔ fwd r.ein s.btu.e < c.lateGrace + 1)
            ∧ (.readDecision ∈ r.awaiting ↔ c.reader = true ∧ ∃ rc ∈ c.readerSection, fwd r.ein s.btu.e < rc.pDec)
            ∧ (∀ d, .commit d ∈ r.awaiting ↔ ∃ v ∈ c.diverter d, fwd r.ein s.btu.e < v.pDiv - v.commit)
            ∧ (c.feedStart = true → r.origin = .inducted ∧ r.ident = none ∧ r.dest = none ∧ r.reason = none ∧ r.passes = 0
                ∧ r.len = none
                ∧ t.btu.expects = s.btu.expects ∧ t.dvs = s.dvs ∧ CountedBeside [] s t)
            ∧ (c.feedStart = false → matchArrival c s.btu.expects = none → r.origin = .blind ∧ r.ident = none ∧ r.dest = none
                ∧ r.reason = none ∧ r.passes = 0 ∧ r.len = none ∧ t.btu.expects = s.btu.expects ∧ t.dvs = s.dvs
                ∧ CountedBeside [.blindArrival] s t)
            ∧ (c.feedStart = false → ∀ x ∈ matchArrival c s.btu.expects, r.origin = .announced ∧ r.ident = x.ident
                ∧ r.len = (if x.len = 0 then none else some x.len) ∧ t.btu.expects = s.btu.expects.erase x
                ∧ (x.passes < c.maxPasses → r.passes = x.passes ∧ r.reason = x.reason
                    ∧ r.dest = (if x.reason.isSome then some c.problem else x.dest)
                    ∧ CountedBeside (if x.reason.isSome then [.strayCarried] else []) s t)
                ∧ (c.maxPasses ≤ x.passes → r.passes = c.maxPasses ∧ r.dest = some c.problem
                    ∧ r.reason = (if x.reason.all Reason.soft then some .lapLimit else x.reason)
                    ∧ StrayCounted [(x.reason, .lapLimit)] s t
                    ∧ t.ctr .strayCarried = (if x.reason.isSome then satInc (s.ctr .strayCarried) else s.ctr .strayCarried)
                    ∧ t.ctr .passesClamped = (if c.maxPasses < x.passes then satInc (s.ctr .passesClamped)
                        else s.ctr .passesClamped)
                    ∧ (x.reason.all Reason.soft = true → s.hlc.queue.length < 7 →
                        Queued (.strayNotice ⟨.lapLimit, x.ident, c.maxPasses,
                        if x.reason.isSome then c.problem else x.dest.getD 0, .announced⟩) t)))))
    ∧ (s.btu.queue.length < 16 → ∀ q ∈ s.btu.queue, q.ein = s.btu.fEntry.raw →
        (∃ t, exec (.leadingEdgeAccepted .entry) s = .next t
            ∧ t.btu = { s.btu with fEntry := { s.btu.fEntry with st := .blocked }, openRec := some ⟨q.ref, true⟩ }
          ∧ Counted [.entryGlitch] s t ∧ OnlyParts [.btu, .stu] s t))
    ∧ (s.btu.queue.length = 16 →
        (∃ t, exec (.leadingEdgeAccepted .entry) s = .next t
            ∧ t.btu.flow = { s.btu.flow with untracked := s.btu.flow.untracked + 1 }
          ∧ t.btu.queue.dropLast = s.btu.queue.dropLast ∧ t.btu.queue.map (·.ref) = s.btu.queue.map (·.ref)
          ∧ t.btu.gapRef = .lost ∧ t.btu.skipTrailing = true ∧ t.btu.openRec = none ∧ Raised [.untracked] s t
          ∧ t.btu.expects = (if c.feedStart then s.btu.expects else match matchArrival c s.btu.expects with
              | some x => s.btu.expects.erase x
              | none => s.btu.expects)
          ∧ (∀ r ∈ s.btu.queue.getLast?, ∃ q ∈ t.btu.queue.getLast?, q.back = (if r.back.isSome then r.back
              else match s.btu.gapRef with
              | .count g => some (min 16383 (fwd g s.btu.fEntry.raw))
              | .none => none
              | .lost => none)
            ∧ q = { r with back := q.back, divert := q.divert }
            ∧ (r.back = none ∧ q.back.any (· < c.gMin) = true →
                (∀ d, (t.dvs.get d).grants = (s.dvs.get d).grants.filter (·.ref != r.ref))
                ∧ q.divert = (if (s.dvs.d0.grants ++ s.dvs.d1.grants).any (·.ref == r.ref) then .withdrawn else r.divert)
                ∧ (t.ctr .withdrawnGap).toNat
                  = min 65535 ((s.ctr .withdrawnGap).toNat + ((s.dvs.d0.grants ++ s.dvs.d1.grants).filter (·.ref == r.ref)).length)
                ∧ ∀ k, k ≠ .withdrawnGap → t.ctr k = s.ctr k)
            ∧ (¬ (r.back = none ∧ q.back.any (· < c.gMin) = true) → t.dvs = s.dvs ∧ q.divert = r.divert ∧ Counted [] s t))
          ∧ t.btu = { s.btu with queue := t.btu.queue, flow := t.btu.flow, fEntry := { s.btu.fEntry with st := .blocked }, openRec := none, expects := t.btu.expects, gapRef := .lost, skipTrailing := true }
          ∧ OnlyGrants s t ∧ OnlyParts [.btu, .dvs, .stu] s t))

/-- Which expect record an arrival takes: the only candidate, the nearer one, or the priority source's; the other stays.
Formalises R49. -/
def Obligations.ArrivalIsMatchedByDistance : Prop :=
  ∀ (c : StationConfig) (s : State),
    (s.cfg = some c) → SlotLaw s → (s.btu.fEntry.st = .blocking) → (c.gf ≤ fwd s.btu.fEntry.raw s.btu.e) → (c.feedStart =
    false) → (s.btu.queue.length < 16) → (∀ q ∈ s.btu.queue, q.ein ≠ s.btu.fEntry.raw) →
    (∀ x ∈ s.btu.expects.find? (fun (x : ExpectRec) => x.source == .a && decide ((x.drem.tdiv 8).natAbs ≤ x.tol)),
        s.btu.expects.find? (fun (x : ExpectRec) => x.source == .b && decide ((x.drem.tdiv 8).natAbs ≤ x.tol)) = none →
        (∃ t, exec (.leadingEdgeAccepted .entry) s = .next t ∧ t.btu.expects = s.btu.expects.erase x
            ∧ ∃ r ∈ t.btu.queue.getLast?, r.origin = .announced ∧ r.ident = x.ident))
    ∧ (∀ y ∈ s.btu.expects.find? (fun (x : ExpectRec) => x.source == .b && decide ((x.drem.tdiv 8).natAbs ≤ x.tol)),
        s.btu.expects.find? (fun (x : ExpectRec) => x.source == .a && decide ((x.drem.tdiv 8).natAbs ≤ x.tol)) = none →
        (∃ t, exec (.leadingEdgeAccepted .entry) s = .next t ∧ t.btu.expects = s.btu.expects.erase y
            ∧ ∃ r ∈ t.btu.queue.getLast?, r.origin = .announced ∧ r.ident = y.ident))
    ∧ (∀ x ∈ s.btu.expects.find? (fun (x : ExpectRec) => x.source == .a && decide ((x.drem.tdiv 8).natAbs ≤ x.tol)),
        ∀ y ∈ s.btu.expects.find? (fun (x : ExpectRec) => x.source == .b && decide ((x.drem.tdiv 8).natAbs ≤ x.tol)),
        (x.drem.natAbs < y.drem.natAbs ∨ (x.drem.natAbs = y.drem.natAbs ∧ c.priority = .a) →
          (∃ t, exec (.leadingEdgeAccepted .entry) s = .next t ∧ t.btu.expects = s.btu.expects.erase x ∧ y ∈ t.btu.expects
            ∧ ∃ r ∈ t.btu.queue.getLast?, r.origin = .announced ∧ r.ident = x.ident))
        ∧ (y.drem.natAbs < x.drem.natAbs ∨ (x.drem.natAbs = y.drem.natAbs ∧ c.priority = .b) →
          (∃ t, exec (.leadingEdgeAccepted .entry) s = .next t ∧ t.btu.expects = s.btu.expects.erase y ∧ x ∈ t.btu.expects
            ∧ ∃ r ∈ t.btu.queue.getLast?, r.origin = .announced ∧ r.ident = y.ident)))

/-- An accepted entry trailing edge measures the open record: its length, gaps, TIGHT mark, and the gap reference. Formalises
R21, R22, R23, R117, R146, R149. That a record which R23 has made OVERSIZE is offered it no second time is a reading of the
spec (log 9). -/
def Obligations.TrailingEdgeCompletesTheOpenRecord : Prop :=
  ∀ (c : StationConfig) (o : OpenRec) (r : SegRec) (s : State),
    (s.cfg = some c) → SizeLaw s → SlotLaw s → (s.btu.fEntry.st = .clearing) → (c.gf ≤ fwd s.btu.fEntry.raw s.btu.e) →
    (s.btu.fEntry.mute = false) → (s.btu.openRec = some o) → (s.findRec o.ref = some r) →
    ∃ t, exec (.trailingEdgeAccepted .entry) s = .next t ∧ t.btu.openRec = none ∧ t.btu.gapRef = (if s.btu.skipTrailing
    then .lost else .count s.btu.fEntry.raw)
      ∧ t.btu.skipTrailing = false ∧ t.btu.fEntry = ⟨.clear, s.btu.fEntry.raw, false⟩ ∧ t.btu.flow = s.btu.flow
      ∧ OnlyRecords (r.ref :: (if o.reopened then [] else ((aheadOf r.ref s.btu.queue).map SegRec.ref).toList)) s t
      ∧ t.btu = { s.btu with queue := t.btu.queue, openRec := none, gapRef := t.btu.gapRef, skipTrailing := false, fEntry := t.btu.fEntry }
      ∧ OnlyFrames s t ∧ OnlyGrants s t ∧ OnlyParts [.btu, .dvs, .hlc, .stu] s t
      ∧ (∃ q ∈ t.findRec r.ref, q.len = (if r.longBag then r.len else some (max 1 (min 2047 (fwd r.ein s.btu.fEntry.raw))))
        ∧ q.origin = r.origin ∧ q.ident = r.ident ∧ q.passes = r.passes ∧ q.readStatus = r.readStatus
        ∧ q.longBag = r.longBag ∧ q.awaiting = r.awaiting
        ∧ (r.longBag = true ∨ fwd r.ein s.btu.fEntry.raw < 2047 → q.reason = r.reason ∧ q.dest = r.dest
            ∧ q.divert = r.divert ∧ t.hlc = s.hlc)
        ∧ (r.longBag = false → 2047 ≤ fwd r.ein s.btu.fEntry.raw → StrayNoticed r .oversize s t
            ∧ q.reason = (if r.reason.all Reason.soft then some .oversize else r.reason)
            ∧ q.dest = (if r.reason.all Reason.soft then some c.problem else r.dest))
        ∧ q.back = r.back
        ∧ StrayCounted (if r.longBag = false ∧ 2047 ≤ fwd r.ein s.btu.fEntry.raw then [(r.reason, .oversize)] else []) s t
        ∧ (o.reopened = true → q.front = r.front ∧ q.tight = r.tight ∧ t.ctr .tightEntry = s.ctr .tightEntry
            ∧ t.ctr .withdrawnGap = s.ctr .withdrawnGap)
        ∧ (o.reopened = false →
            q.front = (match s.btu.gapRef with
              | .none => some 16383
              | .count g => some (min 16383 (fwd g r.ein))
              | .lost => r.front)
            ∧ q.tight = (r.tight || (decide (s.btu.gapRef ≠ .lost) && q.front.any (· < c.gMin)))
            ∧ t.ctr .tightEntry
              = (if s.btu.gapRef ≠ .lost ∧ q.front.any (· < c.gMin) = true then satInc (s.ctr .tightEntry)
                  else s.ctr .tightEntry)
            ∧ ∀ a ∈ aheadOf r.ref s.btu.queue, ∃ b ∈ t.findRec a.ref,
              b.back = (if a.back = none ∧ s.btu.gapRef ≠ .lost then q.front else a.back)
              ∧ (a.back = none ∧ s.btu.gapRef ≠ .lost ∧ q.front.any (· < c.gMin) = true →
                  (∀ d, (t.dvs.get d).grants.any (·.ref == a.ref) = false)
                  ∧ b.divert = (if (s.dvs.d0.grants ++ s.dvs.d1.grants).any (·.ref == a.ref) then .withdrawn else a.divert)
                  ∧ (t.ctr .withdrawnGap).toNat
                    = min 65535 ((s.ctr .withdrawnGap).toNat + ((s.dvs.d0.grants ++ s.dvs.d1.grants).filter (·.ref == a.ref)).length))
              ∧ (¬ (a.back = none ∧ s.btu.gapRef ≠ .lost ∧ q.front.any (· < c.gMin) = true) →
                  (∀ d, (t.dvs.get d).grants.filter (·.ref == a.ref) = (s.dvs.get d).grants.filter (·.ref == a.ref))
                  ∧ b.divert = a.divert ∧ t.ctr .withdrawnGap = s.ctr .withdrawnGap)))

/-- An entry trailing edge with no open record sets the gap reference and does nothing else. Formalises R24. -/
def Obligations.TrailingEdgeWithoutOpenRecord : Prop :=
  ∀ (c : StationConfig) (s : State),
    (s.cfg = some c) → (s.btu.fEntry.st = .clearing) → (c.gf ≤ fwd s.btu.fEntry.raw s.btu.e) → (s.btu.openRec = none) →
    (s.btu.fEntry.mute = false → (∃ t, exec (.trailingEdgeAccepted .entry) s = .next t ∧ t = { s with btu := { s.btu with
        fEntry := ⟨.clear, s.btu.fEntry.raw, false⟩
        gapRef := if s.btu.skipTrailing then .lost else .count s.btu.fEntry.raw
        skipTrailing := false } }))
    ∧ (s.btu.fEntry.mute = true → (∃ t, exec (.trailingEdgeAccepted .entry) s = .next t ∧ t = { s with btu := { s.btu with
        fEntry := ⟨.clear, s.btu.fEntry.raw, false⟩ } }))

/-- An accepted exit edge: the exit match of the oldest record under the passes rule, or an unexpected exit. Formalises R25,
R26, R28, R29, R55, R117, R118, R128, R146, R149. Stated while the next younger record is not overdue (log 8) and the
outbound queue holds at most 5 frames. That LAP_LIMIT is counted and its event bit raised though a hard reason keeps the
offer out is the model's choice (log 14). -/
def Obligations.ExitEdgeMatchesOrIsUnexpected : Prop :=
  ∀ (c : StationConfig) (s : State),
    (s.cfg = some c) → SizeLaw s → SlotLaw s → (s.btu.fExit.st = .blocking) → (c.gf ≤ fwd s.btu.fExit.raw s.btu.e) →
    (s.hlc.queue.length ≤ 5) →
    (∀ r ∈ s.btu.queue.head?, c.pExit - c.band ≤ fwd r.ein s.btu.fExit.raw → fwd r.ein s.btu.fExit.raw ≤ c.pExit + c.band →
        fwd r.ein s.btu.fExit.raw < 2 ^ 23 → (∀ q ∈ s.btu.queue.tail.head?, .overdue ∈ q.awaiting) →
        (∃ t, exec (.leadingEdgeAccepted .exit) s = .next t ∧ t.btu.queue = s.btu.queue.tail
            ∧ t.btu.flow = { s.btu.flow with exited := s.btu.flow.exited + 1 }
          ∧ t.btu.fExit = { s.btu.fExit with st := .blocked } ∧ t.btu.expects = s.btu.expects ∧ t.btu.gapRef = s.btu.gapRef
          ∧ t.idt.entries = (match r.entry with
              | none => s.idt.entries
              | some i => s.idt.entries.modify i (Option.map fun x => { x with state := .onLoop, age := 0 }))
          ∧ t.idt.pointer = s.idt.pointer
          ∧ (∀ d, t.dvs.get d = { s.dvs.get d with
              grants := (s.dvs.get d).grants.filter (·.ref != r.ref)
              confirms := (s.dvs.get d).confirms.filter (·.ref != r.ref)
              last := (s.dvs.get d).last.map fun l => { l with
                fired := if l.fired = some r.ref then none else l.fired
                closeBehind := if l.closeBehind = some r.ref then none else l.closeBehind } })
          ∧ (t.ctr .grantCancelled).toNat = min 65535 ((s.ctr .grantCancelled).toNat
            + ((s.dvs.d0.grants.filter fun g => g.ref == r.ref && !(r.dest.any c.ownChute && decide (c.maxPasses ≤ r.passes + 1) && r.reason.all Reason.soft && c.div0.any (fun v => v.chute != c.problem))).length)
            + ((s.dvs.d1.grants.filter fun g => g.ref == r.ref && !(r.dest.any c.ownChute && decide (c.maxPasses ≤ r.passes + 1) && r.reason.all Reason.soft && c.div1.any (fun v => v.chute != c.problem))).length))
          ∧ (t.ctr .withdrawnDestination).toNat = min 65535 ((s.ctr .withdrawnDestination).toNat
            + ((s.dvs.d0.grants.filter fun g => g.ref == r.ref && (r.dest.any c.ownChute && decide (c.maxPasses ≤ r.passes + 1) && r.reason.all Reason.soft && c.div0.any (fun v => v.chute != c.problem))).length)
            + ((s.dvs.d1.grants.filter fun g => g.ref == r.ref && (r.dest.any c.ownChute && decide (c.maxPasses ≤ r.passes + 1) && r.reason.all Reason.soft && c.div1.any (fun v => v.chute != c.problem))).length))
          ∧ t.ctr .passCounted = (if r.dest.any c.ownChute then satInc (s.ctr .passCounted) else s.ctr .passCounted)
          ∧ (c.down ≠ 0 → r.dest.any c.ownChute = false →
              Queued (.handover ⟨c.down, s.btu.v, c.dExit, r.len.getD 0, r.ident, r.origin, r.dest.getD 0, r.reason, r.passes, r.lateId⟩
                s.btu.fExit.raw) t)
          ∧ (c.down ≠ 0 → r.dest.any c.ownChute = true → r.passes + 1 < c.maxPasses →
              Queued (.handover ⟨c.down, s.btu.v, c.dExit, r.len.getD 0, r.ident, r.origin, r.dest.getD 0, r.reason, r.passes + 1, r.lateId⟩
                s.btu.fExit.raw) t)
          ∧ (c.down ≠ 0 → r.dest.any c.ownChute = true → c.maxPasses ≤ r.passes + 1 →
              Queued (.handover ⟨c.down, s.btu.v, c.dExit, r.len.getD 0, r.ident, r.origin,
                if r.reason.all Reason.soft then c.problem else r.dest.getD 0,
                if r.reason.all Reason.soft then some .lapLimit else r.reason, c.maxPasses, r.lateId⟩ s.btu.fExit.raw) t)
          ∧ (c.down = 0 → ∀ o ∈ t.hlc.queue, o.kind = 1 → o ∈ s.hlc.queue)
          ∧ FlagFollows c s t
          ∧ StrayCounted (if r.dest.any c.ownChute = true ∧ c.maxPasses ≤ r.passes + 1 then [(r.reason, .lapLimit)]
              else []) s t
          ∧ (r.dest.any c.ownChute = true → c.maxPasses ≤ r.passes + 1 → r.reason.all Reason.soft = true →
              Queued (.strayNotice ⟨.lapLimit, r.ident, c.maxPasses, r.dest.getD 0, r.origin⟩) t)
          ∧ t.ctr .lapLimit = (if r.dest.any c.ownChute = true ∧ c.maxPasses ≤ r.passes + 1 then satInc (s.ctr .lapLimit)
              else s.ctr .lapLimit)
          ∧ t.ev .lapLimit = (s.ev .lapLimit || decide (r.dest.any c.ownChute = true ∧ c.maxPasses ≤ r.passes + 1))
          ∧ t.btu = { s.btu with queue := s.btu.queue.tail, flow := t.btu.flow, fExit := t.btu.fExit, openRec := t.btu.openRec, blockedFlag := t.btu.blockedFlag, reportedV := t.btu.reportedV }
          ∧ OnlyFrames s t ∧ OnlyParts [.btu, .idt, .dvs, .hlc, .stu] s t))
    ∧ ((∀ r ∈ s.btu.queue.head?, ¬ (c.pExit - c.band ≤ fwd r.ein s.btu.fExit.raw
        ∧ fwd r.ein s.btu.fExit.raw ≤ c.pExit + c.band
          ∧ fwd r.ein s.btu.fExit.raw < 2 ^ 23)) →
        (∃ t, exec (.leadingEdgeAccepted .exit) s = .next t
            ∧ t.btu = { s.btu with fExit := { s.btu.fExit with st := .blocked } }
          ∧ (c.down ≠ 0 → Queued (.handover ⟨c.down, s.btu.v, c.dExit, 0, none, .blind, c.problem, some .blind, 0, false⟩ s.btu.fExit.raw) t)
          ∧ (c.down = 0 → ∀ o ∈ t.hlc.queue, o.kind = 1 → o ∈ s.hlc.queue)
          ∧ Queued (.strayNotice ⟨.blind, none, 0, 0, .blind⟩) t
          ∧ CountedBeside [.exitUnexpected] s t ∧ RaisedBeside [.exitUnexpected] s t ∧ OnlyFrames s t
              ∧ OnlyParts [.btu, .hlc, .stu] s t))

/-- OVERDUE_POINT of the oldest record: exit overdue with a LOST notice, unless an edge of its own is pending. Formalises R18,
R27, R28, R29, R118, R149. The list of points not yet taken is the model's own (log 5). When a younger overdue record is
tested is the model's choice (log 8). -/
def Obligations.OverduePointRemovesTheOldest : Prop :=
  ∀ (c : StationConfig) (r : SegRec) (s : State),
    (s.cfg = some c) → SizeLaw s → SlotLaw s → (r ∈ s.btu.queue) → (c.pExit + c.band + 1 ≤ fwd r.ein s.btu.e) →
    (s.hlc.queue.length ≤ 6) →
    (.overdue ∈ r.awaiting → s.btu.queue.head? = some r → r.awaiting.Nodup →
        ¬ (s.btu.fExit.st = .blocking ∧ c.pExit - c.band ≤ fwd r.ein s.btu.fExit.raw
            ∧ fwd r.ein s.btu.fExit.raw ≤ c.pExit + c.band
            ∧ fwd r.ein s.btu.fExit.raw < 2 ^ 23) →
        (∀ q ∈ s.btu.queue.tail.head?, .overdue ∈ q.awaiting) →
        (∃ t, exec (.overduePoint r.ref) s = .next t ∧ t.btu.queue = s.btu.queue.tail
            ∧ t.btu.flow = { s.btu.flow with exited := s.btu.flow.exited + 1 }
          ∧ t.idt.entries = (match r.entry with
              | none => s.idt.entries
              | some i => s.idt.entries.modify i (Option.map fun x => { x with state := .onLoop, age := 0 }))
          ∧ t.ctr .exitOverdue = satInc (s.ctr .exitOverdue) ∧ t.ev .exitOverdue = true
          ∧ Queued (.strayNotice ⟨.lost, r.ident, r.passes, 0, r.origin⟩) t
          ∧ (∀ o ∈ t.hlc.queue, o.kind = 1 → o ∈ s.hlc.queue)
          ∧ FlagFollows c s t
          ∧ (∀ d, t.dvs.get d = { s.dvs.get d with
              grants := (s.dvs.get d).grants.filter (·.ref != r.ref)
              confirms := (s.dvs.get d).confirms.filter (·.ref != r.ref)
              last := (s.dvs.get d).last.map fun l => { l with
                fired := if l.fired = some r.ref then none else l.fired
                closeBehind := if l.closeBehind = some r.ref then none else l.closeBehind } })
          ∧ (t.ctr .grantCancelled).toNat
            = min 65535 ((s.ctr .grantCancelled).toNat + ((s.dvs.d0.grants ++ s.dvs.d1.grants).filter (·.ref == r.ref)).length)
          ∧ t.btu = { s.btu with queue := s.btu.queue.tail, flow := t.btu.flow, openRec := t.btu.openRec, blockedFlag := t.btu.blockedFlag, reportedV := t.btu.reportedV } ∧ OnlyFrames s t ∧ OnlyParts [.btu, .idt, .dvs, .hlc, .stu] s t))
    ∧ (.overdue ∈ r.awaiting → s.btu.queue.head? = some r →
        s.btu.fExit.st = .blocking ∧ c.pExit - c.band ≤ fwd r.ein s.btu.fExit.raw
            ∧ fwd r.ein s.btu.fExit.raw ≤ c.pExit + c.band
          ∧ fwd r.ein s.btu.fExit.raw < 2 ^ 23 →
        (∃ t, exec (.overduePoint r.ref) s = .next t
            ∧ t.btu = { s.btu with queue := { r with awaiting := r.awaiting.erase .overdue } :: s.btu.queue.tail }
          ∧ OnlyParts [.btu] s t))
    ∧ (.overdue ∈ r.awaiting → (∀ q ∈ s.btu.queue.head?, q ≠ r ∧ .overdue ∈ q.awaiting) →
        (∃ t, exec (.overduePoint r.ref) s = .next t ∧ t.btu = { s.btu with
            queue := s.btu.queue.map fun q => if q = r then { q with awaiting := q.awaiting.erase .overdue } else q }
          ∧ OnlyParts [.btu] s t))
    ∧ (.overdue ∉ r.awaiting → (∃ t, exec (.overduePoint r.ref) s = .next t ∧ t = s))
    ∧ (.overdue ∉ r.awaiting → s.btu.queue.head? = some r → s.pins.eyeOut = true → s.btu.fExit.st = .blocking →
        (∀ q ∈ s.btu.queue.tail.head?, .overdue ∈ q.awaiting) →
        (∃ t, exec (.eyeRawChange .exit false) s = .next t ∧ t.btu.queue = s.btu.queue.tail
            ∧ t.btu.flow = { s.btu.flow with exited := s.btu.flow.exited + 1 }
          ∧ t.idt.entries = (match r.entry with
              | none => s.idt.entries
              | some i => s.idt.entries.modify i (Option.map fun x => { x with state := .onLoop, age := 0 }))
          ∧ t.ctr .exitOverdue = satInc (s.ctr .exitOverdue) ∧ t.ev .exitOverdue = true
          ∧ Queued (.strayNotice ⟨.lost, r.ident, r.passes, 0, r.origin⟩) t
          ∧ (∀ o ∈ t.hlc.queue, o.kind = 1 → o ∈ s.hlc.queue)
          ∧ FlagFollows c s t
          ∧ (∀ d, t.dvs.get d = { s.dvs.get d with
              grants := (s.dvs.get d).grants.filter (·.ref != r.ref)
              confirms := (s.dvs.get d).confirms.filter (·.ref != r.ref)
              last := (s.dvs.get d).last.map fun l => { l with
                fired := if l.fired = some r.ref then none else l.fired
                closeBehind := if l.closeBehind = some r.ref then none else l.closeBehind } })
          ∧ (t.ctr .grantCancelled).toNat
            = min 65535 ((s.ctr .grantCancelled).toNat + ((s.dvs.d0.grants ++ s.dvs.d1.grants).filter (·.ref == r.ref)).length)
          ∧ t.btu = { s.btu with queue := s.btu.queue.tail, fExit := { s.btu.fExit with st := .clear }, flow := t.btu.flow, openRec := t.btu.openRec, blockedFlag := t.btu.blockedFlag, reportedV := t.btu.reportedV }
          ∧ t.pins = { s.pins with eyeOut := false } ∧ OnlyFrames s t ∧ OnlyParts [.pins, .btu, .idt, .dvs, .hlc, .stu] s t))

/-- LONG_BAG_POINT of the open record with the entry eye BLOCKED sets L 2047 and OVERSIZE; otherwise it changes nothing.
Formalises R18, R23, R146, R149. The list of points not yet taken is the model's own (log 5). -/
def Obligations.LongBagPointMakesOversize : Prop :=
  ∀ (c : StationConfig) (r : SegRec) (s : State),
    (s.cfg = some c) → SizeLaw s → SlotLaw s → (r ∈ s.btu.queue) → (2047 ≤ fwd r.ein s.btu.e) →
    (.longBag ∈ r.awaiting → s.btu.openRec.any (·.ref == r.ref) = true ∧ s.btu.fEntry.st = .blocked →
        (∃ t, exec (.longBagPoint r.ref) s = .next t ∧ t.btu.openRec = s.btu.openRec ∧ t.btu.gapRef = s.btu.gapRef
            ∧ t.btu.flow = s.btu.flow
          ∧ StrayCounted [(r.reason, .oversize)] s t ∧ StrayNoticed r .oversize s t
            ∧ OnlyRecords [r.ref] s t ∧ t.btu = { s.btu with queue := t.btu.queue } ∧ OnlyFrames s t ∧ OnlyGrants s t
          ∧ (∃ q ∈ t.findRec r.ref, q.len = some 2047 ∧ q.front = r.front ∧ q.back = r.back ∧ q.ident = r.ident
              ∧ q.passes = r.passes
            ∧ q.reason = (if r.reason.all Reason.soft then some .oversize else r.reason)
            ∧ q.dest = (if r.reason.all Reason.soft then some c.problem else r.dest))
          ∧ OnlyParts [.btu, .dvs, .hlc, .stu] s t))
    ∧ (.longBag ∈ r.awaiting → ¬ (s.btu.openRec.any (·.ref == r.ref) = true ∧ s.btu.fEntry.st = .blocked) →
        (∃ t, exec (.longBagPoint r.ref) s = .next t ∧ t.btu = { s.btu with
            queue := s.btu.queue.map fun q => if q = r then { q with awaiting := q.awaiting.erase .longBag } else q }
          ∧ OnlyParts [.btu] s t))
    ∧ (s.pins.eyeIn = false → s.btu.fEntry.st = .clearing → s.btu.openRec.any (·.ref == r.ref) = true →
        (.longBag ∉ r.awaiting → r.longBag = false →
          (∃ t, exec (.eyeRawChange .entry true) s = .next t ∧ t.btu.openRec = s.btu.openRec ∧ t.btu.gapRef = s.btu.gapRef
              ∧ t.btu.flow = s.btu.flow
            ∧ StrayCounted [(r.reason, .oversize)] s t ∧ StrayNoticed r .oversize s t
            ∧ OnlyRecords [r.ref] s t ∧ t.btu = { s.btu with queue := t.btu.queue, fEntry := { s.btu.fEntry with st := .blocked } }
            ∧ OnlyFrames s t ∧ OnlyGrants s t
            ∧ (∃ q ∈ t.findRec r.ref, q.len = some 2047 ∧ q.front = r.front ∧ q.back = r.back ∧ q.ident = r.ident
                ∧ q.passes = r.passes
            ∧ q.reason = (if r.reason.all Reason.soft then some .oversize else r.reason)
            ∧ q.dest = (if r.reason.all Reason.soft then some c.problem else r.dest))
            ∧ t.pins = { s.pins with eyeIn := true } ∧ OnlyParts [.pins, .btu, .dvs, .hlc, .stu] s t))
        ∧ (.longBag ∈ r.awaiting ∨ r.longBag = true →
          (∃ t, exec (.eyeRawChange .entry true) s = .next t
              ∧ t.btu = { s.btu with fEntry := { s.btu.fEntry with st := .blocked } }
            ∧ t.pins = { s.pins with eyeIn := true } ∧ OnlyParts [.pins, .btu] s t)))

/-- LATE_GRACE_END offers BLIND to a record that nothing has identified, and tests no other record. Formalises R18, R53, R146,
R149. The list of points not yet taken is the model's own (log 5). blind-stray is counted though the reason may be kept out
(log 14). -/
def Obligations.LateGraceEndMakesABlindStray : Prop :=
  ∀ (c : StationConfig) (r : SegRec) (s : State),
    (s.cfg = some c) → SizeLaw s → SlotLaw s → (r ∈ s.btu.queue) → (.lateGraceEnd ∈ r.awaiting) → (c.lateGrace + 1 ≤ fwd
    r.ein s.btu.e) →
    (r.origin = .blind ∧ r.lateId = false ∧ r.ident = none →
        (∃ t, exec (.lateGraceEnd r.ref) s = .next t ∧ (∃ q ∈ t.findRec r.ref, q.reason = (if r.reason = none
            then some .blind else r.reason)
            ∧ q.dest = (if r.reason = none then some c.problem else r.dest) ∧ q.awaiting = r.awaiting.erase .lateGraceEnd
            ∧ q.ident = none ∧ q.passes = r.passes ∧ q.origin = .blind ∧ q.len = r.len)
          ∧ OnlyRecords [r.ref] s t ∧ t.btu = { s.btu with queue := t.btu.queue } ∧ OnlyFrames s t ∧ OnlyGrants s t
          ∧ StrayCounted [(r.reason, .blind)] s t ∧ StrayNoticed r .blind s t
          ∧ t.ctr .blindStray = satInc (s.ctr .blindStray) ∧ OnlyParts [.btu, .dvs, .hlc, .stu] s t))
    ∧ (¬ (r.origin = .blind ∧ r.lateId = false ∧ r.ident = none) →
        (∃ t, exec (.lateGraceEnd r.ref) s = .next t ∧ t.btu = { s.btu with
            queue := s.btu.queue.map fun q => if q = r then { q with awaiting := q.awaiting.erase .lateGraceEnd } else q }
          ∧ OnlyParts [.btu] s t))

/-- READ_DECISION_POINT turns an unread record NO_READ and offers NO_READ to one without identity. Formalises R18, R74, R146,
R149. The list of points not yet taken is the model's own (log 5). -/
def Obligations.ReadDecisionPointJudgesUnread : Prop :=
  ∀ (c : StationConfig) (rc : ReaderConfig) (r : SegRec) (s : State),
    (s.cfg = some c) → (c.reader = true) → (c.readerSection = some rc) → SizeLaw s → SlotLaw s → (r ∈ s.btu.queue) →
    (.readDecision ∈ r.awaiting) → (rc.pDec ≤ fwd r.ein s.btu.e) →
    (r.readStatus = .none →
        (∃ t, exec (.readDecisionPoint r.ref) s = .next t ∧ (∃ q ∈ t.findRec r.ref, q.readStatus = .noRead
            ∧ q.ident = r.ident ∧ q.passes = r.passes
            ∧ q.ambiguous = r.ambiguous
            ∧ q.reason = (if r.ident = none ∧ r.reason = none then some .noRead else r.reason)
            ∧ q.dest = (if r.ident = none ∧ r.reason = none then some c.problem else r.dest))
          ∧ OnlyRecords [r.ref] s t ∧ t.btu = { s.btu with queue := t.btu.queue } ∧ OnlyFrames s t ∧ OnlyGrants s t
          ∧ StrayCounted (if r.ident = none then [(r.reason, .noRead)] else []) s t ∧ (r.ident = none →
              StrayNoticed r .noRead s t)
          ∧ t.ctr .noReadDecision = satInc (s.ctr .noReadDecision)
          ∧ t.ctr .ambiguousUnresolved = (if r.ambiguous then satInc (s.ctr .ambiguousUnresolved)
              else s.ctr .ambiguousUnresolved)
          ∧ (r.ident ≠ none ∨ r.reason ≠ none → t.hlc = s.hlc) ∧ OnlyParts [.btu, .dvs, .hlc, .stu] s t))
    ∧ (r.readStatus ≠ .none →
        (∃ t, exec (.readDecisionPoint r.ref) s = .next t ∧ t.btu = { s.btu with
            queue := s.btu.queue.map fun q => if q = r then { q with awaiting := q.awaiting.erase .readDecision } else q }
          ∧ OnlyParts [.btu] s t))

/-- COMMIT_POINT grants with the counts of R114, or refuses under the first failing condition of R115, for a record bound for
the chute. Formalises R10, R113, R114, R115, R116. The list of points not yet taken is the model's own (log 5). -/
def Obligations.CommitPointDecidesTheGrant : Prop :=
  ∀ (c : StationConfig) (d : Div) (v : DiverterConfig) (r : SegRec) (s : State),
    (s.cfg = some c) → (c.diverter d = some v) → SizeLaw s → SlotLaw s → (r ∈ s.btu.queue) → (.commit d ∈ r.awaiting) →
    (v.pDiv - v.commit ≤ fwd r.ein s.btu.e) →
    (r.dest ≠ some v.chute →
        (∃ t, exec (.commitPoint d r.ref) s = .next t ∧ t.btu = { s.btu with
            queue := s.btu.queue.map fun q => if q = r then { q with awaiting := q.awaiting.erase (.commit d) } else q }
          ∧ OnlyParts [.btu] s t))
    ∧ (∀ o, (if (s.dvs.get d).account.any (fun a => a.state == .isOpen || a.state == .nearFull) = false
        then some Ctr.refusedChuteNotOpen
            else if s.btu.speed ≠ .steady then some .refusedNotSteady
            else if r.len = none then some .refusedLengthUnknown
            else if 2047 ≤ r.len.getD 0 then some .refusedLongBag
            else if v.commit ≤ (v.actuation * s.btu.v + 127) / 128 then some .refusedSpeedTooHigh
            else if r.front = none ∨ r.tight = true then some .refusedFrontGap
            else if r.back.any (· < c.gMin) then some .refusedBackGap
            else if (s.dvs.get d).busyUntil.any (fun b => 2 ^ 23 ≤ fwd b (r.ein + BitVec.ofNat 24 (v.pDiv - (v.actuation * s.btu.v + 127) / 128)))
              then some .refusedDiverterBusy
            else if 3 ≤ (s.dvs.get d).grants.length then some .refusedGrantListFull
            else none) = o → r.dest = some v.chute →
        (∀ k ∈ o, (∃ t, exec (.commitPoint d r.ref) s = .next t ∧ t.btu = { s.btu with queue := s.btu.queue.map fun q =>
                if q = r then { q with awaiting := q.awaiting.erase (.commit d), divert := .withdrawn } else q }
              ∧ Counted [k] s t ∧ OnlyParts [.btu, .stu] s t))
        ∧ (o = none → (∃ t, exec (.commitPoint d r.ref) s = .next t ∧ t.btu = { s.btu with queue := s.btu.queue.map fun q =>
                if q = r then { q with awaiting := q.awaiting.erase (.commit d), divert := .granted } else q }
              ∧ t.dvs = s.dvs.put d { s.dvs.get d with grants := (s.dvs.get d).grants ++ [
                  { ref := r.ref
                    fire := r.ein + BitVec.ofNat 24 (v.pDiv - (v.actuation * s.btu.v + 127) / 128)
                    release := r.ein + BitVec.ofNat 24 (v.pDiv + v.hold + r.len.getD 0)
                    freeFrom := r.ein + BitVec.ofNat 24 (v.pDiv + v.hold + r.len.getD 0)
                      + BitVec.ofNat 24 ((v.recovery * s.btu.v + 127) / 128) }] }
              ∧ Counted [.grant] s t ∧ OnlyParts [.btu, .dvs, .stu] s t)))

/-- FIRE turns the first grant into the engagement with DIVn on, makes its confirm entry and looks at the record behind.
Formalises R120, R122, R123, R125. FIRE over an engagement not yet released replaces it (log 27). -/
def Obligations.FireEngagesTheDiverter : Prop :=
  ∀ (c : StationConfig) (d : Div) (v : DiverterConfig) (g : Grant) (s : State),
    (s.cfg = some c) → (c.diverter d = some v) → SizeLaw s → SlotLaw s → ((s.dvs.get d).grants.head? = some g) → (fwd
    g.fire s.btu.e < 2 ^ 23) →
    ∃ t, exec (.fire d) s = .next t ∧ (t.dvs.get d).grants = (s.dvs.get d).grants.tail ∧ (t.dvs.get d).eng = .engaged
    ∧ t.divOut d = true
      ∧ (t.dvs.get d).account = (s.dvs.get d).account ∧ (t.dvs.get d).bay = (s.dvs.get d).bay
          ∧ t.dvs.get (otherDiv d) = s.dvs.get (otherDiv d)
      ∧ (t.dvs.get d).confirms = (if (s.dvs.get d).confirms.length = 2 then (s.dvs.get d).confirms.tail
          else (s.dvs.get d).confirms)
          ++ [⟨g.ref, g.fire, g.fire + BitVec.ofNat 24 v.window, false⟩]
      ∧ t.ctr .fire = satInc (s.ctr .fire)
      ∧ t.ctr .confirmOverrun = (if (s.dvs.get d).confirms.length = 2 then satInc (s.ctr .confirmOverrun)
          else s.ctr .confirmOverrun)
      ∧ t.ctr .missedDivert = (if (s.dvs.get d).confirms.length = 2 then satInc (s.ctr .missedDivert)
          else s.ctr .missedDivert)
      ∧ (∃ l ∈ (t.dvs.get d).last, l.fire = g.fire ∧ l.release = g.release ∧ l.freeFrom = g.freeFrom ∧ l.fired = some g.ref
          ∧ l.confirmed = false
        ∧ l.closeBehind = ((nextBehind g.ref s.btu.queue).filter (fun (b : SegRec) => b.front.any (· < v.hold))).map (·.ref))
      ∧ t.ctr .closeBehind = (if ((nextBehind g.ref s.btu.queue).filter (fun (b : SegRec) => b.front.any (· < v.hold))).isSome
          then satInc (s.ctr .closeBehind) else s.ctr .closeBehind)
      ∧ t.btu.queue = s.btu.queue.map (fun (q : SegRec) => { q with
          closeBehind :=
            if (nextBehind g.ref s.btu.queue).any (fun (b : SegRec) => b.front.any (· < v.hold) && b.ref == q.ref) = true
                then true
            else if (s.dvs.get d).last.any (·.closeBehind == some q.ref) = true
              ∧ (s.dvs.get (otherDiv d)).last.any (·.closeBehind == some q.ref) = false then false
            else q.closeBehind
          divert :=
            if q.ref = g.ref then .fired
            else if (s.dvs.get d).confirms.length = 2 ∧ (s.dvs.get d).confirms.head?.any (·.ref == q.ref) = true then .missed
            else q.divert })
      ∧ Raised (if (s.dvs.get d).confirms.length = 2 then [.missedDivert, .confirmOverrun] else []) s t
      ∧ t.btu = { s.btu with queue := t.btu.queue } ∧ OnlyParts [.btu, .dvs, .stu] s t

/-- RELEASE turns DIVn off into RECOVERING or IDLE, and RECOVERY_END ends the recovery; the counts are kept. Formalises R121. -/
def Obligations.ReleaseAndRecoveryEndTheEngagement : Prop :=
  ∀ (d : Div) (l : LastFire) (s : State),
    ((s.dvs.get d).last = some l) →
    ((s.dvs.get d).eng = .engaged → fwd l.release s.btu.e < 2 ^ 23 →
        (∃ t, exec (.release d) s = .next t ∧ t.divOut d = false
          ∧ t.dvs = s.dvs.put d { s.dvs.get d with eng := if l.freeFrom = l.release then .idle else .recovering }
              ∧ OnlyParts [.dvs] s t))
    ∧ ((s.dvs.get d).eng = .recovering → fwd l.freeFrom s.btu.e < 2 ^ 23 →
        (∃ t, exec (.recoveryEnd d) s = .next t ∧ t.dvs = s.dvs.put d { s.dvs.get d with eng := .idle }
            ∧ OnlyParts [.dvs] s t))

/-- CONFIRM_WINDOW_END ends the oldest entry as a missed divert, unless an edge in its window is pending; a waiting entry ends
when the edge vanishes. Formalises R125. The mark of a waiting entry is the model's own, and that MISSED is written whatever
the record's divert status is a reading of the spec (log 25). -/
def Obligations.ConfirmWindowEndMissesOrWaits : Prop :=
  ∀ (c : StationConfig) (d : Div) (e : Confirm) (r : SegRec) (s : State),
    SizeLaw s → SlotLaw s →
    ((s.dvs.get d).confirms.head? = some e → e.waiting = false → fwd e.windowEnd s.btu.e < 2 ^ 23 → r ∈ s.btu.queue →
    r.ref = e.ref →
        ¬ ((s.btu.filter (.confirm d)).st = .blocking ∧ within e.fire e.windowEnd (s.btu.filter (.confirm d)).raw = true) →
        (∃ t, exec (.confirmWindowEnd d) s = .next t
            ∧ t.dvs = s.dvs.put d { s.dvs.get d with confirms := (s.dvs.get d).confirms.tail }
          ∧ t.btu = { s.btu with queue := s.btu.queue.map fun q => if q = r then { q with divert := .missed } else q }
          ∧ Counted [.missedDivert] s t ∧ Raised [.missedDivert] s t ∧ OnlyParts [.btu, .dvs, .stu] s t))
    ∧ ((s.dvs.get d).confirms.head? = some e → e.waiting = false → fwd e.windowEnd s.btu.e < 2 ^ 23 →
        (s.btu.filter (.confirm d)).st = .blocking ∧ within e.fire e.windowEnd (s.btu.filter (.confirm d)).raw = true →
        (∃ t, exec (.confirmWindowEnd d) s = .next t ∧ (t.dvs.get d).confirms.head? = some { e with waiting := true }
          ∧ (t.dvs.get d).confirms.length = (s.dvs.get d).confirms.length
          ∧ (t.dvs.get d).confirms.tail = (s.dvs.get d).confirms.tail.map (fun x => if x = e
              then { x with waiting := true } else x)
          ∧ t.dvs = s.dvs.put d { s.dvs.get d with confirms := (t.dvs.get d).confirms } ∧ OnlyParts [.dvs] s t))
    ∧ (s.cfg = some c → s.pins.eye (.confirm d) = true → (s.btu.filter (.confirm d)).st = .blocking →
        (∃ t, exec (.eyeRawChange (.confirm d) false) s = .next t
            ∧ t.dvs = s.dvs.put d { s.dvs.get d with confirms := (s.dvs.get d).confirms.filter fun x => !x.waiting }
          ∧ t.btu = { s.btu.setFilter (.confirm d) { s.btu.filter (.confirm d) with st := .clear } with
              queue := s.btu.queue.map fun q => if ((s.dvs.get d).confirms).any (fun (x : Confirm) => x.waiting && x.ref == q.ref) = true then { q with divert := .missed } else q }
          ∧ (t.ctr .missedDivert).toNat = min 65535 ((s.ctr .missedDivert).toNat + ((s.dvs.get d).confirms.filter (·.waiting)).length)
          ∧ (∀ k, k ≠ .missedDivert → k ≠ .lateUpdate → t.ctr k = s.ctr k)
          ∧ ((∀ x ∈ (s.dvs.get d).confirms, x.waiting = true → ∃ q ∈ s.btu.queue, q.ref = x.ref) →
              t.ctr .lateUpdate = s.ctr .lateUpdate)
          ∧ Raised (if (s.dvs.get d).confirms.any (·.waiting) then [.missedDivert] else []) s t
          ∧ t.pins.eye (.confirm d) = false ∧ t.pins = (s.setEyePin (.confirm d) false).pins
              ∧ OnlyParts [.pins, .btu, .dvs, .stu] s t))

/-- An accepted confirm-eye edge: a confirmed divert, a sweep, or an unexpected chute edge. Formalises R14, R28, R29, R117,
R118, R124, R125, R126, R127, R130, R135, R137, R138, R139, R140, R149. The first two outcomes are stated while no record is
overdue (log 8). That entries still waiting after an accepted edge end as missed, and that MISSED is written whatever the
record's divert status, is a reading of the spec (log 25). -/
def Obligations.ConfirmEyeEdgeConfirmsSweepsOrIsUnexpected : Prop :=
  ∀ (c : StationConfig) (d : Div) (v : DiverterConfig) (s : State),
    (s.cfg = some c) → SizeLaw s → SlotLaw s → ((s.btu.filter (.confirm d)).st = .blocking) → (c.gf ≤ fwd (s.btu.filter
    (.confirm d)).raw s.btu.e) →
    (c.diverter d = none →
        (∃ t, exec (.leadingEdgeAccepted (.confirm d)) s = .next t
            ∧ t.btu = s.btu.setFilter (.confirm d) { s.btu.filter (.confirm d) with st := .blocked }
          ∧ Counted [.unexpectedChuteEdge] s t ∧ Raised [.chuteEdge] s t ∧ OnlyParts [.btu, .stu] s t))
    ∧ (c.diverter d = some v → (∀ q ∈ s.btu.queue, .overdue ∈ q.awaiting) → s.hlc.queue.length ≤ 4 →
        ∀ e ∈ (s.dvs.get d).confirms.find? (fun (e : Confirm) => (s.findRec e.ref).any (fun (r : SegRec) => r.divert == .fired)
          && within e.fire e.windowEnd (s.btu.filter (.confirm d)).raw), ∀ r ∈ s.findRec e.ref, ∀ a ∈ (s.dvs.get d).account,
        (∃ t, exec (.leadingEdgeAccepted (.confirm d)) s = .next t ∧ t.btu.flow = (match d with
              | .d0 => { s.btu.flow with diverted0 := s.btu.flow.diverted0 + 1 }
              | .d1 => { s.btu.flow with diverted1 := s.btu.flow.diverted1 + 1 })
          ∧ t.idt.entries = (match r.entry with
              | none => s.idt.entries
              | some i => s.idt.entries.modify i (Option.map fun x => { x with state := .diverted, age := 0 }))
          ∧ (∃ b ∈ (t.dvs.get d).account, FillRose c d r.ref ((r.len.getD 0 + 63) / 64) a b s t
              ∧ t.btu.queue = (s.btu.queue.filter (· ≠ r)).map fun q =>
                if (s.dvs.get d).confirms.any (fun x => x.waiting && x.ref == q.ref) = true then { q with divert := .missed }
                else if a.stopsTaking b = true ∧ (s.dvs.get d).grants.any (·.ref == q.ref) = true
                    then { q with divert := .withdrawn } else q)
          ∧ t.dvs.get d = { s.dvs.get d with
              grants := (t.dvs.get d).grants
              confirms := (((s.dvs.get d).confirms.erase e).filter (·.ref != e.ref)).filter (fun x => !x.waiting)
              last := (s.dvs.get d).last.map fun l => { l with confirmed := if l.fired = some e.ref then true else l.confirmed, closeBehind := if l.closeBehind = some e.ref then none else l.closeBehind }
              account := (t.dvs.get d).account }
          ∧ t.dvs.get (otherDiv d) = { s.dvs.get (otherDiv d) with
              grants := (s.dvs.get (otherDiv d)).grants.filter (·.ref != r.ref)
              confirms := (s.dvs.get (otherDiv d)).confirms.filter (·.ref != r.ref)
              last := (s.dvs.get (otherDiv d)).last.map fun l => { l with
                fired := if l.fired = some r.ref then none else l.fired
                closeBehind := if l.closeBehind = some r.ref then none else l.closeBehind } }
          ∧ (t.ctr .grantCancelled).toNat
            = min 65535 ((s.ctr .grantCancelled).toNat + ((s.dvs.d0.grants ++ s.dvs.d1.grants).filter (·.ref == r.ref)).length)
          ∧ (∀ k, k.ofQueue = false → k ∉ [.missedDivert, .lateUpdate, .grantCancelled, .withdrawnChute, chuteFullCtr d, chuteClosedCtr d, fillClampedCtr d] → t.ctr k = s.ctr k)
          ∧ (∀ x, x ∉ [.dropped, .missedDivert, .fillClamped] → t.ev x = s.ev x)
          ∧ ((∀ x ∈ (s.dvs.get d).confirms, x.waiting = true → ∃ q ∈ s.btu.queue, q.ref = x.ref) →
              (∀ g ∈ (s.dvs.get d).grants, ∃ q ∈ s.btu.queue, q.ref = g.ref) → t.ctr .lateUpdate = s.ctr .lateUpdate)
          ∧ (t.ctr .missedDivert).toNat
            = min 65535 ((s.ctr .missedDivert).toNat + ((s.dvs.get d).confirms.filter fun x => x.waiting && x.ref != e.ref).length)
          ∧ t.ev .missedDivert = (s.ev .missedDivert || (s.dvs.get d).confirms.any fun x => x.waiting && x.ref != e.ref)
          ∧ Queued (.divertDone ⟨v.chute, r.len.getD 0, r.ident, false⟩) t
          ∧ t.btu = { s.btu.setFilter (.confirm d) { s.btu.filter (.confirm d) with st := .blocked } with queue := t.btu.queue, flow := t.btu.flow, openRec := t.btu.openRec, blockedFlag := t.btu.blockedFlag, reportedV := t.btu.reportedV }
          ∧ FlagFollows c s t ∧ OnlyFrames s t ∧ OnlyParts [.btu, .idt, .rrv, .dvs, .hlc, .stu] s t))
    ∧ (c.diverter d = some v → (s.dvs.get d).confirms.find? (fun (e : Confirm) => (s.findRec e.ref).any (fun (r : SegRec) => r.divert == .fired)
          && within e.fire e.windowEnd (s.btu.filter (.confirm d)).raw) = none →
        ((∀ q ∈ s.btu.queue, .overdue ∈ q.awaiting) → s.hlc.queue.length ≤ 4 →
            ∀ l ∈ (s.dvs.get d).last, ∀ ref ∈ l.closeBehind, ∀ r ∈ s.findRec ref, ∀ a ∈ (s.dvs.get d).account, l.confirmed = true →
          within l.fire l.release (s.btu.filter (.confirm d)).raw = true → r.closeBehind = true →
          (∃ t, exec (.leadingEdgeAccepted (.confirm d)) s = .next t
              ∧ t.btu.flow = { s.btu.flow with swept := s.btu.flow.swept + 1 }
            ∧ t.idt.entries = (match r.entry with
                | none => s.idt.entries
                | some i => s.idt.entries.modify i (Option.map fun x => { x with state := .onLoop, age := 0 }))
            ∧ (∃ b ∈ (t.dvs.get d).account, FillRose c d r.ref ((r.len.getD 0 + 63) / 64) a b s t
              ∧ t.btu.queue = (s.btu.queue.filter (· ≠ r)).map fun q =>
                if (s.dvs.get d).confirms.any (fun x => x.waiting && x.ref == q.ref) = true then { q with divert := .missed }
                else if a.stopsTaking b = true ∧ (s.dvs.get d).grants.any (·.ref == q.ref) = true
                    then { q with divert := .withdrawn } else q)
          ∧ t.dvs.get d = { s.dvs.get d with
              grants := (t.dvs.get d).grants
              confirms := ((s.dvs.get d).confirms.filter (·.ref != r.ref)).filter (fun x => !x.waiting)
              last := (s.dvs.get d).last.map fun l => { l with fired := if l.fired = some r.ref then none else l.fired, closeBehind := none }
              account := (t.dvs.get d).account }
          ∧ t.dvs.get (otherDiv d) = { s.dvs.get (otherDiv d) with
              grants := (s.dvs.get (otherDiv d)).grants.filter (·.ref != r.ref)
              confirms := (s.dvs.get (otherDiv d)).confirms.filter (·.ref != r.ref)
              last := (s.dvs.get (otherDiv d)).last.map fun l => { l with
                fired := if l.fired = some r.ref then none else l.fired
                closeBehind := if l.closeBehind = some r.ref then none else l.closeBehind } }
          ∧ (t.ctr .grantCancelled).toNat
            = min 65535 ((s.ctr .grantCancelled).toNat + ((s.dvs.d0.grants ++ s.dvs.d1.grants).filter (·.ref == r.ref)).length)
          ∧ (∀ k, k.ofQueue = false → k ∉ [.missedDivert, .lateUpdate, .grantCancelled, .withdrawnChute, chuteFullCtr d, chuteClosedCtr d, fillClampedCtr d, .sweptBag] → t.ctr k = s.ctr k)
          ∧ (∀ x, x ∉ [.dropped, .missedDivert, .fillClamped, .swept] → t.ev x = s.ev x)
          ∧ ((∀ x ∈ (s.dvs.get d).confirms, x.waiting = true → ∃ q ∈ s.btu.queue, q.ref = x.ref) →
              (∀ g ∈ (s.dvs.get d).grants, ∃ q ∈ s.btu.queue, q.ref = g.ref) → t.ctr .lateUpdate = s.ctr .lateUpdate)
            ∧ (t.ctr .missedDivert).toNat
              = min 65535 ((s.ctr .missedDivert).toNat + ((s.dvs.get d).confirms.filter fun x => x.waiting && x.ref != r.ref).length)
            ∧ t.ev .missedDivert = (s.ev .missedDivert || (s.dvs.get d).confirms.any fun x => x.waiting && x.ref != r.ref)
            ∧ Queued (.divertDone ⟨v.chute, r.len.getD 0, r.ident, true⟩) t
            ∧ Queued (.strayNotice ⟨.swept, r.ident, r.passes, v.chute, r.origin⟩) t
            ∧ t.ctr .sweptBag = satInc (s.ctr .sweptBag) ∧ t.ev .swept = true
            ∧ t.btu = { s.btu.setFilter (.confirm d) { s.btu.filter (.confirm d) with st := .blocked } with queue := t.btu.queue, flow := t.btu.flow, openRec := t.btu.openRec, blockedFlag := t.btu.blockedFlag, reportedV := t.btu.reportedV }
          ∧ FlagFollows c s t ∧ OnlyFrames s t ∧ OnlyParts [.btu, .idt, .rrv, .dvs, .hlc, .stu] s t))
        ∧ (¬ (∃ l ∈ (s.dvs.get d).last, ∃ ref ∈ l.closeBehind, ∃ r ∈ s.findRec ref, l.confirmed = true
              ∧ within l.fire l.release (s.btu.filter (.confirm d)).raw = true ∧ r.closeBehind = true) →
          (∃ t, exec (.leadingEdgeAccepted (.confirm d)) s = .next t
              ∧ t.btu = { s.btu.setFilter (.confirm d) { s.btu.filter (.confirm d) with st := .blocked } with
                queue := s.btu.queue.map fun q => if ((s.dvs.get d).confirms).any (fun (x : Confirm) => x.waiting && x.ref == q.ref) = true then { q with divert := .missed } else q }
            ∧ t.dvs = s.dvs.put d { s.dvs.get d with confirms := (s.dvs.get d).confirms.filter fun x => !x.waiting }
            ∧ (t.ctr .missedDivert).toNat = min 65535 ((s.ctr .missedDivert).toNat + ((s.dvs.get d).confirms.filter (·.waiting)).length)
            ∧ (∀ k, k ≠ .missedDivert → k ≠ .lateUpdate → t.ctr k = if k = .unexpectedChuteEdge then satInc (s.ctr k)
                else s.ctr k)
            ∧ ((∀ x ∈ (s.dvs.get d).confirms, x.waiting = true → ∃ q ∈ s.btu.queue, q.ref = x.ref) →
                t.ctr .lateUpdate = s.ctr .lateUpdate)
            ∧ Raised (if (s.dvs.get d).confirms.any (·.waiting) then [.chuteEdge, .missedDivert] else [.chuteEdge]) s t
            ∧ OnlyParts [.btu, .dvs, .stu] s t)))

/-- HANDOVER_STALE removes the oldest waiting HANDOVER whose exit count lies more than D_exit plus late grace behind E.
Formalises R169. One command removes one frame (log 28), and a command without a stale frame changes nothing, which is the
model's choice (log 1). -/
def Obligations.StaleHandoverLeavesTheQueue : Prop :=
  ∀ (c : StationConfig) (n : Nat) (h : Handover) (x : Count) (b : Bool) (ov : Bool) (s : State),
    (s.cfg = some c) → SizeLaw s →
    (s.hlc.queue[n]? = some ⟨.handover h x, b, false, ov⟩ → c.dExit + c.lateGrace < fwd x s.btu.e →
        (∀ m < n, ∀ o ∈ s.hlc.queue[m]?, staleFrame c s.btu.e o = false) →
        (∃ t, exec .handoverStale s = .next t ∧ t.hlc = { s.hlc with queue := s.hlc.queue.eraseIdx n }
          ∧ Counted [.droppedStale] s t ∧ Raised [.dropped] s t ∧ OnlyParts [.hlc, .stu] s t))
    ∧ ((∀ o ∈ s.hlc.queue, staleFrame c s.btu.e o = false) → (∃ t, exec .handoverStale s = .next t ∧ t = s))
    ∧ (staleFrame c s.btu.e ⟨.handover h x, b, false, ov⟩ = decide (c.dExit + c.lateGrace < fwd x s.btu.e))
    ∧ staleFrame c s.btu.e ⟨.handover h x, b, true, ov⟩ = false

/-- Queuing a frame: it replaces the waiting frame of its class, joins at its place, or makes room in a full queue by kind.
Formalises R166, R167, R168. A replacement counts under its kind and a refused frame does not (log 20); the youngest of a
kind is the last in the order (log 47): these are the model's choices. -/
def Obligations.FrameJoinsTheOutboundQueue : Prop :=
  ∀ (f : Frame) (g : OutFrame → OutFrame) (s : State),
    SizeLaw s → (s.hlc.queue.length ≤ 8) → (g = fun (o : OutFrame) => if o.sending = true ∧ f.sameClass o.frame = true
    then { o with overtaken := true } else o) →
    (∀ n : Nat, n < s.hlc.queue.length → (∀ o ∈ s.hlc.queue[n]?, o.sending = false ∧ f.sameClass o.frame = true) →
        (∀ m < n, ∀ o ∈ s.hlc.queue[m]?, ¬ (o.sending = false ∧ f.sameClass o.frame = true)) →
        (s.queueFrame f).hlc = { s.hlc with queue := (s.hlc.queue.set n ⟨f, false, false, false⟩).map g }
        ∧ Counted [.superseded, queuedCtr f] s (s.queueFrame f) ∧ Raised [] s (s.queueFrame f))
    ∧ ((∀ o ∈ s.hlc.queue, ¬ (o.sending = false ∧ f.sameClass o.frame = true)) →
        (s.hlc.queue.length < 8 →
          (∃ n ∈ List.range (s.hlc.queue.length + 1), (s.queueFrame f).hlc.queue = (s.hlc.queue.take n ++ ⟨f, false, false, false⟩ :: s.hlc.queue.drop n).map g
            ∧ (∀ o ∈ s.hlc.queue.take n, o.sending = true ∨ o.kind ≤ f.kind)
                ∧ ∀ o ∈ (s.hlc.queue.drop n).head?, o.sending = false ∧ f.kind < o.kind)
          ∧ Counted [queuedCtr f] s (s.queueFrame f) ∧ Raised [] s (s.queueFrame f))
        ∧ (s.hlc.queue.length = 8 → (∃ o ∈ s.hlc.queue, o.sending = false ∧ f.kind < o.kind) →
          (∃ n ∈ List.range 8, (∃ o ∈ s.hlc.queue[n]?, o.sending = false ∧ f.kind < o.kind
              ∧ (∀ p ∈ s.hlc.queue, p.sending = false → p.kind ≤ o.kind)
              ∧ ∀ p ∈ s.hlc.queue.drop (n + 1), p.sending = false → p.kind < o.kind)
            ∧ (s.queueFrame f).hlc.queue.Perm ((⟨f, false, false, false⟩ :: s.hlc.queue.eraseIdx n).map g))
          ∧ Counted [.droppedFull, queuedCtr f] s (s.queueFrame f) ∧ Raised [.dropped] s (s.queueFrame f))
        ∧ (s.hlc.queue.length = 8 → (∀ o ∈ s.hlc.queue, o.sending = false → o.kind ≤ f.kind) →
          (s.queueFrame f).hlc = s.hlc ∧ Counted [.droppedFull] s (s.queueFrame f) ∧ Raised [.dropped] s (s.queueFrame f)))
    ∧ OnlyParts [.hlc, .stu] s (s.queueFrame f) ∧ (s.queueFrame f).hlc.tally = s.hlc.tally

/-- SCAN_BYTE and SCAN_GAP_TIMEOUT: how the record assembler begins, collects, abandons, passes over and gives up, and a record
no role uses. Formalises R60, R61, R62, R63, R64. A byte with a framing error is never taken as CR (log 41) and bad-check
counts whatever the roles (log 42), readings of the spec; that SCAN_GAP_TIMEOUT in IDLE changes nothing is the model's
choice (log 1). -/
def Obligations.ScannerBytesAssembleARecord : Prop :=
  ∀ (c : StationConfig) (b : Byte) (framing : Bool) (race : Option Race) (letter : Byte) (digits : List Byte) (s : State),
    SizeLaw s →
    (s.cfg = none → (∃ t, exec (.scanByte b framing race) s = .next t ∧ t = s))
    ∧ (s.cfg = some c → s.rdu.asm = .idle →
        (framing = false → b = letterR ∨ b = letterN ∨ b = letterM →
          (∃ t, exec (.scanByte b framing race) s = .next t ∧ t.rdu = ⟨.assembling [b], some 0⟩ ∧ OnlyParts [.rdu] s t))
        ∧ (framing = false → b = charLF ∨ b = charCR → (∃ t, exec (.scanByte b framing race) s = .next t ∧ t = s))
        ∧ (framing = true ∨ (b ≠ letterR ∧ b ≠ letterN ∧ b ≠ letterM ∧ b ≠ charLF ∧ b ≠ charCR) →
          (∃ t, exec (.scanByte b framing race) s = .next t ∧ t.rdu = ⟨.discarding, some 0⟩ ∧ Counted [.malformed] s t
              ∧ Raised [.scanMalformed] s t
            ∧ OnlyParts [.rdu, .stu] s t))
        ∧ (∃ t, exec .scanGapTimeout s = .next t ∧ t = s))
    ∧ (s.cfg = some c → s.rdu.asm = .assembling (letter :: digits) →
        (framing = false → letter = letterR ∨ letter = letterM → (digits.length < 19 ∧ isDigit b = true)
            ∨ (digits.length = 19 ∧ (isDigit b = true ∨ b = letterX)) →
          (∃ t, exec (.scanByte b framing race) s = .next t ∧ t.rdu = ⟨.assembling (letter :: digits ++ [b]), some 0⟩
              ∧ OnlyParts [.rdu] s t))
        ∧ (framing = true ∨ (letter = letterN ∧ b ≠ charCR) ∨ ((letter = letterR ∨ letter = letterM) ∧ digits.length < 19
            ∧ isDigit b = false)
            ∨ ((letter = letterR ∨ letter = letterM) ∧ digits.length = 19 ∧ isDigit b = false ∧ b ≠ letterX)
            ∨ ((letter = letterR ∨ letter = letterM) ∧ digits.length = 20 ∧ b ≠ charCR) →
          (∃ t, exec (.scanByte b framing race) s = .next t ∧ t.rdu = (if b = charCR ∧ framing = false then ⟨.idle, none⟩
              else ⟨.discarding, some 0⟩)
            ∧ Counted [.malformed] s t ∧ Raised [.scanMalformed] s t ∧ OnlyParts [.rdu, .stu] s t))
        ∧ (∃ t, exec .scanGapTimeout s = .next t ∧ t.rdu = ⟨.idle, none⟩ ∧ Counted [.malformed] s t
            ∧ Raised [.scanMalformed] s t ∧ OnlyParts [.rdu, .stu] s t))
    ∧ (s.cfg = some c → s.rdu.asm = .assembling (letter :: digits) →
        (letter = letterN → c.reader = false →
          (∃ t, exec (.scanByte charCR false race) s = .next t ∧ t.rdu = ⟨.idle, none⟩ ∧ Counted [.scanUnused] s t
              ∧ Raised [] s t ∧ OnlyParts [.rdu, .stu] s t))
        ∧ (letter = letterR → digits.length = 20 → c.reader = false →
          (∃ t, exec (.scanByte charCR false race) s = .next t ∧ t.rdu = ⟨.idle, none⟩
            ∧ Counted (if recordValid (letter :: digits) then [.scanUnused] else [.scanUnused, .badCheck]) s t ∧ Raised [] s t
            ∧ OnlyParts [.rdu, .stu] s t))
        ∧ (letter = letterM → digits.length = 20 → c.desk = false →
          (∃ t, exec (.scanByte charCR false race) s = .next t ∧ t.rdu = ⟨.idle, none⟩
            ∧ Counted (if recordValid (letter :: digits) then [.manualIgnored] else [.manualIgnored, .badCheck]) s t
                ∧ Raised [] s t
            ∧ OnlyParts [.rdu, .stu] s t)))
    ∧ (s.cfg = some c → s.rdu.asm = .discarding →
        (∃ t, exec (.scanByte b framing race) s = .next t ∧ t.rdu = (if b = charCR ∧ framing = false then ⟨.idle, none⟩
            else ⟨.discarding, some 0⟩) ∧ OnlyParts [.rdu] s t)
        ∧ (∃ t, exec .scanGapTimeout s = .next t ∧ t.rdu = ⟨.idle, none⟩ ∧ OnlyParts [.rdu] s t))

/-- A valid read on one bag identifies it: every outcome of the sailing check, the identity table and the decode, and a late
update. Formalises R17, R66, R69, R72, R73, R78, R82, R83, R84, R85, R86, R87, R88, R89, R99, R102, R146, R148. That a
discarded write does not count good-read is the model's choice (log 43); the order of the removal and the write is the
command's (log 7); the destination that an entry made keeps after a discarded write is a reading of the spec (log 31). -/
def Obligations.GoodReadIdentifiesANewBag : Prop :=
  ∀ (c : StationConfig) (rc : ReaderConfig) (held : List Byte) (r : SegRec) (id : Identity) (sl : Sailing) (dd : Decode)
    (k : Ctr) (ks : Ctr) (i : Nat) (s : State),
    (s.cfg = some c) → (c.reader = true) → (c.readerSection = some rc) → SizeLaw s → SlotLaw s → TagLaw s → (s.rdu.asm =
    .assembling held) → (held.length = 21) → (held.head? = some letterR) → (recordValid held = true) → (candidates rc s =
    [r]) → (recordIdentity held = id) → (∀ x ∈ r.ident, x.tag = id.tag ∧ x.sailing = id.sailing ∧ r.readStatus ≠ .read) →
    (sailingCheck rc id.sailing = sl) → (decodeDestination c s.rrv sl id.cabin = dd) → (k = if dd = .noCabin then
    Ctr.noCabin else if dd = .unavailable then .chuteUnavailable else if dd = .primary (dd.chute.getD 0) then
    .decodePrimary else if dd = .overflow (dd.chute.getD 0) then .decodeOverflow else .decodePrimaryFull) → (ks = if sl =
    .a then Ctr.sailingA else if sl = .b then .sailingB else if sl = .noSailing then .sailingNone else .wrongSailing) →
    ((dd = .noCabin → dd.reason = some .noCabin ∧ dd.chute = none) ∧ (dd = .unavailable → dd.reason = some .chuteUnavailable
    ∧ dd.chute = none)
        ∧ (∀ n ∈ dd.chute, dd.reason = none ∧ (dd = .primary n ∨ dd = .overflow n ∨ dd = .primaryFull n)))
    ∧ (rotating c.ageLimit s.idt.pointer s.idt.entries = some i
        ↔ 16 ≤ i ∧ i ≤ 127 ∧ ((entryAt s.idt.entries i).all (fun e => e.state == .diverted || ((e.state == .onLoop || e.state == .manual) && decide (c.ageLimit ≤ e.age))) = true)
          ∧ ∀ j < 128, 16 ≤ j → (s.idt.pointer + 112 - j) % 112 < (s.idt.pointer + 112 - i) % 112 →
              ¬ ((entryAt s.idt.entries j).all (fun e => e.state == .diverted || ((e.state == .onLoop || e.state == .manual) && decide (c.ageLimit ≤ e.age))) = true))
    ∧ (rotating c.ageLimit s.idt.pointer s.idt.entries = none ↔ ∀ j < 128, 16 ≤ j →
        ¬ ((entryAt s.idt.entries j).all (fun e => e.state == .diverted || ((e.state == .onLoop || e.state == .manual) && decide (c.ageLimit ≤ e.age))) = true))
    ∧ (sl = .refused →
        (∃ t, exec (.scanByte charCR false none) s = .next t ∧ t.rdu = ⟨.idle, none⟩ ∧ t.idt = s.idt
          ∧ t.ev .wrongSailing = true ∧ t.ctr .goodRead = satInc (s.ctr .goodRead) ∧ t.ctr ks = satInc (s.ctr ks)
          ∧ t.ctr .strayCleared = (if r.reason.any Reason.soft then satInc (s.ctr .strayCleared) else s.ctr .strayCleared)
          ∧ (∃ q ∈ t.findRec r.ref, q.ident = (if 4095 < id.sailing then r.ident else some id) ∧ q.entry = r.entry
              ∧ q.readStatus = .read ∧ q.ambiguous = false ∧ q.passes = r.passes
            ∧ q.reason = (if r.reason.all Reason.soft then some Reason.wrongSailing else r.reason)
            ∧ q.dest = (if r.reason.all Reason.soft = true ∧ some Reason.wrongSailing = none then none else some c.problem)
            ∧ q.len = r.len ∧ q.front = r.front ∧ q.back = r.back ∧ q.origin = r.origin ∧ q.tight = r.tight
                ∧ q.lateId = r.lateId
            ∧ q.awaiting = r.awaiting
            ∧ (∀ x ∈ some Reason.wrongSailing, r.reason.all Reason.soft = true → s.hlc.queue.length < 7 →
                Queued (.strayNotice ⟨x, q.ident, q.passes, r.dest.getD 0, r.origin⟩) t))
          ∧ StrayCounted (((if some Reason.wrongSailing = none then []
              else [(if r.reason.all Reason.soft then none else r.reason, (some Reason.wrongSailing).getD .lost)]))) s t
          ∧ OnlyRecords [r.ref] s t ∧ t.btu = { s.btu with queue := t.btu.queue } ∧ OnlyGrants s t ∧ OnlyFrames s t
          ∧ OnlyParts [.btu, .rdu, .idt, .dvs, .hlc, .stu] s t))
    ∧ (sl ≠ .refused → (∀ j < 128, ∀ e ∈ entryAt s.idt.entries j, e.tag ≠ id.tag) →
        (rotating c.ageLimit s.idt.pointer s.idt.entries = some i →
          (∃ t, exec (.scanByte charCR false none) s = .next t ∧ t.rdu = ⟨.idle, none⟩
              ∧ t.idt.entries = s.idt.entries.set i (some ⟨id.tag, id.sailing, id.sailing == 0, id.cabin, (if r.reason.all Reason.soft = true ∧ dd.reason = none then dd.chute.getD 0 else c.problem), .onSegment, .read, 0⟩) ∧ t.idt.pointer = (if i = 16 then 127 else i - 1) ∧ t.idt.minuteMs = s.idt.minuteMs
          ∧ t.ctr .newTag = satInc (s.ctr .newTag)
              ∧ t.ctr .manualReused = (if (entryAt s.idt.entries i).any (·.state == .manual)
                  then satInc (s.ctr .manualReused) else s.ctr .manualReused) ∧ t.ctr .goodRead = satInc (s.ctr .goodRead)
                      ∧ t.ctr ks = satInc (s.ctr ks)
          ∧ t.ctr k = satInc (s.ctr k) ∧ (dd = .noCabin → t.ev .noCabin = true) ∧ (dd = .unavailable →
              t.ev .chuteUnavailable = true)
          ∧ t.ctr .strayCleared = (if r.reason.any Reason.soft then satInc (s.ctr .strayCleared) else s.ctr .strayCleared)
          ∧ (∃ q ∈ t.findRec r.ref, q.ident = some id ∧ q.entry = some i ∧ q.readStatus = .read ∧ q.ambiguous = false
              ∧ q.passes = r.passes
            ∧ q.reason = (if r.reason.all Reason.soft then dd.reason else r.reason)
            ∧ q.dest = (if r.reason.all Reason.soft = true ∧ dd.reason = none then dd.chute else some c.problem)
            ∧ q.len = r.len ∧ q.front = r.front ∧ q.back = r.back ∧ q.origin = r.origin ∧ q.tight = r.tight
                ∧ q.lateId = r.lateId
            ∧ q.awaiting = r.awaiting
            ∧ (∀ x ∈ dd.reason, r.reason.all Reason.soft = true → s.hlc.queue.length < 7 →
                Queued (.strayNotice ⟨x, q.ident, q.passes, r.dest.getD 0, r.origin⟩) t))
          ∧ StrayCounted (((if dd.reason = none then []
              else [(if r.reason.all Reason.soft then none else r.reason, (dd.reason).getD .lost)]))) s t
          ∧ OnlyRecords [r.ref] s t ∧ t.btu = { s.btu with queue := t.btu.queue } ∧ OnlyGrants s t ∧ OnlyFrames s t
          ∧ OnlyParts [.btu, .rdu, .idt, .dvs, .hlc, .stu] s t)
          ∧ (∃ t, exec (.scanByte charCR false (some .jamClr)) s = .next t ∧ t.btu.queue = []
              ∧ entryAt t.idt.entries i = (some ⟨id.tag, id.sailing, id.sailing == 0, id.cabin, (if r.reason.all Reason.soft = true ∧ dd.reason = none then dd.chute.getD 0 else c.problem), .onLoop, .read, 0⟩) ∧ t.idt.pointer = (if i = 16 then 127 else i - 1) ∧ t.ctr .newTag = satInc (s.ctr .newTag)
            ∧ t.ctr .lateUpdate = satInc (s.ctr .lateUpdate) ∧ t.ctr .goodRead = s.ctr .goodRead
                ∧ t.ctr .straySet = s.ctr .straySet ∧ StrayCounted [] s t
            ∧ t.ctr ks = satInc (s.ctr ks) ∧ t.rdu = ⟨.idle, none⟩ ∧ t.pending = s.pending))
        ∧ (rotating c.ageLimit s.idt.pointer s.idt.entries = none →
          (∃ t, exec (.scanByte charCR false none) s = .next t ∧ t.rdu = ⟨.idle, none⟩ ∧ t.idt = s.idt
          ∧ t.ctr .idtFull = satInc (s.ctr .idtFull) ∧ t.ev .idtFull = true ∧ t.ctr .goodRead = satInc (s.ctr .goodRead)
              ∧ t.ctr ks = satInc (s.ctr ks)
          ∧ t.ctr k = satInc (s.ctr k) ∧ (dd = .noCabin → t.ev .noCabin = true) ∧ (dd = .unavailable →
              t.ev .chuteUnavailable = true)
          ∧ t.ctr .strayCleared = (if r.reason.any Reason.soft then satInc (s.ctr .strayCleared) else s.ctr .strayCleared)
          ∧ (∃ q ∈ t.findRec r.ref, q.ident = some id ∧ q.entry = r.entry ∧ q.readStatus = .read ∧ q.ambiguous = false
              ∧ q.passes = r.passes
            ∧ q.reason = (if r.reason.all Reason.soft then dd.reason else r.reason)
            ∧ q.dest = (if r.reason.all Reason.soft = true ∧ dd.reason = none then dd.chute else some c.problem)
            ∧ q.len = r.len ∧ q.front = r.front ∧ q.back = r.back ∧ q.origin = r.origin ∧ q.tight = r.tight
                ∧ q.lateId = r.lateId
            ∧ q.awaiting = r.awaiting
            ∧ (∀ x ∈ dd.reason, r.reason.all Reason.soft = true → s.hlc.queue.length < 7 →
                Queued (.strayNotice ⟨x, q.ident, q.passes, r.dest.getD 0, r.origin⟩) t))
          ∧ StrayCounted (((if dd.reason = none then []
              else [(if r.reason.all Reason.soft then none else r.reason, (dd.reason).getD .lost)]))) s t
          ∧ OnlyRecords [r.ref] s t ∧ t.btu = { s.btu with queue := t.btu.queue } ∧ OnlyGrants s t ∧ OnlyFrames s t
          ∧ OnlyParts [.btu, .rdu, .idt, .dvs, .hlc, .stu] s t)))
    ∧ (sl ≠ .refused → (∀ j < 128, ∀ e ∈ entryAt s.idt.entries j, e.matchedBy id.tag id.sailing = false) →
        ∀ j < 128, ∀ e ∈ entryAt s.idt.entries j, e.tag = id.tag →
        (e.state ≠ .onSegment →
          (∃ t, exec (.scanByte charCR false none) s = .next t ∧ t.rdu = ⟨.idle, none⟩
              ∧ t.idt = { s.idt with entries := s.idt.entries.set j (some ⟨id.tag, id.sailing, id.sailing == 0, id.cabin, (if r.reason.all Reason.soft = true ∧ dd.reason = none then dd.chute.getD 0 else c.problem), .onSegment, .read, 0⟩) }
          ∧ t.ctr .tagClash = satInc (s.ctr .tagClash) ∧ t.ctr .newTag = satInc (s.ctr .newTag)
              ∧ t.ctr .manualReused = (if (entryAt s.idt.entries j).any (·.state == .manual)
                  then satInc (s.ctr .manualReused) else s.ctr .manualReused) ∧ t.ctr .goodRead = satInc (s.ctr .goodRead)
                      ∧ t.ctr ks = satInc (s.ctr ks)
          ∧ t.ctr k = satInc (s.ctr k) ∧ (dd = .noCabin → t.ev .noCabin = true) ∧ (dd = .unavailable →
              t.ev .chuteUnavailable = true)
          ∧ t.ctr .strayCleared = (if r.reason.any Reason.soft then satInc (s.ctr .strayCleared) else s.ctr .strayCleared)
          ∧ (∃ q ∈ t.findRec r.ref, q.ident = some id ∧ q.entry = some j ∧ q.readStatus = .read ∧ q.ambiguous = false
              ∧ q.passes = r.passes
            ∧ q.reason = (if r.reason.all Reason.soft then dd.reason else r.reason)
            ∧ q.dest = (if r.reason.all Reason.soft = true ∧ dd.reason = none then dd.chute else some c.problem)
            ∧ q.len = r.len ∧ q.front = r.front ∧ q.back = r.back ∧ q.origin = r.origin ∧ q.tight = r.tight
                ∧ q.lateId = r.lateId
            ∧ q.awaiting = r.awaiting
            ∧ (∀ x ∈ dd.reason, r.reason.all Reason.soft = true → s.hlc.queue.length < 7 →
                Queued (.strayNotice ⟨x, q.ident, q.passes, r.dest.getD 0, r.origin⟩) t))
          ∧ StrayCounted (((if dd.reason = none then []
              else [(if r.reason.all Reason.soft then none else r.reason, (dd.reason).getD .lost)]))) s t
          ∧ OnlyRecords [r.ref] s t ∧ t.btu = { s.btu with queue := t.btu.queue } ∧ OnlyGrants s t ∧ OnlyFrames s t
          ∧ OnlyParts [.btu, .rdu, .idt, .dvs, .hlc, .stu] s t))
        ∧ (e.state = .onSegment →
          (∃ t, exec (.scanByte charCR false none) s = .next t ∧ t.rdu = ⟨.idle, none⟩ ∧ t.idt = s.idt
          ∧ t.ctr .tagClash = satInc (s.ctr .tagClash) ∧ t.ctr .idtFull = s.ctr .idtFull
              ∧ t.ctr .goodRead = satInc (s.ctr .goodRead) ∧ t.ctr ks = satInc (s.ctr ks)
          ∧ t.ctr k = satInc (s.ctr k) ∧ (dd = .noCabin → t.ev .noCabin = true) ∧ (dd = .unavailable →
              t.ev .chuteUnavailable = true)
          ∧ t.ctr .strayCleared = (if r.reason.any Reason.soft then satInc (s.ctr .strayCleared) else s.ctr .strayCleared)
          ∧ (∃ q ∈ t.findRec r.ref, q.ident = some id ∧ q.entry = r.entry ∧ q.readStatus = .read ∧ q.ambiguous = false
              ∧ q.passes = r.passes
            ∧ q.reason = (if r.reason.all Reason.soft then dd.reason else r.reason)
            ∧ q.dest = (if r.reason.all Reason.soft = true ∧ dd.reason = none then dd.chute else some c.problem)
            ∧ q.len = r.len ∧ q.front = r.front ∧ q.back = r.back ∧ q.origin = r.origin ∧ q.tight = r.tight
                ∧ q.lateId = r.lateId
            ∧ q.awaiting = r.awaiting
            ∧ (∀ x ∈ dd.reason, r.reason.all Reason.soft = true → s.hlc.queue.length < 7 →
                Queued (.strayNotice ⟨x, q.ident, q.passes, r.dest.getD 0, r.origin⟩) t))
          ∧ StrayCounted (((if dd.reason = none then []
              else [(if r.reason.all Reason.soft then none else r.reason, (dd.reason).getD .lost)]))) s t
          ∧ OnlyRecords [r.ref] s t ∧ t.btu = { s.btu with queue := t.btu.queue } ∧ OnlyGrants s t ∧ OnlyFrames s t
          ∧ OnlyParts [.btu, .rdu, .idt, .dvs, .hlc, .stu] s t)))
    ∧ (sl ≠ .refused → ∀ j < 128, ∀ e ∈ entryAt s.idt.entries j, e.matchedBy id.tag id.sailing = true →
        (e.state = .onLoop →
          (∃ t, exec (.scanByte charCR false none) s = .next t ∧ t.rdu = ⟨.idle, none⟩
              ∧ t.idt = { s.idt with entries := s.idt.entries.set j (some { e with state := .onSegment, age := 0, dest := (if r.reason.all Reason.soft = true ∧ dd.reason = none then dd.chute.getD 0 else c.problem) }) }
          ∧ t.ctr .returning = satInc (s.ctr .returning) ∧ t.ctr .goodRead = satInc (s.ctr .goodRead)
              ∧ t.ctr ks = satInc (s.ctr ks)
          ∧ t.ctr k = satInc (s.ctr k) ∧ (dd = .noCabin → t.ev .noCabin = true) ∧ (dd = .unavailable →
              t.ev .chuteUnavailable = true)
          ∧ t.ctr .strayCleared = (if r.reason.any Reason.soft then satInc (s.ctr .strayCleared) else s.ctr .strayCleared)
          ∧ (∃ q ∈ t.findRec r.ref, q.ident = some id ∧ q.entry = some j ∧ q.readStatus = .read ∧ q.ambiguous = false
              ∧ q.passes = r.passes
            ∧ q.reason = (if r.reason.all Reason.soft then dd.reason else r.reason)
            ∧ q.dest = (if r.reason.all Reason.soft = true ∧ dd.reason = none then dd.chute else some c.problem)
            ∧ q.len = r.len ∧ q.front = r.front ∧ q.back = r.back ∧ q.origin = r.origin ∧ q.tight = r.tight
                ∧ q.lateId = r.lateId
            ∧ q.awaiting = r.awaiting
            ∧ (∀ x ∈ dd.reason, r.reason.all Reason.soft = true → s.hlc.queue.length < 7 →
                Queued (.strayNotice ⟨x, q.ident, q.passes, r.dest.getD 0, r.origin⟩) t))
          ∧ StrayCounted (((if dd.reason = none then []
              else [(if r.reason.all Reason.soft then none else r.reason, (dd.reason).getD .lost)]))) s t
          ∧ OnlyRecords [r.ref] s t ∧ t.btu = { s.btu with queue := t.btu.queue } ∧ OnlyGrants s t ∧ OnlyFrames s t
          ∧ OnlyParts [.btu, .rdu, .idt, .dvs, .hlc, .stu] s t)
          ∧ (∃ t, exec (.scanByte charCR false (some .jamClr)) s = .next t ∧ t.btu.queue = []
              ∧ entryAt t.idt.entries j = some { e with age := 0 } ∧ t.idt.pointer = s.idt.pointer
                  ∧ t.ctr .returning = satInc (s.ctr .returning)
            ∧ t.ctr .lateUpdate = satInc (s.ctr .lateUpdate) ∧ t.ctr .goodRead = s.ctr .goodRead
                ∧ t.ctr .straySet = s.ctr .straySet ∧ StrayCounted [] s t
            ∧ t.ctr ks = satInc (s.ctr ks) ∧ t.rdu = ⟨.idle, none⟩ ∧ t.pending = s.pending))
        ∧ (e.state = .manual →
          (∃ t, exec (.scanByte charCR false none) s = .next t ∧ t.rdu = ⟨.idle, none⟩
              ∧ t.idt = { s.idt with entries := s.idt.entries.set j (some { e with state := .onSegment, age := 0 }) }
          ∧ t.ctr .goodRead = satInc (s.ctr .goodRead) ∧ t.ctr ks = satInc (s.ctr ks)
              ∧ t.ctr .manualHit = satInc (s.ctr .manualHit)
          ∧ t.ctr .strayCleared = (if r.reason.isSome then satInc (s.ctr .strayCleared) else s.ctr .strayCleared)
              ∧ Raised [] s t ∧ StrayCounted [] s t
          ∧ (∃ q ∈ t.findRec r.ref, q.ident = some id ∧ q.entry = some j ∧ q.readStatus = .read ∧ q.ambiguous = false
              ∧ q.passes = 0
            ∧ q.reason = none ∧ q.dest = some e.dest ∧ q.len = r.len ∧ q.origin = r.origin)
          ∧ OnlyRecords [r.ref] s t ∧ t.btu = { s.btu with queue := t.btu.queue } ∧ OnlyGrants s t
              ∧ OnlyParts [.btu, .rdu, .idt, .dvs, .stu] s t)
          ∧ (∃ t, exec (.scanByte charCR false (some .jamClr)) s = .next t ∧ t.btu.queue = []
              ∧ entryAt t.idt.entries j = some { e with age := 0 } ∧ t.idt.pointer = s.idt.pointer
                  ∧ t.ctr .manualHit = satInc (s.ctr .manualHit)
            ∧ t.ctr .lateUpdate = satInc (s.ctr .lateUpdate) ∧ t.ctr .goodRead = s.ctr .goodRead
                ∧ t.ctr .straySet = s.ctr .straySet ∧ StrayCounted [] s t
            ∧ t.ctr ks = satInc (s.ctr ks) ∧ t.rdu = ⟨.idle, none⟩ ∧ t.pending = s.pending))
        ∧ (e.state = .diverted →
          (∃ t, exec (.scanByte charCR false none) s = .next t ∧ t.rdu = ⟨.idle, none⟩
              ∧ t.idt = { s.idt with entries := s.idt.entries.set j (some { e with age := 0 }) }
          ∧ t.ctr .duplicateTag = satInc (s.ctr .duplicateTag) ∧ t.ev .duplicate = true
              ∧ t.ctr .goodRead = satInc (s.ctr .goodRead) ∧ t.ctr ks = satInc (s.ctr ks)
          ∧ t.ctr .strayCleared = (if r.reason.any Reason.soft then satInc (s.ctr .strayCleared) else s.ctr .strayCleared)
          ∧ (∃ q ∈ t.findRec r.ref, q.ident = some id ∧ q.entry = r.entry ∧ q.readStatus = .read ∧ q.ambiguous = false
              ∧ q.passes = r.passes
            ∧ q.reason = (if r.reason.all Reason.soft then some Reason.duplicateTag else r.reason)
            ∧ q.dest = (if r.reason.all Reason.soft = true ∧ some Reason.duplicateTag = none then none else some c.problem)
            ∧ q.len = r.len ∧ q.front = r.front ∧ q.back = r.back ∧ q.origin = r.origin ∧ q.tight = r.tight
                ∧ q.lateId = r.lateId
            ∧ q.awaiting = r.awaiting
            ∧ (∀ x ∈ some Reason.duplicateTag, r.reason.all Reason.soft = true → s.hlc.queue.length < 7 →
                Queued (.strayNotice ⟨x, q.ident, q.passes, r.dest.getD 0, r.origin⟩) t))
          ∧ StrayCounted (((if some Reason.duplicateTag = none then []
              else [(if r.reason.all Reason.soft then none else r.reason, (some Reason.duplicateTag).getD .lost)]))) s t
          ∧ OnlyRecords [r.ref] s t ∧ t.btu = { s.btu with queue := t.btu.queue } ∧ OnlyGrants s t ∧ OnlyFrames s t
          ∧ OnlyParts [.btu, .rdu, .idt, .dvs, .hlc, .stu] s t))
        ∧ (e.state = .onSegment → ∀ u ∈ s.btu.queue.find? (fun (u : SegRec) => u.entry == some j), u.ref ≠ r.ref →
          (∃ t, exec (.scanByte charCR false none) s = .next t ∧ t.rdu = ⟨.idle, none⟩
              ∧ t.idt = { s.idt with entries := s.idt.entries.set j (some { e with age := 0 }) }
          ∧ t.ctr .duplicateTag = satInc (s.ctr .duplicateTag) ∧ t.ev .duplicate = true
              ∧ (∃ w ∈ t.findRec u.ref, w.reason = (if u.reason.all Reason.soft then some .duplicateTag else u.reason)
                  ∧ w.dest = (if u.reason.all Reason.soft then some c.problem else u.dest) ∧ w.entry = u.entry
                      ∧ w.ident = u.ident) ∧ t.ctr .goodRead = satInc (s.ctr .goodRead) ∧ t.ctr ks = satInc (s.ctr ks)
          ∧ t.ctr .strayCleared = (if r.reason.any Reason.soft then satInc (s.ctr .strayCleared) else s.ctr .strayCleared)
          ∧ (∃ q ∈ t.findRec r.ref, q.ident = some id ∧ q.entry = r.entry ∧ q.readStatus = .read ∧ q.ambiguous = false
              ∧ q.passes = r.passes
            ∧ q.reason = (if r.reason.all Reason.soft then some Reason.duplicateTag else r.reason)
            ∧ q.dest = (if r.reason.all Reason.soft = true ∧ some Reason.duplicateTag = none then none else some c.problem)
            ∧ q.len = r.len ∧ q.front = r.front ∧ q.back = r.back ∧ q.origin = r.origin ∧ q.tight = r.tight
                ∧ q.lateId = r.lateId
            ∧ q.awaiting = r.awaiting
            ∧ (∀ x ∈ some Reason.duplicateTag, r.reason.all Reason.soft = true → s.hlc.queue.length < 7 →
                Queued (.strayNotice ⟨x, q.ident, q.passes, r.dest.getD 0, r.origin⟩) t))
          ∧ StrayCounted ((u.reason, Reason.duplicateTag) :: ((if some Reason.duplicateTag = none then []
              else [(if r.reason.all Reason.soft then none else r.reason, (some Reason.duplicateTag).getD .lost)]))) s t
          ∧ OnlyRecords [r.ref, u.ref] s t ∧ t.btu = { s.btu with queue := t.btu.queue } ∧ OnlyGrants s t ∧ OnlyFrames s t
          ∧ OnlyParts [.btu, .rdu, .idt, .dvs, .hlc, .stu] s t)))

/-- The candidates of a read; and a read with none or several, a no-read, a bad check, a double read and a tag conflict.
Formalises R64, R65, R66, R68, R69, R70, R71, R146, R149. That tag-conflict is counted and its event bit raised though a
hard reason keeps the offer out is the model's choice (log 14). -/
def Obligations.ReadIsTakenByItsCandidates : Prop :=
  ∀ (c : StationConfig) (rc : ReaderConfig) (held : List Byte) (sum : Nat) (r : SegRec) (s : State),
    (s.cfg = some c) → (c.reader = true) → (c.readerSection = some rc) → SizeLaw s → SlotLaw s → (s.rdu.asm = .assembling
    held) → (held = [letterN] ∨ (held.length = 21 ∧ held.head? = some letterR)) → (sum = ((List.range 19).map fun k =>
    ((held.getD (k + 1) 0).toNat - 48) * [2, 3, 5, 7].getD (k % 4) 0).sum) →
    (candidates rc s = s.btu.queue.filter fun (q : SegRec) => decide (
        fwd q.ein (s.btu.e - BitVec.ofNat 24 ((rc.latency * s.btu.v + 127) / 128)) < 2 ^ 23
        ∧ rc.pRead ≤ fwd q.ein (s.btu.e - BitVec.ofNat 24 ((rc.latency * s.btu.v + 127) / 128)) + rc.margin
        ∧ ∀ l ∈ q.len, fwd q.ein (s.btu.e - BitVec.ofNat 24 ((rc.latency * s.btu.v + 127) / 128)) ≤ rc.pRead + rc.margin + l))
    ∧ (held.length = 21 →
        (recordValid held = true ↔ held.getD 20 0 = if sum % 11 = 10 then 0x58 else BitVec.ofNat 8 (48 + sum % 11))
        ∧ (recordIdentity held).tag = ((held.drop 1).take 10).foldl (fun n b => 10 * n + (b.toNat - 48)) 0
        ∧ (recordIdentity held).sailing = ((held.drop 11).take 4).foldl (fun n b => 10 * n + (b.toNat - 48)) 0
        ∧ (recordIdentity held).cabin = ((held.drop 15).take 5).foldl (fun n b => 10 * n + (b.toNat - 48)) 0)
    ∧ (candidates rc s = [] →
        (∃ t, exec (.scanByte charCR false none) s = .next t ∧ t.rdu = ⟨.idle, none⟩
          ∧ Counted (if held = [letterN] ∨ recordValid held = true then [.unassociated] else [.unassociated, .badCheck]) s t
          ∧ Raised [.unassociated] s t ∧ OnlyParts [.rdu, .stu] s t))
    ∧ (2 ≤ (candidates rc s).length →
        (∃ t, exec (.scanByte charCR false none) s = .next t ∧ OnlyParts [.btu, .rdu, .dvs, .hlc, .stu] s t ∧ OnlyFrames s t
            ∧ OnlyGrants s t ∧ t.btu = { s.btu with queue := t.btu.queue } ∧ t.rdu = ⟨.idle, none⟩
                ∧ t.btu.queue.map (·.ref) = s.btu.queue.map (·.ref)
          ∧ (∀ q ∈ s.btu.queue, q ∉ candidates rc s ∨ q.readStatus = .read → q ∈ t.btu.queue)
          ∧ (∀ q ∈ candidates rc s, q.readStatus ≠ .read → ∃ u ∈ t.findRec q.ref, u.ambiguous = true
              ∧ u.readStatus = q.readStatus ∧ u.ident = q.ident
              ∧ u.reason = (if q.reason = none then some .ambiguous else q.reason) ∧ u.dest = (if q.reason = none
                  then some c.problem else q.dest))
          ∧ StrayCounted (((candidates rc s).filter (·.readStatus != .read)).map fun q => (q.reason, Reason.ambiguous)) s t
          ∧ t.ctr .ambiguousRead = satInc (s.ctr .ambiguousRead) ∧ t.ev .ambiguousRead = true))
    ∧ (candidates rc s = [r] → held = [letterN] → r.readStatus ≠ .read →
        (∃ t, exec (.scanByte charCR false none) s = .next t ∧ OnlyParts [.btu, .rdu, .dvs, .hlc, .stu] s t ∧ OnlyFrames s t
            ∧ OnlyGrants s t ∧ t.btu = { s.btu with queue := t.btu.queue } ∧ t.rdu = ⟨.idle, none⟩
                ∧ t.ctr .noRead = satInc (s.ctr .noRead)
          ∧ StrayCounted (if r.ident = none then [(r.reason, .noRead)] else []) s t ∧ (r.ident = none →
              StrayNoticed r .noRead s t)
          ∧ OnlyRecords [r.ref] s t
          ∧ ∃ u ∈ t.findRec r.ref, u.readStatus = .noRead ∧ u.ident = r.ident
            ∧ u.reason = (if r.ident = none ∧ r.reason = none then some .noRead else r.reason)
            ∧ u.dest = (if r.ident = none ∧ r.reason = none then some c.problem else r.dest)))
    ∧ (candidates rc s = [r] → held ≠ [letterN] → recordValid held = false →
        (r.readStatus ≠ .read →
          (∃ t, exec (.scanByte charCR false none) s = .next t ∧ OnlyParts [.btu, .rdu, .dvs, .hlc, .stu] s t
              ∧ OnlyFrames s t ∧ OnlyGrants s t ∧ t.btu = { s.btu with queue := t.btu.queue } ∧ t.rdu = ⟨.idle, none⟩
                  ∧ t.ctr .badCheck = satInc (s.ctr .badCheck)
            ∧ StrayCounted (if r.ident = none then [(r.reason, .badCheck)] else []) s t ∧ (r.ident = none →
                StrayNoticed r .badCheck s t)
            ∧ t.ctr .noRead = s.ctr .noRead ∧ OnlyRecords [r.ref] s t
            ∧ ∃ u ∈ t.findRec r.ref, u.readStatus = .noRead ∧ u.ident = r.ident
              ∧ u.reason = (if r.ident = none ∧ r.reason = none then some .badCheck else r.reason)
              ∧ u.dest = (if r.ident = none ∧ r.reason = none then some c.problem else r.dest)))
        ∧ (r.readStatus = .read →
          (∃ t, exec (.scanByte charCR false none) s = .next t ∧ t.rdu = ⟨.idle, none⟩ ∧ Counted [.badCheck] s t
              ∧ Raised [] s t ∧ OnlyParts [.rdu, .stu] s t)))
    ∧ (candidates rc s = [r] → r.readStatus = .read → (held = [letterN] ∨ (held ≠ [letterN] ∧ recordValid held = true
          ∧ r.ident.any (fun i => i.tag == (recordIdentity held).tag && i.sailing == (recordIdentity held).sailing) = true)) →
        (∃ t, exec (.scanByte charCR false none) s = .next t ∧ t.rdu = ⟨.idle, none⟩ ∧ Counted [.doubleRead] s t
            ∧ Raised [] s t ∧ OnlyParts [.rdu, .stu] s t))
    ∧ (candidates rc s = [r] → held ≠ [letterN] → recordValid held = true →
        (∃ i ∈ r.ident, ¬ (i.tag = (recordIdentity held).tag ∧ i.sailing = (recordIdentity held).sailing)) →
        (∃ t, exec (.scanByte charCR false none) s = .next t ∧ OnlyParts [.btu, .rdu, .dvs, .hlc, .stu] s t ∧ OnlyFrames s t
            ∧ OnlyGrants s t ∧ t.btu = { s.btu with queue := t.btu.queue } ∧ t.rdu = ⟨.idle, none⟩
                ∧ t.ctr .tagConflict = satInc (s.ctr .tagConflict)
          ∧ StrayCounted [(r.reason, .tagConflict)] s t ∧ StrayNoticed r .tagConflict s t
          ∧ t.ev .readConflict = true ∧ OnlyRecords [r.ref] s t
          ∧ ∃ u ∈ t.findRec r.ref, u.readStatus = .read ∧ u.ident = r.ident ∧ u.entry = r.entry
            ∧ u.reason = (if r.reason.all Reason.soft then some .tagConflict else r.reason)
            ∧ u.dest = (if r.reason.all Reason.soft then some c.problem else r.dest)))

/-- An M record at a desk: accepted it queues an IDENTITY_NOTICE, which a reader desk also takes; refused it counts under its
step. Formalises R93, R94, R96, R99, R101, R102, R151, R152. -/
def Obligations.DeskRecordIsAcceptedOrRefused : Prop :=
  ∀ (c : StationConfig) (rc : ReaderConfig) (held : List Byte) (sl : Sailing) (cabin : Nat) (code : Nat) (s : State),
    (s.cfg = some c) → TagLaw s → (c.desk = true) → (c.readerSection = some rc) → SizeLaw s → (s.rdu.asm = .assembling
    held) → (held.length = 21) → (held.head? = some letterM) →
    (sailingCheck rc code = (if code = 0 then .noSailing else if code = rc.sailingA then .a else if code = rc.sailingB then .b
    else .refused))
    ∧ (c.ranges.find? (fun (g : Range) => decide (g.low ≤ cabin ∧ cabin ≤ g.high
          ∧ ((g.slot = .any ∧ sl ≠ .refused) ∨ (g.slot = .a ∧ sl = .a) ∨ (g.slot = .b ∧ sl = .b)))) = none →
        decodeDestination c s.rrv sl cabin = .noCabin)
    ∧ (∀ g ∈ c.ranges.find? (fun (g : Range) => decide (g.low ≤ cabin ∧ cabin ≤ g.high
          ∧ ((g.slot = .any ∧ sl ≠ .refused) ∨ (g.slot = .a ∧ sl = .a) ∨ (g.slot = .b ∧ sl = .b)))),
        decodeDestination c s.rrv sl cabin =
          if (s.rrv.entry g.primary).state ≠ .full ∧ (s.rrv.entry g.primary).state ≠ .closed then .primary g.primary
          else if g.overflow ≠ 0 ∧ (s.rrv.entry g.overflow).state ≠ .full ∧ (s.rrv.entry g.overflow).state ≠ .closed
              then .overflow g.overflow
          else if (s.rrv.entry g.primary).state = .full then .primaryFull g.primary
          else .unavailable)
    ∧ (recordValid held = false →
        (∃ t, exec (.scanByte charCR false none) s = .next t ∧ t.rdu = ⟨.idle, none⟩
            ∧ Counted [.badCheck, .deskRefusedCheck] s t ∧ Raised [.deskRefused] s t
          ∧ OnlyParts [.rdu, .stu] s t))
    ∧ (recordValid held = true →
        (sailingCheck rc (recordIdentity held).sailing = .refused →
          (∃ t, exec (.scanByte charCR false none) s = .next t ∧ t.rdu = ⟨.idle, none⟩ ∧ Counted [.deskRefusedSailing] s t
              ∧ Raised [.deskRefused] s t
            ∧ OnlyParts [.rdu, .stu] s t))
        ∧ (sailingCheck rc (recordIdentity held).sailing ≠ .refused →
          (decodeDestination c s.rrv (sailingCheck rc (recordIdentity held).sailing) (recordIdentity held).cabin = .noCabin →
            (∃ t, exec (.scanByte charCR false none) s = .next t ∧ t.rdu = ⟨.idle, none⟩ ∧ Counted [.deskRefusedCabin] s t
                ∧ Raised [.deskRefused] s t
              ∧ OnlyParts [.rdu, .stu] s t))
          ∧ (decodeDestination c s.rrv (sailingCheck rc (recordIdentity held).sailing) (recordIdentity held).cabin = .unavailable →
            (∃ t, exec (.scanByte charCR false none) s = .next t ∧ t.rdu = ⟨.idle, none⟩ ∧ Counted [.deskRefusedClosed] s t
                ∧ Raised [.deskRefused] s t
              ∧ OnlyParts [.rdu, .stu] s t))
          ∧ (∀ n ∈ (decodeDestination c s.rrv (sailingCheck rc (recordIdentity held).sailing) (recordIdentity held).cabin).chute,
            (c.reader = false →
              (∃ t, exec (.scanByte charCR false none) s = .next t ∧ t.rdu = ⟨.idle, none⟩
                  ∧ CountedBeside [.deskAccepted] s t ∧ RaisedBeside [] s t
                ∧ (s.hlc.queue.length < 8 → Queued (.identityNotice (recordIdentity held) n) t) ∧ OnlyFrames s t
                    ∧ OnlyParts [.rdu, .hlc, .stu] s t))
            ∧ (c.reader = true →
              (∀ i < 16, (∀ j < 128, ∀ e ∈ entryAt s.idt.entries j, e.tag ≠ (recordIdentity held).tag) →
                  entryAt s.idt.entries i = none →
                (∀ j < i, entryAt s.idt.entries j ≠ none) →
                (∃ t, exec (.scanByte charCR false none) s = .next t ∧ t.rdu = ⟨.idle, none⟩
                    ∧ CountedBeside [.deskAccepted, .noticeStored] s t ∧ RaisedBeside [] s t
                  ∧ t.idt = { s.idt with entries := s.idt.entries.set i (some ⟨(recordIdentity held).tag, (recordIdentity held).sailing,
                      (recordIdentity held).sailing == 0, (recordIdentity held).cabin, n, .manual, .notice, 0⟩) }
                  ∧ (s.hlc.queue.length < 8 → Queued (.identityNotice (recordIdentity held) n) t) ∧ OnlyFrames s t
                  ∧ OnlyParts [.rdu, .idt, .hlc, .stu] s t))
              ∧ (∀ i < 128, ∀ e ∈ entryAt s.idt.entries i, e.matchedBy (recordIdentity held).tag (recordIdentity held).sailing = true →
                e.state ≠ .onSegment →
                (∃ t, exec (.scanByte charCR false none) s = .next t ∧ t.rdu = ⟨.idle, none⟩
                    ∧ CountedBeside [.deskAccepted, .noticeStored] s t ∧ RaisedBeside [] s t
                  ∧ t.idt = { s.idt with entries := s.idt.entries.set i (some ⟨(recordIdentity held).tag, (recordIdentity held).sailing,
                      (recordIdentity held).sailing == 0, (recordIdentity held).cabin, n, .manual, .notice, 0⟩) }
                  ∧ (s.hlc.queue.length < 8 → Queued (.identityNotice (recordIdentity held) n) t) ∧ OnlyFrames s t
                  ∧ OnlyParts [.rdu, .idt, .hlc, .stu] s t))))))

/-- Settled changes of FULLn and CLOSEn and a clear: the account's fields, its derived state, and what follows from a change.
Formalises R107, R117, R133, R134, R136, R137, R138, R140. Before VALID the commands set only the wires' levels (log 3); no
station before VALID has an account (StartLaw). -/
def Obligations.BayInputsMoveTheAccount : Prop :=
  ∀ (d : Div) (b : Bool) (s : State),
    SizeLaw s →
    (∀ c ∈ s.cfg, ∀ a ∈ (s.dvs.get d).account,
        (∃ t, exec (.fullSensorChange d b) s = .next t ∧ (∃ a' ∈ (t.dvs.get d).account, a'.fullSensor = b
            ∧ a'.closeSwitch = a.closeSwitch ∧ a'.fill = a.fill
            ∧ a'.chute = a.chute ∧ a'.capacity = a.capacity
            ∧ a'.state = (if a'.closeSwitch then .closed else if a'.fullSensor then .full else if a'.capacity ≤ a'.fill
                then .full
              else if a'.capacity - a'.capacity / 8 ≤ a'.fill then .nearFull else .isOpen)
            ∧ (t.dvs.get d).grants
              = (if (a.state = .isOpen ∨ a.state = .nearFull) ∧ (a'.state = .full ∨ a'.state = .closed) then []
                  else (s.dvs.get d).grants)
            ∧ t.btu.queue = s.btu.queue.map (fun (q : SegRec) =>
                if ((a.state = .isOpen ∨ a.state = .nearFull) ∧ (a'.state = .full ∨ a'.state = .closed))
                  ∧ (s.dvs.get d).grants.any (·.ref == q.ref) = true then { q with divert := .withdrawn } else q)
            ∧ (t.ctr .withdrawnChute).toNat = (if (a.state = .isOpen ∨ a.state = .nearFull) ∧ (a'.state = .full
                ∨ a'.state = .closed)
                then min 65535 ((s.ctr .withdrawnChute).toNat + (s.dvs.get d).grants.length)
                    else (s.ctr .withdrawnChute).toNat)
            ∧ t.ctr (chuteFullCtr d) = (if a'.state ≠ a.state ∧ a'.state = .full then satInc (s.ctr (chuteFullCtr d))
                else s.ctr (chuteFullCtr d))
            ∧ t.ctr (chuteClosedCtr d)
              = (if a'.state ≠ a.state ∧ a'.state = .closed then satInc (s.ctr (chuteClosedCtr d))
                  else s.ctr (chuteClosedCtr d))
            ∧ (a'.state ≠ a.lastSent → a'.lastSent = a'.state
                ∧ (s.hlc.queue.length < 8 → Queued (.chuteState ⟨a.chute, a'.state, a'.fill, a.capacity⟩) t))
            ∧ (a'.state = a.lastSent → a'.lastSent = a.lastSent ∧ t.hlc = s.hlc)
            ∧ (a'.state ≠ a.state ∨ a'.fill ≠ a.fill → 1 ≤ a.chute → a.chute ≤ 31 →
                t.rrv.entry a.chute = ⟨a'.state, c.station, a'.fill, a.capacity, 0⟩)
            ∧ (a'.state = a.state → a'.fill = a.fill → t.rrv = s.rrv)) ∧ t.pins.full d = b
                ∧ (t.dvs.get d).bay = { (s.dvs.get d).bay with full := 0 }
          ∧ (t.dvs.get d).eng = (s.dvs.get d).eng ∧ (t.dvs.get d).confirms = (s.dvs.get d).confirms
              ∧ (t.dvs.get d).last = (s.dvs.get d).last
          ∧ OnlyFrames s t ∧ t.btu = { s.btu with queue := t.btu.queue } ∧ RaisedBeside [] s t
              ∧ t.dvs.get (otherDiv d) = s.dvs.get (otherDiv d) ∧ OnlyParts [.pins, .btu, .rrv, .dvs, .hlc, .stu] s t)
        ∧ (∃ t, exec (.closeSwitchChange d b) s = .next t ∧ (∃ a' ∈ (t.dvs.get d).account, a'.closeSwitch = b
            ∧ a'.fullSensor = a.fullSensor ∧ a'.fill = a.fill
            ∧ a'.chute = a.chute ∧ a'.capacity = a.capacity
            ∧ a'.state = (if a'.closeSwitch then .closed else if a'.fullSensor then .full else if a'.capacity ≤ a'.fill
                then .full
              else if a'.capacity - a'.capacity / 8 ≤ a'.fill then .nearFull else .isOpen)
            ∧ (t.dvs.get d).grants
              = (if (a.state = .isOpen ∨ a.state = .nearFull) ∧ (a'.state = .full ∨ a'.state = .closed) then []
                  else (s.dvs.get d).grants)
            ∧ t.btu.queue = s.btu.queue.map (fun (q : SegRec) =>
                if ((a.state = .isOpen ∨ a.state = .nearFull) ∧ (a'.state = .full ∨ a'.state = .closed))
                  ∧ (s.dvs.get d).grants.any (·.ref == q.ref) = true then { q with divert := .withdrawn } else q)
            ∧ (t.ctr .withdrawnChute).toNat = (if (a.state = .isOpen ∨ a.state = .nearFull) ∧ (a'.state = .full
                ∨ a'.state = .closed)
                then min 65535 ((s.ctr .withdrawnChute).toNat + (s.dvs.get d).grants.length)
                    else (s.ctr .withdrawnChute).toNat)
            ∧ t.ctr (chuteFullCtr d) = (if a'.state ≠ a.state ∧ a'.state = .full then satInc (s.ctr (chuteFullCtr d))
                else s.ctr (chuteFullCtr d))
            ∧ t.ctr (chuteClosedCtr d)
              = (if a'.state ≠ a.state ∧ a'.state = .closed then satInc (s.ctr (chuteClosedCtr d))
                  else s.ctr (chuteClosedCtr d))
            ∧ (a'.state ≠ a.lastSent → a'.lastSent = a'.state
                ∧ (s.hlc.queue.length < 8 → Queued (.chuteState ⟨a.chute, a'.state, a'.fill, a.capacity⟩) t))
            ∧ (a'.state = a.lastSent → a'.lastSent = a.lastSent ∧ t.hlc = s.hlc)
            ∧ (a'.state ≠ a.state ∨ a'.fill ≠ a.fill → 1 ≤ a.chute → a.chute ≤ 31 →
                t.rrv.entry a.chute = ⟨a'.state, c.station, a'.fill, a.capacity, 0⟩)
            ∧ (a'.state = a.state → a'.fill = a.fill → t.rrv = s.rrv)) ∧ t.pins.close d = b
                ∧ (t.dvs.get d).bay = { (s.dvs.get d).bay with close := 0 }
          ∧ (t.dvs.get d).eng = (s.dvs.get d).eng ∧ (t.dvs.get d).confirms = (s.dvs.get d).confirms
              ∧ (t.dvs.get d).last = (s.dvs.get d).last
          ∧ OnlyFrames s t ∧ t.btu = { s.btu with queue := t.btu.queue } ∧ RaisedBeside [] s t
              ∧ t.dvs.get (otherDiv d) = s.dvs.get (otherDiv d) ∧ OnlyParts [.pins, .btu, .rrv, .dvs, .hlc, .stu] s t)
        ∧ (∃ t, exec (.chuteClear d) s = .next t ∧ (∃ a' ∈ (t.dvs.get d).account, a'.fill = 0 ∧ a'.fullSensor = a.fullSensor
            ∧ a'.closeSwitch = a.closeSwitch
            ∧ a'.chute = a.chute ∧ a'.capacity = a.capacity
            ∧ a'.state = (if a'.closeSwitch then .closed else if a'.fullSensor then .full else if a'.capacity ≤ a'.fill
                then .full
              else if a'.capacity - a'.capacity / 8 ≤ a'.fill then .nearFull else .isOpen)
            ∧ (t.dvs.get d).grants
              = (if (a.state = .isOpen ∨ a.state = .nearFull) ∧ (a'.state = .full ∨ a'.state = .closed) then []
                  else (s.dvs.get d).grants)
            ∧ t.btu.queue = s.btu.queue.map (fun (q : SegRec) =>
                if ((a.state = .isOpen ∨ a.state = .nearFull) ∧ (a'.state = .full ∨ a'.state = .closed))
                  ∧ (s.dvs.get d).grants.any (·.ref == q.ref) = true then { q with divert := .withdrawn } else q)
            ∧ (t.ctr .withdrawnChute).toNat = (if (a.state = .isOpen ∨ a.state = .nearFull) ∧ (a'.state = .full
                ∨ a'.state = .closed)
                then min 65535 ((s.ctr .withdrawnChute).toNat + (s.dvs.get d).grants.length)
                    else (s.ctr .withdrawnChute).toNat)
            ∧ t.ctr (chuteFullCtr d) = (if a'.state ≠ a.state ∧ a'.state = .full then satInc (s.ctr (chuteFullCtr d))
                else s.ctr (chuteFullCtr d))
            ∧ t.ctr (chuteClosedCtr d)
              = (if a'.state ≠ a.state ∧ a'.state = .closed then satInc (s.ctr (chuteClosedCtr d))
                  else s.ctr (chuteClosedCtr d))
            ∧ (a'.state ≠ a.lastSent → a'.lastSent = a'.state
                ∧ (s.hlc.queue.length < 8 → Queued (.chuteState ⟨a.chute, a'.state, a'.fill, a.capacity⟩) t))
            ∧ (a'.state = a.lastSent → a'.lastSent = a.lastSent ∧ t.hlc = s.hlc)
            ∧ (a'.state ≠ a.state ∨ a'.fill ≠ a.fill → 1 ≤ a.chute → a.chute ≤ 31 →
                t.rrv.entry a.chute = ⟨a'.state, c.station, a'.fill, a.capacity, 0⟩)
            ∧ (a'.state = a.state → a'.fill = a.fill → t.rrv = s.rrv))
                ∧ t.ctr (chuteClearedCtr d) = satInc (s.ctr (chuteClearedCtr d)) ∧ t.pins.clr d = true
                    ∧ (t.dvs.get d).bay = { (s.dvs.get d).bay with clr := 0, clrLevel := true }
          ∧ (t.dvs.get d).eng = (s.dvs.get d).eng ∧ (t.dvs.get d).confirms = (s.dvs.get d).confirms
              ∧ (t.dvs.get d).last = (s.dvs.get d).last
          ∧ OnlyFrames s t ∧ t.btu = { s.btu with queue := t.btu.queue } ∧ RaisedBeside [] s t
              ∧ t.dvs.get (otherDiv d) = s.dvs.get (otherDiv d) ∧ OnlyParts [.pins, .btu, .rrv, .dvs, .hlc, .stu] s t))
    ∧ (∀ c ∈ s.cfg, (s.dvs.get d).account = none →
        (∃ t, exec (.fullSensorChange d b) s = .next t ∧ t.pins.full d = b
            ∧ t.dvs = s.dvs.put d { s.dvs.get d with bay := { (s.dvs.get d).bay with full := 0 } }
                ∧ OnlyParts [.pins, .dvs] s t)
        ∧ (∃ t, exec (.closeSwitchChange d b) s = .next t ∧ t.pins.close d = b
            ∧ t.dvs = s.dvs.put d { s.dvs.get d with bay := { (s.dvs.get d).bay with close := 0 } }
                ∧ OnlyParts [.pins, .dvs] s t)
        ∧ (∃ t, exec (.chuteClear d) s = .next t ∧ t.pins.clr d = true ∧ OnlyParts [.pins] s t))
    ∧ (s.cfg = none → (∃ t, exec (.fullSensorChange d b) s = .next t ∧ t.pins.full d = b ∧ OnlyParts [.pins] s t)
        ∧ (∃ t, exec (.closeSwitchChange d b) s = .next t ∧ t.pins.close d = b ∧ OnlyParts [.pins] s t)
            ∧ (∃ t, exec (.chuteClear d) s = .next t ∧ t.pins.clr d = true ∧ OnlyParts [.pins] s t))

/-- JAM_CLR: one segment clear of queue, expect list, grants, confirm entries and references, with everything else kept.
Formalises R29, R33, R34, R57, R131. Before VALID the command sets only the wire's level (log 3); an engagement's records
are dropped with its counts kept (log 26). -/
def Obligations.SegmentClearEmptiesTheSegment : Prop :=
  ∀ (s : State),
    SizeLaw s →
    (∀ c ∈ s.cfg, (∃ t, exec .jamClr s = .next t ∧ t.btu.queue = [] ∧ t.btu.expects = [] ∧ t.btu.openRec = none
        ∧ t.btu.flow = { s.btu.flow with cleared := s.btu.flow.cleared + BitVec.ofNat 32 s.btu.queue.length }
        ∧ (∀ i < 128, entryAt t.idt.entries i = (if ∃ r ∈ s.btu.queue, r.entry = some i
              then (entryAt s.idt.entries i).map fun x => { x with state := .onLoop, age := 0 } else entryAt s.idt.entries i))
        ∧ t.idt.entries.length = 128 ∧ t.idt.pointer = s.idt.pointer
        ∧ (∀ d, t.dvs.get d = { s.dvs.get d with grants := [], confirms := [], last := (s.dvs.get d).last.map fun l => { l with fired := none, closeBehind := none } })
        ∧ FlagFollows c s t
        ∧ t.btu.blockedFlag = (c.down != 0 && s.btu.down.heard && (s.btu.down.lastBlocked || s.btu.down.silent))
        ∧ (t.btu.blockedFlag = s.btu.blockedFlag → t.hlc = s.hlc)
        ∧ (t.btu.blockedFlag ≠ s.btu.blockedFlag → s.hlc.queue.length < 8 →
            Queued (.segmentState s.btu.v s.btu.speed t.btu.blockedFlag) t)
        ∧ t.btu = { s.btu with queue := [], expects := [], openRec := none, flow := t.btu.flow, blockedFlag := t.btu.blockedFlag, reportedV := t.btu.reportedV, jamSample := true }
        ∧ t.pins = { s.pins with jam := true } ∧ OnlyFrames s t ∧ OnlyParts [.pins, .btu, .idt, .dvs, .hlc, .stu] s t))
    ∧ (s.cfg = none → (∃ t, exec .jamClr s = .next t ∧ t = { s with pins := { s.pins with jam := true } }))

/-- REFRESH_TIMER queues SEGMENT_STATE and the own CHUTE_STATEs, ages every other view entry, and restarts. Formalises R107,
R108, R141, R171, R172. That the timer starts again at the command, whenever it is sent, is the model's choice (log 2). -/
def Obligations.RefreshTimerAgesTheViewAndReports : Prop :=
  ∀ (c : StationConfig) (s : State),
    (s.cfg = some c) → SizeLaw s → (s.hlc.queue.length ≤ 5) → (∀ d, ∀ a ∈ (s.dvs.get d).account, ∀ b ∈ (s.dvs.get
    (otherDiv d)).account, a.chute ≠ b.chute) →
    ∃ t, exec .refreshTimer s = .next t ∧ t.hlc.refreshMs = some 0 ∧ t.btu.reportedV = s.btu.v
      ∧ (∀ k < 31, t.rrv.entry (k + 1) = (if c.ownChute (k + 1) then s.rrv.entry (k + 1)
          else { s.rrv.entry (k + 1) with age := min 3 ((s.rrv.entry (k + 1)).age + 1), state := if 3 ≤ (s.rrv.entry (k + 1)).age + 1 then .unknown else (s.rrv.entry (k + 1)).state }))
      ∧ t.ev .viewExpired = (s.ev .viewExpired || (List.range 31).any fun k => !c.ownChute (k + 1) && decide (2 ≤ (s.rrv.entry (k + 1)).age)
          && (s.rrv.entry (k + 1)).state != .unknown)
      ∧ Queued (.segmentState s.btu.v s.btu.speed s.btu.blockedFlag) t
      ∧ (∀ d, ∀ a ∈ (s.dvs.get d).account, Queued (.chuteState ⟨a.chute, a.state, a.fill, a.capacity⟩) t
          ∧ (t.dvs.get d).account = some { a with lastSent := a.state })
      ∧ (∀ d, t.dvs.get d = { s.dvs.get d with account := (t.dvs.get d).account })
      ∧ t.btu = { s.btu with reportedV := s.btu.v } ∧ t.hlc = { s.hlc with refreshMs := some 0, queue := t.hlc.queue }
          ∧ OnlyParts [.btu, .rrv, .dvs, .hlc, .stu] s t

/-- DOWNSTREAM_SILENCE, UPSTREAM_SILENCE and MINUTE_TIMER: marks, event bits, the permit, and the ages of the entries.
Formalises R29, R30, R31, R40, R81. A sender's expiry command also restarts or stops its timer (log 2). That the blocked
flag is evaluated when the downstream state changes is a reading of the spec (log 15). -/
def Obligations.SilenceAndMinuteTimersExpire : Prop :=
  ∀ (c : StationConfig) (src : Source) (s : State),
    (s.cfg = some c) → SizeLaw s →
    (s.btu.down.timer ≠ none →
        (∃ t, exec .downstreamSilence s = .next t ∧ t.btu.down = { s.btu.down with timer := none, silent := true }
            ∧ t.ev .downstreamSilent = true
          ∧ t.btu.permit = (c.down == 0) ∧ (c.down ≠ 0 → s.btu.down.heard = true → t.btu.blockedFlag = true)
              ∧ FlagFollows c s t
          ∧ t.btu = { s.btu with down := t.btu.down, permit := t.btu.permit, blockedFlag := t.btu.blockedFlag, reportedV := t.btu.reportedV } ∧ OnlyFrames s t ∧ CountedBeside [] s t
          ∧ OnlyParts [.btu, .hlc, .stu] s t))
    ∧ ((s.btu.upstream src).timer ≠ none →
        (∃ t, exec (.upstreamSilence src) s = .next t
            ∧ t.btu = s.btu.setUpstream src { s.btu.upstream src with timer := none, silent := true }
          ∧ Counted [] s t ∧ Raised [.upstreamSilent] s t ∧ OnlyParts [.btu, .stu] s t))
    ∧ (∃ t, exec .minuteTimer s = .next t
        ∧ (∀ i < 128, entryAt t.idt.entries i = (entryAt s.idt.entries i).map fun x => { x with age := min 63 (x.age + 1) })
        ∧ t.idt.entries.length = 128 ∧ t.idt.minuteMs = some 0 ∧ t.idt.pointer = s.idt.pointer ∧ OnlyParts [.idt] s t)

/-- A received SEGMENT_STATE is upstream state of its source, downstream state of the neighbour, both, or neither. Formalises
R29, R30, R31, R39, R40, R170. That the blocked flag is evaluated when the downstream state changes is a reading of the spec
(log 15). -/
def Obligations.SegmentStateMovesTheNeighbourStates : Prop :=
  ∀ (c : StationConfig) (f : RxFrame) (v : Nat) (sp : SpeedState) (b : Bool) (s : State),
    (s.cfg = some c) → (s.hlc.line.actsOn = true) → (f.sender ≠ 0) → (f.sender ≠ 63) → (f.voided = false) →
    (f.sender.toNat ≠ c.station) → SizeLaw s → (readSegmentState f.payload = some (v, sp, b)) →
    ∃ t, exec (.segmentState f) s = .next t ∧ t.ctr .frameTaken = satInc (s.ctr .frameTaken)
      ∧ t.btu.upA = (if f.sender.toNat = c.upA
          then ⟨Reported.ofSpeed sp, if sp = .stopped then 0 else v, some 0, false⟩ else s.btu.upA)
      ∧ t.btu.upB = (if f.sender.toNat ≠ c.upA ∧ f.sender.toNat = c.upB
          then ⟨Reported.ofSpeed sp, if sp = .stopped then 0 else v, some 0, false⟩ else s.btu.upB)
      ∧ t.btu.down = (if f.sender.toNat = c.down then ⟨true, b, some 0, false⟩ else s.btu.down)
      ∧ (f.sender.toNat = c.down → t.btu.permit = !b ∧ (b = true → t.btu.blockedFlag = true) ∧ FlagFollows c s t)
      ∧ (f.sender.toNat ≠ c.down → t.btu.permit = s.btu.permit ∧ t.btu.blockedFlag = s.btu.blockedFlag
          ∧ t.btu.reportedV = s.btu.reportedV ∧ t.hlc.queue = s.hlc.queue)
      ∧ t.btu = { s.btu with upA := t.btu.upA, upB := t.btu.upB, down := t.btu.down, permit := t.btu.permit, blockedFlag := t.btu.blockedFlag, reportedV := t.btu.reportedV }
      ∧ t.hlc = { s.hlc with queue := t.hlc.queue, objection := .none } ∧ CountedBeside [.frameTaken] s t
          ∧ OnlyParts [.btu, .hlc, .stu] s t

/-- A received HANDOVER: not mine, foreign, late attachment to the oldest attachable record, a full list, or an expect record.
Formalises R39, R41, R42, R43, R44, R51, R52, R129, R146. A record is attachable until its late grace end's event is taken
(log 6). -/
def Obligations.HandoverIsScreenedAttachedOrExpected : Prop :=
  ∀ (c : StationConfig) (f : RxFrame) (h : Handover) (src : Source) (s : State),
    (s.cfg = some c) → (s.hlc.line.actsOn = true) → (f.sender ≠ 0) → (f.sender ≠ 63) → (f.voided = false) →
    (f.sender.toNat ≠ c.station) → SizeLaw s → SlotLaw s → (readHandover f.payload = some h) →
    (h.toStation ≠ c.station → (∃ t, exec (.handover f) s = .next t ∧ Counted [.frameTaken, .handoverNotMine] s t ∧ Raised [] s t
        ∧ t.hlc = { s.hlc with objection := .none } ∧ OnlyParts [.hlc, .stu] s t))
    ∧ (h.toStation = c.station → f.sender.toNat ≠ c.upA → f.sender.toNat ≠ c.upB →
        (∃ t, exec (.handover f) s = .next t ∧ Counted [.frameTaken, .handoverForeign] s t ∧ Raised [.handoverForeign] s t
          ∧ t.hlc = { s.hlc with objection := .none } ∧ OnlyParts [.hlc, .stu] s t))
    ∧ (h.toStation = c.station → (f.sender.toNat = c.upA ∧ src = .a) ∨ (f.sender.toNat ≠ c.upA ∧ f.sender.toNat = c.upB
        ∧ src = .b) →
        (∀ r ∈ s.btu.queue.find? (s.attachable c),
          (∃ t, exec (.handover f) s = .next t ∧ t.btu.upstream src = { s.btu.upstream src with
              vsrc := if (s.btu.upstream src).reported = .stopped then 0 else h.v, timer := some 0, silent := false }
            ∧ t.btu.expects = s.btu.expects
            ∧ t.ctr .lateAttach = satInc (s.ctr .lateAttach) ∧ OnlyRecords [r.ref] s t
            ∧ t.btu = { s.btu.setUpstream src (t.btu.upstream src) with queue := t.btu.queue } ∧ OnlyGrants s t
                ∧ t.hlc = { s.hlc with queue := t.hlc.queue, objection := .none }
            ∧ (∃ q ∈ t.findRec r.ref, q.lateId = true ∧ q.ident = h.ident ∧ q.origin = .blind ∧ q.len = r.len
              ∧ (r.passes < c.maxPasses → q.reason = r.reason ∧ q.passes = r.passes
                ∧ q.dest = (if h.ident = none ∨ r.reason.isSome then r.dest else some h.dest))
              ∧ (c.maxPasses ≤ r.passes → q.passes = c.maxPasses
                ∧ q.reason = (if r.reason.all Reason.soft then some .lapLimit else r.reason)
                ∧ q.dest = (if r.reason.all Reason.soft then some c.problem else r.dest)
                ∧ (r.reason.all Reason.soft = true → s.hlc.queue.length < 8 →
                    Queued (.strayNotice ⟨.lapLimit, h.ident, c.maxPasses,
                    if h.ident = none ∨ r.reason.isSome then r.dest.getD 0 else h.dest, .blind⟩) t)))
            ∧ StrayCounted (if c.maxPasses ≤ r.passes then [(r.reason, .lapLimit)] else []) s t
            ∧ t.ctr .passesClamped = (if c.maxPasses < r.passes then satInc (s.ctr .passesClamped) else s.ctr .passesClamped)
            ∧ (r.passes < c.maxPasses ∨ r.reason.all Reason.soft = false → t.hlc.queue = s.hlc.queue)
            ∧ OnlyParts [.btu, .dvs, .hlc, .stu] s t))
        ∧ (s.btu.queue.find? (s.attachable c) = none → s.btu.expects.length = 8 →
          (∃ t, exec (.handover f) s = .next t ∧ t.btu = s.btu.setUpstream src { s.btu.upstream src with
              vsrc := if (s.btu.upstream src).reported = .stopped then 0 else h.v, timer := some 0, silent := false }
            ∧ Counted [.frameTaken, .expectFull] s t ∧ Raised [.expectFull] s t ∧ t.hlc = { s.hlc with objection := .none }
                ∧ OnlyParts [.btu, .hlc, .stu] s t))
        ∧ (s.btu.queue.find? (s.attachable c) = none → s.btu.expects.length < 8 →
          (∃ t, exec (.handover f) s = .next t ∧ t.btu = { s.btu.setUpstream src { s.btu.upstream src with
              vsrc := if (s.btu.upstream src).reported = .stopped then 0 else h.v, timer := some 0, silent := false } with
                expects := s.btu.expects ++ [⟨src, h.ident, if h.dest = 0 then none else some h.dest, h.reason, h.passes, h.len,
                  8 * (h.dExit : Int), c.eMin + h.dExit / 8⟩] }
            ∧ Counted [.frameTaken] s t ∧ Raised [] s t ∧ t.hlc = { s.hlc with objection := .none }
                ∧ OnlyParts [.btu, .hlc, .stu] s t)))

/-- A received DIVERT_DONE at a reader or desk: passed over, unmatched, retiring an entry, or finding a duplicate. Formalises
R79, R91, R92, R146, R149. A frame without identity is passed over uncounted, swept or not (log 16); that a station with
neither role counts frame-taken is the model's choice (log 17), and so is that a record which a MANUAL hit has cleared takes
the offer (log 50). -/
def Obligations.DivertDoneRetiresTheTag : Prop :=
  ∀ (c : StationConfig) (f : RxFrame) (m : DivertDone) (s : State),
    (s.cfg = some c) → (s.hlc.line.actsOn = true) → (f.sender ≠ 0) → (f.sender ≠ 63) → (f.voided = false) →
    (f.sender.toNat ≠ c.station) → SizeLaw s → SlotLaw s → TagLaw s → (readDivertDone f.payload = some m) →
    ((c.reader = false ∧ c.desk = false) ∨ m.ident = none →
        (∃ t, exec (.divertDone f) s = .next t ∧ Counted [.frameTaken] s t ∧ Raised [] s t
            ∧ t.hlc = { s.hlc with objection := .none } ∧ OnlyParts [.hlc, .stu] s t))
    ∧ (c.reader = true ∨ c.desk = true → m.ident ≠ none → m.swept = true →
        (∃ t, exec (.divertDone f) s = .next t ∧ Counted [.frameTaken, .divertDoneSwept] s t ∧ Raised [] s t
            ∧ t.hlc = { s.hlc with objection := .none } ∧ OnlyParts [.hlc, .stu] s t))
    ∧ (c.reader = true ∨ c.desk = true → m.swept = false → ∀ id ∈ m.ident,
        ((∀ i < 128, ∀ e ∈ entryAt s.idt.entries i, e.matchedBy id.tag id.sailing = false) →
          (∃ t, exec (.divertDone f) s = .next t ∧ Counted [.frameTaken, .divertDoneUnmatched] s t ∧ Raised [] s t
              ∧ t.hlc = { s.hlc with objection := .none } ∧ OnlyParts [.hlc, .stu] s t))
        ∧ (∀ i < 128, ∀ e ∈ entryAt s.idt.entries i, e.matchedBy id.tag id.sailing = true →
          (e.state = .onLoop ∨ e.state = .manual →
            (∃ t, exec (.divertDone f) s = .next t
                ∧ t.idt = { s.idt with entries := s.idt.entries.set i (some { e with state := .diverted, age := 0 }) }
              ∧ Counted (if e.dest = m.chute then [.frameTaken, .divertDoneHit]
                  else [.frameTaken, .divertDoneHit, .divertElsewhere]) s t
              ∧ Raised [] s t ∧ t.hlc = { s.hlc with objection := .none } ∧ OnlyParts [.idt, .hlc, .stu] s t))
          ∧ (e.state = .diverted →
            (∃ t, exec (.divertDone f) s = .next t
                ∧ t.idt = { s.idt with entries := s.idt.entries.set i (some { e with age := 0 }) }
              ∧ Counted (if e.dest = m.chute then [.frameTaken, .divertDoneUnmatched]
                  else [.frameTaken, .divertDoneUnmatched, .divertElsewhere]) s t
              ∧ Raised [] s t ∧ t.hlc = { s.hlc with objection := .none } ∧ OnlyParts [.idt, .hlc, .stu] s t))
          ∧ (e.state = .onSegment →
            (∃ t, exec (.divertDone f) s = .next t
                ∧ t.idt = { s.idt with entries := s.idt.entries.set i (some { e with age := 0 }) }
              ∧ t.ctr .divertDoneDuplicate = satInc (s.ctr .divertDoneDuplicate) ∧ t.ev .duplicate = true
              ∧ (∀ r ∈ s.btu.queue.find? (fun (r : SegRec) => r.entry == some i), StrayCounted [(r.reason, .duplicateTag)] s t
                ∧ StrayNoticed r .duplicateTag s t ∧ ∃ q ∈ t.findRec r.ref,
                  q.reason = (if r.reason.all Reason.soft then some .duplicateTag else r.reason)
                  ∧ q.dest = (if r.reason.all Reason.soft then some c.problem else r.dest) ∧ q.entry = some i
                      ∧ q.ident = r.ident
                  ∧ OnlyRecords [r.ref] s t)
              ∧ t.btu = { s.btu with queue := t.btu.queue } ∧ OnlyGrants s t
                  ∧ t.hlc = { s.hlc with queue := t.hlc.queue, objection := .none }
              ∧ OnlyParts [.btu, .idt, .dvs, .hlc, .stu] s t))))

/-- A received IDENTITY_NOTICE at a reader: a hit rewritten as MANUAL, the bag on the segment changed, or a held entry taken.
Formalises R93, R94, R95, R96, R117, R148. That a station that is no reader counts frame-taken is the model's choice
(log 17). -/
def Obligations.IdentityNoticeIsStoredOrApplied : Prop :=
  ∀ (c : StationConfig) (f : RxFrame) (id : Identity) (n : Nat) (s : State),
    (s.cfg = some c) → (s.hlc.line.actsOn = true) → (f.sender ≠ 0) → (f.sender ≠ 63) → (f.voided = false) →
    (f.sender.toNat ≠ c.station) → SizeLaw s → SlotLaw s → TagLaw s → (readIdentityNotice f.payload = some (id, n)) →
    (c.reader = false → (∃ t, exec (.identityNotice f) s = .next t ∧ Counted [.frameTaken] s t ∧ Raised [] s t
    ∧ t.hlc = { s.hlc with objection := .none } ∧ OnlyParts [.hlc, .stu] s t))
    ∧ (c.reader = true →
        (∀ i < 128, ∀ e ∈ entryAt s.idt.entries i, e.matchedBy id.tag id.sailing = true →
          (e.state ≠ .onSegment →
            (∃ t, exec (.identityNotice f) s = .next t
                ∧ t.idt = { s.idt with entries := s.idt.entries.set i (some ⟨id.tag, id.sailing, id.sailing == 0, id.cabin, n, .manual, .notice, 0⟩) }
              ∧ Counted [.frameTaken, .noticeStored] s t ∧ Raised [] s t ∧ t.hlc = { s.hlc with objection := .none }
                  ∧ OnlyParts [.idt, .hlc, .stu] s t))
          ∧ (e.state = .onSegment →
            (∃ t, exec (.identityNotice f) s = .next t
                ∧ t.idt = { s.idt with entries := s.idt.entries.set i (some ⟨id.tag, id.sailing, id.sailing == 0, id.cabin, n, .onSegment, .notice, 0⟩) }
              ∧ t.ctr .noticeOnSegment = satInc (s.ctr .noticeOnSegment) ∧ StrayCounted [] s t
                  ∧ t.hlc = { s.hlc with objection := .none }
              ∧ (∀ r ∈ s.btu.queue.find? (fun (r : SegRec) => r.entry == some i), ∃ q ∈ t.findRec r.ref,
                  q.ident = some id ∧ q.dest = some n ∧ q.reason = none ∧ q.passes = 0 ∧ q.entry = some i
                  ∧ t.ctr .strayCleared = (if r.reason = none then s.ctr .strayCleared else satInc (s.ctr .strayCleared))
                  ∧ (∀ d, (t.dvs.get d).grants = if (c.diverter d).any (fun v => v.chute != n)
                      then (s.dvs.get d).grants.filter (·.ref != r.ref)
                      else (s.dvs.get d).grants)
                  ∧ ((t.dvs.d0.grants, t.dvs.d1.grants) ≠ (s.dvs.d0.grants, s.dvs.d1.grants) → q.divert = .withdrawn)
                  ∧ ((t.dvs.d0.grants, t.dvs.d1.grants) = (s.dvs.d0.grants, s.dvs.d1.grants) → q.divert = r.divert)
                  ∧ (t.ctr .withdrawnDestination).toNat = min 65535 ((s.ctr .withdrawnDestination).toNat
                      + (s.dvs.d0.grants.length - t.dvs.d0.grants.length) + (s.dvs.d1.grants.length - t.dvs.d1.grants.length))
                  ∧ OnlyRecords [r.ref] s t)
              ∧ t.btu = { s.btu with queue := t.btu.queue } ∧ OnlyGrants s t
              ∧ OnlyParts [.btu, .idt, .dvs, .hlc, .stu] s t)))
        ∧ ((∀ i < 128, ∀ e ∈ entryAt s.idt.entries i, e.tag ≠ id.tag) →
          ∀ i < 16, entryAt s.idt.entries i = none → (∀ j < i, entryAt s.idt.entries j ≠ none) →
          (∃ t, exec (.identityNotice f) s = .next t
              ∧ t.idt = { s.idt with entries := s.idt.entries.set i (some ⟨id.tag, id.sailing, id.sailing == 0, id.cabin, n, .manual, .notice, 0⟩) }
            ∧ Counted [.frameTaken, .noticeStored] s t ∧ Raised [] s t ∧ t.hlc = { s.hlc with objection := .none }
                ∧ OnlyParts [.idt, .hlc, .stu] s t))
        ∧ ((∀ i < 128, ∀ e ∈ entryAt s.idt.entries i, e.tag ≠ id.tag) → (∀ i < 16, entryAt s.idt.entries i ≠ none) →
          (∀ i < 16, ∀ e ∈ entryAt s.idt.entries i, e.state ≠ .onSegment →
            (∀ j < 16, ∀ x ∈ entryAt s.idt.entries j, x.state ≠ .onSegment → x.age ≤ e.age ∧ (j < i → x.age < e.age)) →
            (∃ t, exec (.identityNotice f) s = .next t
                ∧ t.idt = { s.idt with entries := s.idt.entries.set i (some ⟨id.tag, id.sailing, id.sailing == 0, id.cabin, n, .manual, .notice, 0⟩) }
              ∧ Counted (if e.state = .manual then [.frameTaken, .noticeStored, .manualReused]
                  else [.frameTaken, .noticeStored]) s t ∧ Raised [] s t
              ∧ t.hlc = { s.hlc with objection := .none } ∧ OnlyParts [.idt, .hlc, .stu] s t))
          ∧ ((∀ i < 16, ∀ e ∈ entryAt s.idt.entries i, e.state = .onSegment) →
            (∃ t, exec (.identityNotice f) s = .next t ∧ Counted [.frameTaken, .idtFull] s t ∧ Raised [.idtFull] s t
                ∧ t.hlc = { s.hlc with objection := .none } ∧ OnlyParts [.hlc, .stu] s t)))
        ∧ ((∀ i < 128, ∀ e ∈ entryAt s.idt.entries i, e.matchedBy id.tag id.sailing = false) →
          ∀ i < 128, ∀ e ∈ entryAt s.idt.entries i, e.tag = id.tag →
          (e.state = .onSegment → (∃ t, exec (.identityNotice f) s = .next t ∧ Counted [.frameTaken, .tagClash] s t
              ∧ Raised [] s t ∧ t.hlc = { s.hlc with objection := .none } ∧ OnlyParts [.hlc, .stu] s t))
          ∧ (e.state ≠ .onSegment →
            (∃ t, exec (.identityNotice f) s = .next t
                ∧ t.idt = { s.idt with entries := s.idt.entries.set i (some ⟨id.tag, id.sailing, id.sailing == 0, id.cabin, n, .manual, .notice, 0⟩) }
              ∧ Counted [.frameTaken, .tagClash, .noticeStored] s t ∧ Raised [] s t
                  ∧ t.hlc = { s.hlc with objection := .none } ∧ OnlyParts [.idt, .hlc, .stu] s t))))

/-- A received CHUTE_STATE writes the view entry of its chute, or is a claim of an own chute. Formalises R104, R106, R107. -/
def Obligations.ChuteStateWritesTheView : Prop :=
  ∀ (c : StationConfig) (f : RxFrame) (m : ChuteReport) (s : State),
    (s.cfg = some c) → (s.hlc.line.actsOn = true) → (f.sender ≠ 0) → (f.sender ≠ 63) → (f.voided = false) →
    (f.sender.toNat ≠ c.station) → SizeLaw s → (readChuteState f.payload = some m) →
    (c.ownChute m.chute = true →
        (∃ t, exec (.chuteState f) s = .next t ∧ Counted [.frameTaken, .chuteClaim] s t ∧ Raised [.chuteClaim] s t
            ∧ t.hlc = { s.hlc with objection := .none } ∧ OnlyParts [.hlc, .stu] s t))
    ∧ (c.ownChute m.chute = false →
        (∃ t, exec (.chuteState f) s = .next t
            ∧ t.rrv.view = s.rrv.view.set (m.chute - 1) ⟨m.state, f.sender.toNat, m.fill, m.capacity, 0⟩
          ∧ t.ctr .chuteOwnerChange = (if (s.rrv.entry m.chute).owner ≠ 0 ∧ (s.rrv.entry m.chute).owner ≠ f.sender.toNat
              then satInc (s.ctr .chuteOwnerChange) else s.ctr .chuteOwnerChange)
          ∧ t.ev .chuteOwner = (s.ev .chuteOwner || decide ((s.rrv.entry m.chute).owner ≠ 0
              ∧ (s.rrv.entry m.chute).owner ≠ f.sender.toNat))
          ∧ t.ctr .viewChange = (if (s.rrv.entry m.chute).state ≠ m.state then satInc (s.ctr .viewChange)
              else s.ctr .viewChange)
          ∧ t.hlc = { s.hlc with objection := .none } ∧ OnlyParts [.rrv, .hlc, .stu] s t))

/-- STRAY_NOTICE and STATUS_REPLY are taken by no block, unknown kinds are counted; the own number means LISTEN_ONLY; a void
frame is nothing. Formalises R150, R160, R164. Which of these kinds count as taken (log 17), what an unknown kind under the
own number counts (log 18), that a void frame is nothing whoever sent it (log 19) and the latch of the objection slot
(log 30) are the model's choices. -/
def Obligations.UntakenKindsAndTheOwnNumber : Prop :=
  ∀ (c : StationConfig) (f : RxFrame) (code : BitVec 3) (s : State),
    (s.cfg = some c) → (s.hlc.line.actsOn = true) → (f.sender ≠ 0) → (f.sender ≠ 63) → (f.payload.length ≤ 20) → SizeLaw s
    →
    (f.voided = false → f.sender.toNat ≠ c.station →
        ((readStrayNotice f.payload).isSome → (∃ t, exec (.strayNotice f) s = .next t
            ∧ t = { s with hlc := { s.hlc with objection := .none } }))
        ∧ (4 ≤ f.payload.length → (∃ t, exec (.statusReply f) s = .next t
            ∧ t = { s with hlc := { s.hlc with objection := .none } }))
        ∧ (∃ t, exec (.unknownKind code f) s = .next t ∧ t.hlc = { s.hlc with objection := .none }
            ∧ Counted [.unknownKind] s t ∧ Raised [.unknownKind] s t
            ∧ OnlyParts [.hlc, .stu] s t))
    ∧ (f.voided = false → f.sender.toNat = c.station →
        ((readSegmentState f.payload).isSome →
          (∃ t, exec (.segmentState f) s = .next t
              ∧ t.hlc = { s.hlc with line := .listenOnly, quietMs := none, dup := true, objection := .none }
            ∧ Counted [.duplicateStation] s t ∧ Raised [] s t ∧ OnlyParts [.hlc, .stu] s t))
        ∧ ((readHandover f.payload).isSome →
          (∃ t, exec (.handover f) s = .next t
              ∧ t.hlc = { s.hlc with line := .listenOnly, quietMs := none, dup := true, objection := .none }
            ∧ Counted [.duplicateStation] s t ∧ Raised [] s t ∧ OnlyParts [.hlc, .stu] s t))
        ∧ ((readDivertDone f.payload).isSome →
          (∃ t, exec (.divertDone f) s = .next t
              ∧ t.hlc = { s.hlc with line := .listenOnly, quietMs := none, dup := true, objection := .none }
            ∧ Counted [.duplicateStation] s t ∧ Raised [] s t ∧ OnlyParts [.hlc, .stu] s t))
        ∧ ((readIdentityNotice f.payload).isSome →
          (∃ t, exec (.identityNotice f) s = .next t
              ∧ t.hlc = { s.hlc with line := .listenOnly, quietMs := none, dup := true, objection := .none }
            ∧ Counted [.duplicateStation] s t ∧ Raised [] s t ∧ OnlyParts [.hlc, .stu] s t))
        ∧ ((readChuteState f.payload).isSome →
          (∃ t, exec (.chuteState f) s = .next t
              ∧ t.hlc = { s.hlc with line := .listenOnly, quietMs := none, dup := true, objection := .none }
            ∧ Counted [.duplicateStation] s t ∧ Raised [] s t ∧ OnlyParts [.hlc, .stu] s t))
        ∧ ((readStrayNotice f.payload).isSome →
          (∃ t, exec (.strayNotice f) s = .next t
              ∧ t.hlc = { s.hlc with line := .listenOnly, quietMs := none, dup := true, objection := .none }
            ∧ Counted [.duplicateStation] s t ∧ Raised [] s t ∧ OnlyParts [.hlc, .stu] s t))
        ∧ ((readStatusQuery f.payload).isSome →
          (∃ t, exec (.statusQuery f) s = .next t
              ∧ t.hlc = { s.hlc with line := .listenOnly, quietMs := none, dup := true, objection := .none }
            ∧ Counted [.duplicateStation] s t ∧ Raised [] s t ∧ OnlyParts [.hlc, .stu] s t))
        ∧ (4 ≤ f.payload.length →
          (∃ t, exec (.statusReply f) s = .next t
              ∧ t.hlc = { s.hlc with line := .listenOnly, quietMs := none, dup := true, objection := .none }
            ∧ Counted [.duplicateStation] s t ∧ Raised [] s t ∧ OnlyParts [.hlc, .stu] s t))
        ∧ (∃ t, exec (.unknownKind code f) s = .next t
            ∧ t.hlc = { s.hlc with line := .listenOnly, quietMs := none, dup := true, objection := .none }
            ∧ Counted [.duplicateStation, .unknownKind] s t ∧ Raised [.unknownKind] s t ∧ OnlyParts [.hlc, .stu] s t))
    ∧ (f.voided = true →
        ((readSegmentState f.payload).isSome → (∃ t, exec (.segmentState f) s = .next t
            ∧ t = { s with hlc := { s.hlc with objection := .none } }))
        ∧ ((readHandover f.payload).isSome → (∃ t, exec (.handover f) s = .next t
            ∧ t = { s with hlc := { s.hlc with objection := .none } }))
        ∧ ((readDivertDone f.payload).isSome → (∃ t, exec (.divertDone f) s = .next t
            ∧ t = { s with hlc := { s.hlc with objection := .none } }))
        ∧ ((readIdentityNotice f.payload).isSome → (∃ t, exec (.identityNotice f) s = .next t
            ∧ t = { s with hlc := { s.hlc with objection := .none } }))
        ∧ ((readChuteState f.payload).isSome → (∃ t, exec (.chuteState f) s = .next t
            ∧ t = { s with hlc := { s.hlc with objection := .none } }))
        ∧ ((readStrayNotice f.payload).isSome → (∃ t, exec (.strayNotice f) s = .next t
            ∧ t = { s with hlc := { s.hlc with objection := .none } }))
        ∧ ((readStatusQuery f.payload).isSome → (∃ t, exec (.statusQuery f) s = .next t
            ∧ t = { s with hlc := { s.hlc with objection := .none } }))
        ∧ (4 ≤ f.payload.length → (∃ t, exec (.statusReply f) s = .next t
            ∧ t = { s with hlc := { s.hlc with objection := .none } }))
        ∧ (∃ t, exec (.unknownKind code f) s = .next t ∧ t = { s with hlc := { s.hlc with objection := .none } }))

/-- A STATUS_QUERY: reply from the values as they stand, then the zeroing, the clearing of event bits, and the segment clear.
Formalises R29, R33, R35, R179, R180, R181. The widths of state page fields are read as log 22 says and the order of the
counts on page 10 as log 48 says; that the query's own frame-taken is counted before the reply is assembled is the model's
choice (log 46). -/
def Obligations.StatusQueryIsTakenInOrder : Prop :=
  ∀ (c : StationConfig) (f : RxFrame) (q : Query) (u : List Tally16) (s : State),
    (s.cfg = some c) → (s.hlc.line.actsOn = true) → (f.sender ≠ 0) → (f.sender ≠ 63) → (f.voided = false) →
    (f.sender.toNat ≠ c.station) → SizeLaw s → (readStatusQuery f.payload = some q) → (u = ((s.bump .frameTaken).bump
    .queryTaken).stu.counters) →
    (q.target ≠ c.station → q.target ≠ 63 →
        (∃ t, exec (.statusQuery f) s = .next t ∧ t.hlc = { s.hlc with objection := .none }
            ∧ Counted [.frameTaken, .queryOther] s t ∧ Raised [] s t
          ∧ OnlyParts [.hlc, .stu] s t))
    ∧ (q.target = c.station ∨ q.target = 63 →
        (∃ t, exec (.statusQuery f) s = .next t ∧ (s.hlc.queue.length < 7 →
            ∃ bytes ∈ (t.hlc.queue.map (·.frame)).filterMap (fun | .statusReply b => some b | _ => none),
              bytes.getD 0 0 = q.tag ∧ (bytes.getD 1 0).toNat % 8 = s.hlc.line.code
                  ∧ (bytes.getD 1 0).toNat / 16 = s.hlc.queue.length
              ∧ (bytes.getD 3 0).toNat / 64 = s.btu.speed.code ∧ (bytes.getD 3 0).getLsbD 5 = s.btu.permit
              ∧ (bytes.getD 3 0).getLsbD 4 = q.zero ∧ (bytes.getD 3 0).getLsbD 3 = q.clear
              ∧ (∀ b ∈ Block.all.zipIdx, (bytes.getD 2 0).getLsbD (7 - b.2) = s.summary b.1)
                  ∧ (bytes.getD 2 0).getLsbD 0 = s.btu.blockedFlag
              ∧ (q.group = 0 → q.page = 0 → bytes.drop 4 = natBytes 4 s.btu.flow.entered.toNat ++ natBytes 4 s.btu.flow.exited.toNat
                  ++ natBytes 4 s.btu.flow.diverted0.toNat ++ natBytes 4 s.btu.flow.diverted1.toNat)
              ∧ (q.group = 0 → q.page = 1 → bytes.drop 4 = natBytes 4 s.btu.flow.swept.toNat ++ natBytes 4 s.btu.flow.cleared.toNat
                  ++ natBytes 4 s.btu.flow.untracked.toNat)
              ∧ (q.page < 8 → (q.group = 0 → 2 ≤ q.page → bytes.drop 4 = [])
                  ∧ (q.group = 1 → bytes.drop 4 = (((u.take 34).drop (8 * q.page)).take 8).flatMap fun x => natBytes 2 x.toNat)
                  ∧ (q.group = 2 → bytes.drop 4 = ((((u.drop 34).take 30).drop (8 * q.page)).take 8).flatMap fun x => natBytes 2 x.toNat)
                  ∧ (q.group = 3 → bytes.drop 4 = (((u.drop 64).drop (8 * q.page)).take 8).flatMap fun x => natBytes 2 x.toNat))
              ∧ (q.page = 8 → bytes.drop 4 = packBits (s.stu.events
                  ++ ([Div.d0, .d1].flatMap fun d => [(s.dvs.get d).inState .full, (s.dvs.get d).inState .closed])
                  ++ [s.hlc.line == .quiet, s.hlc.line == .lineFault, s.hlc.dup, false]))
              ∧ (q.page = 9 → bytes.drop 4 = packBits ([(5, s.btu.queue.length), (5, (s.btu.queue.filter fun r => r.reason.any Reason.soft).length)
                    , (5, (s.btu.queue.filter fun r => r.reason.any Reason.hard).length), (4, s.btu.expects.length)
                    , (2, if c.upA = 0 then 0 else s.btu.upA.reported.code), (10, if c.upA = 0 then 0 else s.btu.upA.vsrc)
                    , (1, if c.upA = 0 then 0 else s.btu.upA.silent.toNat)
                    , (2, if c.upB = 0 then 0 else s.btu.upB.reported.code), (10, if c.upB = 0 then 0 else s.btu.upB.vsrc)
                    , (1, if c.upB = 0 then 0 else s.btu.upB.silent.toNat)
                    , (1, s.btu.down.heard.toNat), (1, s.btu.down.lastBlocked.toNat), (1, s.btu.down.silent.toNat), (2, s.hlc.tally)
                    ].flatMap fun (p : Nat × Nat) => natBits p.1 p.2))
              ∧ (q.page = 10 → bytes.drop 4 = packBits ((([EntryState.onSegment, .onLoop, .diverted, .manual].map fun st =>
                    ((8 : Nat), s.idt.countIn st)) ++ [(7, s.idt.pointer)]
                  ++ [Div.d0, .d1].flatMap fun d => [(2, (s.dvs.get d).eng.code), (2, (s.dvs.get d).grants.length), (2, (s.dvs.get d).confirms.length)]
                    ).flatMap fun (p : Nat × Nat) => natBits p.1 p.2))
              ∧ (q.page = 11 → bytes.drop 4 = packBits ([Div.d0, .d1].flatMap fun d => match (s.dvs.get d).account with
                  | none => List.replicate 37 false
                  | some a => natBits 5 a.chute ++ natBits 3 a.state.code ++ natBits 12 a.fill ++ natBits 12 a.capacity ++ [a.fullSensor, a.closeSwitch]
                      ++ natBits 3 a.lastSent.code))
              ∧ (12 ≤ q.page → bytes.drop 4 = packBits (((s.rrv.view.drop (8 * (q.page - 12))).take 8).flatMap fun v =>
                  natBits 3 v.state.code ++ natBits 2 v.age ++ natBits 6 v.owner ++ natBits 4 (if v.capacity = 0 then 0
                      else min 15 (16 * v.fill / v.capacity)))))
          ∧ (q.group = 0 → q.zero = true → q.clear = false →
              t.btu.flow = ⟨BitVec.ofNat 32 s.btu.queue.length, 0, 0, 0, 0, 0, 0⟩)
          ∧ (q.zero = false → q.clear = false → t.btu = s.btu)
          ∧ (q.clear = true → t.btu.queue = [] ∧ t.btu.expects = [] ∧ t.btu.openRec = none)
          ∧ (q.clear = true → FlagFollows c s t) ∧ (q.clear = false → t.btu = { s.btu with flow := t.btu.flow })
          ∧ (q.clear = false → t.btu.queue = s.btu.queue ∧ t.dvs = s.dvs ∧ t.idt = s.idt)
          ∧ (q.zero = true → q.clear = false → q.group = 1 → ∀ k, k.ctorIdx < 34 → t.ctr k = 0)
          ∧ (q.zero = true → q.clear = false → q.group = 2 → ∀ k, 34 ≤ k.ctorIdx → k.ctorIdx < 64 → t.ctr k = 0)
          ∧ (q.zero = true → q.clear = false → q.group = 3 → ∀ k, 64 ≤ k.ctorIdx → t.ctr k = 0)
          ∧ (q.zero = false → t.ctr .queryTaken = satInc (s.ctr .queryTaken))
          ∧ (∀ e, e ≠ .dropped → t.ev e = (s.ev e && !(Block.all.zipIdx.any fun p => q.mask.getLsbD (7 - p.2)
              && decide (p.1.events.1 ≤ e.ctorIdx ∧ e.ctorIdx < p.1.events.1 + p.1.events.2))))
          ∧ t.hlc.line = s.hlc.line ∧ t.rdu = s.rdu ∧ t.rrv = s.rrv ∧ t.pins = s.pins ∧ t.cfl = s.cfl
              ∧ t.pending = s.pending))

/-- A frame with a fault: an ACTIVE station objects, every receiver counts rx-malformed, and no block takes anything. Formalises
R159, R160, R162, R164, R165. The latch of the objection slot and the bits that RX_MALFORMED carries are the model's
(log 30), and that an unknown kind from sender 0 or 63 is a fault and nothing else is its choice (log 45). -/
def Obligations.FaultyFramesAreObjectedTo : Prop :=
  ∀ (c : StationConfig) (f : RxFrame) (code : BitVec 3) (bits : List Bool) (s : State),
    (s.cfg = some c) → SizeLaw s →
    (s.hlc.line.actsOn = true → f.payload.length ≤ 20 →
        (readSegmentState f.payload = none ∨ f.sender = 0 ∨ f.sender = 63 →
          (∃ t, exec (.segmentState f) s = .next t
              ∧ t.hlc = { s.hlc with objection := if s.hlc.line = .active then .slot else .none }
            ∧ Counted [.rxMalformed] s t ∧ Raised [.rxMalformed] s t ∧ OnlyParts [.hlc, .stu] s t))
        ∧ (readHandover f.payload = none ∨ f.sender = 0 ∨ f.sender = 63 →
          (∃ t, exec (.handover f) s = .next t
              ∧ t.hlc = { s.hlc with objection := if s.hlc.line = .active then .slot else .none }
            ∧ Counted [.rxMalformed] s t ∧ Raised [.rxMalformed] s t ∧ OnlyParts [.hlc, .stu] s t))
        ∧ (readDivertDone f.payload = none ∨ f.sender = 0 ∨ f.sender = 63 →
          (∃ t, exec (.divertDone f) s = .next t
              ∧ t.hlc = { s.hlc with objection := if s.hlc.line = .active then .slot else .none }
            ∧ Counted [.rxMalformed] s t ∧ Raised [.rxMalformed] s t ∧ OnlyParts [.hlc, .stu] s t))
        ∧ (readIdentityNotice f.payload = none ∨ f.sender = 0 ∨ f.sender = 63 →
          (∃ t, exec (.identityNotice f) s = .next t
              ∧ t.hlc = { s.hlc with objection := if s.hlc.line = .active then .slot else .none }
            ∧ Counted [.rxMalformed] s t ∧ Raised [.rxMalformed] s t ∧ OnlyParts [.hlc, .stu] s t))
        ∧ (readChuteState f.payload = none ∨ f.sender = 0 ∨ f.sender = 63 →
          (∃ t, exec (.chuteState f) s = .next t
              ∧ t.hlc = { s.hlc with objection := if s.hlc.line = .active then .slot else .none }
            ∧ Counted [.rxMalformed] s t ∧ Raised [.rxMalformed] s t ∧ OnlyParts [.hlc, .stu] s t))
        ∧ (readStrayNotice f.payload = none ∨ f.sender = 0 ∨ f.sender = 63 →
          (∃ t, exec (.strayNotice f) s = .next t
              ∧ t.hlc = { s.hlc with objection := if s.hlc.line = .active then .slot else .none }
            ∧ Counted [.rxMalformed] s t ∧ Raised [.rxMalformed] s t ∧ OnlyParts [.hlc, .stu] s t))
        ∧ (readStatusQuery f.payload = none ∨ f.sender = 0 ∨ f.sender = 63 →
          (∃ t, exec (.statusQuery f) s = .next t
              ∧ t.hlc = { s.hlc with objection := if s.hlc.line = .active then .slot else .none }
            ∧ Counted [.rxMalformed] s t ∧ Raised [.rxMalformed] s t ∧ OnlyParts [.hlc, .stu] s t))
        ∧ ((f.payload.length < 4) ∨ f.sender = 0 ∨ f.sender = 63 →
          (∃ t, exec (.statusReply f) s = .next t
              ∧ t.hlc = { s.hlc with objection := if s.hlc.line = .active then .slot else .none }
            ∧ Counted [.rxMalformed] s t ∧ Raised [.rxMalformed] s t ∧ OnlyParts [.hlc, .stu] s t))
        ∧ (f.sender = 0 ∨ f.sender = 63 →
          (∃ t, exec (.unknownKind code f) s = .next t
              ∧ t.hlc = { s.hlc with objection := if s.hlc.line = .active then .slot else .none }
            ∧ Counted [.rxMalformed] s t ∧ Raised [.rxMalformed] s t ∧ OnlyParts [.hlc, .stu] s t)))
    ∧ (s.hlc.line.actsOn = true → 20 < f.payload.length →
        (∃ t, exec (.segmentState f) s = .next t
            ∧ t.hlc = { s.hlc with objection := if s.hlc.line = .active then .early else .none }
          ∧ Counted [.rxMalformed] s t ∧ Raised [.rxMalformed] s t ∧ OnlyParts [.hlc, .stu] s t)
        ∧ (∃ t, exec (.handover f) s = .next t
            ∧ t.hlc = { s.hlc with objection := if s.hlc.line = .active then .early else .none }
          ∧ Counted [.rxMalformed] s t ∧ Raised [.rxMalformed] s t ∧ OnlyParts [.hlc, .stu] s t)
        ∧ (∃ t, exec (.divertDone f) s = .next t
            ∧ t.hlc = { s.hlc with objection := if s.hlc.line = .active then .early else .none }
          ∧ Counted [.rxMalformed] s t ∧ Raised [.rxMalformed] s t ∧ OnlyParts [.hlc, .stu] s t)
        ∧ (∃ t, exec (.identityNotice f) s = .next t
            ∧ t.hlc = { s.hlc with objection := if s.hlc.line = .active then .early else .none }
          ∧ Counted [.rxMalformed] s t ∧ Raised [.rxMalformed] s t ∧ OnlyParts [.hlc, .stu] s t)
        ∧ (∃ t, exec (.chuteState f) s = .next t
            ∧ t.hlc = { s.hlc with objection := if s.hlc.line = .active then .early else .none }
          ∧ Counted [.rxMalformed] s t ∧ Raised [.rxMalformed] s t ∧ OnlyParts [.hlc, .stu] s t)
        ∧ (∃ t, exec (.strayNotice f) s = .next t
            ∧ t.hlc = { s.hlc with objection := if s.hlc.line = .active then .early else .none }
          ∧ Counted [.rxMalformed] s t ∧ Raised [.rxMalformed] s t ∧ OnlyParts [.hlc, .stu] s t)
        ∧ (∃ t, exec (.statusQuery f) s = .next t
            ∧ t.hlc = { s.hlc with objection := if s.hlc.line = .active then .early else .none }
          ∧ Counted [.rxMalformed] s t ∧ Raised [.rxMalformed] s t ∧ OnlyParts [.hlc, .stu] s t)
        ∧ (∃ t, exec (.statusReply f) s = .next t
            ∧ t.hlc = { s.hlc with objection := if s.hlc.line = .active then .early else .none }
          ∧ Counted [.rxMalformed] s t ∧ Raised [.rxMalformed] s t ∧ OnlyParts [.hlc, .stu] s t)
        ∧ (∃ t, exec (.unknownKind code f) s = .next t
            ∧ t.hlc = { s.hlc with objection := if s.hlc.line = .active then .early else .none }
          ∧ Counted [.rxMalformed] s t ∧ Raised [.rxMalformed] s t ∧ OnlyParts [.hlc, .stu] s t))
    ∧ (s.hlc.line.actsOn = true →
        (judgeWire bits = .bad →
          (∃ t, exec (.rxMalformed bits) s = .next t
              ∧ t.hlc = { s.hlc with objection := if s.hlc.line = .active then .slot else .none }
            ∧ Counted [.rxMalformed] s t ∧ Raised [.rxMalformed] s t ∧ OnlyParts [.hlc, .stu] s t))
        ∧ (judgeWire bits = .tooLong →
          (∃ t, exec (.rxMalformed bits) s = .next t
              ∧ t.hlc = { s.hlc with objection := if s.hlc.line = .active then .early else .none }
            ∧ Counted [.rxMalformed] s t ∧ Raised [.rxMalformed] s t ∧ OnlyParts [.hlc, .stu] s t)))
    ∧ (s.hlc.line.actsOn = false →
        (∃ t, exec (.segmentState f) s = .next t ∧ t = s) ∧ (∃ t, exec (.handover f) s = .next t ∧ t = s)
            ∧ (∃ t, exec (.divertDone f) s = .next t ∧ t = s) ∧ (∃ t, exec (.identityNotice f) s = .next t ∧ t = s)
                ∧ (∃ t, exec (.chuteState f) s = .next t ∧ t = s) ∧ (∃ t, exec (.strayNotice f) s = .next t ∧ t = s)
                    ∧ (∃ t, exec (.statusQuery f) s = .next t ∧ t = s) ∧ (∃ t, exec (.statusReply f) s = .next t ∧ t = s)
                        ∧ (∃ t, exec (.unknownKind code f) s = .next t ∧ t = s) ∧ (∃ t, exec (.rxMalformed bits) s = .next t
                            ∧ t = s))

/-- FRAME_START and ATTEMPT_END: the head frame is sent, waits again, is superseded, or is dropped at its second failure.
Formalises R155, R157, R158, R161, R162, R163, R165, R166, R167. An attempt is judged from the bits read (log 29) and the
tally saturates (log 21); the latch of the objection (log 30), a frame's attempt that goes on through a change of line state
(log 40), the collision that is the third drop (log 44), a collision that counts no own-objected (log 49), and that
ATTEMPT_END with nothing in transmission or a FRAME_START that may not start changes nothing (log 1) are the model's
choices. -/
def Obligations.AttemptsOfOwnFrames : Prop :=
  ∀ (c : StationConfig) (f : OutFrame) (rest : List OutFrame) (read : List Bool) (s : State),
    (s.cfg = some c) → SizeLaw s → (s.hlc.queue = f :: rest) →
    (s.hlc.line = .active → (∀ o ∈ s.hlc.queue, o.sending = false) →
        (∃ t, exec .frameStart s = .next t
            ∧ t.hlc = { s.hlc with queue := { f with sending := true, overtaken := false } :: rest, objection := .none }
                ∧ OnlyParts [.hlc] s t))
    ∧ (s.hlc.line ≠ .active ∨ (∃ o ∈ s.hlc.queue, o.sending = true) → (∃ t, exec .frameStart s = .next t ∧ t = s))
    ∧ (f.sending = false → (∃ t, exec (.attemptEnd read) s = .next t ∧ t = s))
    ∧ (f.sending = true →
        (read = frameBits f.kind c.station f.frame.payload →
          (∃ t, exec (.attemptEnd read) s = .next t ∧ t.hlc = { s.hlc with queue := rest, tally := 0 }
              ∧ Counted [.frameSent] s t ∧ Raised [] s t ∧ OnlyParts [.hlc, .stu] s t))
        ∧ (judgeAttempt (frameBits f.kind c.station f.frame.payload) read = .sent →
          (∃ t, exec (.attemptEnd read) s = .next t ∧ t.hlc = { s.hlc with queue := rest, tally := 0 }
              ∧ Counted [.frameSent] s t ∧ Raised [] s t ∧ OnlyParts [.hlc, .stu] s t))
        ∧ (judgeAttempt (frameBits f.kind c.station f.frame.payload) read = .lost →
          (f.overtaken = true → (∃ t, exec (.attemptEnd read) s = .next t ∧ t.hlc = { s.hlc with queue := rest }
              ∧ Counted [.arbitrationLost, .superseded] s t ∧ Raised [] s t ∧ OnlyParts [.hlc, .stu] s t))
          ∧ (f.overtaken = false → (∃ t, exec (.attemptEnd read) s = .next t ∧ (∃ n < rest.length + 1,
                t.hlc.queue = rest.take n ++ { f with sending := false, retried := f.retried, overtaken := false } :: rest.drop n
                ∧ (∀ o ∈ rest.take n, o.kind < f.kind) ∧ ∀ o ∈ (rest.drop n).head?, f.kind ≤ o.kind)
              ∧ t.hlc = { s.hlc with queue := t.hlc.queue } ∧ Counted [.arbitrationLost] s t ∧ Raised [] s t
                  ∧ OnlyParts [.hlc, .stu] s t)))
        ∧ (judgeAttempt (frameBits f.kind c.station f.frame.payload) read = .objected →
          (f.overtaken = true → (∃ t, exec (.attemptEnd read) s = .next t ∧ t.hlc = { s.hlc with queue := rest }
              ∧ Counted [.ownObjected, .superseded] s t ∧ Raised [] s t ∧ OnlyParts [.hlc, .stu] s t))
          ∧ (f.overtaken = false → f.retried = false → (∃ t, exec (.attemptEnd read) s = .next t ∧ (∃ n < rest.length + 1,
                t.hlc.queue = rest.take n ++ { f with sending := false, retried := true, overtaken := false } :: rest.drop n
                ∧ (∀ o ∈ rest.take n, o.kind < f.kind) ∧ ∀ o ∈ (rest.drop n).head?, f.kind ≤ o.kind)
              ∧ t.hlc = { s.hlc with queue := t.hlc.queue } ∧ Counted [.ownObjected] s t ∧ Raised [] s t
                  ∧ OnlyParts [.hlc, .stu] s t))
          ∧ (f.overtaken = false → f.retried = true → (∃ t, exec (.attemptEnd read) s = .next t ∧ t.hlc = { s.hlc with
                queue := rest, tally := min 3 (s.hlc.tally + 1), line := if (s.hlc.line = .active ∧ 2 ≤ s.hlc.tally)
                    then .quiet else s.hlc.line
                quietMs := if (s.hlc.line = .active ∧ 2 ≤ s.hlc.tally) then some 0
                    else s.hlc.quietMs, objection := if (s.hlc.line = .active ∧ 2 ≤ s.hlc.tally) then .none
                        else s.hlc.objection }
              ∧ Counted (if (s.hlc.line = .active ∧ 2 ≤ s.hlc.tally) then [.ownObjected, .droppedFailed, .quietEntered]
                  else [.ownObjected, .droppedFailed]) s t
              ∧ Raised [.dropped] s t ∧ OnlyParts [.hlc, .stu] s t)))
        ∧ (judgeAttempt (frameBits f.kind c.station f.frame.payload) read = .collision →
          (f.overtaken = true → (∃ t, exec (.attemptEnd read) s = .next t
              ∧ t.hlc = { s.hlc with queue := rest, objection := if s.hlc.line = .active then .slot else .none }
                  ∧ Counted [.collision, .superseded] s t ∧ Raised [.collision] s t ∧ OnlyParts [.hlc, .stu] s t))
          ∧ (f.overtaken = false → f.retried = false → (∃ t, exec (.attemptEnd read) s = .next t ∧ (∃ n < rest.length + 1,
                t.hlc.queue = rest.take n ++ { f with sending := false, retried := true, overtaken := false } :: rest.drop n
                ∧ (∀ o ∈ rest.take n, o.kind < f.kind) ∧ ∀ o ∈ (rest.drop n).head?, f.kind ≤ o.kind)
              ∧ t.hlc = { s.hlc with queue := t.hlc.queue, objection := if s.hlc.line = .active then .slot else .none }
                  ∧ Counted [.collision] s t ∧ Raised [.collision] s t ∧ OnlyParts [.hlc, .stu] s t))
          ∧ (f.overtaken = false → f.retried = true → (∃ t, exec (.attemptEnd read) s = .next t ∧ t.hlc = { s.hlc with
                queue := rest, tally := min 3 (s.hlc.tally + 1), line := if (s.hlc.line = .active ∧ 2 ≤ s.hlc.tally)
                    then .quiet else s.hlc.line
                quietMs := if (s.hlc.line = .active ∧ 2 ≤ s.hlc.tally) then some 0
                    else s.hlc.quietMs, objection := if (s.hlc.line = .active ∧ 2 ≤ s.hlc.tally) then .none
                        else if s.hlc.line = .active then .slot else .none }
              ∧ Counted (if (s.hlc.line = .active ∧ 2 ≤ s.hlc.tally) then [.collision, .droppedFailed, .quietEntered]
                  else [.collision, .droppedFailed]) s t
              ∧ Raised [.collision, .dropped] s t ∧ OnlyParts [.hlc, .stu] s t))))

/-- QUIET_TIMER, LINE_FAULT and LINE_FAULT_EXIT: the line states, the drop tally, and the SEGMENT_STATE of an entry into ACTIVE.
Formalises R162, R163, R164, R171. A frame in transmission stays until its ATTEMPT_END (log 40). -/
def Obligations.LineStatesChange : Prop :=
  ∀ (s : State),
    SizeLaw s →
    (s.hlc.line = .quiet →
        (∃ t, exec .quietTimer s = .next t ∧ t.hlc.line = .active ∧ t.hlc.tally = 0 ∧ t.hlc.quietMs = none
            ∧ t.hlc = { s.hlc with line := .active, tally := 0, quietMs := none, queue := t.hlc.queue }
          ∧ (s.hlc.queue.length < 8 → Queued (.segmentState s.btu.v s.btu.speed s.btu.blockedFlag) t
            ∧ t.hlc.queue.filter (fun o => o.kind != 0) = s.hlc.queue.filter fun o => o.kind != 0)
          ∧ t.btu = { s.btu with reportedV := s.btu.v } ∧ CountedBeside [] s t ∧ OnlyParts [.btu, .hlc, .stu] s t))
    ∧ (s.hlc.line = .active ∨ s.hlc.line = .quiet ∨ s.hlc.line = .listenOnly →
        (∃ t, exec .lineFault s = .next t
            ∧ t.hlc = { s.hlc with line := .lineFault, quietMs := none, objection := .none, tally := if s.hlc.line = .quiet then 0 else s.hlc.tally }
          ∧ Counted [.lineFaultEntered] s t ∧ Raised [] s t ∧ OnlyParts [.hlc, .stu] s t))
    ∧ (s.hlc.line = .lineFault → s.hlc.dup = true →
        (∃ t, exec .lineFaultExit s = .next t ∧ t = { s with hlc := { s.hlc with line := .listenOnly } }))
    ∧ (s.hlc.line = .lineFault → s.hlc.dup = false →
        (∃ t, exec .lineFaultExit s = .next t ∧ t.hlc.line = .active
            ∧ t.hlc = { s.hlc with line := .active, queue := t.hlc.queue }
          ∧ (s.hlc.queue.length < 8 → Queued (.segmentState s.btu.v s.btu.speed s.btu.blockedFlag) t
            ∧ t.hlc.queue.filter (fun o => o.kind != 0) = s.hlc.queue.filter fun o => o.kind != 0)
          ∧ t.btu = { s.btu with reportedV := s.btu.v } ∧ CountedBeside [] s t ∧ OnlyParts [.btu, .hlc, .stu] s t))

/-- A frame's bits, read back whole, are judged good and give its kind, sender, length and payload, and its attempt is sent.
Formalises R156, R157, R158, R161, 10.6. -/
def Obligations.FrameBitsAreReadBackGood : Prop :=
  ∀ (kind : Nat) (sender : Nat) (p : List Byte),
    (kind < 16) → (1 ≤ sender) → (sender ≤ 62) → (p.length ≤ 20) →
    judgeWire (frameBits kind sender p) = .good ∧ numAt (frameBits kind sender p) 1 4 = kind
    ∧ numAt (frameBits kind sender p) 5 6 = sender
    ∧ numAt (frameBits kind sender p) 11 5 = p.length ∧ (List.range p.length).map (byteAt (frameBits kind sender p)) = p
    ∧ (frameBits kind sender p).length = 43 + 9 * p.length
    ∧ (frameBits kind sender p).head? = some false
        ∧ (frameBits kind sender p).drop (34 + 9 * p.length) = List.replicate 9 true
    ∧ judgeAttempt (frameBits kind sender p) (frameBits kind sender p) = .sent

/-- Reading the payload of a HANDOVER gives back every field, and every payload that is read has its length and fields in range.
Formalises R41, R55, 10.6. -/
def Obligations.HandoverPayloadRoundTrip : Prop :=
  ∀ (h : Handover) (p : List Byte) (m : Handover),
    (h.wellFormed = true → (∀ r ∈ h.reason, r.cls ≠ .report) → (∀ i ∈ h.ident, i.tag ≤ 9999999999 ∧ i.sailing ≤ 4095
    ∧ i.cabin ≤ 99999) →
        readHandover h.payload = some h ∧ h.payload.length = if h.ident = none then 9 else 18)
    ∧ (h.wellFormed = true ↔ 1 ≤ h.toStation ∧ h.toStation ≤ 62 ∧ h.dExit ≤ 2047 ∧ h.len ≤ 2047 ∧ h.v ≤ 1023 ∧ h.dest ≤ 31
        ∧ h.passes ≤ 7
        ∧ (h.dest ≠ 0 ↔ h.ident.isSome = true ∨ h.reason.isSome = true))
    ∧ (readHandover p = some m → p.length = (if m.ident = none then 9 else 18) ∧ m.wellFormed = true
        ∧ (∀ r ∈ m.reason, r.cls ≠ .report)
        ∧ (∀ i ∈ m.ident, i.tag ≤ 9999999999 ∧ i.sailing ≤ 4095 ∧ i.cabin ≤ 99999))

/-- SEGMENT_STATE, DIVERT_DONE, IDENTITY_NOTICE, CHUTE_STATE, STRAY_NOTICE and STATUS_QUERY: fields read back, and ill-formed
payloads refused. Formalises R91, R93, R105, R130, R140, R149, R150, R170, R180, 10.5, 10.6. -/
def Obligations.OtherPayloadsRoundTrip : Prop :=
  ∀ (v : Nat) (sp : SpeedState) (b : Bool) (m : DivertDone) (i : Identity) (n : Nat) (r : ChuteReport) (w : StrayNotice)
    (q : Query) (p : List Byte),
    (v ≤ 1023 → readSegmentState (Frame.segmentState v sp b).payload = some (v, sp, b))
    ∧ (1 ≤ m.chute → m.chute ≤ 31 → m.len ≤ 2047 → (∀ x ∈ m.ident, x.inRange = true) → readDivertDone m.payload = some m)
    ∧ (i.inRange = true → 1 ≤ n → n ≤ 31 → readIdentityNotice (Frame.identityNotice i n).payload = some (i, n))
    ∧ (1 ≤ r.chute → r.chute ≤ 31 → r.state ≠ .unknown → r.fill ≤ 4095 → 1 ≤ r.capacity → r.capacity ≤ 4095 →
        readChuteState r.payload = some r)
    ∧ (w.passes ≤ 7 → w.chute ≤ 31 → (w.reason = .swept → w.chute ≠ 0) → (∀ x ∈ w.ident, x.inRange = true) →
        readStrayNotice w.payload = some w)
    ∧ (1 ≤ q.target → q.target ≤ 63 → q.group ≤ 3 → q.page ≤ 15 →
        readStatusQuery [BitVec.ofNat 8 q.target, BitVec.ofNat 8 (q.group * 64 + q.page * 4 + q.zero.toNat * 2 + q.clear.toNat), q.mask, q.tag] = some q)
    ∧ (∀ x ∈ readSegmentState p, p.length = 4 ∧ x.1 ≤ 1023 ∧ (p.getD 2 0).toNat = x.2.1.code
        ∧ (p.getD 3 0).toNat = x.2.2.toNat)
    ∧ (∀ x ∈ readDivertDone p, p.length = (if x.ident = none then 4 else 13) ∧ 1 ≤ x.chute ∧ x.chute ≤ 31 ∧ x.len ≤ 2047
        ∧ ∀ y ∈ x.ident, y.tag ≤ 9999999999 ∧ y.sailing ≤ 4095 ∧ y.cabin ≤ 99999)
    ∧ (∀ x ∈ readIdentityNotice p, p.length = 10 ∧ x.1.tag ≤ 9999999999 ∧ x.1.sailing ≤ 4095 ∧ x.1.cabin ≤ 99999 ∧ 1 ≤ x.2
        ∧ x.2 ≤ 31)
    ∧ (∀ x ∈ readChuteState p, p.length = 6 ∧ 1 ≤ x.chute ∧ x.chute ≤ 31 ∧ x.state ≠ .unknown
        ∧ (p.getD 1 0).toNat = x.state.code ∧ x.fill ≤ 4095
        ∧ 1 ≤ x.capacity ∧ x.capacity ≤ 4095)
    ∧ (∀ x ∈ readStrayNotice p, p.length = (if x.ident = none then 5 else 14) ∧ x.passes ≤ 7 ∧ x.chute ≤ 31
        ∧ (x.reason = .swept → x.chute ≠ 0)
        ∧ (p.getD 0 0).toNat = x.reason.code ∧ (p.getD 4 0).toNat = x.origin.code
        ∧ ∀ y ∈ x.ident, y.tag ≤ 9999999999 ∧ y.sailing ≤ 4095 ∧ y.cabin ≤ 99999)
    ∧ (∀ x ∈ readStatusQuery p, p.length = 4 ∧ 1 ≤ x.target ∧ x.target ≤ 63 ∧ x.group ≤ 3 ∧ x.page ≤ 15)

/-- Every step keeps the sizes of the tables and the bounds of the lists, fills, tally and pointer. Formalises R5, R15, R44,
R77, R82, R104, R112, R137, R161, R165, R181. The bound of the tally is the model's (log 21). -/
def Obligations.EveryStepKeepsSizes : Prop :=
  ∀ (s : State) (t : State),
    SizeLaw s → (step s = .next t) →
    SizeLaw t

/-- Every step keeps the balance of the flow counters with the records present, and the blocked flag with queue count and
downstream state. Formalises R29, R35. That the blocked flag is evaluated when the downstream state changes is a reading of
the spec (log 15). -/
def Obligations.EveryStepKeepsFlowBalance : Prop :=
  ∀ (s : State) (t : State),
    (step s = .next t) →
    (FlowBalance s → FlowBalance t) ∧ (FlagLaw s → FlagLaw t)

/-- Every step keeps each record alone in one of 16 slots, no two of one entry count, and the queue in the order of the entry
counts. Formalises R11, R15, R19. -/
def Obligations.EveryStepKeepsSlotLaw : Prop :=
  ∀ (s : State) (t : State),
    (step s = .next t) →
    (SlotLaw s → SlotLaw t) ∧ (OrderLaw s → (∀ r ∈ s.btu.queue, s.position r + 1 < 2 ^ 24) → OrderLaw t)

/-- Every step keeps: a destination exactly with an identity or a reason, a reason brings the problem chute, and passes stay
below the maximum or bring a reason. Formalises R41, R57, R128, R129, R145. -/
def Obligations.EveryStepKeepsDestinationLaw : Prop :=
  ∀ (s : State) (t : State),
    (step s = .next t) →
    (DestinationLaw s → DestinationLaw t) ∧ (SlotLaw s → DestinationLaw s → PassesLaw s → PassesLaw t)

/-- Every step keeps the identity table without two valid entries of one tag number, and each ON_SEGMENT entry with exactly one
record. Formalises R78, R80. That a record with a reference is READ and carries an identity, R73 gives. -/
def Obligations.EveryStepKeepsTagLaw : Prop :=
  ∀ (s : State) (t : State),
    (step s = .next t) →
    (TagLaw s → TagLaw t) ∧ (SizeLaw s → SlotLaw s → ReferenceLaw s → ReferenceLaw t)

/-- Every step keeps the line state in step with the configuration, the QUIET timer, the duplicate condition and the objection.
Formalises R158, R159, R162, R163, R164, R165. -/
def Obligations.EveryStepKeepsLineLaw : Prop :=
  ∀ (s : State) (t : State),
    (step s = .next t) →
    (LineLaw s → LineLaw t) ∧ (ObjectionLaw s → ObjectionLaw t)

/-- Every step keeps the chute states derived from their fields, and no grant, engagement, account or run permit before VALID.
Formalises R31, R112, R119, R131, R133, R137. -/
def Obligations.EveryStepKeepsDivertLaw : Prop :=
  ∀ (s : State) (t : State),
    (step s = .next t) →
    (DivertLaw s → DivertLaw t) ∧ (StartLaw s → StartLaw t)

/-- Every step keeps the outbound queue ordered by kind, one waiting frame a class, only its head in transmission. Formalises
R166, R167. -/
def Obligations.EveryStepKeepsOutboundLaw : Prop :=
  ∀ (s : State) (t : State),
    OutboundLaw s → (step s = .next t) →
    OutboundLaw t

/-- The state after reset meets every law that the steps keep. Formalises R174 and the power-on state lines. -/
def Obligations.LawsHoldAtReset : Prop :=
    SizeLaw State.reset ∧ FlowBalance State.reset ∧ SlotLaw State.reset ∧ DestinationLaw State.reset ∧ TagLaw State.reset
    ∧ LineLaw State.reset ∧ DivertLaw State.reset ∧ OutboundLaw State.reset ∧ OrderLaw State.reset
        ∧ ObjectionLaw State.reset ∧ StartLaw State.reset
    ∧ ReferenceLaw State.reset ∧ PassesLaw State.reset ∧ FlagLaw State.reset
end

