-- ==== Sys2Proof/Laws/State.lean ====
section
/-! SUPPORT. What every named update of the state does to every field, and what the part readers see of it. -/

namespace Sys2Proof.Machine

open Sys2Proof

/-! ### bump -/

@[simp] theorem State.bump_pending (s : State) (c : Ctr) : (s.bump c).pending = s.pending := rfl
@[simp] theorem State.bump_pins (s : State) (c : Ctr) : (s.bump c).pins = s.pins := rfl
@[simp] theorem State.bump_cfl (s : State) (c : Ctr) : (s.bump c).cfl = s.cfl := rfl
@[simp] theorem State.bump_btu (s : State) (c : Ctr) : (s.bump c).btu = s.btu := rfl
@[simp] theorem State.bump_rdu (s : State) (c : Ctr) : (s.bump c).rdu = s.rdu := rfl
@[simp] theorem State.bump_idt (s : State) (c : Ctr) : (s.bump c).idt = s.idt := rfl
@[simp] theorem State.bump_rrv (s : State) (c : Ctr) : (s.bump c).rrv = s.rrv := rfl
@[simp] theorem State.bump_dvs (s : State) (c : Ctr) : (s.bump c).dvs = s.dvs := rfl
@[simp] theorem State.bump_hlc (s : State) (c : Ctr) : (s.bump c).hlc = s.hlc := rfl
@[simp] theorem State.bump_stu (s : State) (c : Ctr) : (s.bump c).stu = { s.stu with counters := s.stu.counters.modify c.ctorIdx satInc } := rfl
@[simp] theorem State.bump_cfg (s : State) (c : Ctr) : (s.bump c).cfg = s.cfg := rfl

/-! ### raiseEv -/

@[simp] theorem State.raiseEv_pending (s : State) (e : Ev) : (s.raiseEv e).pending = s.pending := rfl
@[simp] theorem State.raiseEv_pins (s : State) (e : Ev) : (s.raiseEv e).pins = s.pins := rfl
@[simp] theorem State.raiseEv_cfl (s : State) (e : Ev) : (s.raiseEv e).cfl = s.cfl := rfl
@[simp] theorem State.raiseEv_btu (s : State) (e : Ev) : (s.raiseEv e).btu = s.btu := rfl
@[simp] theorem State.raiseEv_rdu (s : State) (e : Ev) : (s.raiseEv e).rdu = s.rdu := rfl
@[simp] theorem State.raiseEv_idt (s : State) (e : Ev) : (s.raiseEv e).idt = s.idt := rfl
@[simp] theorem State.raiseEv_rrv (s : State) (e : Ev) : (s.raiseEv e).rrv = s.rrv := rfl
@[simp] theorem State.raiseEv_dvs (s : State) (e : Ev) : (s.raiseEv e).dvs = s.dvs := rfl
@[simp] theorem State.raiseEv_hlc (s : State) (e : Ev) : (s.raiseEv e).hlc = s.hlc := rfl
@[simp] theorem State.raiseEv_stu (s : State) (e : Ev) : (s.raiseEv e).stu = { s.stu with events := s.stu.events.set e.ctorIdx true } := rfl
@[simp] theorem State.raiseEv_cfg (s : State) (e : Ev) : (s.raiseEv e).cfg = s.cfg := rfl

/-! ### setOutbound -/

@[simp] theorem State.setOutbound_pending (s : State) (q : List OutFrame) : (s.setOutbound q).pending = s.pending := rfl
@[simp] theorem State.setOutbound_pins (s : State) (q : List OutFrame) : (s.setOutbound q).pins = s.pins := rfl
@[simp] theorem State.setOutbound_cfl (s : State) (q : List OutFrame) : (s.setOutbound q).cfl = s.cfl := rfl
@[simp] theorem State.setOutbound_btu (s : State) (q : List OutFrame) : (s.setOutbound q).btu = s.btu := rfl
@[simp] theorem State.setOutbound_rdu (s : State) (q : List OutFrame) : (s.setOutbound q).rdu = s.rdu := rfl
@[simp] theorem State.setOutbound_idt (s : State) (q : List OutFrame) : (s.setOutbound q).idt = s.idt := rfl
@[simp] theorem State.setOutbound_rrv (s : State) (q : List OutFrame) : (s.setOutbound q).rrv = s.rrv := rfl
@[simp] theorem State.setOutbound_dvs (s : State) (q : List OutFrame) : (s.setOutbound q).dvs = s.dvs := rfl
@[simp] theorem State.setOutbound_hlc (s : State) (q : List OutFrame) : (s.setOutbound q).hlc = { s.hlc with queue := q } := rfl
@[simp] theorem State.setOutbound_stu (s : State) (q : List OutFrame) : (s.setOutbound q).stu = s.stu := rfl
@[simp] theorem State.setOutbound_cfg (s : State) (q : List OutFrame) : (s.setOutbound q).cfg = s.cfg := rfl

/-! ### setBtu -/

@[simp] theorem State.setBtu_pending (s : State) (b : Btu) : (s.setBtu b).pending = s.pending := rfl
@[simp] theorem State.setBtu_pins (s : State) (b : Btu) : (s.setBtu b).pins = s.pins := rfl
@[simp] theorem State.setBtu_cfl (s : State) (b : Btu) : (s.setBtu b).cfl = s.cfl := rfl
@[simp] theorem State.setBtu_btu (s : State) (b : Btu) : (s.setBtu b).btu = b := rfl
@[simp] theorem State.setBtu_rdu (s : State) (b : Btu) : (s.setBtu b).rdu = s.rdu := rfl
@[simp] theorem State.setBtu_idt (s : State) (b : Btu) : (s.setBtu b).idt = s.idt := rfl
@[simp] theorem State.setBtu_rrv (s : State) (b : Btu) : (s.setBtu b).rrv = s.rrv := rfl
@[simp] theorem State.setBtu_dvs (s : State) (b : Btu) : (s.setBtu b).dvs = s.dvs := rfl
@[simp] theorem State.setBtu_hlc (s : State) (b : Btu) : (s.setBtu b).hlc = s.hlc := rfl
@[simp] theorem State.setBtu_stu (s : State) (b : Btu) : (s.setBtu b).stu = s.stu := rfl
@[simp] theorem State.setBtu_cfg (s : State) (b : Btu) : (s.setBtu b).cfg = s.cfg := rfl

/-! ### setQueue -/

@[simp] theorem State.setQueue_pending (s : State) (q : List SegRec) : (s.setQueue q).pending = s.pending := rfl
@[simp] theorem State.setQueue_pins (s : State) (q : List SegRec) : (s.setQueue q).pins = s.pins := rfl
@[simp] theorem State.setQueue_cfl (s : State) (q : List SegRec) : (s.setQueue q).cfl = s.cfl := rfl
@[simp] theorem State.setQueue_btu (s : State) (q : List SegRec) : (s.setQueue q).btu = { s.btu with queue := q } := rfl
@[simp] theorem State.setQueue_rdu (s : State) (q : List SegRec) : (s.setQueue q).rdu = s.rdu := rfl
@[simp] theorem State.setQueue_idt (s : State) (q : List SegRec) : (s.setQueue q).idt = s.idt := rfl
@[simp] theorem State.setQueue_rrv (s : State) (q : List SegRec) : (s.setQueue q).rrv = s.rrv := rfl
@[simp] theorem State.setQueue_dvs (s : State) (q : List SegRec) : (s.setQueue q).dvs = s.dvs := rfl
@[simp] theorem State.setQueue_hlc (s : State) (q : List SegRec) : (s.setQueue q).hlc = s.hlc := rfl
@[simp] theorem State.setQueue_stu (s : State) (q : List SegRec) : (s.setQueue q).stu = s.stu := rfl
@[simp] theorem State.setQueue_cfg (s : State) (q : List SegRec) : (s.setQueue q).cfg = s.cfg := rfl

/-! ### setDiv -/

@[simp] theorem State.setDiv_pending (s : State) (d : Div) (x : Diverter) : (s.setDiv d x).pending = s.pending := rfl
@[simp] theorem State.setDiv_pins (s : State) (d : Div) (x : Diverter) : (s.setDiv d x).pins = s.pins := rfl
@[simp] theorem State.setDiv_cfl (s : State) (d : Div) (x : Diverter) : (s.setDiv d x).cfl = s.cfl := rfl
@[simp] theorem State.setDiv_btu (s : State) (d : Div) (x : Diverter) : (s.setDiv d x).btu = s.btu := rfl
@[simp] theorem State.setDiv_rdu (s : State) (d : Div) (x : Diverter) : (s.setDiv d x).rdu = s.rdu := rfl
@[simp] theorem State.setDiv_idt (s : State) (d : Div) (x : Diverter) : (s.setDiv d x).idt = s.idt := rfl
@[simp] theorem State.setDiv_rrv (s : State) (d : Div) (x : Diverter) : (s.setDiv d x).rrv = s.rrv := rfl
@[simp] theorem State.setDiv_dvs (s : State) (d : Div) (x : Diverter) : (s.setDiv d x).dvs = s.dvs.put d x := rfl
@[simp] theorem State.setDiv_hlc (s : State) (d : Div) (x : Diverter) : (s.setDiv d x).hlc = s.hlc := rfl
@[simp] theorem State.setDiv_stu (s : State) (d : Div) (x : Diverter) : (s.setDiv d x).stu = s.stu := rfl
@[simp] theorem State.setDiv_cfg (s : State) (d : Div) (x : Diverter) : (s.setDiv d x).cfg = s.cfg := rfl

/-! ### setEntries -/

@[simp] theorem State.setEntries_pending (s : State) (es : List (Option IdtEntry)) : (s.setEntries es).pending = s.pending := rfl
@[simp] theorem State.setEntries_pins (s : State) (es : List (Option IdtEntry)) : (s.setEntries es).pins = s.pins := rfl
@[simp] theorem State.setEntries_cfl (s : State) (es : List (Option IdtEntry)) : (s.setEntries es).cfl = s.cfl := rfl
@[simp] theorem State.setEntries_btu (s : State) (es : List (Option IdtEntry)) : (s.setEntries es).btu = s.btu := rfl
@[simp] theorem State.setEntries_rdu (s : State) (es : List (Option IdtEntry)) : (s.setEntries es).rdu = s.rdu := rfl
@[simp] theorem State.setEntries_idt (s : State) (es : List (Option IdtEntry)) : (s.setEntries es).idt = { s.idt with entries := es } := rfl
@[simp] theorem State.setEntries_rrv (s : State) (es : List (Option IdtEntry)) : (s.setEntries es).rrv = s.rrv := rfl
@[simp] theorem State.setEntries_dvs (s : State) (es : List (Option IdtEntry)) : (s.setEntries es).dvs = s.dvs := rfl
@[simp] theorem State.setEntries_hlc (s : State) (es : List (Option IdtEntry)) : (s.setEntries es).hlc = s.hlc := rfl
@[simp] theorem State.setEntries_stu (s : State) (es : List (Option IdtEntry)) : (s.setEntries es).stu = s.stu := rfl
@[simp] theorem State.setEntries_cfg (s : State) (es : List (Option IdtEntry)) : (s.setEntries es).cfg = s.cfg := rfl

/-! ### setView -/

@[simp] theorem State.setView_pending (s : State) (v : List ViewEntry) : (s.setView v).pending = s.pending := rfl
@[simp] theorem State.setView_pins (s : State) (v : List ViewEntry) : (s.setView v).pins = s.pins := rfl
@[simp] theorem State.setView_cfl (s : State) (v : List ViewEntry) : (s.setView v).cfl = s.cfl := rfl
@[simp] theorem State.setView_btu (s : State) (v : List ViewEntry) : (s.setView v).btu = s.btu := rfl
@[simp] theorem State.setView_rdu (s : State) (v : List ViewEntry) : (s.setView v).rdu = s.rdu := rfl
@[simp] theorem State.setView_idt (s : State) (v : List ViewEntry) : (s.setView v).idt = s.idt := rfl
@[simp] theorem State.setView_rrv (s : State) (v : List ViewEntry) : (s.setView v).rrv = { s.rrv with view := v } := rfl
@[simp] theorem State.setView_dvs (s : State) (v : List ViewEntry) : (s.setView v).dvs = s.dvs := rfl
@[simp] theorem State.setView_hlc (s : State) (v : List ViewEntry) : (s.setView v).hlc = s.hlc := rfl
@[simp] theorem State.setView_stu (s : State) (v : List ViewEntry) : (s.setView v).stu = s.stu := rfl
@[simp] theorem State.setView_cfg (s : State) (v : List ViewEntry) : (s.setView v).cfg = s.cfg := rfl

/-! ### setHlc -/

@[simp] theorem State.setHlc_pending (s : State) (h : Hlc) : (s.setHlc h).pending = s.pending := rfl
@[simp] theorem State.setHlc_pins (s : State) (h : Hlc) : (s.setHlc h).pins = s.pins := rfl
@[simp] theorem State.setHlc_cfl (s : State) (h : Hlc) : (s.setHlc h).cfl = s.cfl := rfl
@[simp] theorem State.setHlc_btu (s : State) (h : Hlc) : (s.setHlc h).btu = s.btu := rfl
@[simp] theorem State.setHlc_rdu (s : State) (h : Hlc) : (s.setHlc h).rdu = s.rdu := rfl
@[simp] theorem State.setHlc_idt (s : State) (h : Hlc) : (s.setHlc h).idt = s.idt := rfl
@[simp] theorem State.setHlc_rrv (s : State) (h : Hlc) : (s.setHlc h).rrv = s.rrv := rfl
@[simp] theorem State.setHlc_dvs (s : State) (h : Hlc) : (s.setHlc h).dvs = s.dvs := rfl
@[simp] theorem State.setHlc_hlc (s : State) (h : Hlc) : (s.setHlc h).hlc = h := rfl
@[simp] theorem State.setHlc_stu (s : State) (h : Hlc) : (s.setHlc h).stu = s.stu := rfl
@[simp] theorem State.setHlc_cfg (s : State) (h : Hlc) : (s.setHlc h).cfg = s.cfg := rfl

/-! ### setObjection -/

@[simp] theorem State.setObjection_pending (s : State) (o : Objection) : (s.setObjection o).pending = s.pending := rfl
@[simp] theorem State.setObjection_pins (s : State) (o : Objection) : (s.setObjection o).pins = s.pins := rfl
@[simp] theorem State.setObjection_cfl (s : State) (o : Objection) : (s.setObjection o).cfl = s.cfl := rfl
@[simp] theorem State.setObjection_btu (s : State) (o : Objection) : (s.setObjection o).btu = s.btu := rfl
@[simp] theorem State.setObjection_rdu (s : State) (o : Objection) : (s.setObjection o).rdu = s.rdu := rfl
@[simp] theorem State.setObjection_idt (s : State) (o : Objection) : (s.setObjection o).idt = s.idt := rfl
@[simp] theorem State.setObjection_rrv (s : State) (o : Objection) : (s.setObjection o).rrv = s.rrv := rfl
@[simp] theorem State.setObjection_dvs (s : State) (o : Objection) : (s.setObjection o).dvs = s.dvs := rfl
@[simp] theorem State.setObjection_hlc (s : State) (o : Objection) : (s.setObjection o).hlc = { s.hlc with objection := o } := rfl
@[simp] theorem State.setObjection_stu (s : State) (o : Objection) : (s.setObjection o).stu = s.stu := rfl
@[simp] theorem State.setObjection_cfg (s : State) (o : Objection) : (s.setObjection o).cfg = s.cfg := rfl

/-! ### setAsm -/

@[simp] theorem State.setAsm_pending (s : State) (a : Assembler) (g : Option Nat) : (s.setAsm a g).pending = s.pending := rfl
@[simp] theorem State.setAsm_pins (s : State) (a : Assembler) (g : Option Nat) : (s.setAsm a g).pins = s.pins := rfl
@[simp] theorem State.setAsm_cfl (s : State) (a : Assembler) (g : Option Nat) : (s.setAsm a g).cfl = s.cfl := rfl
@[simp] theorem State.setAsm_btu (s : State) (a : Assembler) (g : Option Nat) : (s.setAsm a g).btu = s.btu := rfl
@[simp] theorem State.setAsm_rdu (s : State) (a : Assembler) (g : Option Nat) : (s.setAsm a g).rdu = ⟨a, g⟩ := rfl
@[simp] theorem State.setAsm_idt (s : State) (a : Assembler) (g : Option Nat) : (s.setAsm a g).idt = s.idt := rfl
@[simp] theorem State.setAsm_rrv (s : State) (a : Assembler) (g : Option Nat) : (s.setAsm a g).rrv = s.rrv := rfl
@[simp] theorem State.setAsm_dvs (s : State) (a : Assembler) (g : Option Nat) : (s.setAsm a g).dvs = s.dvs := rfl
@[simp] theorem State.setAsm_hlc (s : State) (a : Assembler) (g : Option Nat) : (s.setAsm a g).hlc = s.hlc := rfl
@[simp] theorem State.setAsm_stu (s : State) (a : Assembler) (g : Option Nat) : (s.setAsm a g).stu = s.stu := rfl
@[simp] theorem State.setAsm_cfg (s : State) (a : Assembler) (g : Option Nat) : (s.setAsm a g).cfg = s.cfg := rfl

/-! ### setAccount -/

@[simp] theorem State.setAccount_pending (s : State) (d : Div) (a : Account) : (s.setAccount d a).pending = s.pending := rfl
@[simp] theorem State.setAccount_pins (s : State) (d : Div) (a : Account) : (s.setAccount d a).pins = s.pins := rfl
@[simp] theorem State.setAccount_cfl (s : State) (d : Div) (a : Account) : (s.setAccount d a).cfl = s.cfl := rfl
@[simp] theorem State.setAccount_btu (s : State) (d : Div) (a : Account) : (s.setAccount d a).btu = s.btu := rfl
@[simp] theorem State.setAccount_rdu (s : State) (d : Div) (a : Account) : (s.setAccount d a).rdu = s.rdu := rfl
@[simp] theorem State.setAccount_idt (s : State) (d : Div) (a : Account) : (s.setAccount d a).idt = s.idt := rfl
@[simp] theorem State.setAccount_rrv (s : State) (d : Div) (a : Account) : (s.setAccount d a).rrv = s.rrv := rfl
@[simp] theorem State.setAccount_dvs (s : State) (d : Div) (a : Account) : (s.setAccount d a).dvs = s.dvs.put d { s.dvs.get d with account := some a } := rfl
@[simp] theorem State.setAccount_hlc (s : State) (d : Div) (a : Account) : (s.setAccount d a).hlc = s.hlc := rfl
@[simp] theorem State.setAccount_stu (s : State) (d : Div) (a : Account) : (s.setAccount d a).stu = s.stu := rfl
@[simp] theorem State.setAccount_cfg (s : State) (d : Div) (a : Account) : (s.setAccount d a).cfg = s.cfg := rfl

/-! ### setBay -/

@[simp] theorem State.setBay_pending (s : State) (d : Div) (b : Bay) : (s.setBay d b).pending = s.pending := rfl
@[simp] theorem State.setBay_pins (s : State) (d : Div) (b : Bay) : (s.setBay d b).pins = s.pins := rfl
@[simp] theorem State.setBay_cfl (s : State) (d : Div) (b : Bay) : (s.setBay d b).cfl = s.cfl := rfl
@[simp] theorem State.setBay_btu (s : State) (d : Div) (b : Bay) : (s.setBay d b).btu = s.btu := rfl
@[simp] theorem State.setBay_rdu (s : State) (d : Div) (b : Bay) : (s.setBay d b).rdu = s.rdu := rfl
@[simp] theorem State.setBay_idt (s : State) (d : Div) (b : Bay) : (s.setBay d b).idt = s.idt := rfl
@[simp] theorem State.setBay_rrv (s : State) (d : Div) (b : Bay) : (s.setBay d b).rrv = s.rrv := rfl
@[simp] theorem State.setBay_dvs (s : State) (d : Div) (b : Bay) : (s.setBay d b).dvs = s.dvs.put d { s.dvs.get d with bay := b } := rfl
@[simp] theorem State.setBay_hlc (s : State) (d : Div) (b : Bay) : (s.setBay d b).hlc = s.hlc := rfl
@[simp] theorem State.setBay_stu (s : State) (d : Div) (b : Bay) : (s.setBay d b).stu = s.stu := rfl
@[simp] theorem State.setBay_cfg (s : State) (d : Div) (b : Bay) : (s.setBay d b).cfg = s.cfg := rfl

/-! ### setFilter -/

@[simp] theorem State.setFilter_pending (s : State) (y : Eye) (f : Filter) : (s.setFilter y f).pending = s.pending := rfl
@[simp] theorem State.setFilter_pins (s : State) (y : Eye) (f : Filter) : (s.setFilter y f).pins = s.pins := rfl
@[simp] theorem State.setFilter_cfl (s : State) (y : Eye) (f : Filter) : (s.setFilter y f).cfl = s.cfl := rfl
@[simp] theorem State.setFilter_btu (s : State) (y : Eye) (f : Filter) : (s.setFilter y f).btu = s.btu.setFilter y f := rfl
@[simp] theorem State.setFilter_rdu (s : State) (y : Eye) (f : Filter) : (s.setFilter y f).rdu = s.rdu := rfl
@[simp] theorem State.setFilter_idt (s : State) (y : Eye) (f : Filter) : (s.setFilter y f).idt = s.idt := rfl
@[simp] theorem State.setFilter_rrv (s : State) (y : Eye) (f : Filter) : (s.setFilter y f).rrv = s.rrv := rfl
@[simp] theorem State.setFilter_dvs (s : State) (y : Eye) (f : Filter) : (s.setFilter y f).dvs = s.dvs := rfl
@[simp] theorem State.setFilter_hlc (s : State) (y : Eye) (f : Filter) : (s.setFilter y f).hlc = s.hlc := rfl
@[simp] theorem State.setFilter_stu (s : State) (y : Eye) (f : Filter) : (s.setFilter y f).stu = s.stu := rfl
@[simp] theorem State.setFilter_cfg (s : State) (y : Eye) (f : Filter) : (s.setFilter y f).cfg = s.cfg := rfl

/-! ### writeView -/

@[simp] theorem State.writeView_pending (s : State) (n : Nat) (e : ViewEntry) : (s.writeView n e).pending = s.pending := rfl
@[simp] theorem State.writeView_pins (s : State) (n : Nat) (e : ViewEntry) : (s.writeView n e).pins = s.pins := rfl
@[simp] theorem State.writeView_cfl (s : State) (n : Nat) (e : ViewEntry) : (s.writeView n e).cfl = s.cfl := rfl
@[simp] theorem State.writeView_btu (s : State) (n : Nat) (e : ViewEntry) : (s.writeView n e).btu = s.btu := rfl
@[simp] theorem State.writeView_rdu (s : State) (n : Nat) (e : ViewEntry) : (s.writeView n e).rdu = s.rdu := rfl
@[simp] theorem State.writeView_idt (s : State) (n : Nat) (e : ViewEntry) : (s.writeView n e).idt = s.idt := rfl
@[simp] theorem State.writeView_rrv (s : State) (n : Nat) (e : ViewEntry) : (s.writeView n e).rrv = { s.rrv with view := s.rrv.view.set (n - 1) e } := rfl
@[simp] theorem State.writeView_dvs (s : State) (n : Nat) (e : ViewEntry) : (s.writeView n e).dvs = s.dvs := rfl
@[simp] theorem State.writeView_hlc (s : State) (n : Nat) (e : ViewEntry) : (s.writeView n e).hlc = s.hlc := rfl
@[simp] theorem State.writeView_stu (s : State) (n : Nat) (e : ViewEntry) : (s.writeView n e).stu = s.stu := rfl
@[simp] theorem State.writeView_cfg (s : State) (n : Nat) (e : ViewEntry) : (s.writeView n e).cfg = s.cfg := rfl

/-! ### modifyEntry -/

@[simp] theorem State.modifyEntry_pending (s : State) (i : Nat) (f : IdtEntry → IdtEntry) : (s.modifyEntry i f).pending = s.pending := rfl
@[simp] theorem State.modifyEntry_pins (s : State) (i : Nat) (f : IdtEntry → IdtEntry) : (s.modifyEntry i f).pins = s.pins := rfl
@[simp] theorem State.modifyEntry_cfl (s : State) (i : Nat) (f : IdtEntry → IdtEntry) : (s.modifyEntry i f).cfl = s.cfl := rfl
@[simp] theorem State.modifyEntry_btu (s : State) (i : Nat) (f : IdtEntry → IdtEntry) : (s.modifyEntry i f).btu = s.btu := rfl
@[simp] theorem State.modifyEntry_rdu (s : State) (i : Nat) (f : IdtEntry → IdtEntry) : (s.modifyEntry i f).rdu = s.rdu := rfl
@[simp] theorem State.modifyEntry_idt (s : State) (i : Nat) (f : IdtEntry → IdtEntry) : (s.modifyEntry i f).idt = { s.idt with entries := s.idt.entries.modify i (Option.map f) } := rfl
@[simp] theorem State.modifyEntry_rrv (s : State) (i : Nat) (f : IdtEntry → IdtEntry) : (s.modifyEntry i f).rrv = s.rrv := rfl
@[simp] theorem State.modifyEntry_dvs (s : State) (i : Nat) (f : IdtEntry → IdtEntry) : (s.modifyEntry i f).dvs = s.dvs := rfl
@[simp] theorem State.modifyEntry_hlc (s : State) (i : Nat) (f : IdtEntry → IdtEntry) : (s.modifyEntry i f).hlc = s.hlc := rfl
@[simp] theorem State.modifyEntry_stu (s : State) (i : Nat) (f : IdtEntry → IdtEntry) : (s.modifyEntry i f).stu = s.stu := rfl
@[simp] theorem State.modifyEntry_cfg (s : State) (i : Nat) (f : IdtEntry → IdtEntry) : (s.modifyEntry i f).cfg = s.cfg := rfl

/-! ### writeEntry -/

@[simp] theorem State.writeEntry_pending (s : State) (i : Nat) (e : IdtEntry) : (s.writeEntry i e).pending = s.pending := rfl
@[simp] theorem State.writeEntry_pins (s : State) (i : Nat) (e : IdtEntry) : (s.writeEntry i e).pins = s.pins := rfl
@[simp] theorem State.writeEntry_cfl (s : State) (i : Nat) (e : IdtEntry) : (s.writeEntry i e).cfl = s.cfl := rfl
@[simp] theorem State.writeEntry_btu (s : State) (i : Nat) (e : IdtEntry) : (s.writeEntry i e).btu = s.btu := rfl
@[simp] theorem State.writeEntry_rdu (s : State) (i : Nat) (e : IdtEntry) : (s.writeEntry i e).rdu = s.rdu := rfl
@[simp] theorem State.writeEntry_idt (s : State) (i : Nat) (e : IdtEntry) : (s.writeEntry i e).idt = { s.idt with entries := s.idt.entries.set i (some e) } := rfl
@[simp] theorem State.writeEntry_rrv (s : State) (i : Nat) (e : IdtEntry) : (s.writeEntry i e).rrv = s.rrv := rfl
@[simp] theorem State.writeEntry_dvs (s : State) (i : Nat) (e : IdtEntry) : (s.writeEntry i e).dvs = s.dvs := rfl
@[simp] theorem State.writeEntry_hlc (s : State) (i : Nat) (e : IdtEntry) : (s.writeEntry i e).hlc = s.hlc := rfl
@[simp] theorem State.writeEntry_stu (s : State) (i : Nat) (e : IdtEntry) : (s.writeEntry i e).stu = s.stu := rfl
@[simp] theorem State.writeEntry_cfg (s : State) (i : Nat) (e : IdtEntry) : (s.writeEntry i e).cfg = s.cfg := rfl

/-! ### mapRec -/

@[simp] theorem State.mapRec_pending (s : State) (r : RecRef) (f : SegRec → SegRec) : (s.mapRec r f).pending = s.pending := rfl
@[simp] theorem State.mapRec_pins (s : State) (r : RecRef) (f : SegRec → SegRec) : (s.mapRec r f).pins = s.pins := rfl
@[simp] theorem State.mapRec_cfl (s : State) (r : RecRef) (f : SegRec → SegRec) : (s.mapRec r f).cfl = s.cfl := rfl
@[simp] theorem State.mapRec_btu (s : State) (r : RecRef) (f : SegRec → SegRec) : (s.mapRec r f).btu = { s.btu with queue := s.btu.queue.map fun q => if q.ref = r then f q else q } := rfl
@[simp] theorem State.mapRec_rdu (s : State) (r : RecRef) (f : SegRec → SegRec) : (s.mapRec r f).rdu = s.rdu := rfl
@[simp] theorem State.mapRec_idt (s : State) (r : RecRef) (f : SegRec → SegRec) : (s.mapRec r f).idt = s.idt := rfl
@[simp] theorem State.mapRec_rrv (s : State) (r : RecRef) (f : SegRec → SegRec) : (s.mapRec r f).rrv = s.rrv := rfl
@[simp] theorem State.mapRec_dvs (s : State) (r : RecRef) (f : SegRec → SegRec) : (s.mapRec r f).dvs = s.dvs := rfl
@[simp] theorem State.mapRec_hlc (s : State) (r : RecRef) (f : SegRec → SegRec) : (s.mapRec r f).hlc = s.hlc := rfl
@[simp] theorem State.mapRec_stu (s : State) (r : RecRef) (f : SegRec → SegRec) : (s.mapRec r f).stu = s.stu := rfl
@[simp] theorem State.mapRec_cfg (s : State) (r : RecRef) (f : SegRec → SegRec) : (s.mapRec r f).cfg = s.cfg := rfl

/-! ### mapUpstream -/

@[simp] theorem State.mapUpstream_pending (s : State) (src : Source) (f : Upstream → Upstream) : (s.mapUpstream src f).pending = s.pending := rfl
@[simp] theorem State.mapUpstream_pins (s : State) (src : Source) (f : Upstream → Upstream) : (s.mapUpstream src f).pins = s.pins := rfl
@[simp] theorem State.mapUpstream_cfl (s : State) (src : Source) (f : Upstream → Upstream) : (s.mapUpstream src f).cfl = s.cfl := rfl
@[simp] theorem State.mapUpstream_btu (s : State) (src : Source) (f : Upstream → Upstream) : (s.mapUpstream src f).btu = s.btu.setUpstream src (f (s.btu.upstream src)) := rfl
@[simp] theorem State.mapUpstream_rdu (s : State) (src : Source) (f : Upstream → Upstream) : (s.mapUpstream src f).rdu = s.rdu := rfl
@[simp] theorem State.mapUpstream_idt (s : State) (src : Source) (f : Upstream → Upstream) : (s.mapUpstream src f).idt = s.idt := rfl
@[simp] theorem State.mapUpstream_rrv (s : State) (src : Source) (f : Upstream → Upstream) : (s.mapUpstream src f).rrv = s.rrv := rfl
@[simp] theorem State.mapUpstream_dvs (s : State) (src : Source) (f : Upstream → Upstream) : (s.mapUpstream src f).dvs = s.dvs := rfl
@[simp] theorem State.mapUpstream_hlc (s : State) (src : Source) (f : Upstream → Upstream) : (s.mapUpstream src f).hlc = s.hlc := rfl
@[simp] theorem State.mapUpstream_stu (s : State) (src : Source) (f : Upstream → Upstream) : (s.mapUpstream src f).stu = s.stu := rfl
@[simp] theorem State.mapUpstream_cfg (s : State) (src : Source) (f : Upstream → Upstream) : (s.mapUpstream src f).cfg = s.cfg := rfl

/-! ### setEyePin -/

@[simp] theorem State.setEyePin_pending (s : State) (y : Eye) (b : Bool) : (s.setEyePin y b).pending = s.pending := rfl
@[simp] theorem State.setEyePin_cfl (s : State) (y : Eye) (b : Bool) : (s.setEyePin y b).cfl = s.cfl := rfl
@[simp] theorem State.setEyePin_btu (s : State) (y : Eye) (b : Bool) : (s.setEyePin y b).btu = s.btu := rfl
@[simp] theorem State.setEyePin_rdu (s : State) (y : Eye) (b : Bool) : (s.setEyePin y b).rdu = s.rdu := rfl
@[simp] theorem State.setEyePin_idt (s : State) (y : Eye) (b : Bool) : (s.setEyePin y b).idt = s.idt := rfl
@[simp] theorem State.setEyePin_rrv (s : State) (y : Eye) (b : Bool) : (s.setEyePin y b).rrv = s.rrv := rfl
@[simp] theorem State.setEyePin_dvs (s : State) (y : Eye) (b : Bool) : (s.setEyePin y b).dvs = s.dvs := rfl
@[simp] theorem State.setEyePin_hlc (s : State) (y : Eye) (b : Bool) : (s.setEyePin y b).hlc = s.hlc := rfl
@[simp] theorem State.setEyePin_stu (s : State) (y : Eye) (b : Bool) : (s.setEyePin y b).stu = s.stu := rfl
@[simp] theorem State.setEyePin_cfg (s : State) (y : Eye) (b : Bool) : (s.setEyePin y b).cfg = s.cfg := rfl

/-! ### setFullPin -/

@[simp] theorem State.setFullPin_pending (s : State) (d : Div) (b : Bool) : (s.setFullPin d b).pending = s.pending := by cases d <;> rfl
@[simp] theorem State.setFullPin_cfl (s : State) (d : Div) (b : Bool) : (s.setFullPin d b).cfl = s.cfl := by cases d <;> rfl
@[simp] theorem State.setFullPin_btu (s : State) (d : Div) (b : Bool) : (s.setFullPin d b).btu = s.btu := by cases d <;> rfl
@[simp] theorem State.setFullPin_rdu (s : State) (d : Div) (b : Bool) : (s.setFullPin d b).rdu = s.rdu := by cases d <;> rfl
@[simp] theorem State.setFullPin_idt (s : State) (d : Div) (b : Bool) : (s.setFullPin d b).idt = s.idt := by cases d <;> rfl
@[simp] theorem State.setFullPin_rrv (s : State) (d : Div) (b : Bool) : (s.setFullPin d b).rrv = s.rrv := by cases d <;> rfl
@[simp] theorem State.setFullPin_dvs (s : State) (d : Div) (b : Bool) : (s.setFullPin d b).dvs = s.dvs := by cases d <;> rfl
@[simp] theorem State.setFullPin_hlc (s : State) (d : Div) (b : Bool) : (s.setFullPin d b).hlc = s.hlc := by cases d <;> rfl
@[simp] theorem State.setFullPin_stu (s : State) (d : Div) (b : Bool) : (s.setFullPin d b).stu = s.stu := by cases d <;> rfl
@[simp] theorem State.setFullPin_cfg (s : State) (d : Div) (b : Bool) : (s.setFullPin d b).cfg = s.cfg := by cases d <;> rfl

/-! ### setClosePin -/

@[simp] theorem State.setClosePin_pending (s : State) (d : Div) (b : Bool) : (s.setClosePin d b).pending = s.pending := by cases d <;> rfl
@[simp] theorem State.setClosePin_cfl (s : State) (d : Div) (b : Bool) : (s.setClosePin d b).cfl = s.cfl := by cases d <;> rfl
@[simp] theorem State.setClosePin_btu (s : State) (d : Div) (b : Bool) : (s.setClosePin d b).btu = s.btu := by cases d <;> rfl
@[simp] theorem State.setClosePin_rdu (s : State) (d : Div) (b : Bool) : (s.setClosePin d b).rdu = s.rdu := by cases d <;> rfl
@[simp] theorem State.setClosePin_idt (s : State) (d : Div) (b : Bool) : (s.setClosePin d b).idt = s.idt := by cases d <;> rfl
@[simp] theorem State.setClosePin_rrv (s : State) (d : Div) (b : Bool) : (s.setClosePin d b).rrv = s.rrv := by cases d <;> rfl
@[simp] theorem State.setClosePin_dvs (s : State) (d : Div) (b : Bool) : (s.setClosePin d b).dvs = s.dvs := by cases d <;> rfl
@[simp] theorem State.setClosePin_hlc (s : State) (d : Div) (b : Bool) : (s.setClosePin d b).hlc = s.hlc := by cases d <;> rfl
@[simp] theorem State.setClosePin_stu (s : State) (d : Div) (b : Bool) : (s.setClosePin d b).stu = s.stu := by cases d <;> rfl
@[simp] theorem State.setClosePin_cfg (s : State) (d : Div) (b : Bool) : (s.setClosePin d b).cfg = s.cfg := by cases d <;> rfl

/-! ### raiseClrPin -/

@[simp] theorem State.raiseClrPin_pending (s : State) (d : Div) : (s.raiseClrPin d).pending = s.pending := by cases d <;> rfl
@[simp] theorem State.raiseClrPin_cfl (s : State) (d : Div) : (s.raiseClrPin d).cfl = s.cfl := by cases d <;> rfl
@[simp] theorem State.raiseClrPin_btu (s : State) (d : Div) : (s.raiseClrPin d).btu = s.btu := by cases d <;> rfl
@[simp] theorem State.raiseClrPin_rdu (s : State) (d : Div) : (s.raiseClrPin d).rdu = s.rdu := by cases d <;> rfl
@[simp] theorem State.raiseClrPin_idt (s : State) (d : Div) : (s.raiseClrPin d).idt = s.idt := by cases d <;> rfl
@[simp] theorem State.raiseClrPin_rrv (s : State) (d : Div) : (s.raiseClrPin d).rrv = s.rrv := by cases d <;> rfl
@[simp] theorem State.raiseClrPin_dvs (s : State) (d : Div) : (s.raiseClrPin d).dvs = s.dvs := by cases d <;> rfl
@[simp] theorem State.raiseClrPin_hlc (s : State) (d : Div) : (s.raiseClrPin d).hlc = s.hlc := by cases d <;> rfl
@[simp] theorem State.raiseClrPin_stu (s : State) (d : Div) : (s.raiseClrPin d).stu = s.stu := by cases d <;> rfl
@[simp] theorem State.raiseClrPin_cfg (s : State) (d : Div) : (s.raiseClrPin d).cfg = s.cfg := by cases d <;> rfl

/-! ### raiseJamPin -/

@[simp] theorem State.raiseJamPin_pending (s : State) : (s.raiseJamPin).pending = s.pending := rfl
@[simp] theorem State.raiseJamPin_pins (s : State) : (s.raiseJamPin).pins = { s.pins with jam := true } := rfl
@[simp] theorem State.raiseJamPin_cfl (s : State) : (s.raiseJamPin).cfl = s.cfl := rfl
@[simp] theorem State.raiseJamPin_btu (s : State) : (s.raiseJamPin).btu = s.btu := rfl
@[simp] theorem State.raiseJamPin_rdu (s : State) : (s.raiseJamPin).rdu = s.rdu := rfl
@[simp] theorem State.raiseJamPin_idt (s : State) : (s.raiseJamPin).idt = s.idt := rfl
@[simp] theorem State.raiseJamPin_rrv (s : State) : (s.raiseJamPin).rrv = s.rrv := rfl
@[simp] theorem State.raiseJamPin_dvs (s : State) : (s.raiseJamPin).dvs = s.dvs := rfl
@[simp] theorem State.raiseJamPin_hlc (s : State) : (s.raiseJamPin).hlc = s.hlc := rfl
@[simp] theorem State.raiseJamPin_stu (s : State) : (s.raiseJamPin).stu = s.stu := rfl
@[simp] theorem State.raiseJamPin_cfg (s : State) : (s.raiseJamPin).cfg = s.cfg := rfl

/-! ### clearEvents -/

@[simp] theorem State.clearEvents_pending (s : State) (m : Byte) : (s.clearEvents m).pending = s.pending := rfl
@[simp] theorem State.clearEvents_pins (s : State) (m : Byte) : (s.clearEvents m).pins = s.pins := rfl
@[simp] theorem State.clearEvents_cfl (s : State) (m : Byte) : (s.clearEvents m).cfl = s.cfl := rfl
@[simp] theorem State.clearEvents_btu (s : State) (m : Byte) : (s.clearEvents m).btu = s.btu := rfl
@[simp] theorem State.clearEvents_rdu (s : State) (m : Byte) : (s.clearEvents m).rdu = s.rdu := rfl
@[simp] theorem State.clearEvents_idt (s : State) (m : Byte) : (s.clearEvents m).idt = s.idt := rfl
@[simp] theorem State.clearEvents_rrv (s : State) (m : Byte) : (s.clearEvents m).rrv = s.rrv := rfl
@[simp] theorem State.clearEvents_dvs (s : State) (m : Byte) : (s.clearEvents m).dvs = s.dvs := rfl
@[simp] theorem State.clearEvents_hlc (s : State) (m : Byte) : (s.clearEvents m).hlc = s.hlc := rfl
@[simp] theorem State.clearEvents_cfg (s : State) (m : Byte) : (s.clearEvents m).cfg = s.cfg := rfl

/-! ### Parts of a part -/

@[simp] theorem Dvs.get_put_same (v : Dvs) (d : Div) (x : Diverter) : (v.put d x).get d = x := by cases d <;> rfl
@[simp] theorem Dvs.get_put_other (v : Dvs) (d : Div) (x : Diverter) : (v.put (otherDiv d) x).get d = v.get d := by cases d <;> rfl
@[simp] theorem Dvs.put_get (v : Dvs) (d : Div) : v.put d (v.get d) = v := by cases d <;> rfl
@[simp] theorem Dvs.put_put (v : Dvs) (d : Div) (x y : Diverter) : (v.put d x).put d y = v.put d y := by cases d <;> rfl
theorem Dvs.get_put (v : Dvs) (d e : Div) (x : Diverter) : (v.put d x).get e = if e = d then x else v.get e := by
  cases d <;> cases e <;> rfl
@[simp] theorem Btu.filter_setFilter (b : Btu) (y : Eye) (f : Filter) : (b.setFilter y f).filter y = f := by
  rcases y with _ | _ | d <;> first | rfl | (cases d <;> rfl)
@[simp] theorem Btu.upstream_setUpstream (b : Btu) (src : Source) (u : Upstream) : (b.setUpstream src u).upstream src = u := by
  cases src <;> rfl
@[simp] theorem State.setFullPin_full (s : State) (d : Div) (b : Bool) : (s.setFullPin d b).pins.full d = b := by cases d <;> rfl
@[simp] theorem State.setClosePin_close (s : State) (d : Div) (b : Bool) : (s.setClosePin d b).pins.close d = b := by cases d <;> rfl
@[simp] theorem State.raiseClrPin_clr (s : State) (d : Div) : (s.raiseClrPin d).pins.clr d = true := by cases d <;> rfl
@[simp] theorem State.setEyePin_eye (s : State) (y : Eye) (b : Bool) : (s.setEyePin y b).pins.eye y = b := by
  rcases y with _ | _ | d <;> first | rfl | (cases d <;> rfl)

@[simp] theorem Btu.setFilter_e (b : Btu) (y : Eye) (f : Filter) : (b.setFilter y f).e = b.e := by
  rcases y with _ | _ | d <;> first | rfl | (cases d <;> rfl)
@[simp] theorem Btu.setFilter_history (b : Btu) (y : Eye) (f : Filter) : (b.setFilter y f).history = b.history := by
  rcases y with _ | _ | d <;> first | rfl | (cases d <;> rfl)
@[simp] theorem Btu.setFilter_winCount (b : Btu) (y : Eye) (f : Filter) : (b.setFilter y f).winCount = b.winCount := by
  rcases y with _ | _ | d <;> first | rfl | (cases d <;> rfl)
@[simp] theorem Btu.setFilter_v (b : Btu) (y : Eye) (f : Filter) : (b.setFilter y f).v = b.v := by
  rcases y with _ | _ | d <;> first | rfl | (cases d <;> rfl)
@[simp] theorem Btu.setFilter_prevV (b : Btu) (y : Eye) (f : Filter) : (b.setFilter y f).prevV = b.prevV := by
  rcases y with _ | _ | d <;> first | rfl | (cases d <;> rfl)
@[simp] theorem Btu.setFilter_speed (b : Btu) (y : Eye) (f : Filter) : (b.setFilter y f).speed = b.speed := by
  rcases y with _ | _ | d <;> first | rfl | (cases d <;> rfl)
@[simp] theorem Btu.setFilter_steadyCount (b : Btu) (y : Eye) (f : Filter) : (b.setFilter y f).steadyCount = b.steadyCount := by
  rcases y with _ | _ | d <;> first | rfl | (cases d <;> rfl)
@[simp] theorem Btu.setFilter_reportedV (b : Btu) (y : Eye) (f : Filter) : (b.setFilter y f).reportedV = b.reportedV := by
  rcases y with _ | _ | d <;> first | rfl | (cases d <;> rfl)
@[simp] theorem Btu.setFilter_windowMs (b : Btu) (y : Eye) (f : Filter) : (b.setFilter y f).windowMs = b.windowMs := by
  rcases y with _ | _ | d <;> first | rfl | (cases d <;> rfl)
@[simp] theorem Btu.setFilter_queue (b : Btu) (y : Eye) (f : Filter) : (b.setFilter y f).queue = b.queue := by
  rcases y with _ | _ | d <;> first | rfl | (cases d <;> rfl)
@[simp] theorem Btu.setFilter_openRec (b : Btu) (y : Eye) (f : Filter) : (b.setFilter y f).openRec = b.openRec := by
  rcases y with _ | _ | d <;> first | rfl | (cases d <;> rfl)
@[simp] theorem Btu.setFilter_gapRef (b : Btu) (y : Eye) (f : Filter) : (b.setFilter y f).gapRef = b.gapRef := by
  rcases y with _ | _ | d <;> first | rfl | (cases d <;> rfl)
@[simp] theorem Btu.setFilter_skipTrailing (b : Btu) (y : Eye) (f : Filter) : (b.setFilter y f).skipTrailing = b.skipTrailing := by
  rcases y with _ | _ | d <;> first | rfl | (cases d <;> rfl)
@[simp] theorem Btu.setFilter_expects (b : Btu) (y : Eye) (f : Filter) : (b.setFilter y f).expects = b.expects := by
  rcases y with _ | _ | d <;> first | rfl | (cases d <;> rfl)
@[simp] theorem Btu.setFilter_upA (b : Btu) (y : Eye) (f : Filter) : (b.setFilter y f).upA = b.upA := by
  rcases y with _ | _ | d <;> first | rfl | (cases d <;> rfl)
@[simp] theorem Btu.setFilter_upB (b : Btu) (y : Eye) (f : Filter) : (b.setFilter y f).upB = b.upB := by
  rcases y with _ | _ | d <;> first | rfl | (cases d <;> rfl)
@[simp] theorem Btu.setFilter_down (b : Btu) (y : Eye) (f : Filter) : (b.setFilter y f).down = b.down := by
  rcases y with _ | _ | d <;> first | rfl | (cases d <;> rfl)
@[simp] theorem Btu.setFilter_blockedFlag (b : Btu) (y : Eye) (f : Filter) : (b.setFilter y f).blockedFlag = b.blockedFlag := by
  rcases y with _ | _ | d <;> first | rfl | (cases d <;> rfl)
@[simp] theorem Btu.setFilter_permit (b : Btu) (y : Eye) (f : Filter) : (b.setFilter y f).permit = b.permit := by
  rcases y with _ | _ | d <;> first | rfl | (cases d <;> rfl)
@[simp] theorem Btu.setFilter_flow (b : Btu) (y : Eye) (f : Filter) : (b.setFilter y f).flow = b.flow := by
  rcases y with _ | _ | d <;> first | rfl | (cases d <;> rfl)
@[simp] theorem Btu.setFilter_jamSample (b : Btu) (y : Eye) (f : Filter) : (b.setFilter y f).jamSample = b.jamSample := by
  rcases y with _ | _ | d <;> first | rfl | (cases d <;> rfl)
@[simp] theorem Btu.setUpstream_e (b : Btu) (src : Source) (u : Upstream) : (b.setUpstream src u).e = b.e := by cases src <;> rfl
@[simp] theorem Btu.setUpstream_history (b : Btu) (src : Source) (u : Upstream) : (b.setUpstream src u).history = b.history := by cases src <;> rfl
@[simp] theorem Btu.setUpstream_winCount (b : Btu) (src : Source) (u : Upstream) : (b.setUpstream src u).winCount = b.winCount := by cases src <;> rfl
@[simp] theorem Btu.setUpstream_v (b : Btu) (src : Source) (u : Upstream) : (b.setUpstream src u).v = b.v := by cases src <;> rfl
@[simp] theorem Btu.setUpstream_prevV (b : Btu) (src : Source) (u : Upstream) : (b.setUpstream src u).prevV = b.prevV := by cases src <;> rfl
@[simp] theorem Btu.setUpstream_speed (b : Btu) (src : Source) (u : Upstream) : (b.setUpstream src u).speed = b.speed := by cases src <;> rfl
@[simp] theorem Btu.setUpstream_steadyCount (b : Btu) (src : Source) (u : Upstream) : (b.setUpstream src u).steadyCount = b.steadyCount := by cases src <;> rfl
@[simp] theorem Btu.setUpstream_reportedV (b : Btu) (src : Source) (u : Upstream) : (b.setUpstream src u).reportedV = b.reportedV := by cases src <;> rfl
@[simp] theorem Btu.setUpstream_windowMs (b : Btu) (src : Source) (u : Upstream) : (b.setUpstream src u).windowMs = b.windowMs := by cases src <;> rfl
@[simp] theorem Btu.setUpstream_queue (b : Btu) (src : Source) (u : Upstream) : (b.setUpstream src u).queue = b.queue := by cases src <;> rfl
@[simp] theorem Btu.setUpstream_openRec (b : Btu) (src : Source) (u : Upstream) : (b.setUpstream src u).openRec = b.openRec := by cases src <;> rfl
@[simp] theorem Btu.setUpstream_gapRef (b : Btu) (src : Source) (u : Upstream) : (b.setUpstream src u).gapRef = b.gapRef := by cases src <;> rfl
@[simp] theorem Btu.setUpstream_skipTrailing (b : Btu) (src : Source) (u : Upstream) : (b.setUpstream src u).skipTrailing = b.skipTrailing := by cases src <;> rfl
@[simp] theorem Btu.setUpstream_expects (b : Btu) (src : Source) (u : Upstream) : (b.setUpstream src u).expects = b.expects := by cases src <;> rfl
@[simp] theorem Btu.setUpstream_down (b : Btu) (src : Source) (u : Upstream) : (b.setUpstream src u).down = b.down := by cases src <;> rfl
@[simp] theorem Btu.setUpstream_blockedFlag (b : Btu) (src : Source) (u : Upstream) : (b.setUpstream src u).blockedFlag = b.blockedFlag := by cases src <;> rfl
@[simp] theorem Btu.setUpstream_permit (b : Btu) (src : Source) (u : Upstream) : (b.setUpstream src u).permit = b.permit := by cases src <;> rfl
@[simp] theorem Btu.setUpstream_flow (b : Btu) (src : Source) (u : Upstream) : (b.setUpstream src u).flow = b.flow := by cases src <;> rfl
@[simp] theorem Btu.setUpstream_jamSample (b : Btu) (src : Source) (u : Upstream) : (b.setUpstream src u).jamSample = b.jamSample := by cases src <;> rfl
@[simp] theorem Btu.setUpstream_fEntry (b : Btu) (src : Source) (u : Upstream) : (b.setUpstream src u).fEntry = b.fEntry := by cases src <;> rfl
@[simp] theorem Btu.setUpstream_fExit (b : Btu) (src : Source) (u : Upstream) : (b.setUpstream src u).fExit = b.fExit := by cases src <;> rfl
@[simp] theorem Btu.setUpstream_fConf0 (b : Btu) (src : Source) (u : Upstream) : (b.setUpstream src u).fConf0 = b.fConf0 := by cases src <;> rfl
@[simp] theorem Btu.setUpstream_fConf1 (b : Btu) (src : Source) (u : Upstream) : (b.setUpstream src u).fConf1 = b.fConf1 := by cases src <;> rfl

end Sys2Proof.Machine
end

