-- ==== Sys2Proof/Laws/Frames.lean ====
section
/-! SUPPORT. The frames of the shared operations: what each of them leaves as it was. -/

namespace Sys2Proof.Machine

open Sys2Proof

/-- A fold keeps what each of its steps keeps. -/
theorem foldl_keeps {α β : Type} (g : State → β) (f : State → α → State) (h : ∀ t a, g (f t a) = g t) (l : List α) (s : State) :
    g (l.foldl f s) = g s := by
  induction l generalizing s with
  | nil => rfl
  | cons a l ih => rw [List.foldl_cons, ih, h]

/-! ### bumpN -/

/-- What bumpN leaves. -/
@[simp] theorem State.bumpN_frame (s : State) (c : Ctr) (n : Nat) :
    (s.bumpN c n).pending = s.pending ∧ (s.bumpN c n).pins = s.pins ∧ (s.bumpN c n).cfl = s.cfl ∧ (s.bumpN c n).btu =
      s.btu ∧ (s.bumpN c n).rdu = s.rdu ∧ (s.bumpN c n).idt = s.idt ∧ (s.bumpN c n).rrv = s.rrv ∧ (s.bumpN c n).dvs =
      s.dvs ∧ (s.bumpN c n).hlc = s.hlc ∧ (s.bumpN c n).cfg = s.cfg := by
  induction n with
  | zero => simp [State.bumpN]
  | succ n ih => simpa [State.bumpN] using ih

/-! ### joinFrame -/

/-- What joinFrame leaves. -/
@[simp] theorem State.joinFrame_frame (s : State) (f : Frame) (q : List OutFrame) :
    (s.joinFrame f q).pending = s.pending ∧ (s.joinFrame f q).pins = s.pins ∧ (s.joinFrame f q).cfl = s.cfl ∧
      (s.joinFrame f q).btu = s.btu ∧ (s.joinFrame f q).rdu = s.rdu ∧ (s.joinFrame f q).idt = s.idt ∧ (s.joinFrame f
      q).rrv = s.rrv ∧ (s.joinFrame f q).dvs = s.dvs ∧ (s.joinFrame f q).cfg = s.cfg := by
  simp only [State.joinFrame]; simp

/-! ### queueFrame -/

/-- What queueFrame leaves. -/
@[simp] theorem State.queueFrame_frame (s : State) (f : Frame) :
    (s.queueFrame f).pending = s.pending ∧ (s.queueFrame f).pins = s.pins ∧ (s.queueFrame f).cfl = s.cfl ∧ (s.queueFrame
      f).btu = s.btu ∧ (s.queueFrame f).rdu = s.rdu ∧ (s.queueFrame f).idt = s.idt ∧ (s.queueFrame f).rrv = s.rrv ∧
      (s.queueFrame f).dvs = s.dvs ∧ (s.queueFrame f).cfg = s.cfg := by
  simp only [State.queueFrame]; (repeat' split) <;> simp

/-! ### queueSegmentState -/

/-- What queueSegmentState leaves. -/
@[simp] theorem State.queueSegmentState_frame (s : State) :
    (s.queueSegmentState).pending = s.pending ∧ (s.queueSegmentState).pins = s.pins ∧ (s.queueSegmentState).cfl = s.cfl
      ∧ (s.queueSegmentState).rdu = s.rdu ∧ (s.queueSegmentState).idt = s.idt ∧ (s.queueSegmentState).rrv = s.rrv ∧
      (s.queueSegmentState).dvs = s.dvs ∧ (s.queueSegmentState).cfg = s.cfg := by
  simp only [State.queueSegmentState]; simp [State.cfg]

/-! ### updateRec -/

/-- What updateRec leaves. -/
@[simp] theorem State.updateRec_frame (s : State) (r : RecRef) (f : SegRec → SegRec) :
    (s.updateRec r f).pending = s.pending ∧ (s.updateRec r f).pins = s.pins ∧ (s.updateRec r f).cfl = s.cfl ∧
      (s.updateRec r f).rdu = s.rdu ∧ (s.updateRec r f).idt = s.idt ∧ (s.updateRec r f).rrv = s.rrv ∧ (s.updateRec r
      f).dvs = s.dvs ∧ (s.updateRec r f).hlc = s.hlc ∧ (s.updateRec r f).cfg = s.cfg := by
  simp only [State.updateRec]; (repeat' split) <;> simp

/-! ### withdraw -/

/-- What withdraw leaves. -/
@[simp] theorem State.withdraw_frame (s : State) (d : Div) (k : Ctr) (p : Grant → Bool) :
    (s.withdraw d k p).pending = s.pending ∧ (s.withdraw d k p).pins = s.pins ∧ (s.withdraw d k p).cfl = s.cfl ∧
      (s.withdraw d k p).rdu = s.rdu ∧ (s.withdraw d k p).idt = s.idt ∧ (s.withdraw d k p).rrv = s.rrv ∧ (s.withdraw d k
      p).hlc = s.hlc ∧ (s.withdraw d k p).cfg = s.cfg := by
  have h := foldl_keeps (fun t : State => (t.pending, t.pins, t.cfl, t.rdu, t.idt, t.rrv, t.hlc, t.cfg))
    (fun t (g : Grant) => (t.updateRec g.ref fun r => { r with divert := .withdrawn }).bump k) (by intro t a; simp)
    ((s.dvs.get d).grants.filter p) (s.setDiv d { s.dvs.get d with grants := (s.dvs.get d).grants.filter fun g => !p g })
  simpa [State.withdraw, and_assoc] using h

/-! ### withdrawBoth -/

/-- What withdrawBoth leaves. -/
@[simp] theorem State.withdrawBoth_frame (s : State) (k : Ctr) (p : Grant → Bool) :
    (s.withdrawBoth k p).pending = s.pending ∧ (s.withdrawBoth k p).pins = s.pins ∧ (s.withdrawBoth k p).cfl = s.cfl ∧
      (s.withdrawBoth k p).rdu = s.rdu ∧ (s.withdrawBoth k p).idt = s.idt ∧ (s.withdrawBoth k p).rrv = s.rrv ∧
      (s.withdrawBoth k p).hlc = s.hlc ∧ (s.withdrawBoth k p).cfg = s.cfg := by
  simp only [State.withdrawBoth]; simp

/-! ### tellDestination -/

/-- What tellDestination leaves. -/
@[simp] theorem State.tellDestination_frame (s : State) (c : StationConfig) (r : RecRef) (dest : Option Nat) :
    (s.tellDestination c r dest).pending = s.pending ∧ (s.tellDestination c r dest).pins = s.pins ∧ (s.tellDestination c
      r dest).cfl = s.cfl ∧ (s.tellDestination c r dest).rdu = s.rdu ∧ (s.tellDestination c r dest).idt = s.idt ∧
      (s.tellDestination c r dest).rrv = s.rrv ∧ (s.tellDestination c r dest).hlc = s.hlc ∧ (s.tellDestination c r
      dest).cfg = s.cfg := by
  simp only [State.tellDestination]; (repeat' split) <;> simp

/-! ### forgetRec -/

/-- What forgetRec leaves. -/
@[simp] theorem State.forgetRec_frame (s : State) (d : Div) (r : RecRef) (own : Bool) :
    (s.forgetRec d r own).pending = s.pending ∧ (s.forgetRec d r own).pins = s.pins ∧ (s.forgetRec d r own).cfl = s.cfl
      ∧ (s.forgetRec d r own).btu = s.btu ∧ (s.forgetRec d r own).rdu = s.rdu ∧ (s.forgetRec d r own).idt = s.idt ∧
      (s.forgetRec d r own).rrv = s.rrv ∧ (s.forgetRec d r own).hlc = s.hlc ∧ (s.forgetRec d r own).cfg = s.cfg := by
  simp only [State.forgetRec]; simp

/-! ### evalBlocked -/

/-- What evalBlocked leaves. -/
@[simp] theorem State.evalBlocked_frame (s : State) (c : StationConfig) :
    (s.evalBlocked c).pending = s.pending ∧ (s.evalBlocked c).pins = s.pins ∧ (s.evalBlocked c).cfl = s.cfl ∧
      (s.evalBlocked c).rdu = s.rdu ∧ (s.evalBlocked c).idt = s.idt ∧ (s.evalBlocked c).rrv = s.rrv ∧ (s.evalBlocked
      c).dvs = s.dvs ∧ (s.evalBlocked c).cfg = s.cfg := by
  simp only [State.evalBlocked]; (repeat' split) <;> simp

/-! ### evalPermit -/

/-- What evalPermit leaves. -/
@[simp] theorem State.evalPermit_frame (s : State) (c : StationConfig) :
    (s.evalPermit c).pending = s.pending ∧ (s.evalPermit c).pins = s.pins ∧ (s.evalPermit c).cfl = s.cfl ∧ (s.evalPermit
      c).rdu = s.rdu ∧ (s.evalPermit c).idt = s.idt ∧ (s.evalPermit c).rrv = s.rrv ∧ (s.evalPermit c).dvs = s.dvs ∧
      (s.evalPermit c).cfg = s.cfg := by
  simp only [State.evalPermit]; simp

/-! ### offer -/

/-- What offer leaves. -/
@[simp] theorem State.offer_frame (s : State) (c : StationConfig) (r : RecRef) (x : Reason) :
    (s.offer c r x).pending = s.pending ∧ (s.offer c r x).pins = s.pins ∧ (s.offer c r x).cfl = s.cfl ∧ (s.offer c r
      x).rdu = s.rdu ∧ (s.offer c r x).idt = s.idt ∧ (s.offer c r x).rrv = s.rrv ∧ (s.offer c r x).cfg = s.cfg := by
  simp only [State.offer]; (repeat' split) <;> simp

/-! ### remove -/

/-- What remove leaves. -/
@[simp] theorem State.remove_frame (s : State) (c : StationConfig) (r : RecRef) (k : Cause) :
    (s.remove c r k).pending = s.pending ∧ (s.remove c r k).pins = s.pins ∧ (s.remove c r k).cfl = s.cfl ∧ (s.remove c r
      k).rdu = s.rdu ∧ (s.remove c r k).rrv = s.rrv ∧ (s.remove c r k).cfg = s.cfg := by
  simp only [State.remove]; (repeat' split) <;> simp

/-! ### removeOverdue -/

/-- What removeOverdue leaves. -/
@[simp] theorem State.removeOverdue_frame (s : State) (c : StationConfig) (r : SegRec) :
    (s.removeOverdue c r).pending = s.pending ∧ (s.removeOverdue c r).pins = s.pins ∧ (s.removeOverdue c r).cfl = s.cfl
      ∧ (s.removeOverdue c r).rdu = s.rdu ∧ (s.removeOverdue c r).rrv = s.rrv ∧ (s.removeOverdue c r).cfg = s.cfg := by
  simp only [State.removeOverdue]; simp

/-! ### settle -/

/-- What settleOverdue leaves. -/
@[simp] theorem State.settleOverdue_frame (c : StationConfig) (n : Nat) (s : State) :
    (s.settleOverdue c n).pending = s.pending ∧ (s.settleOverdue c n).pins = s.pins ∧ (s.settleOverdue c n).cfl = s.cfl
      ∧ (s.settleOverdue c n).rdu = s.rdu ∧ (s.settleOverdue c n).rrv = s.rrv ∧ (s.settleOverdue c n).cfg = s.cfg := by
  induction n generalizing s with
  | zero => simp [State.settleOverdue]
  | succ n ih => simp only [State.settleOverdue]; split <;> simp [ih]

/-! ### settle -/

/-- What settle leaves. -/
@[simp] theorem State.settle_frame (s : State) (c : StationConfig) :
    (s.settle c).pending = s.pending ∧ (s.settle c).pins = s.pins ∧ (s.settle c).cfl = s.cfl ∧ (s.settle c).rdu = s.rdu
      ∧ (s.settle c).rrv = s.rrv ∧ (s.settle c).cfg = s.cfg := by
  simp only [State.settle]; simp

/-! ### segmentClear -/

/-- What segmentClear leaves. -/
@[simp] theorem State.segmentClear_frame (s : State) (c : StationConfig) :
    (s.segmentClear c).pending = s.pending ∧ (s.segmentClear c).pins = s.pins ∧ (s.segmentClear c).cfl = s.cfl ∧
      (s.segmentClear c).rdu = s.rdu ∧ (s.segmentClear c).rrv = s.rrv ∧ (s.segmentClear c).cfg = s.cfg := by
  simp only [State.segmentClear]; simp [State.cfg]

/-! ### countDecode -/

/-- What countDecode leaves. -/
@[simp] theorem State.countDecode_frame (s : State) (d : Decode) :
    (s.countDecode d).pending = s.pending ∧ (s.countDecode d).pins = s.pins ∧ (s.countDecode d).cfl = s.cfl ∧
      (s.countDecode d).btu = s.btu ∧ (s.countDecode d).rdu = s.rdu ∧ (s.countDecode d).idt = s.idt ∧ (s.countDecode
      d).rrv = s.rrv ∧ (s.countDecode d).dvs = s.dvs ∧ (s.countDecode d).hlc = s.hlc ∧ (s.countDecode d).cfg = s.cfg := by
  simp only [State.countDecode]; (repeat' split) <;> simp

/-! ### countSailing -/

/-- What countSailing leaves. -/
@[simp] theorem State.countSailing_frame (s : State) (x : Sailing) :
    (s.countSailing x).pending = s.pending ∧ (s.countSailing x).pins = s.pins ∧ (s.countSailing x).cfl = s.cfl ∧
      (s.countSailing x).btu = s.btu ∧ (s.countSailing x).rdu = s.rdu ∧ (s.countSailing x).idt = s.idt ∧ (s.countSailing
      x).rrv = s.rrv ∧ (s.countSailing x).dvs = s.dvs ∧ (s.countSailing x).hlc = s.hlc ∧ (s.countSailing x).cfg = s.cfg := by
  simp only [State.countSailing]; (repeat' split) <;> simp

/-! ### writeOwnView -/

/-- What writeOwnView leaves. -/
@[simp] theorem State.writeOwnView_frame (s : State) (c : StationConfig) (a : Account) :
    (s.writeOwnView c a).pending = s.pending ∧ (s.writeOwnView c a).pins = s.pins ∧ (s.writeOwnView c a).cfl = s.cfl ∧
      (s.writeOwnView c a).btu = s.btu ∧ (s.writeOwnView c a).rdu = s.rdu ∧ (s.writeOwnView c a).idt = s.idt ∧
      (s.writeOwnView c a).dvs = s.dvs ∧ (s.writeOwnView c a).hlc = s.hlc ∧ (s.writeOwnView c a).stu = s.stu ∧
      (s.writeOwnView c a).cfg = s.cfg := by
  simp only [State.writeOwnView]; simp

/-! ### takeChuteState -/

/-- What takeChuteState leaves. -/
@[simp] theorem State.takeChuteState_frame (s : State) (c : StationConfig) (n : Nat) (r : ChuteReport) :
    (s.takeChuteState c n r).pending = s.pending ∧ (s.takeChuteState c n r).pins = s.pins ∧ (s.takeChuteState c n r).cfl
      = s.cfl ∧ (s.takeChuteState c n r).btu = s.btu ∧ (s.takeChuteState c n r).rdu = s.rdu ∧ (s.takeChuteState c n
      r).idt = s.idt ∧ (s.takeChuteState c n r).dvs = s.dvs ∧ (s.takeChuteState c n r).hlc = s.hlc ∧ (s.takeChuteState c
      n r).cfg = s.cfg := by
  simp only [State.takeChuteState]; (repeat' split) <;> simp

/-! ### ageView -/

/-- What ageView leaves. -/
@[simp] theorem State.ageView_frame (s : State) (c : StationConfig) :
    (s.ageView c).pending = s.pending ∧ (s.ageView c).pins = s.pins ∧ (s.ageView c).cfl = s.cfl ∧ (s.ageView c).btu =
      s.btu ∧ (s.ageView c).rdu = s.rdu ∧ (s.ageView c).idt = s.idt ∧ (s.ageView c).dvs = s.dvs ∧ (s.ageView c).hlc =
      s.hlc ∧ (s.ageView c).cfg = s.cfg := by
  simp only [State.ageView]; (repeat' split) <;> simp

/-! ### sendChuteState -/

/-- What sendChuteState leaves. -/
@[simp] theorem State.sendChuteState_frame (s : State) (d : Div) (a : Account) :
    (s.sendChuteState d a).pending = s.pending ∧ (s.sendChuteState d a).pins = s.pins ∧ (s.sendChuteState d a).cfl =
      s.cfl ∧ (s.sendChuteState d a).btu = s.btu ∧ (s.sendChuteState d a).rdu = s.rdu ∧ (s.sendChuteState d a).idt =
      s.idt ∧ (s.sendChuteState d a).rrv = s.rrv ∧ (s.sendChuteState d a).cfg = s.cfg := by
  simp only [State.sendChuteState]; simp

/-! ### chuteTurned -/

/-- What chuteTurned leaves. -/
@[simp] theorem State.chuteTurned_frame (s : State) (d : Div) (x y : ChuteState) :
    (s.chuteTurned d x y).pending = s.pending ∧ (s.chuteTurned d x y).pins = s.pins ∧ (s.chuteTurned d x y).cfl = s.cfl
      ∧ (s.chuteTurned d x y).rdu = s.rdu ∧ (s.chuteTurned d x y).idt = s.idt ∧ (s.chuteTurned d x y).rrv = s.rrv ∧
      (s.chuteTurned d x y).hlc = s.hlc ∧ (s.chuteTurned d x y).cfg = s.cfg := by
  simp only [State.chuteTurned]; (repeat' split) <;> simp

/-! ### changeAccount -/

/-- What changeAccount leaves. -/
@[simp] theorem State.changeAccount_frame (s : State) (c : StationConfig) (d : Div) (f : Account → Account) :
    (s.changeAccount c d f).pending = s.pending ∧ (s.changeAccount c d f).pins = s.pins ∧ (s.changeAccount c d f).cfl =
      s.cfl ∧ (s.changeAccount c d f).rdu = s.rdu ∧ (s.changeAccount c d f).idt = s.idt ∧ (s.changeAccount c d f).cfg =
      s.cfg := by
  simp only [State.changeAccount]; (repeat' split) <;> simp

/-! ### fillRise -/

/-- What fillRise leaves. -/
@[simp] theorem State.fillRise_frame (s : State) (c : StationConfig) (d : Div) (n : Nat) :
    (s.fillRise c d n).pending = s.pending ∧ (s.fillRise c d n).pins = s.pins ∧ (s.fillRise c d n).cfl = s.cfl ∧
      (s.fillRise c d n).rdu = s.rdu ∧ (s.fillRise c d n).idt = s.idt ∧ (s.fillRise c d n).cfg = s.cfg := by
  simp only [State.fillRise]; (repeat' split) <;> simp

/-! ### makeAccount -/

/-- What makeAccount leaves. -/
@[simp] theorem State.makeAccount_frame (s : State) (c : StationConfig) (d : Div) :
    (s.makeAccount c d).pending = s.pending ∧ (s.makeAccount c d).pins = s.pins ∧ (s.makeAccount c d).cfl = s.cfl ∧
      (s.makeAccount c d).btu = s.btu ∧ (s.makeAccount c d).rdu = s.rdu ∧ (s.makeAccount c d).idt = s.idt ∧
      (s.makeAccount c d).cfg = s.cfg := by
  simp only [State.makeAccount]; (repeat' split) <;> simp

/-! ### refreshChute -/

/-- What refreshChute leaves. -/
@[simp] theorem State.refreshChute_frame (s : State) (d : Div) :
    (s.refreshChute d).pending = s.pending ∧ (s.refreshChute d).pins = s.pins ∧ (s.refreshChute d).cfl = s.cfl ∧
      (s.refreshChute d).btu = s.btu ∧ (s.refreshChute d).rdu = s.rdu ∧ (s.refreshChute d).idt = s.idt ∧ (s.refreshChute
      d).rrv = s.rrv ∧ (s.refreshChute d).cfg = s.cfg := by
  simp only [State.refreshChute]; (repeat' split) <;> simp

/-! ### decideGrant -/

/-- What decideGrant leaves. -/
@[simp] theorem State.decideGrant_frame (s : State) (c : StationConfig) (d : Div) (v : DiverterConfig) (r : SegRec) :
    (s.decideGrant c d v r).pending = s.pending ∧ (s.decideGrant c d v r).pins = s.pins ∧ (s.decideGrant c d v r).cfl =
      s.cfl ∧ (s.decideGrant c d v r).rdu = s.rdu ∧ (s.decideGrant c d v r).idt = s.idt ∧ (s.decideGrant c d v r).rrv =
      s.rrv ∧ (s.decideGrant c d v r).hlc = s.hlc ∧ (s.decideGrant c d v r).cfg = s.cfg := by
  simp only [State.decideGrant]; (repeat' split) <;> simp

/-! ### takePoint -/

/-- What takePoint leaves. -/
@[simp] theorem State.takePoint_frame (s : State) (p : Point) (r : RecRef) :
    (s.takePoint p r).pending = s.pending ∧ (s.takePoint p r).pins = s.pins ∧ (s.takePoint p r).cfl = s.cfl ∧
      (s.takePoint p r).rdu = s.rdu ∧ (s.takePoint p r).idt = s.idt ∧ (s.takePoint p r).rrv = s.rrv ∧ (s.takePoint p
      r).dvs = s.dvs ∧ (s.takePoint p r).hlc = s.hlc ∧ (s.takePoint p r).stu = s.stu ∧ (s.takePoint p r).cfg = s.cfg := by
  simp only [State.takePoint]; simp

/-! ### endMissed -/

/-- What endMissed leaves. -/
@[simp] theorem State.endMissed_frame (s : State) (d : Div) (e : Confirm) :
    (s.endMissed d e).pending = s.pending ∧ (s.endMissed d e).pins = s.pins ∧ (s.endMissed d e).cfl = s.cfl ∧
      (s.endMissed d e).rdu = s.rdu ∧ (s.endMissed d e).idt = s.idt ∧ (s.endMissed d e).rrv = s.rrv ∧ (s.endMissed d
      e).hlc = s.hlc ∧ (s.endMissed d e).cfg = s.cfg := by
  simp only [State.endMissed]; simp

/-! ### endWaiting -/

/-- What endWaiting leaves. -/
@[simp] theorem State.endWaiting_frame (s : State) (d : Div) :
    (s.endWaiting d).pending = s.pending ∧ (s.endWaiting d).pins = s.pins ∧ (s.endWaiting d).cfl = s.cfl ∧ (s.endWaiting
      d).rdu = s.rdu ∧ (s.endWaiting d).idt = s.idt ∧ (s.endWaiting d).rrv = s.rrv ∧ (s.endWaiting d).hlc = s.hlc ∧
      (s.endWaiting d).cfg = s.cfg := by
  have h := foldl_keeps (fun t : State => (t.pending, t.pins, t.cfl, t.rdu, t.idt, t.rrv, t.hlc, t.cfg))
    (fun t (e : Confirm) => t.endMissed d e) (by intro t a; simp) ((s.dvs.get d).confirms.filter (·.waiting)) s
  simpa [State.endWaiting, and_assoc] using h

/-! ### unmark -/

/-- What unmark leaves. -/
@[simp] theorem State.unmark_frame (s : State) (d : Div) :
    (s.unmark d).pending = s.pending ∧ (s.unmark d).pins = s.pins ∧ (s.unmark d).cfl = s.cfl ∧ (s.unmark d).rdu = s.rdu
      ∧ (s.unmark d).idt = s.idt ∧ (s.unmark d).rrv = s.rrv ∧ (s.unmark d).dvs = s.dvs ∧ (s.unmark d).hlc = s.hlc ∧
      (s.unmark d).stu = s.stu ∧ (s.unmark d).cfg = s.cfg := by
  simp only [State.unmark]; (repeat' split) <;> simp

/-! ### makeRoom -/

/-- What makeRoom leaves. -/
@[simp] theorem State.makeRoom_frame (s : State) (d : Div) :
    (s.makeRoom d).pending = s.pending ∧ (s.makeRoom d).pins = s.pins ∧ (s.makeRoom d).cfl = s.cfl ∧ (s.makeRoom d).rdu
      = s.rdu ∧ (s.makeRoom d).idt = s.idt ∧ (s.makeRoom d).rrv = s.rrv ∧ (s.makeRoom d).hlc = s.hlc ∧ (s.makeRoom
      d).cfg = s.cfg := by
  simp only [State.makeRoom]; (repeat' split) <;> simp

/-! ### engage -/

/-- What engage leaves. -/
@[simp] theorem State.engage_frame (s : State) (d : Div) (v : DiverterConfig) (g : Grant) :
    (s.engage d v g).pending = s.pending ∧ (s.engage d v g).pins = s.pins ∧ (s.engage d v g).cfl = s.cfl ∧ (s.engage d v
      g).rdu = s.rdu ∧ (s.engage d v g).idt = s.idt ∧ (s.engage d v g).rrv = s.rrv ∧ (s.engage d v g).hlc = s.hlc ∧
      (s.engage d v g).cfg = s.cfg := by
  simp only [State.engage]; simp

/-! ### markBehind -/

/-- What markBehind leaves. -/
@[simp] theorem State.markBehind_frame (s : State) (d : Div) (v : DiverterConfig) (r : RecRef) :
    (s.markBehind d v r).pending = s.pending ∧ (s.markBehind d v r).pins = s.pins ∧ (s.markBehind d v r).cfl = s.cfl ∧
      (s.markBehind d v r).rdu = s.rdu ∧ (s.markBehind d v r).idt = s.idt ∧ (s.markBehind d v r).rrv = s.rrv ∧
      (s.markBehind d v r).hlc = s.hlc ∧ (s.markBehind d v r).cfg = s.cfg := by
  simp only [State.markBehind]; (repeat' split) <;> simp

/-! ### queueDivertDone -/

/-- What queueDivertDone leaves. -/
@[simp] theorem State.queueDivertDone_frame (s : State) (n : Nat) (r : SegRec) (b : Bool) :
    (s.queueDivertDone n r b).pending = s.pending ∧ (s.queueDivertDone n r b).pins = s.pins ∧ (s.queueDivertDone n r
      b).cfl = s.cfl ∧ (s.queueDivertDone n r b).btu = s.btu ∧ (s.queueDivertDone n r b).rdu = s.rdu ∧
      (s.queueDivertDone n r b).idt = s.idt ∧ (s.queueDivertDone n r b).rrv = s.rrv ∧ (s.queueDivertDone n r b).dvs =
      s.dvs ∧ (s.queueDivertDone n r b).cfg = s.cfg := by
  simp only [State.queueDivertDone]; simp

/-! ### confirm -/

/-- What confirm leaves. -/
@[simp] theorem State.confirm_frame (s : State) (c : StationConfig) (d : Div) (v : DiverterConfig) (e : Confirm) (r : SegRec) :
    (s.confirm c d v e r).pending = s.pending ∧ (s.confirm c d v e r).pins = s.pins ∧ (s.confirm c d v e r).cfl = s.cfl
      ∧ (s.confirm c d v e r).rdu = s.rdu ∧ (s.confirm c d v e r).cfg = s.cfg := by
  simp only [State.confirm]; simp

/-! ### sweep -/

/-- What sweep leaves. -/
@[simp] theorem State.sweep_frame (s : State) (c : StationConfig) (d : Div) (v : DiverterConfig) (r : SegRec) :
    (s.sweep c d v r).pending = s.pending ∧ (s.sweep c d v r).pins = s.pins ∧ (s.sweep c d v r).cfl = s.cfl ∧ (s.sweep c
      d v r).rdu = s.rdu ∧ (s.sweep c d v r).cfg = s.cfg := by
  simp only [State.sweep]; simp

/-! ### confirmEdge -/

/-- What confirmEdge leaves. -/
@[simp] theorem State.confirmEdge_frame (s : State) (c : StationConfig) (d : Div) (n : Count) :
    (s.confirmEdge c d n).pending = s.pending ∧ (s.confirmEdge c d n).pins = s.pins ∧ (s.confirmEdge c d n).cfl = s.cfl
      ∧ (s.confirmEdge c d n).rdu = s.rdu ∧ (s.confirmEdge c d n).cfg = s.cfg := by
  simp only [State.confirmEdge]; (repeat' split) <;> simp

/-! ### advanceExpects -/

/-- What advanceExpects leaves. -/
@[simp] theorem State.advanceExpects_frame (s : State) :
    (s.advanceExpects).pending = s.pending ∧ (s.advanceExpects).pins = s.pins ∧ (s.advanceExpects).cfl = s.cfl ∧
      (s.advanceExpects).rdu = s.rdu ∧ (s.advanceExpects).idt = s.idt ∧ (s.advanceExpects).rrv = s.rrv ∧
      (s.advanceExpects).dvs = s.dvs ∧ (s.advanceExpects).hlc = s.hlc ∧ (s.advanceExpects).cfg = s.cfg := by
  simp only [State.advanceExpects]; (repeat' split) <;> simp

/-! ### dropExpect -/

/-- What dropExpect leaves. -/
@[simp] theorem State.dropExpect_frame (s : State) (x : ExpectRec) :
    (s.dropExpect x).pending = s.pending ∧ (s.dropExpect x).pins = s.pins ∧ (s.dropExpect x).cfl = s.cfl ∧ (s.dropExpect
      x).rdu = s.rdu ∧ (s.dropExpect x).idt = s.idt ∧ (s.dropExpect x).rrv = s.rrv ∧ (s.dropExpect x).dvs = s.dvs ∧
      (s.dropExpect x).hlc = s.hlc ∧ (s.dropExpect x).stu = s.stu ∧ (s.dropExpect x).cfg = s.cfg := by
  simp only [State.dropExpect]; simp

/-! ### testPasses -/

/-- What testPasses leaves. -/
@[simp] theorem State.testPasses_frame (s : State) (c : StationConfig) (r : RecRef) :
    (s.testPasses c r).pending = s.pending ∧ (s.testPasses c r).pins = s.pins ∧ (s.testPasses c r).cfl = s.cfl ∧
      (s.testPasses c r).rdu = s.rdu ∧ (s.testPasses c r).idt = s.idt ∧ (s.testPasses c r).rrv = s.rrv ∧ (s.testPasses c
      r).cfg = s.cfg := by
  simp only [State.testPasses]; (repeat' split) <;> simp

/-! ### attachLate -/

/-- What attachLate leaves. -/
@[simp] theorem State.attachLate_frame (s : State) (c : StationConfig) (r : SegRec) (h : Handover) :
    (s.attachLate c r h).pending = s.pending ∧ (s.attachLate c r h).pins = s.pins ∧ (s.attachLate c r h).cfl = s.cfl ∧
      (s.attachLate c r h).rdu = s.rdu ∧ (s.attachLate c r h).idt = s.idt ∧ (s.attachLate c r h).rrv = s.rrv ∧
      (s.attachLate c r h).cfg = s.cfg := by
  simp only [State.attachLate]; simp

/-! ### acceptHandover -/

/-- What acceptHandover leaves. -/
@[simp] theorem State.acceptHandover_frame (s : State) (c : StationConfig) (x : Source) (h : Handover) :
    (s.acceptHandover c x h).pending = s.pending ∧ (s.acceptHandover c x h).pins = s.pins ∧ (s.acceptHandover c x h).cfl
      = s.cfl ∧ (s.acceptHandover c x h).rdu = s.rdu ∧ (s.acceptHandover c x h).idt = s.idt ∧ (s.acceptHandover c x
      h).rrv = s.rrv ∧ (s.acceptHandover c x h).cfg = s.cfg := by
  simp only [State.acceptHandover]; (repeat' split) <;> simp

/-! ### takeHandover -/

/-- What takeHandover leaves. -/
@[simp] theorem State.takeHandover_frame (s : State) (c : StationConfig) (n : Nat) (h : Handover) :
    (s.takeHandover c n h).pending = s.pending ∧ (s.takeHandover c n h).pins = s.pins ∧ (s.takeHandover c n h).cfl =
      s.cfl ∧ (s.takeHandover c n h).rdu = s.rdu ∧ (s.takeHandover c n h).idt = s.idt ∧ (s.takeHandover c n h).rrv =
      s.rrv ∧ (s.takeHandover c n h).cfg = s.cfg := by
  simp only [State.takeHandover]; (repeat' split) <;> simp

/-! ### queueHandover -/

/-- What queueHandover leaves. -/
@[simp] theorem State.queueHandover_frame (s : State) (c : StationConfig) (h : Handover) (x : Count) :
    (s.queueHandover c h x).pending = s.pending ∧ (s.queueHandover c h x).pins = s.pins ∧ (s.queueHandover c h x).cfl =
      s.cfl ∧ (s.queueHandover c h x).btu = s.btu ∧ (s.queueHandover c h x).rdu = s.rdu ∧ (s.queueHandover c h x).idt =
      s.idt ∧ (s.queueHandover c h x).rrv = s.rrv ∧ (s.queueHandover c h x).dvs = s.dvs ∧ (s.queueHandover c h x).cfg =
      s.cfg := by
  simp only [State.queueHandover]; (repeat' split) <;> simp

/-! ### join -/

/-- What join leaves. -/
@[simp] theorem State.join_frame (s : State) (c : StationConfig) (r : SegRec) :
    (s.join c r).pending = s.pending ∧ (s.join c r).pins = s.pins ∧ (s.join c r).cfl = s.cfl ∧ (s.join c r).rdu = s.rdu
      ∧ (s.join c r).idt = s.idt ∧ (s.join c r).rrv = s.rrv ∧ (s.join c r).dvs = s.dvs ∧ (s.join c r).cfg = s.cfg := by
  simp only [State.join]; simp

/-! ### joinAnnounced -/

/-- What joinAnnounced leaves. -/
@[simp] theorem State.joinAnnounced_frame (s : State) (c : StationConfig) (n : Count) (x : ExpectRec) :
    (s.joinAnnounced c n x).pending = s.pending ∧ (s.joinAnnounced c n x).pins = s.pins ∧ (s.joinAnnounced c n x).cfl =
      s.cfl ∧ (s.joinAnnounced c n x).rdu = s.rdu ∧ (s.joinAnnounced c n x).idt = s.idt ∧ (s.joinAnnounced c n x).rrv =
      s.rrv ∧ (s.joinAnnounced c n x).cfg = s.cfg := by
  simp only [State.joinAnnounced]; (repeat' split) <;> simp

/-! ### openArrival -/

/-- What openArrival leaves. -/
@[simp] theorem State.openArrival_frame (s : State) (c : StationConfig) (n : Count) :
    (s.openArrival c n).pending = s.pending ∧ (s.openArrival c n).pins = s.pins ∧ (s.openArrival c n).cfl = s.cfl ∧
      (s.openArrival c n).rdu = s.rdu ∧ (s.openArrival c n).idt = s.idt ∧ (s.openArrival c n).rrv = s.rrv ∧
      (s.openArrival c n).cfg = s.cfg := by
  simp only [State.openArrival]; (repeat' split) <;> simp

/-! ### gapSet -/

/-- What gapSet leaves. -/
@[simp] theorem State.gapSet_frame (s : State) (c : StationConfig) (r : RecRef) (n : Nat) :
    (s.gapSet c r n).pending = s.pending ∧ (s.gapSet c r n).pins = s.pins ∧ (s.gapSet c r n).cfl = s.cfl ∧ (s.gapSet c r
      n).rdu = s.rdu ∧ (s.gapSet c r n).idt = s.idt ∧ (s.gapSet c r n).rrv = s.rrv ∧ (s.gapSet c r n).hlc = s.hlc ∧
      (s.gapSet c r n).cfg = s.cfg := by
  simp only [State.gapSet]; (repeat' split) <;> simp

/-! ### backGapUntracked -/

/-- What backGapUntracked leaves. -/
@[simp] theorem State.backGapUntracked_frame (s : State) (c : StationConfig) (n : Count) :
    (s.backGapUntracked c n).pending = s.pending ∧ (s.backGapUntracked c n).pins = s.pins ∧ (s.backGapUntracked c n).cfl
      = s.cfl ∧ (s.backGapUntracked c n).rdu = s.rdu ∧ (s.backGapUntracked c n).idt = s.idt ∧ (s.backGapUntracked c
      n).rrv = s.rrv ∧ (s.backGapUntracked c n).hlc = s.hlc ∧ (s.backGapUntracked c n).cfg = s.cfg := by
  simp only [State.backGapUntracked]; (repeat' split) <;> simp

/-! ### untrackedArrival -/

/-- What untrackedArrival leaves. -/
@[simp] theorem State.untrackedArrival_frame (s : State) (c : StationConfig) (n : Count) :
    (s.untrackedArrival c n).pending = s.pending ∧ (s.untrackedArrival c n).pins = s.pins ∧ (s.untrackedArrival c n).cfl
      = s.cfl ∧ (s.untrackedArrival c n).rdu = s.rdu ∧ (s.untrackedArrival c n).idt = s.idt ∧ (s.untrackedArrival c
      n).rrv = s.rrv ∧ (s.untrackedArrival c n).hlc = s.hlc ∧ (s.untrackedArrival c n).cfg = s.cfg := by
  simp only [State.untrackedArrival]; (repeat' split) <;> simp

/-! ### entryArrival -/

/-- What entryArrival leaves. -/
@[simp] theorem State.entryArrival_frame (s : State) (c : StationConfig) (n : Count) :
    (s.entryArrival c n).pending = s.pending ∧ (s.entryArrival c n).pins = s.pins ∧ (s.entryArrival c n).cfl = s.cfl ∧
      (s.entryArrival c n).rdu = s.rdu ∧ (s.entryArrival c n).idt = s.idt ∧ (s.entryArrival c n).rrv = s.rrv ∧
      (s.entryArrival c n).cfg = s.cfg := by
  simp only [State.entryArrival]; (repeat' split) <;> simp

/-! ### setGapRef -/

/-- What setGapRef leaves. -/
@[simp] theorem State.setGapRef_frame (s : State) (n : Count) :
    (s.setGapRef n).pending = s.pending ∧ (s.setGapRef n).pins = s.pins ∧ (s.setGapRef n).cfl = s.cfl ∧ (s.setGapRef
      n).rdu = s.rdu ∧ (s.setGapRef n).idt = s.idt ∧ (s.setGapRef n).rrv = s.rrv ∧ (s.setGapRef n).dvs = s.dvs ∧
      (s.setGapRef n).hlc = s.hlc ∧ (s.setGapRef n).stu = s.stu ∧ (s.setGapRef n).cfg = s.cfg := by
  simp only [State.setGapRef]; simp

/-! ### measure -/

/-- What measure leaves. -/
@[simp] theorem State.measure_frame (s : State) (c : StationConfig) (r : SegRec) (n : Count) :
    (s.measure c r n).pending = s.pending ∧ (s.measure c r n).pins = s.pins ∧ (s.measure c r n).cfl = s.cfl ∧ (s.measure
      c r n).rdu = s.rdu ∧ (s.measure c r n).idt = s.idt ∧ (s.measure c r n).rrv = s.rrv ∧ (s.measure c r n).cfg = s.cfg := by
  simp only [State.measure]; (repeat' split) <;> simp

/-! ### setGaps -/

/-- What setGaps leaves. -/
@[simp] theorem State.setGaps_frame (s : State) (c : StationConfig) (r : SegRec) :
    (s.setGaps c r).pending = s.pending ∧ (s.setGaps c r).pins = s.pins ∧ (s.setGaps c r).cfl = s.cfl ∧ (s.setGaps c
      r).rdu = s.rdu ∧ (s.setGaps c r).idt = s.idt ∧ (s.setGaps c r).rrv = s.rrv ∧ (s.setGaps c r).cfg = s.cfg := by
  simp only [State.setGaps]; (repeat' split) <;> simp

/-! ### entryTrailing -/

/-- What entryTrailing leaves. -/
@[simp] theorem State.entryTrailing_frame (s : State) (c : StationConfig) (n : Count) :
    (s.entryTrailing c n).pending = s.pending ∧ (s.entryTrailing c n).pins = s.pins ∧ (s.entryTrailing c n).cfl = s.cfl
      ∧ (s.entryTrailing c n).rdu = s.rdu ∧ (s.entryTrailing c n).idt = s.idt ∧ (s.entryTrailing c n).rrv = s.rrv ∧
      (s.entryTrailing c n).cfg = s.cfg := by
  simp only [State.entryTrailing]; (repeat' split) <;> simp

/-! ### makeLong -/

/-- What makeLong leaves. -/
@[simp] theorem State.makeLong_frame (s : State) (c : StationConfig) (r : RecRef) :
    (s.makeLong c r).pending = s.pending ∧ (s.makeLong c r).pins = s.pins ∧ (s.makeLong c r).cfl = s.cfl ∧ (s.makeLong c
      r).rdu = s.rdu ∧ (s.makeLong c r).idt = s.idt ∧ (s.makeLong c r).rrv = s.rrv ∧ (s.makeLong c r).cfg = s.cfg := by
  simp only [State.makeLong]; simp

/-! ### longBagReturn -/

/-- What longBagReturn leaves. -/
@[simp] theorem State.longBagReturn_frame (s : State) (c : StationConfig) :
    (s.longBagReturn c).pending = s.pending ∧ (s.longBagReturn c).pins = s.pins ∧ (s.longBagReturn c).cfl = s.cfl ∧
      (s.longBagReturn c).rdu = s.rdu ∧ (s.longBagReturn c).idt = s.idt ∧ (s.longBagReturn c).rrv = s.rrv ∧
      (s.longBagReturn c).cfg = s.cfg := by
  simp only [State.longBagReturn]; (repeat' split) <;> simp

/-! ### passesRule -/

/-- What passesRule leaves. -/
@[simp] theorem State.passesRule_frame (s : State) (c : StationConfig) (r : SegRec) :
    (s.passesRule c r).pending = s.pending ∧ (s.passesRule c r).pins = s.pins ∧ (s.passesRule c r).cfl = s.cfl ∧
      (s.passesRule c r).rdu = s.rdu ∧ (s.passesRule c r).idt = s.idt ∧ (s.passesRule c r).rrv = s.rrv ∧ (s.passesRule c
      r).cfg = s.cfg := by
  simp only [State.passesRule]; (repeat' split) <;> simp

/-! ### jamClr -/

/-- What jamClr leaves. -/
@[simp] theorem State.jamClr_frame (s : State) :
    (s.jamClr).pending = s.pending ∧ (s.jamClr).cfl = s.cfl ∧ (s.jamClr).rdu = s.rdu ∧ (s.jamClr).rrv = s.rrv ∧
      (s.jamClr).cfg = s.cfg := by
  simp only [State.jamClr]; (repeat' split) <;> simp

/-! ### exitMatch -/

/-- What exitMatch leaves. -/
@[simp] theorem State.exitMatch_frame (s : State) (c : StationConfig) (r : SegRec) (n : Count) :
    (s.exitMatch c r n).pending = s.pending ∧ (s.exitMatch c r n).pins = s.pins ∧ (s.exitMatch c r n).cfl = s.cfl ∧
      (s.exitMatch c r n).rdu = s.rdu ∧ (s.exitMatch c r n).rrv = s.rrv ∧ (s.exitMatch c r n).cfg = s.cfg := by
  simp only [State.exitMatch]; simp

/-! ### exitUnexpected -/

/-- What exitUnexpected leaves. -/
@[simp] theorem State.exitUnexpected_frame (s : State) (c : StationConfig) (n : Count) :
    (s.exitUnexpected c n).pending = s.pending ∧ (s.exitUnexpected c n).pins = s.pins ∧ (s.exitUnexpected c n).cfl =
      s.cfl ∧ (s.exitUnexpected c n).btu = s.btu ∧ (s.exitUnexpected c n).rdu = s.rdu ∧ (s.exitUnexpected c n).idt =
      s.idt ∧ (s.exitUnexpected c n).rrv = s.rrv ∧ (s.exitUnexpected c n).dvs = s.dvs ∧ (s.exitUnexpected c n).cfg =
      s.cfg := by
  simp only [State.exitUnexpected]; simp

/-! ### exitEdge -/

/-- What exitEdge leaves. -/
@[simp] theorem State.exitEdge_frame (s : State) (c : StationConfig) (n : Count) :
    (s.exitEdge c n).pending = s.pending ∧ (s.exitEdge c n).pins = s.pins ∧ (s.exitEdge c n).cfl = s.cfl ∧ (s.exitEdge c
      n).rdu = s.rdu ∧ (s.exitEdge c n).rrv = s.rrv ∧ (s.exitEdge c n).cfg = s.cfg := by
  simp only [State.exitEdge]; (repeat' split) <;> simp

/-! ### overduePoint -/

/-- What overduePoint leaves. -/
@[simp] theorem State.overduePoint_frame (s : State) (c : StationConfig) (r : RecRef) :
    (s.overduePoint c r).pending = s.pending ∧ (s.overduePoint c r).pins = s.pins ∧ (s.overduePoint c r).cfl = s.cfl ∧
      (s.overduePoint c r).rdu = s.rdu ∧ (s.overduePoint c r).rrv = s.rrv ∧ (s.overduePoint c r).cfg = s.cfg := by
  simp only [State.overduePoint]; (repeat' split) <;> simp

/-! ### windowClose -/

/-- What windowClose leaves. -/
@[simp] theorem State.windowClose_frame (s : State) (c : StationConfig) :
    (s.windowClose c).pending = s.pending ∧ (s.windowClose c).pins = s.pins ∧ (s.windowClose c).cfl = s.cfl ∧
      (s.windowClose c).rdu = s.rdu ∧ (s.windowClose c).idt = s.idt ∧ (s.windowClose c).rrv = s.rrv ∧ (s.windowClose
      c).cfg = s.cfg := by
  simp only [State.windowClose]; (repeat' split) <;> simp

/-! ### deliverLeading -/

/-- What deliverLeading leaves. -/
@[simp] theorem State.deliverLeading_frame (s : State) (c : StationConfig) (y : Eye) (n : Count) :
    (s.deliverLeading c y n).pending = s.pending ∧ (s.deliverLeading c y n).pins = s.pins ∧ (s.deliverLeading c y n).cfl
      = s.cfl ∧ (s.deliverLeading c y n).rdu = s.rdu ∧ (s.deliverLeading c y n).cfg = s.cfg := by
  simp only [State.deliverLeading]; (repeat' split) <;> simp

/-! ### deliverTrailing -/

/-- What deliverTrailing leaves. -/
@[simp] theorem State.deliverTrailing_frame (s : State) (c : StationConfig) (y : Eye) (n : Count) :
    (s.deliverTrailing c y n).pending = s.pending ∧ (s.deliverTrailing c y n).pins = s.pins ∧ (s.deliverTrailing c y
      n).cfl = s.cfl ∧ (s.deliverTrailing c y n).rdu = s.rdu ∧ (s.deliverTrailing c y n).idt = s.idt ∧
      (s.deliverTrailing c y n).rrv = s.rrv ∧ (s.deliverTrailing c y n).cfg = s.cfg := by
  simp only [State.deliverTrailing]; (repeat' split) <;> simp

/-! ### acceptLeading -/

/-- What acceptLeading leaves. -/
@[simp] theorem State.acceptLeading_frame (s : State) (c : StationConfig) (y : Eye) :
    (s.acceptLeading c y).pending = s.pending ∧ (s.acceptLeading c y).pins = s.pins ∧ (s.acceptLeading c y).cfl = s.cfl
      ∧ (s.acceptLeading c y).rdu = s.rdu ∧ (s.acceptLeading c y).cfg = s.cfg := by
  simp only [State.acceptLeading]; (repeat' split) <;> simp

/-! ### acceptTrailing -/

/-- What acceptTrailing leaves. -/
@[simp] theorem State.acceptTrailing_frame (s : State) (c : StationConfig) (y : Eye) :
    (s.acceptTrailing c y).pending = s.pending ∧ (s.acceptTrailing c y).pins = s.pins ∧ (s.acceptTrailing c y).cfl =
      s.cfl ∧ (s.acceptTrailing c y).rdu = s.rdu ∧ (s.acceptTrailing c y).idt = s.idt ∧ (s.acceptTrailing c y).rrv =
      s.rrv ∧ (s.acceptTrailing c y).cfg = s.cfg := by
  simp only [State.acceptTrailing]; (repeat' split) <;> simp

/-! ### edgeVanished -/

/-- What edgeVanished leaves. -/
@[simp] theorem State.edgeVanished_frame (s : State) (c : StationConfig) (y : Eye) :
    (s.edgeVanished c y).pending = s.pending ∧ (s.edgeVanished c y).pins = s.pins ∧ (s.edgeVanished c y).cfl = s.cfl ∧
      (s.edgeVanished c y).rdu = s.rdu ∧ (s.edgeVanished c y).cfg = s.cfg := by
  simp only [State.edgeVanished]; (repeat' split) <;> simp

/-! ### filterStep -/

/-- What filterStep leaves. -/
@[simp] theorem State.filterStep_frame (s : State) (c : StationConfig) (y : Eye) (b : Bool) :
    (s.filterStep c y b).pending = s.pending ∧ (s.filterStep c y b).pins = s.pins ∧ (s.filterStep c y b).cfl = s.cfl ∧
      (s.filterStep c y b).rdu = s.rdu ∧ (s.filterStep c y b).cfg = s.cfg := by
  simp only [State.filterStep]; (repeat' split) <;> simp

/-! ### eyeRawChange -/

/-- What eyeRawChange leaves. -/
@[simp] theorem State.eyeRawChange_frame (s : State) (y : Eye) (b : Bool) :
    (s.eyeRawChange y b).pending = s.pending ∧ (s.eyeRawChange y b).cfl = s.cfl ∧ (s.eyeRawChange y b).rdu = s.rdu ∧
      (s.eyeRawChange y b).cfg = s.cfg := by
  simp only [State.eyeRawChange]; (repeat' split) <;> simp

/-! ### countReuse -/

/-- What countReuse leaves. -/
@[simp] theorem State.countReuse_frame (s : State) (i : Nat) :
    (s.countReuse i).pending = s.pending ∧ (s.countReuse i).pins = s.pins ∧ (s.countReuse i).cfl = s.cfl ∧ (s.countReuse
      i).btu = s.btu ∧ (s.countReuse i).rdu = s.rdu ∧ (s.countReuse i).idt = s.idt ∧ (s.countReuse i).rrv = s.rrv ∧
      (s.countReuse i).dvs = s.dvs ∧ (s.countReuse i).hlc = s.hlc ∧ (s.countReuse i).cfg = s.cfg := by
  simp only [State.countReuse]; (repeat' split) <;> simp

/-! ### restartAge -/

/-- What restartAge leaves. -/
@[simp] theorem State.restartAge_frame (s : State) (i : Nat) :
    (s.restartAge i).pending = s.pending ∧ (s.restartAge i).pins = s.pins ∧ (s.restartAge i).cfl = s.cfl ∧ (s.restartAge
      i).btu = s.btu ∧ (s.restartAge i).rdu = s.rdu ∧ (s.restartAge i).rrv = s.rrv ∧ (s.restartAge i).dvs = s.dvs ∧
      (s.restartAge i).hlc = s.hlc ∧ (s.restartAge i).stu = s.stu ∧ (s.restartAge i).cfg = s.cfg := by
  simp only [State.restartAge]; simp

/-! ### setEntryDest -/

/-- What setEntryDest leaves. -/
@[simp] theorem State.setEntryDest_frame (s : State) (i n : Nat) :
    (s.setEntryDest i n).pending = s.pending ∧ (s.setEntryDest i n).pins = s.pins ∧ (s.setEntryDest i n).cfl = s.cfl ∧
      (s.setEntryDest i n).btu = s.btu ∧ (s.setEntryDest i n).rdu = s.rdu ∧ (s.setEntryDest i n).rrv = s.rrv ∧
      (s.setEntryDest i n).dvs = s.dvs ∧ (s.setEntryDest i n).hlc = s.hlc ∧ (s.setEntryDest i n).stu = s.stu ∧
      (s.setEntryDest i n).cfg = s.cfg := by
  simp only [State.setEntryDest]; simp

/-- What makeEntry leaves. -/
@[simp] theorem State.makeEntry_frame (s : State) (n : Nat) (i : Identity) :
    (s.makeEntry n i).1.pending = s.pending ∧ (s.makeEntry n i).1.pins = s.pins ∧ (s.makeEntry n i).1.cfl = s.cfl ∧
      (s.makeEntry n i).1.btu = s.btu ∧ (s.makeEntry n i).1.rdu = s.rdu ∧ (s.makeEntry n i).1.rrv = s.rrv ∧ (s.makeEntry
      n i).1.dvs = s.dvs ∧ (s.makeEntry n i).1.hlc = s.hlc ∧ (s.makeEntry n i).1.cfg = s.cfg := by
  simp only [State.makeEntry]; simp

/-- What missedRead leaves. -/
@[simp] theorem State.missedRead_frame (s : State) (c : StationConfig) (i : Identity) :
    (s.missedRead c i).1.pending = s.pending ∧ (s.missedRead c i).1.pins = s.pins ∧ (s.missedRead c i).1.cfl = s.cfl ∧
      (s.missedRead c i).1.btu = s.btu ∧ (s.missedRead c i).1.rdu = s.rdu ∧ (s.missedRead c i).1.rrv = s.rrv ∧
      (s.missedRead c i).1.dvs = s.dvs ∧ (s.missedRead c i).1.hlc = s.hlc ∧ (s.missedRead c i).1.cfg = s.cfg := by
  simp only [State.missedRead]; (repeat' split) <;> simp [State.cfg]

/-- What readIdt leaves. -/
@[simp] theorem State.readIdt_frame (s : State) (c : StationConfig) (i : Identity) :
    (s.readIdt c i).1.pending = s.pending ∧ (s.readIdt c i).1.pins = s.pins ∧ (s.readIdt c i).1.cfl = s.cfl ∧ (s.readIdt
      c i).1.rdu = s.rdu ∧ (s.readIdt c i).1.rrv = s.rrv ∧ (s.readIdt c i).1.cfg = s.cfg := by
  simp only [State.readIdt]; (repeat' split) <;> simp

/-! ### undoRead -/

/-- What undoRead leaves. -/
@[simp] theorem State.undoRead_frame (s : State) (a : IdtAnswer) (old : Option IdtEntry) :
    (s.undoRead a old).pending = s.pending ∧ (s.undoRead a old).pins = s.pins ∧ (s.undoRead a old).cfl = s.cfl ∧
      (s.undoRead a old).btu = s.btu ∧ (s.undoRead a old).rdu = s.rdu ∧ (s.undoRead a old).rrv = s.rrv ∧ (s.undoRead a
      old).dvs = s.dvs ∧ (s.undoRead a old).hlc = s.hlc ∧ (s.undoRead a old).stu = s.stu ∧ (s.undoRead a old).cfg =
      s.cfg := by
  simp only [State.undoRead]; (repeat' split) <;> simp

/-! ### countElsewhere -/

/-- What countElsewhere leaves. -/
@[simp] theorem State.countElsewhere_frame (s : State) (e : IdtEntry) (n : Nat) :
    (s.countElsewhere e n).pending = s.pending ∧ (s.countElsewhere e n).pins = s.pins ∧ (s.countElsewhere e n).cfl =
      s.cfl ∧ (s.countElsewhere e n).btu = s.btu ∧ (s.countElsewhere e n).rdu = s.rdu ∧ (s.countElsewhere e n).idt =
      s.idt ∧ (s.countElsewhere e n).rrv = s.rrv ∧ (s.countElsewhere e n).dvs = s.dvs ∧ (s.countElsewhere e n).hlc =
      s.hlc ∧ (s.countElsewhere e n).cfg = s.cfg := by
  simp only [State.countElsewhere]; (repeat' split) <;> simp

/-! ### retire -/

/-- What retire leaves. -/
@[simp] theorem State.retire_frame (s : State) (c : StationConfig) (i : Identity) (n : Nat) :
    (s.retire c i n).pending = s.pending ∧ (s.retire c i n).pins = s.pins ∧ (s.retire c i n).cfl = s.cfl ∧ (s.retire c i
      n).rdu = s.rdu ∧ (s.retire c i n).rrv = s.rrv ∧ (s.retire c i n).cfg = s.cfg := by
  simp only [State.retire]; (repeat' split) <;> simp

/-! ### takeDivertDone -/

/-- What takeDivertDone leaves. -/
@[simp] theorem State.takeDivertDone_frame (s : State) (c : StationConfig) (d : DivertDone) :
    (s.takeDivertDone c d).pending = s.pending ∧ (s.takeDivertDone c d).pins = s.pins ∧ (s.takeDivertDone c d).cfl =
      s.cfl ∧ (s.takeDivertDone c d).rdu = s.rdu ∧ (s.takeDivertDone c d).rrv = s.rrv ∧ (s.takeDivertDone c d).cfg =
      s.cfg := by
  simp only [State.takeDivertDone]; (repeat' split) <;> simp

/-! ### storeNotice -/

/-- What storeNotice leaves. -/
@[simp] theorem State.storeNotice_frame (s : State) (n : Nat) (i : Identity) (d : Nat) :
    (s.storeNotice n i d).pending = s.pending ∧ (s.storeNotice n i d).pins = s.pins ∧ (s.storeNotice n i d).cfl = s.cfl
      ∧ (s.storeNotice n i d).btu = s.btu ∧ (s.storeNotice n i d).rdu = s.rdu ∧ (s.storeNotice n i d).rrv = s.rrv ∧
      (s.storeNotice n i d).dvs = s.dvs ∧ (s.storeNotice n i d).hlc = s.hlc ∧ (s.storeNotice n i d).cfg = s.cfg := by
  simp only [State.storeNotice]; simp

/-! ### applyNotice -/

/-- What applyNotice leaves. -/
@[simp] theorem State.applyNotice_frame (s : State) (c : StationConfig) (r : RecRef) (i : Identity) (d : Nat) :
    (s.applyNotice c r i d).pending = s.pending ∧ (s.applyNotice c r i d).pins = s.pins ∧ (s.applyNotice c r i d).cfl =
      s.cfl ∧ (s.applyNotice c r i d).rdu = s.rdu ∧ (s.applyNotice c r i d).idt = s.idt ∧ (s.applyNotice c r i d).rrv =
      s.rrv ∧ (s.applyNotice c r i d).hlc = s.hlc ∧ (s.applyNotice c r i d).cfg = s.cfg := by
  simp only [State.applyNotice]; (repeat' split) <;> simp

/-! ### noticeOnSegment -/

/-- What noticeOnSegment leaves. -/
@[simp] theorem State.noticeOnSegment_frame (s : State) (c : StationConfig) (n : Nat) (i : Identity) (d : Nat) :
    (s.noticeOnSegment c n i d).pending = s.pending ∧ (s.noticeOnSegment c n i d).pins = s.pins ∧ (s.noticeOnSegment c n
      i d).cfl = s.cfl ∧ (s.noticeOnSegment c n i d).rdu = s.rdu ∧ (s.noticeOnSegment c n i d).rrv = s.rrv ∧
      (s.noticeOnSegment c n i d).hlc = s.hlc ∧ (s.noticeOnSegment c n i d).cfg = s.cfg := by
  simp only [State.noticeOnSegment]; (repeat' split) <;> simp

/-! ### missedNotice -/

/-- What missedNotice leaves. -/
@[simp] theorem State.missedNotice_frame (s : State) (i : Identity) (d : Nat) :
    (s.missedNotice i d).pending = s.pending ∧ (s.missedNotice i d).pins = s.pins ∧ (s.missedNotice i d).cfl = s.cfl ∧
      (s.missedNotice i d).btu = s.btu ∧ (s.missedNotice i d).rdu = s.rdu ∧ (s.missedNotice i d).rrv = s.rrv ∧
      (s.missedNotice i d).dvs = s.dvs ∧ (s.missedNotice i d).hlc = s.hlc ∧ (s.missedNotice i d).cfg = s.cfg := by
  simp only [State.missedNotice]; (repeat' split) <;> simp

/-! ### takeNotice -/

/-- What takeNotice leaves. -/
@[simp] theorem State.takeNotice_frame (s : State) (c : StationConfig) (i : Identity) (d : Nat) :
    (s.takeNotice c i d).pending = s.pending ∧ (s.takeNotice c i d).pins = s.pins ∧ (s.takeNotice c i d).cfl = s.cfl ∧
      (s.takeNotice c i d).rdu = s.rdu ∧ (s.takeNotice c i d).rrv = s.rrv ∧ (s.takeNotice c i d).hlc = s.hlc ∧
      (s.takeNotice c i d).cfg = s.cfg := by
  simp only [State.takeNotice]; (repeat' split) <;> simp

/-! ### ageEntries -/

/-- What ageEntries leaves. -/
@[simp] theorem State.ageEntries_frame (s : State) :
    (s.ageEntries).pending = s.pending ∧ (s.ageEntries).pins = s.pins ∧ (s.ageEntries).cfl = s.cfl ∧ (s.ageEntries).btu
      = s.btu ∧ (s.ageEntries).rdu = s.rdu ∧ (s.ageEntries).rrv = s.rrv ∧ (s.ageEntries).dvs = s.dvs ∧
      (s.ageEntries).hlc = s.hlc ∧ (s.ageEntries).stu = s.stu ∧ (s.ageEntries).cfg = s.cfg := by
  simp only [State.ageEntries]; simp

/-! ### rxFault -/

/-- What rxFault leaves. -/
@[simp] theorem State.rxFault_frame (s : State) (o : Objection) :
    (s.rxFault o).pending = s.pending ∧ (s.rxFault o).pins = s.pins ∧ (s.rxFault o).cfl = s.cfl ∧ (s.rxFault o).btu =
      s.btu ∧ (s.rxFault o).rdu = s.rdu ∧ (s.rxFault o).idt = s.idt ∧ (s.rxFault o).rrv = s.rrv ∧ (s.rxFault o).dvs =
      s.dvs ∧ (s.rxFault o).cfg = s.cfg := by
  simp only [State.rxFault]; simp

/-! ### duplicateFound -/

/-- What duplicateFound leaves. -/
@[simp] theorem State.duplicateFound_frame (s : State) :
    (s.duplicateFound).pending = s.pending ∧ (s.duplicateFound).pins = s.pins ∧ (s.duplicateFound).cfl = s.cfl ∧
      (s.duplicateFound).btu = s.btu ∧ (s.duplicateFound).rdu = s.rdu ∧ (s.duplicateFound).idt = s.idt ∧
      (s.duplicateFound).rrv = s.rrv ∧ (s.duplicateFound).dvs = s.dvs ∧ (s.duplicateFound).cfg = s.cfg := by
  simp only [State.duplicateFound]; simp

/-! ### hearDownstream -/

/-- What hearDownstream leaves. -/
@[simp] theorem State.hearDownstream_frame (s : State) (c : StationConfig) (b : Bool) :
    (s.hearDownstream c b).pending = s.pending ∧ (s.hearDownstream c b).pins = s.pins ∧ (s.hearDownstream c b).cfl =
      s.cfl ∧ (s.hearDownstream c b).rdu = s.rdu ∧ (s.hearDownstream c b).idt = s.idt ∧ (s.hearDownstream c b).rrv =
      s.rrv ∧ (s.hearDownstream c b).dvs = s.dvs ∧ (s.hearDownstream c b).cfg = s.cfg := by
  simp only [State.hearDownstream]; simp

/-! ### takeSegmentState -/

/-- What takeSegmentState leaves. -/
@[simp] theorem State.takeSegmentState_frame (s : State) (c : StationConfig) (n v : Nat) (p : SpeedState) (b : Bool) :
    (s.takeSegmentState c n v p b).pending = s.pending ∧ (s.takeSegmentState c n v p b).pins = s.pins ∧
      (s.takeSegmentState c n v p b).cfl = s.cfl ∧ (s.takeSegmentState c n v p b).rdu = s.rdu ∧ (s.takeSegmentState c n
      v p b).idt = s.idt ∧ (s.takeSegmentState c n v p b).rrv = s.rrv ∧ (s.takeSegmentState c n v p b).dvs = s.dvs ∧
      (s.takeSegmentState c n v p b).cfg = s.cfg := by
  simp only [State.takeSegmentState]; (repeat' split) <;> simp

/-! ### countUnknown -/

/-- What countUnknown leaves. -/
@[simp] theorem State.countUnknown_frame (s : State) :
    (s.countUnknown).pending = s.pending ∧ (s.countUnknown).pins = s.pins ∧ (s.countUnknown).cfl = s.cfl ∧
      (s.countUnknown).btu = s.btu ∧ (s.countUnknown).rdu = s.rdu ∧ (s.countUnknown).idt = s.idt ∧ (s.countUnknown).rrv
      = s.rrv ∧ (s.countUnknown).dvs = s.dvs ∧ (s.countUnknown).hlc = s.hlc ∧ (s.countUnknown).cfg = s.cfg := by
  simp only [State.countUnknown]; simp

/-! ### enterQuiet -/

/-- What enterQuiet leaves. -/
@[simp] theorem State.enterQuiet_frame (s : State) :
    (s.enterQuiet).pending = s.pending ∧ (s.enterQuiet).pins = s.pins ∧ (s.enterQuiet).cfl = s.cfl ∧ (s.enterQuiet).btu
      = s.btu ∧ (s.enterQuiet).rdu = s.rdu ∧ (s.enterQuiet).idt = s.idt ∧ (s.enterQuiet).rrv = s.rrv ∧
      (s.enterQuiet).dvs = s.dvs ∧ (s.enterQuiet).cfg = s.cfg := by
  simp only [State.enterQuiet]; (repeat' split) <;> simp

/-! ### supersede -/

/-- What supersede leaves. -/
@[simp] theorem State.supersede_frame (s : State) (l : List OutFrame) :
    (s.supersede l).pending = s.pending ∧ (s.supersede l).pins = s.pins ∧ (s.supersede l).cfl = s.cfl ∧ (s.supersede
      l).btu = s.btu ∧ (s.supersede l).rdu = s.rdu ∧ (s.supersede l).idt = s.idt ∧ (s.supersede l).rrv = s.rrv ∧
      (s.supersede l).dvs = s.dvs ∧ (s.supersede l).cfg = s.cfg := by
  simp only [State.supersede]; simp

/-! ### collide -/

/-- What collide leaves. -/
@[simp] theorem State.collide_frame (s : State) :
    (s.collide).pending = s.pending ∧ (s.collide).pins = s.pins ∧ (s.collide).cfl = s.cfl ∧ (s.collide).btu = s.btu ∧
      (s.collide).rdu = s.rdu ∧ (s.collide).idt = s.idt ∧ (s.collide).rrv = s.rrv ∧ (s.collide).dvs = s.dvs ∧
      (s.collide).cfg = s.cfg := by
  simp only [State.collide]; simp

/-! ### waitAgain -/

/-- What waitAgain leaves. -/
@[simp] theorem State.waitAgain_frame (s : State) (f : OutFrame) (l : List OutFrame) (b : Bool) :
    (s.waitAgain f l b).pending = s.pending ∧ (s.waitAgain f l b).pins = s.pins ∧ (s.waitAgain f l b).cfl = s.cfl ∧
      (s.waitAgain f l b).btu = s.btu ∧ (s.waitAgain f l b).rdu = s.rdu ∧ (s.waitAgain f l b).idt = s.idt ∧ (s.waitAgain
      f l b).rrv = s.rrv ∧ (s.waitAgain f l b).dvs = s.dvs ∧ (s.waitAgain f l b).stu = s.stu ∧ (s.waitAgain f l b).cfg =
      s.cfg := by
  simp only [State.waitAgain]; simp

/-! ### dropFailed -/

/-- What dropFailed leaves. -/
@[simp] theorem State.dropFailed_frame (s : State) (l : List OutFrame) :
    (s.dropFailed l).pending = s.pending ∧ (s.dropFailed l).pins = s.pins ∧ (s.dropFailed l).cfl = s.cfl ∧ (s.dropFailed
      l).btu = s.btu ∧ (s.dropFailed l).rdu = s.rdu ∧ (s.dropFailed l).idt = s.idt ∧ (s.dropFailed l).rrv = s.rrv ∧
      (s.dropFailed l).dvs = s.dvs ∧ (s.dropFailed l).cfg = s.cfg := by
  simp only [State.dropFailed]; simp

/-! ### attemptFailed -/

/-- What attemptFailed leaves. -/
@[simp] theorem State.attemptFailed_frame (s : State) (f : OutFrame) (l : List OutFrame) :
    (s.attemptFailed f l).pending = s.pending ∧ (s.attemptFailed f l).pins = s.pins ∧ (s.attemptFailed f l).cfl = s.cfl
      ∧ (s.attemptFailed f l).btu = s.btu ∧ (s.attemptFailed f l).rdu = s.rdu ∧ (s.attemptFailed f l).idt = s.idt ∧
      (s.attemptFailed f l).rrv = s.rrv ∧ (s.attemptFailed f l).dvs = s.dvs ∧ (s.attemptFailed f l).cfg = s.cfg := by
  simp only [State.attemptFailed]; (repeat' split) <;> simp

/-! ### attemptLost -/

/-- What attemptLost leaves. -/
@[simp] theorem State.attemptLost_frame (s : State) (f : OutFrame) (l : List OutFrame) :
    (s.attemptLost f l).pending = s.pending ∧ (s.attemptLost f l).pins = s.pins ∧ (s.attemptLost f l).cfl = s.cfl ∧
      (s.attemptLost f l).btu = s.btu ∧ (s.attemptLost f l).rdu = s.rdu ∧ (s.attemptLost f l).idt = s.idt ∧
      (s.attemptLost f l).rrv = s.rrv ∧ (s.attemptLost f l).dvs = s.dvs ∧ (s.attemptLost f l).cfg = s.cfg := by
  simp only [State.attemptLost]; (repeat' split) <;> simp

/-! ### attemptSent -/

/-- What attemptSent leaves. -/
@[simp] theorem State.attemptSent_frame (s : State) (l : List OutFrame) :
    (s.attemptSent l).pending = s.pending ∧ (s.attemptSent l).pins = s.pins ∧ (s.attemptSent l).cfl = s.cfl ∧
      (s.attemptSent l).btu = s.btu ∧ (s.attemptSent l).rdu = s.rdu ∧ (s.attemptSent l).idt = s.idt ∧ (s.attemptSent
      l).rrv = s.rrv ∧ (s.attemptSent l).dvs = s.dvs ∧ (s.attemptSent l).cfg = s.cfg := by
  simp only [State.attemptSent]; simp

/-! ### endAttempt -/

/-- What endAttempt leaves. -/
@[simp] theorem State.endAttempt_frame (s : State) (f : OutFrame) (l : List OutFrame) (o : AttemptOutcome) :
    (s.endAttempt f l o).pending = s.pending ∧ (s.endAttempt f l o).pins = s.pins ∧ (s.endAttempt f l o).cfl = s.cfl ∧
      (s.endAttempt f l o).btu = s.btu ∧ (s.endAttempt f l o).rdu = s.rdu ∧ (s.endAttempt f l o).idt = s.idt ∧
      (s.endAttempt f l o).rrv = s.rrv ∧ (s.endAttempt f l o).dvs = s.dvs ∧ (s.endAttempt f l o).cfg = s.cfg := by
  simp only [State.endAttempt]; (repeat' split) <;> simp

/-! ### refresh -/

/-- What refresh leaves. -/
@[simp] theorem State.refresh_frame (s : State) (c : StationConfig) :
    (s.refresh c).pending = s.pending ∧ (s.refresh c).pins = s.pins ∧ (s.refresh c).cfl = s.cfl ∧ (s.refresh c).rdu =
      s.rdu ∧ (s.refresh c).idt = s.idt ∧ (s.refresh c).cfg = s.cfg := by
  simp only [State.refresh]; simp

/-! ### zeroFlow -/

/-- What zeroFlow leaves. -/
@[simp] theorem State.zeroFlow_frame (s : State) :
    (s.zeroFlow).pending = s.pending ∧ (s.zeroFlow).pins = s.pins ∧ (s.zeroFlow).cfl = s.cfl ∧ (s.zeroFlow).rdu = s.rdu
      ∧ (s.zeroFlow).idt = s.idt ∧ (s.zeroFlow).rrv = s.rrv ∧ (s.zeroFlow).dvs = s.dvs ∧ (s.zeroFlow).hlc = s.hlc ∧
      (s.zeroFlow).stu = s.stu ∧ (s.zeroFlow).cfg = s.cfg := by
  simp only [State.zeroFlow]; simp

/-! ### zeroGroup -/

/-- What zeroGroup leaves. -/
@[simp] theorem State.zeroGroup_frame (s : State) (n : Nat) :
    (s.zeroGroup n).pending = s.pending ∧ (s.zeroGroup n).pins = s.pins ∧ (s.zeroGroup n).cfl = s.cfl ∧ (s.zeroGroup
      n).rdu = s.rdu ∧ (s.zeroGroup n).idt = s.idt ∧ (s.zeroGroup n).rrv = s.rrv ∧ (s.zeroGroup n).dvs = s.dvs ∧
      (s.zeroGroup n).hlc = s.hlc ∧ (s.zeroGroup n).cfg = s.cfg := by
  simp only [State.zeroGroup]; (repeat' split) <;> simp [State.cfg]

/-! ### takeQuery -/

/-- What takeQuery leaves. -/
@[simp] theorem State.takeQuery_frame (s : State) (c : StationConfig) (q : Query) :
    (s.takeQuery c q).pending = s.pending ∧ (s.takeQuery c q).pins = s.pins ∧ (s.takeQuery c q).cfl = s.cfl ∧
      (s.takeQuery c q).rdu = s.rdu ∧ (s.takeQuery c q).rrv = s.rrv ∧ (s.takeQuery c q).cfg = s.cfg := by
  simp only [State.takeQuery]; (repeat' split) <;> simp

/-! ### screenQuery -/

/-- What screenQuery leaves. -/
@[simp] theorem State.screenQuery_frame (s : State) (c : StationConfig) (q : Query) :
    (s.screenQuery c q).pending = s.pending ∧ (s.screenQuery c q).pins = s.pins ∧ (s.screenQuery c q).cfl = s.cfl ∧
      (s.screenQuery c q).rdu = s.rdu ∧ (s.screenQuery c q).rrv = s.rrv ∧ (s.screenQuery c q).cfg = s.cfg := by
  simp only [State.screenQuery]; (repeat' split) <;> simp

/-! ### statusQuery -/

/-- What statusQuery leaves. -/
@[simp] theorem State.statusQuery_frame (s : State) (f : RxFrame) :
    (s.statusQuery f).pending = s.pending ∧ (s.statusQuery f).pins = s.pins ∧ (s.statusQuery f).cfl = s.cfl ∧
      (s.statusQuery f).rdu = s.rdu ∧ (s.statusQuery f).rrv = s.rrv ∧ (s.statusQuery f).cfg = s.cfg := by
  simp only [State.statusQuery, State.receive]; (repeat' split) <;> simp

/-! ### ambiguousCandidate -/

/-- What ambiguousCandidate leaves. -/
@[simp] theorem State.ambiguousCandidate_frame (s : State) (c : StationConfig) (r : SegRec) :
    (s.ambiguousCandidate c r).pending = s.pending ∧ (s.ambiguousCandidate c r).pins = s.pins ∧ (s.ambiguousCandidate c
      r).cfl = s.cfl ∧ (s.ambiguousCandidate c r).rdu = s.rdu ∧ (s.ambiguousCandidate c r).idt = s.idt ∧
      (s.ambiguousCandidate c r).rrv = s.rrv ∧ (s.ambiguousCandidate c r).cfg = s.cfg := by
  simp only [State.ambiguousCandidate]; (repeat' split) <;> simp

/-! ### ambiguousRead -/

/-- What ambiguousRead leaves. -/
@[simp] theorem State.ambiguousRead_frame (s : State) (c : StationConfig) (rs : List SegRec) :
    (s.ambiguousRead c rs).pending = s.pending ∧ (s.ambiguousRead c rs).pins = s.pins ∧ (s.ambiguousRead c rs).cfl =
      s.cfl ∧ (s.ambiguousRead c rs).rdu = s.rdu ∧ (s.ambiguousRead c rs).idt = s.idt ∧ (s.ambiguousRead c rs).rrv =
      s.rrv ∧ (s.ambiguousRead c rs).cfg = s.cfg := by
  have h := foldl_keeps (fun t : State => (t.pending, t.pins, t.cfl, t.rdu, t.idt, t.rrv, t.cfg))
    (fun t (r : SegRec) => t.ambiguousCandidate c r) (by intro t a; simp) rs ((s.bump .ambiguousRead).raiseEv .ambiguousRead)
  simpa [State.ambiguousRead, and_assoc] using h

/-! ### failedRead -/

/-- What failedRead leaves. -/
@[simp] theorem State.failedRead_frame (s : State) (c : StationConfig) (r : SegRec) (x : Reason) :
    (s.failedRead c r x).pending = s.pending ∧ (s.failedRead c r x).pins = s.pins ∧ (s.failedRead c r x).cfl = s.cfl ∧
      (s.failedRead c r x).rdu = s.rdu ∧ (s.failedRead c r x).idt = s.idt ∧ (s.failedRead c r x).rrv = s.rrv ∧
      (s.failedRead c r x).cfg = s.cfg := by
  simp only [State.failedRead]; (repeat' split) <;> simp

/-! ### conflict -/

/-- What conflict leaves. -/
@[simp] theorem State.conflict_frame (s : State) (c : StationConfig) (r : SegRec) :
    (s.conflict c r).pending = s.pending ∧ (s.conflict c r).pins = s.pins ∧ (s.conflict c r).cfl = s.cfl ∧ (s.conflict c
      r).rdu = s.rdu ∧ (s.conflict c r).idt = s.idt ∧ (s.conflict c r).rrv = s.rrv ∧ (s.conflict c r).cfg = s.cfg := by
  simp only [State.conflict]; simp

/-- What findEntry leaves. -/
@[simp] theorem State.findEntry_frame (s : State) (c : StationConfig) (sl : Sailing) (i : Identity) :
    (s.findEntry c sl i).1.pending = s.pending ∧ (s.findEntry c sl i).1.pins = s.pins ∧ (s.findEntry c sl i).1.cfl =
      s.cfl ∧ (s.findEntry c sl i).1.rdu = s.rdu ∧ (s.findEntry c sl i).1.rrv = s.rrv ∧ (s.findEntry c sl i).1.cfg =
      s.cfg := by
  simp only [State.findEntry]; (repeat' split) <;> simp

/-- What find leaves. -/
@[simp] theorem State.find_frame (s : State) (c : StationConfig) (rc : ReaderConfig) (i : Identity) :
    (s.find c rc i).1.pending = s.pending ∧ (s.find c rc i).1.pins = s.pins ∧ (s.find c rc i).1.cfl = s.cfl ∧ (s.find c
      rc i).1.rdu = s.rdu ∧ (s.find c rc i).1.rrv = s.rrv ∧ (s.find c rc i).1.cfg = s.cfg := by
  simp only [State.find]; (repeat' split) <;> simp

/-! ### writeEntryDest -/

/-- What writeEntryDest leaves. -/
@[simp] theorem State.writeEntryDest_frame (s : State) (f : Finding) (d : Option Nat) :
    (s.writeEntryDest f d).pending = s.pending ∧ (s.writeEntryDest f d).pins = s.pins ∧ (s.writeEntryDest f d).cfl =
      s.cfl ∧ (s.writeEntryDest f d).btu = s.btu ∧ (s.writeEntryDest f d).rdu = s.rdu ∧ (s.writeEntryDest f d).rrv =
      s.rrv ∧ (s.writeEntryDest f d).dvs = s.dvs ∧ (s.writeEntryDest f d).hlc = s.hlc ∧ (s.writeEntryDest f d).stu =
      s.stu ∧ (s.writeEntryDest f d).cfg = s.cfg := by
  simp only [State.writeEntryDest]; (repeat' split) <;> simp

/-! ### reportWrite -/

/-- What reportWrite leaves. -/
@[simp] theorem State.reportWrite_frame (s : State) (c : StationConfig) (f : Finding) (r : SegRec) :
    (s.reportWrite c f r).pending = s.pending ∧ (s.reportWrite c f r).pins = s.pins ∧ (s.reportWrite c f r).cfl = s.cfl
      ∧ (s.reportWrite c f r).btu = s.btu ∧ (s.reportWrite c f r).rdu = s.rdu ∧ (s.reportWrite c f r).idt = s.idt ∧
      (s.reportWrite c f r).rrv = s.rrv ∧ (s.reportWrite c f r).dvs = s.dvs ∧ (s.reportWrite c f r).cfg = s.cfg := by
  simp only [State.reportWrite]; (repeat' split) <;> simp

/-! ### writeFinding -/

/-- What writeFinding leaves. -/
@[simp] theorem State.writeFinding_frame (s : State) (c : StationConfig) (f : Finding) (r : SegRec) :
    (s.writeFinding c f r).pending = s.pending ∧ (s.writeFinding c f r).pins = s.pins ∧ (s.writeFinding c f r).cfl =
      s.cfl ∧ (s.writeFinding c f r).rdu = s.rdu ∧ (s.writeFinding c f r).rrv = s.rrv ∧ (s.writeFinding c f r).cfg =
      s.cfg := by
  simp only [State.writeFinding]; (repeat' split) <;> simp

/-! ### takeRace -/

/-- What takeRace leaves. -/
@[simp] theorem State.takeRace_frame (s : State) (c : StationConfig) (x : Option Race) :
    (s.takeRace c x).pending = s.pending ∧ (s.takeRace c x).cfl = s.cfl ∧ (s.takeRace c x).rdu = s.rdu ∧ (s.takeRace c
      x).cfg = s.cfg := by
  simp only [State.takeRace]; (repeat' split) <;> simp

/-! ### identify -/

/-- What identify leaves. -/
@[simp] theorem State.identify_frame (s : State) (c : StationConfig) (rc : ReaderConfig) (i : Identity) (r : SegRec) (x : Option Race) :
    (s.identify c rc i r x).pending = s.pending ∧ (s.identify c rc i r x).cfl = s.cfl ∧ (s.identify c rc i r x).rdu =
      s.rdu ∧ (s.identify c rc i r x).cfg = s.cfg := by
  simp only [State.identify]; simp

/-! ### singleRead -/

/-- What singleRead leaves. -/
@[simp] theorem State.singleRead_frame (s : State) (c : StationConfig) (rc : ReaderConfig) (k : Scan) (r : SegRec) (x : Option Race) :
    (s.singleRead c rc k r x).pending = s.pending ∧ (s.singleRead c rc k r x).cfl = s.cfl ∧ (s.singleRead c rc k r
      x).rdu = s.rdu ∧ (s.singleRead c rc k r x).cfg = s.cfg := by
  simp only [State.singleRead]; (repeat' split) <;> simp

/-! ### associate -/

/-- What associate leaves. -/
@[simp] theorem State.associate_frame (s : State) (c : StationConfig) (rc : ReaderConfig) (k : Scan) (x : Option Race) :
    (s.associate c rc k x).pending = s.pending ∧ (s.associate c rc k x).cfl = s.cfl ∧ (s.associate c rc k x).rdu = s.rdu
      ∧ (s.associate c rc k x).cfg = s.cfg := by
  simp only [State.associate]; (repeat' split) <;> simp

/-! ### deskRefuse -/

/-- What deskRefuse leaves. -/
@[simp] theorem State.deskRefuse_frame (s : State) (k : Ctr) :
    (s.deskRefuse k).pending = s.pending ∧ (s.deskRefuse k).pins = s.pins ∧ (s.deskRefuse k).cfl = s.cfl ∧ (s.deskRefuse
      k).btu = s.btu ∧ (s.deskRefuse k).rdu = s.rdu ∧ (s.deskRefuse k).idt = s.idt ∧ (s.deskRefuse k).rrv = s.rrv ∧
      (s.deskRefuse k).dvs = s.dvs ∧ (s.deskRefuse k).hlc = s.hlc ∧ (s.deskRefuse k).cfg = s.cfg := by
  simp only [State.deskRefuse]; simp

/-! ### deskAccept -/

/-- What deskAccept leaves. -/
@[simp] theorem State.deskAccept_frame (s : State) (c : StationConfig) (i : Identity) (d : Nat) :
    (s.deskAccept c i d).pending = s.pending ∧ (s.deskAccept c i d).pins = s.pins ∧ (s.deskAccept c i d).cfl = s.cfl ∧
      (s.deskAccept c i d).rdu = s.rdu ∧ (s.deskAccept c i d).rrv = s.rrv ∧ (s.deskAccept c i d).cfg = s.cfg := by
  simp only [State.deskAccept]; (repeat' split) <;> simp

/-! ### deskRecord -/

/-- What deskRecord leaves. -/
@[simp] theorem State.deskRecord_frame (s : State) (c : StationConfig) (rc : ReaderConfig) (b : Bool) (i : Identity) :
    (s.deskRecord c rc b i).pending = s.pending ∧ (s.deskRecord c rc b i).pins = s.pins ∧ (s.deskRecord c rc b i).cfl =
      s.cfl ∧ (s.deskRecord c rc b i).rdu = s.rdu ∧ (s.deskRecord c rc b i).rrv = s.rrv ∧ (s.deskRecord c rc b i).cfg =
      s.cfg := by
  simp only [State.deskRecord]; (repeat' split) <;> simp

/-! ### scanAbandon -/

/-- What scanAbandon leaves. -/
@[simp] theorem State.scanAbandon_frame (s : State) :
    (s.scanAbandon).pending = s.pending ∧ (s.scanAbandon).pins = s.pins ∧ (s.scanAbandon).cfl = s.cfl ∧
      (s.scanAbandon).btu = s.btu ∧ (s.scanAbandon).rdu = s.rdu ∧ (s.scanAbandon).idt = s.idt ∧ (s.scanAbandon).rrv =
      s.rrv ∧ (s.scanAbandon).dvs = s.dvs ∧ (s.scanAbandon).hlc = s.hlc ∧ (s.scanAbandon).cfg = s.cfg := by
  simp only [State.scanAbandon]; simp

/-! ### receipt -/

/-- What receipt leaves. -/
@[simp] theorem State.receipt_frame (s : State) (c : StationConfig) (h : List Byte) (x : Option Race) :
    (s.receipt c h x).pending = s.pending ∧ (s.receipt c h x).cfl = s.cfl ∧ (s.receipt c h x).rdu = s.rdu ∧ (s.receipt c
      h x).cfg = s.cfg := by
  simp only [State.receipt]; (repeat' split) <;> simp

/-! ### byteIdle -/

/-- What byteIdle leaves. -/
@[simp] theorem State.byteIdle_frame (s : State) (b : Byte) (f : Bool) :
    (s.byteIdle b f).pending = s.pending ∧ (s.byteIdle b f).pins = s.pins ∧ (s.byteIdle b f).cfl = s.cfl ∧ (s.byteIdle b
      f).btu = s.btu ∧ (s.byteIdle b f).idt = s.idt ∧ (s.byteIdle b f).rrv = s.rrv ∧ (s.byteIdle b f).dvs = s.dvs ∧
      (s.byteIdle b f).hlc = s.hlc ∧ (s.byteIdle b f).cfg = s.cfg := by
  simp only [State.byteIdle]; (repeat' split) <;> simp

/-! ### byteAssembling -/

/-- What byteAssembling leaves. -/
@[simp] theorem State.byteAssembling_frame (s : State) (c : StationConfig) (h : List Byte) (b : Byte) (f : Bool) (x : Option Race) :
    (s.byteAssembling c h b f x).pending = s.pending ∧ (s.byteAssembling c h b f x).cfl = s.cfl ∧ (s.byteAssembling c h
      b f x).cfg = s.cfg := by
  simp only [State.byteAssembling]; (repeat' split) <;> simp

/-! ### byteDiscarding -/

/-- What byteDiscarding leaves. -/
@[simp] theorem State.byteDiscarding_frame (s : State) (b : Byte) (f : Bool) :
    (s.byteDiscarding b f).pending = s.pending ∧ (s.byteDiscarding b f).pins = s.pins ∧ (s.byteDiscarding b f).cfl =
      s.cfl ∧ (s.byteDiscarding b f).btu = s.btu ∧ (s.byteDiscarding b f).idt = s.idt ∧ (s.byteDiscarding b f).rrv =
      s.rrv ∧ (s.byteDiscarding b f).dvs = s.dvs ∧ (s.byteDiscarding b f).hlc = s.hlc ∧ (s.byteDiscarding b f).stu =
      s.stu ∧ (s.byteDiscarding b f).cfg = s.cfg := by
  simp only [State.byteDiscarding]; (repeat' split) <;> simp

/-! ### startBtu -/

/-- What startBtu leaves. -/
@[simp] theorem State.startBtu_frame (s : State) (c : StationConfig) :
    (s.startBtu c).pending = s.pending ∧ (s.startBtu c).pins = s.pins ∧ (s.startBtu c).cfl = s.cfl ∧ (s.startBtu c).rdu
      = s.rdu ∧ (s.startBtu c).idt = s.idt ∧ (s.startBtu c).rrv = s.rrv ∧ (s.startBtu c).dvs = s.dvs ∧ (s.startBtu
      c).hlc = s.hlc ∧ (s.startBtu c).stu = s.stu ∧ (s.startBtu c).cfg = s.cfg := by
  simp only [State.startBtu]; simp

/-! ### startTimers -/

/-- What startTimers leaves. -/
@[simp] theorem State.startTimers_frame (s : State) :
    (s.startTimers).pending = s.pending ∧ (s.startTimers).pins = s.pins ∧ (s.startTimers).cfl = s.cfl ∧
      (s.startTimers).btu = s.btu ∧ (s.startTimers).rdu = s.rdu ∧ (s.startTimers).rrv = s.rrv ∧ (s.startTimers).dvs =
      s.dvs ∧ (s.startTimers).stu = s.stu ∧ (s.startTimers).cfg = s.cfg := by
  simp only [State.startTimers]; simp [State.cfg]

/-! ### countSkipped -/

/-- What countSkipped leaves. -/
@[simp] theorem State.countSkipped_frame (s : State) (n : Nat) :
    (s.countSkipped n).pending = s.pending ∧ (s.countSkipped n).pins = s.pins ∧ (s.countSkipped n).cfl = s.cfl ∧
      (s.countSkipped n).btu = s.btu ∧ (s.countSkipped n).rdu = s.rdu ∧ (s.countSkipped n).idt = s.idt ∧ (s.countSkipped
      n).rrv = s.rrv ∧ (s.countSkipped n).dvs = s.dvs ∧ (s.countSkipped n).hlc = s.hlc ∧ (s.countSkipped n).cfg = s.cfg := by
  simp only [State.countSkipped]; (repeat' split) <;> simp

end Sys2Proof.Machine
end

