-- ==== Sys2Proof/Laws/Parts.lean ====
section
/-! SUPPORT. What each shared operation leaves inside the parts of the station it works on: the fields of the tracking unit and
the names of its records, the line controller beside its queue, the diverters beside their grants. -/

namespace Sys2Proof.Machine

open Sys2Proof

/-- A reference names a record in the queue when one of its records bears that name. -/
theorem findRec_isSome (s : State) (ref : RecRef) : (s.findRec ref).isSome = (s.btu.queue.map SegRec.ref).contains ref := by
  unfold State.findRec
  induction s.btu.queue with
  | nil => rfl
  | cons a l ih =>
    by_cases h : a.ref = ref
    · simp [h]
    · have h' : ¬ ref = a.ref := fun e => h e.symm
      simp only [List.find?_cons, List.map_cons, List.contains_cons, show (a.ref == ref) = false by simpa using h, ih,
        show (ref == a.ref) = false by simpa using h', Bool.false_or]

/-- An addressed change is the change of every record of that name, of none when there is none (R17). -/
@[simp] theorem State.updateRec_btu (s : State) (ref : RecRef) (f : SegRec → SegRec) :
    (s.updateRec ref f).btu = { s.btu with queue := s.btu.queue.map fun q => if q.ref = ref then f q else q } := by
  unfold State.updateRec
  split
  · simp
  · rename_i h
    have hn : ∀ q ∈ s.btu.queue, ¬ q.ref = ref := by
      intro q hq he
      rw [findRec_isSome] at h
      exact h (by simp; exact ⟨q, hq, he⟩)
    have : (s.btu.queue.map fun q => if q.ref = ref then f q else q) = s.btu.queue := by
      rw [List.map_congr_left (g := id)]
      · simp
      · intro q hq; simp [hn q hq]
    simp [this]

/-- What joinFrame leaves of the line controller. -/
@[simp] theorem State.joinFrame_hlc_frame (s : State) (f : Frame) (q : List OutFrame) :
    (s.joinFrame f q).hlc.line = s.hlc.line ∧ (s.joinFrame f q).hlc.tally = s.hlc.tally ∧ (s.joinFrame f q).hlc.quietMs
      = s.hlc.quietMs ∧ (s.joinFrame f q).hlc.dup = s.hlc.dup ∧ (s.joinFrame f q).hlc.refreshMs = s.hlc.refreshMs ∧
      (s.joinFrame f q).hlc.objection = s.hlc.objection := by
  simp only [State.joinFrame]; simp

/-- What queueFrame leaves of the line controller. -/
@[simp] theorem State.queueFrame_hlc_frame (s : State) (f : Frame) :
    (s.queueFrame f).hlc.line = s.hlc.line ∧ (s.queueFrame f).hlc.tally = s.hlc.tally ∧ (s.queueFrame f).hlc.quietMs =
      s.hlc.quietMs ∧ (s.queueFrame f).hlc.dup = s.hlc.dup ∧ (s.queueFrame f).hlc.refreshMs = s.hlc.refreshMs ∧
      (s.queueFrame f).hlc.objection = s.hlc.objection := by
  simp only [State.queueFrame]; (repeat' split) <;> simp

/-- What queueSegmentState leaves of the line controller. -/
@[simp] theorem State.queueSegmentState_hlc_frame (s : State) :
    (s.queueSegmentState).hlc.line = s.hlc.line ∧ (s.queueSegmentState).hlc.tally = s.hlc.tally ∧
      (s.queueSegmentState).hlc.quietMs = s.hlc.quietMs ∧ (s.queueSegmentState).hlc.dup = s.hlc.dup ∧
      (s.queueSegmentState).hlc.refreshMs = s.hlc.refreshMs ∧ (s.queueSegmentState).hlc.objection = s.hlc.objection := by
  simp only [State.queueSegmentState]; simp

/-- What evalBlocked leaves of the line controller. -/
@[simp] theorem State.evalBlocked_hlc_frame (s : State) (c : StationConfig) :
    (s.evalBlocked c).hlc.line = s.hlc.line ∧ (s.evalBlocked c).hlc.tally = s.hlc.tally ∧ (s.evalBlocked c).hlc.quietMs
      = s.hlc.quietMs ∧ (s.evalBlocked c).hlc.dup = s.hlc.dup ∧ (s.evalBlocked c).hlc.refreshMs = s.hlc.refreshMs ∧
      (s.evalBlocked c).hlc.objection = s.hlc.objection := by
  simp only [State.evalBlocked]; split <;> simp

/-- What evalPermit leaves of the line controller. -/
@[simp] theorem State.evalPermit_hlc_frame (s : State) (c : StationConfig) :
    (s.evalPermit c).hlc.line = s.hlc.line ∧ (s.evalPermit c).hlc.tally = s.hlc.tally ∧ (s.evalPermit c).hlc.quietMs =
      s.hlc.quietMs ∧ (s.evalPermit c).hlc.dup = s.hlc.dup ∧ (s.evalPermit c).hlc.refreshMs = s.hlc.refreshMs ∧
      (s.evalPermit c).hlc.objection = s.hlc.objection := by
  simp only [State.evalPermit]; simp

/-- What offer leaves of the line controller. -/
@[simp] theorem State.offer_hlc_frame (s : State) (c : StationConfig) (r : RecRef) (x : Reason) :
    (s.offer c r x).hlc.line = s.hlc.line ∧ (s.offer c r x).hlc.tally = s.hlc.tally ∧ (s.offer c r x).hlc.quietMs =
      s.hlc.quietMs ∧ (s.offer c r x).hlc.dup = s.hlc.dup ∧ (s.offer c r x).hlc.refreshMs = s.hlc.refreshMs ∧ (s.offer c
      r x).hlc.objection = s.hlc.objection := by
  simp only [State.offer]; (repeat' split) <;> simp

/-- What remove leaves of the line controller. -/
@[simp] theorem State.remove_hlc_frame (s : State) (c : StationConfig) (r : RecRef) (k : Cause) :
    (s.remove c r k).hlc.line = s.hlc.line ∧ (s.remove c r k).hlc.tally = s.hlc.tally ∧ (s.remove c r k).hlc.quietMs =
      s.hlc.quietMs ∧ (s.remove c r k).hlc.dup = s.hlc.dup ∧ (s.remove c r k).hlc.refreshMs = s.hlc.refreshMs ∧
      (s.remove c r k).hlc.objection = s.hlc.objection := by
  simp only [State.remove]; split <;> simp

/-- What removeOverdue leaves of the line controller. -/
@[simp] theorem State.removeOverdue_hlc_frame (s : State) (c : StationConfig) (r : SegRec) :
    (s.removeOverdue c r).hlc.line = s.hlc.line ∧ (s.removeOverdue c r).hlc.tally = s.hlc.tally ∧ (s.removeOverdue c
      r).hlc.quietMs = s.hlc.quietMs ∧ (s.removeOverdue c r).hlc.dup = s.hlc.dup ∧ (s.removeOverdue c r).hlc.refreshMs =
      s.hlc.refreshMs ∧ (s.removeOverdue c r).hlc.objection = s.hlc.objection := by
  simp only [State.removeOverdue]; simp

/-- What the overdue test leaves of the line controller. -/
@[simp] theorem State.settleOverdue_hlc_frame (c : StationConfig) (n : Nat) (s : State) :
    (s.settleOverdue c n).hlc.line = s.hlc.line ∧ (s.settleOverdue c n).hlc.tally = s.hlc.tally ∧ (s.settleOverdue c
      n).hlc.quietMs = s.hlc.quietMs ∧ (s.settleOverdue c n).hlc.dup = s.hlc.dup ∧ (s.settleOverdue c n).hlc.refreshMs =
      s.hlc.refreshMs ∧ (s.settleOverdue c n).hlc.objection = s.hlc.objection := by
  induction n generalizing s with
  | zero => simp [State.settleOverdue]
  | succ n ih => simp only [State.settleOverdue]; split <;> simp [ih]

/-- What settle leaves of the line controller. -/
@[simp] theorem State.settle_hlc_frame (s : State) (c : StationConfig) :
    (s.settle c).hlc.line = s.hlc.line ∧ (s.settle c).hlc.tally = s.hlc.tally ∧ (s.settle c).hlc.quietMs = s.hlc.quietMs
      ∧ (s.settle c).hlc.dup = s.hlc.dup ∧ (s.settle c).hlc.refreshMs = s.hlc.refreshMs ∧ (s.settle c).hlc.objection =
      s.hlc.objection := by
  simp only [State.settle]; simp

/-- What segmentClear leaves of the line controller. -/
@[simp] theorem State.segmentClear_hlc_frame (s : State) (c : StationConfig) :
    (s.segmentClear c).hlc.line = s.hlc.line ∧ (s.segmentClear c).hlc.tally = s.hlc.tally ∧ (s.segmentClear
      c).hlc.quietMs = s.hlc.quietMs ∧ (s.segmentClear c).hlc.dup = s.hlc.dup ∧ (s.segmentClear c).hlc.refreshMs =
      s.hlc.refreshMs ∧ (s.segmentClear c).hlc.objection = s.hlc.objection := by
  simp only [State.segmentClear]; simp

/-- What sendChuteState leaves of the line controller. -/
@[simp] theorem State.sendChuteState_hlc_frame (s : State) (d : Div) (a : Account) :
    (s.sendChuteState d a).hlc.line = s.hlc.line ∧ (s.sendChuteState d a).hlc.tally = s.hlc.tally ∧ (s.sendChuteState d
      a).hlc.quietMs = s.hlc.quietMs ∧ (s.sendChuteState d a).hlc.dup = s.hlc.dup ∧ (s.sendChuteState d a).hlc.refreshMs
      = s.hlc.refreshMs ∧ (s.sendChuteState d a).hlc.objection = s.hlc.objection := by
  simp only [State.sendChuteState]; simp

/-- What changeAccount leaves of the line controller. -/
@[simp] theorem State.changeAccount_hlc_frame (s : State) (c : StationConfig) (d : Div) (f : Account → Account) :
    (s.changeAccount c d f).hlc.line = s.hlc.line ∧ (s.changeAccount c d f).hlc.tally = s.hlc.tally ∧ (s.changeAccount c
      d f).hlc.quietMs = s.hlc.quietMs ∧ (s.changeAccount c d f).hlc.dup = s.hlc.dup ∧ (s.changeAccount c d
      f).hlc.refreshMs = s.hlc.refreshMs ∧ (s.changeAccount c d f).hlc.objection = s.hlc.objection := by
  simp only [State.changeAccount]; (repeat' split) <;> simp

/-- What fillRise leaves of the line controller. -/
@[simp] theorem State.fillRise_hlc_frame (s : State) (c : StationConfig) (d : Div) (n : Nat) :
    (s.fillRise c d n).hlc.line = s.hlc.line ∧ (s.fillRise c d n).hlc.tally = s.hlc.tally ∧ (s.fillRise c d
      n).hlc.quietMs = s.hlc.quietMs ∧ (s.fillRise c d n).hlc.dup = s.hlc.dup ∧ (s.fillRise c d n).hlc.refreshMs =
      s.hlc.refreshMs ∧ (s.fillRise c d n).hlc.objection = s.hlc.objection := by
  simp only [State.fillRise]; split <;> simp

/-- What makeAccount leaves of the line controller. -/
@[simp] theorem State.makeAccount_hlc_frame (s : State) (c : StationConfig) (d : Div) :
    (s.makeAccount c d).hlc.line = s.hlc.line ∧ (s.makeAccount c d).hlc.tally = s.hlc.tally ∧ (s.makeAccount c
      d).hlc.quietMs = s.hlc.quietMs ∧ (s.makeAccount c d).hlc.dup = s.hlc.dup ∧ (s.makeAccount c d).hlc.refreshMs =
      s.hlc.refreshMs ∧ (s.makeAccount c d).hlc.objection = s.hlc.objection := by
  simp only [State.makeAccount]; split <;> simp

/-- What refreshChute leaves of the line controller. -/
@[simp] theorem State.refreshChute_hlc_frame (s : State) (d : Div) :
    (s.refreshChute d).hlc.line = s.hlc.line ∧ (s.refreshChute d).hlc.tally = s.hlc.tally ∧ (s.refreshChute
      d).hlc.quietMs = s.hlc.quietMs ∧ (s.refreshChute d).hlc.dup = s.hlc.dup ∧ (s.refreshChute d).hlc.refreshMs =
      s.hlc.refreshMs ∧ (s.refreshChute d).hlc.objection = s.hlc.objection := by
  simp only [State.refreshChute]; split <;> simp

/-- What queueDivertDone leaves of the line controller. -/
@[simp] theorem State.queueDivertDone_hlc_frame (s : State) (n : Nat) (r : SegRec) (b : Bool) :
    (s.queueDivertDone n r b).hlc.line = s.hlc.line ∧ (s.queueDivertDone n r b).hlc.tally = s.hlc.tally ∧
      (s.queueDivertDone n r b).hlc.quietMs = s.hlc.quietMs ∧ (s.queueDivertDone n r b).hlc.dup = s.hlc.dup ∧
      (s.queueDivertDone n r b).hlc.refreshMs = s.hlc.refreshMs ∧ (s.queueDivertDone n r b).hlc.objection =
      s.hlc.objection := by
  simp only [State.queueDivertDone]; simp

/-- What confirm leaves of the line controller. -/
@[simp] theorem State.confirm_hlc_frame (s : State) (c : StationConfig) (d : Div) (v : DiverterConfig) (e : Confirm) (r : SegRec) :
    (s.confirm c d v e r).hlc.line = s.hlc.line ∧ (s.confirm c d v e r).hlc.tally = s.hlc.tally ∧ (s.confirm c d v e
      r).hlc.quietMs = s.hlc.quietMs ∧ (s.confirm c d v e r).hlc.dup = s.hlc.dup ∧ (s.confirm c d v e r).hlc.refreshMs =
      s.hlc.refreshMs ∧ (s.confirm c d v e r).hlc.objection = s.hlc.objection := by
  simp only [State.confirm]; simp

/-- What sweep leaves of the line controller. -/
@[simp] theorem State.sweep_hlc_frame (s : State) (c : StationConfig) (d : Div) (v : DiverterConfig) (r : SegRec) :
    (s.sweep c d v r).hlc.line = s.hlc.line ∧ (s.sweep c d v r).hlc.tally = s.hlc.tally ∧ (s.sweep c d v r).hlc.quietMs
      = s.hlc.quietMs ∧ (s.sweep c d v r).hlc.dup = s.hlc.dup ∧ (s.sweep c d v r).hlc.refreshMs = s.hlc.refreshMs ∧
      (s.sweep c d v r).hlc.objection = s.hlc.objection := by
  simp only [State.sweep]; simp

/-- What confirmEdge leaves of the line controller. -/
@[simp] theorem State.confirmEdge_hlc_frame (s : State) (c : StationConfig) (d : Div) (n : Count) :
    (s.confirmEdge c d n).hlc.line = s.hlc.line ∧ (s.confirmEdge c d n).hlc.tally = s.hlc.tally ∧ (s.confirmEdge c d
      n).hlc.quietMs = s.hlc.quietMs ∧ (s.confirmEdge c d n).hlc.dup = s.hlc.dup ∧ (s.confirmEdge c d n).hlc.refreshMs =
      s.hlc.refreshMs ∧ (s.confirmEdge c d n).hlc.objection = s.hlc.objection := by
  simp only [State.confirmEdge]; (repeat' split) <;> simp

/-- What testPasses leaves of the line controller. -/
@[simp] theorem State.testPasses_hlc_frame (s : State) (c : StationConfig) (r : RecRef) :
    (s.testPasses c r).hlc.line = s.hlc.line ∧ (s.testPasses c r).hlc.tally = s.hlc.tally ∧ (s.testPasses c
      r).hlc.quietMs = s.hlc.quietMs ∧ (s.testPasses c r).hlc.dup = s.hlc.dup ∧ (s.testPasses c r).hlc.refreshMs =
      s.hlc.refreshMs ∧ (s.testPasses c r).hlc.objection = s.hlc.objection := by
  simp only [State.testPasses]; (repeat' split) <;> simp

/-- What attachLate leaves of the line controller. -/
@[simp] theorem State.attachLate_hlc_frame (s : State) (c : StationConfig) (r : SegRec) (h : Handover) :
    (s.attachLate c r h).hlc.line = s.hlc.line ∧ (s.attachLate c r h).hlc.tally = s.hlc.tally ∧ (s.attachLate c r
      h).hlc.quietMs = s.hlc.quietMs ∧ (s.attachLate c r h).hlc.dup = s.hlc.dup ∧ (s.attachLate c r h).hlc.refreshMs =
      s.hlc.refreshMs ∧ (s.attachLate c r h).hlc.objection = s.hlc.objection := by
  simp only [State.attachLate]; simp

/-- What acceptHandover leaves of the line controller. -/
@[simp] theorem State.acceptHandover_hlc_frame (s : State) (c : StationConfig) (x : Source) (h : Handover) :
    (s.acceptHandover c x h).hlc.line = s.hlc.line ∧ (s.acceptHandover c x h).hlc.tally = s.hlc.tally ∧
      (s.acceptHandover c x h).hlc.quietMs = s.hlc.quietMs ∧ (s.acceptHandover c x h).hlc.dup = s.hlc.dup ∧
      (s.acceptHandover c x h).hlc.refreshMs = s.hlc.refreshMs ∧ (s.acceptHandover c x h).hlc.objection =
      s.hlc.objection := by
  simp only [State.acceptHandover]; (repeat' split) <;> simp

/-- What takeHandover leaves of the line controller. -/
@[simp] theorem State.takeHandover_hlc_frame (s : State) (c : StationConfig) (n : Nat) (h : Handover) :
    (s.takeHandover c n h).hlc.line = s.hlc.line ∧ (s.takeHandover c n h).hlc.tally = s.hlc.tally ∧ (s.takeHandover c n
      h).hlc.quietMs = s.hlc.quietMs ∧ (s.takeHandover c n h).hlc.dup = s.hlc.dup ∧ (s.takeHandover c n h).hlc.refreshMs
      = s.hlc.refreshMs ∧ (s.takeHandover c n h).hlc.objection = s.hlc.objection := by
  simp only [State.takeHandover]; (repeat' split) <;> simp

/-- What queueHandover leaves of the line controller. -/
@[simp] theorem State.queueHandover_hlc_frame (s : State) (c : StationConfig) (h : Handover) (x : Count) :
    (s.queueHandover c h x).hlc.line = s.hlc.line ∧ (s.queueHandover c h x).hlc.tally = s.hlc.tally ∧ (s.queueHandover c
      h x).hlc.quietMs = s.hlc.quietMs ∧ (s.queueHandover c h x).hlc.dup = s.hlc.dup ∧ (s.queueHandover c h
      x).hlc.refreshMs = s.hlc.refreshMs ∧ (s.queueHandover c h x).hlc.objection = s.hlc.objection := by
  simp only [State.queueHandover]; split <;> simp

/-- What join leaves of the line controller. -/
@[simp] theorem State.join_hlc_frame (s : State) (c : StationConfig) (r : SegRec) :
    (s.join c r).hlc.line = s.hlc.line ∧ (s.join c r).hlc.tally = s.hlc.tally ∧ (s.join c r).hlc.quietMs = s.hlc.quietMs
      ∧ (s.join c r).hlc.dup = s.hlc.dup ∧ (s.join c r).hlc.refreshMs = s.hlc.refreshMs ∧ (s.join c r).hlc.objection =
      s.hlc.objection := by
  simp only [State.join]; simp

/-- What joinAnnounced leaves of the line controller. -/
@[simp] theorem State.joinAnnounced_hlc_frame (s : State) (c : StationConfig) (n : Count) (x : ExpectRec) :
    (s.joinAnnounced c n x).hlc.line = s.hlc.line ∧ (s.joinAnnounced c n x).hlc.tally = s.hlc.tally ∧ (s.joinAnnounced c
      n x).hlc.quietMs = s.hlc.quietMs ∧ (s.joinAnnounced c n x).hlc.dup = s.hlc.dup ∧ (s.joinAnnounced c n
      x).hlc.refreshMs = s.hlc.refreshMs ∧ (s.joinAnnounced c n x).hlc.objection = s.hlc.objection := by
  simp only [State.joinAnnounced]; split <;> simp

/-- What openArrival leaves of the line controller. -/
@[simp] theorem State.openArrival_hlc_frame (s : State) (c : StationConfig) (n : Count) :
    (s.openArrival c n).hlc.line = s.hlc.line ∧ (s.openArrival c n).hlc.tally = s.hlc.tally ∧ (s.openArrival c
      n).hlc.quietMs = s.hlc.quietMs ∧ (s.openArrival c n).hlc.dup = s.hlc.dup ∧ (s.openArrival c n).hlc.refreshMs =
      s.hlc.refreshMs ∧ (s.openArrival c n).hlc.objection = s.hlc.objection := by
  simp only [State.openArrival]; (repeat' split) <;> simp

/-- What entryArrival leaves of the line controller. -/
@[simp] theorem State.entryArrival_hlc_frame (s : State) (c : StationConfig) (n : Count) :
    (s.entryArrival c n).hlc.line = s.hlc.line ∧ (s.entryArrival c n).hlc.tally = s.hlc.tally ∧ (s.entryArrival c
      n).hlc.quietMs = s.hlc.quietMs ∧ (s.entryArrival c n).hlc.dup = s.hlc.dup ∧ (s.entryArrival c n).hlc.refreshMs =
      s.hlc.refreshMs ∧ (s.entryArrival c n).hlc.objection = s.hlc.objection := by
  simp only [State.entryArrival]; (repeat' split) <;> simp

/-- What measure leaves of the line controller. -/
@[simp] theorem State.measure_hlc_frame (s : State) (c : StationConfig) (r : SegRec) (n : Count) :
    (s.measure c r n).hlc.line = s.hlc.line ∧ (s.measure c r n).hlc.tally = s.hlc.tally ∧ (s.measure c r n).hlc.quietMs
      = s.hlc.quietMs ∧ (s.measure c r n).hlc.dup = s.hlc.dup ∧ (s.measure c r n).hlc.refreshMs = s.hlc.refreshMs ∧
      (s.measure c r n).hlc.objection = s.hlc.objection := by
  simp only [State.measure]; (repeat' split) <;> simp

/-- What setGaps leaves of the line controller. -/
@[simp] theorem State.setGaps_hlc_frame (s : State) (c : StationConfig) (r : SegRec) :
    (s.setGaps c r).hlc.line = s.hlc.line ∧ (s.setGaps c r).hlc.tally = s.hlc.tally ∧ (s.setGaps c r).hlc.quietMs =
      s.hlc.quietMs ∧ (s.setGaps c r).hlc.dup = s.hlc.dup ∧ (s.setGaps c r).hlc.refreshMs = s.hlc.refreshMs ∧ (s.setGaps
      c r).hlc.objection = s.hlc.objection := by
  simp only [State.setGaps]; (repeat' split) <;> simp

/-- What entryTrailing leaves of the line controller. -/
@[simp] theorem State.entryTrailing_hlc_frame (s : State) (c : StationConfig) (n : Count) :
    (s.entryTrailing c n).hlc.line = s.hlc.line ∧ (s.entryTrailing c n).hlc.tally = s.hlc.tally ∧ (s.entryTrailing c
      n).hlc.quietMs = s.hlc.quietMs ∧ (s.entryTrailing c n).hlc.dup = s.hlc.dup ∧ (s.entryTrailing c n).hlc.refreshMs =
      s.hlc.refreshMs ∧ (s.entryTrailing c n).hlc.objection = s.hlc.objection := by
  simp only [State.entryTrailing]; (repeat' split) <;> simp

/-- What makeLong leaves of the line controller. -/
@[simp] theorem State.makeLong_hlc_frame (s : State) (c : StationConfig) (r : RecRef) :
    (s.makeLong c r).hlc.line = s.hlc.line ∧ (s.makeLong c r).hlc.tally = s.hlc.tally ∧ (s.makeLong c r).hlc.quietMs =
      s.hlc.quietMs ∧ (s.makeLong c r).hlc.dup = s.hlc.dup ∧ (s.makeLong c r).hlc.refreshMs = s.hlc.refreshMs ∧
      (s.makeLong c r).hlc.objection = s.hlc.objection := by
  simp only [State.makeLong]; simp

/-- What longBagReturn leaves of the line controller. -/
@[simp] theorem State.longBagReturn_hlc_frame (s : State) (c : StationConfig) :
    (s.longBagReturn c).hlc.line = s.hlc.line ∧ (s.longBagReturn c).hlc.tally = s.hlc.tally ∧ (s.longBagReturn
      c).hlc.quietMs = s.hlc.quietMs ∧ (s.longBagReturn c).hlc.dup = s.hlc.dup ∧ (s.longBagReturn c).hlc.refreshMs =
      s.hlc.refreshMs ∧ (s.longBagReturn c).hlc.objection = s.hlc.objection := by
  simp only [State.longBagReturn]; (repeat' split) <;> simp

/-- What passesRule leaves of the line controller. -/
@[simp] theorem State.passesRule_hlc_frame (s : State) (c : StationConfig) (r : SegRec) :
    (s.passesRule c r).hlc.line = s.hlc.line ∧ (s.passesRule c r).hlc.tally = s.hlc.tally ∧ (s.passesRule c
      r).hlc.quietMs = s.hlc.quietMs ∧ (s.passesRule c r).hlc.dup = s.hlc.dup ∧ (s.passesRule c r).hlc.refreshMs =
      s.hlc.refreshMs ∧ (s.passesRule c r).hlc.objection = s.hlc.objection := by
  simp only [State.passesRule]; (repeat' split) <;> simp

/-- What exitMatch leaves of the line controller. -/
@[simp] theorem State.exitMatch_hlc_frame (s : State) (c : StationConfig) (r : SegRec) (n : Count) :
    (s.exitMatch c r n).hlc.line = s.hlc.line ∧ (s.exitMatch c r n).hlc.tally = s.hlc.tally ∧ (s.exitMatch c r
      n).hlc.quietMs = s.hlc.quietMs ∧ (s.exitMatch c r n).hlc.dup = s.hlc.dup ∧ (s.exitMatch c r n).hlc.refreshMs =
      s.hlc.refreshMs ∧ (s.exitMatch c r n).hlc.objection = s.hlc.objection := by
  simp only [State.exitMatch]; simp

/-- What exitUnexpected leaves of the line controller. -/
@[simp] theorem State.exitUnexpected_hlc_frame (s : State) (c : StationConfig) (n : Count) :
    (s.exitUnexpected c n).hlc.line = s.hlc.line ∧ (s.exitUnexpected c n).hlc.tally = s.hlc.tally ∧ (s.exitUnexpected c
      n).hlc.quietMs = s.hlc.quietMs ∧ (s.exitUnexpected c n).hlc.dup = s.hlc.dup ∧ (s.exitUnexpected c n).hlc.refreshMs
      = s.hlc.refreshMs ∧ (s.exitUnexpected c n).hlc.objection = s.hlc.objection := by
  simp only [State.exitUnexpected]; simp

/-- What exitEdge leaves of the line controller. -/
@[simp] theorem State.exitEdge_hlc_frame (s : State) (c : StationConfig) (n : Count) :
    (s.exitEdge c n).hlc.line = s.hlc.line ∧ (s.exitEdge c n).hlc.tally = s.hlc.tally ∧ (s.exitEdge c n).hlc.quietMs =
      s.hlc.quietMs ∧ (s.exitEdge c n).hlc.dup = s.hlc.dup ∧ (s.exitEdge c n).hlc.refreshMs = s.hlc.refreshMs ∧
      (s.exitEdge c n).hlc.objection = s.hlc.objection := by
  simp only [State.exitEdge]; (repeat' split) <;> simp

/-- What overduePoint leaves of the line controller. -/
@[simp] theorem State.overduePoint_hlc_frame (s : State) (c : StationConfig) (r : RecRef) :
    (s.overduePoint c r).hlc.line = s.hlc.line ∧ (s.overduePoint c r).hlc.tally = s.hlc.tally ∧ (s.overduePoint c
      r).hlc.quietMs = s.hlc.quietMs ∧ (s.overduePoint c r).hlc.dup = s.hlc.dup ∧ (s.overduePoint c r).hlc.refreshMs =
      s.hlc.refreshMs ∧ (s.overduePoint c r).hlc.objection = s.hlc.objection := by
  simp only [State.overduePoint]; split <;> simp

/-- What windowClose leaves of the line controller. -/
@[simp] theorem State.windowClose_hlc_frame (s : State) (c : StationConfig) :
    (s.windowClose c).hlc.line = s.hlc.line ∧ (s.windowClose c).hlc.tally = s.hlc.tally ∧ (s.windowClose c).hlc.quietMs
      = s.hlc.quietMs ∧ (s.windowClose c).hlc.dup = s.hlc.dup ∧ (s.windowClose c).hlc.refreshMs = s.hlc.refreshMs ∧
      (s.windowClose c).hlc.objection = s.hlc.objection := by
  simp only [State.windowClose]; (repeat' split) <;> simp

/-- What deliverLeading leaves of the line controller. -/
@[simp] theorem State.deliverLeading_hlc_frame (s : State) (c : StationConfig) (y : Eye) (n : Count) :
    (s.deliverLeading c y n).hlc.line = s.hlc.line ∧ (s.deliverLeading c y n).hlc.tally = s.hlc.tally ∧
      (s.deliverLeading c y n).hlc.quietMs = s.hlc.quietMs ∧ (s.deliverLeading c y n).hlc.dup = s.hlc.dup ∧
      (s.deliverLeading c y n).hlc.refreshMs = s.hlc.refreshMs ∧ (s.deliverLeading c y n).hlc.objection =
      s.hlc.objection := by
  simp only [State.deliverLeading]; split <;> simp

/-- What deliverTrailing leaves of the line controller. -/
@[simp] theorem State.deliverTrailing_hlc_frame (s : State) (c : StationConfig) (y : Eye) (n : Count) :
    (s.deliverTrailing c y n).hlc.line = s.hlc.line ∧ (s.deliverTrailing c y n).hlc.tally = s.hlc.tally ∧
      (s.deliverTrailing c y n).hlc.quietMs = s.hlc.quietMs ∧ (s.deliverTrailing c y n).hlc.dup = s.hlc.dup ∧
      (s.deliverTrailing c y n).hlc.refreshMs = s.hlc.refreshMs ∧ (s.deliverTrailing c y n).hlc.objection =
      s.hlc.objection := by
  simp only [State.deliverTrailing]; split <;> simp

/-- What acceptLeading leaves of the line controller. -/
@[simp] theorem State.acceptLeading_hlc_frame (s : State) (c : StationConfig) (y : Eye) :
    (s.acceptLeading c y).hlc.line = s.hlc.line ∧ (s.acceptLeading c y).hlc.tally = s.hlc.tally ∧ (s.acceptLeading c
      y).hlc.quietMs = s.hlc.quietMs ∧ (s.acceptLeading c y).hlc.dup = s.hlc.dup ∧ (s.acceptLeading c y).hlc.refreshMs =
      s.hlc.refreshMs ∧ (s.acceptLeading c y).hlc.objection = s.hlc.objection := by
  simp only [State.acceptLeading]; split <;> simp

/-- What acceptTrailing leaves of the line controller. -/
@[simp] theorem State.acceptTrailing_hlc_frame (s : State) (c : StationConfig) (y : Eye) :
    (s.acceptTrailing c y).hlc.line = s.hlc.line ∧ (s.acceptTrailing c y).hlc.tally = s.hlc.tally ∧ (s.acceptTrailing c
      y).hlc.quietMs = s.hlc.quietMs ∧ (s.acceptTrailing c y).hlc.dup = s.hlc.dup ∧ (s.acceptTrailing c y).hlc.refreshMs
      = s.hlc.refreshMs ∧ (s.acceptTrailing c y).hlc.objection = s.hlc.objection := by
  simp only [State.acceptTrailing]; (repeat' split) <;> simp

/-- What edgeVanished leaves of the line controller. -/
@[simp] theorem State.edgeVanished_hlc_frame (s : State) (c : StationConfig) (y : Eye) :
    (s.edgeVanished c y).hlc.line = s.hlc.line ∧ (s.edgeVanished c y).hlc.tally = s.hlc.tally ∧ (s.edgeVanished c
      y).hlc.quietMs = s.hlc.quietMs ∧ (s.edgeVanished c y).hlc.dup = s.hlc.dup ∧ (s.edgeVanished c y).hlc.refreshMs =
      s.hlc.refreshMs ∧ (s.edgeVanished c y).hlc.objection = s.hlc.objection := by
  simp only [State.edgeVanished]; split <;> simp

/-- What filterStep leaves of the line controller. -/
@[simp] theorem State.filterStep_hlc_frame (s : State) (c : StationConfig) (y : Eye) (b : Bool) :
    (s.filterStep c y b).hlc.line = s.hlc.line ∧ (s.filterStep c y b).hlc.tally = s.hlc.tally ∧ (s.filterStep c y
      b).hlc.quietMs = s.hlc.quietMs ∧ (s.filterStep c y b).hlc.dup = s.hlc.dup ∧ (s.filterStep c y b).hlc.refreshMs =
      s.hlc.refreshMs ∧ (s.filterStep c y b).hlc.objection = s.hlc.objection := by
  simp only [State.filterStep]; (repeat' split) <;> simp

/-- What eyeRawChange leaves of the line controller. -/
@[simp] theorem State.eyeRawChange_hlc_frame (s : State) (y : Eye) (b : Bool) :
    (s.eyeRawChange y b).hlc.line = s.hlc.line ∧ (s.eyeRawChange y b).hlc.tally = s.hlc.tally ∧ (s.eyeRawChange y
      b).hlc.quietMs = s.hlc.quietMs ∧ (s.eyeRawChange y b).hlc.dup = s.hlc.dup ∧ (s.eyeRawChange y b).hlc.refreshMs =
      s.hlc.refreshMs ∧ (s.eyeRawChange y b).hlc.objection = s.hlc.objection := by
  simp only [State.eyeRawChange]; (repeat' split) <;> simp

/-- What jamClr leaves of the line controller. -/
@[simp] theorem State.jamClr_hlc_frame (s : State) :
    (s.jamClr).hlc.line = s.hlc.line ∧ (s.jamClr).hlc.tally = s.hlc.tally ∧ (s.jamClr).hlc.quietMs = s.hlc.quietMs ∧
      (s.jamClr).hlc.dup = s.hlc.dup ∧ (s.jamClr).hlc.refreshMs = s.hlc.refreshMs ∧ (s.jamClr).hlc.objection =
      s.hlc.objection := by
  simp only [State.jamClr]; split <;> simp

/-- What readIdt leaves of the line controller. -/
@[simp] theorem State.readIdt_hlc_frame (s : State) (c : StationConfig) (i : Identity) :
    (s.readIdt c i).1.hlc.line = s.hlc.line ∧ (s.readIdt c i).1.hlc.tally = s.hlc.tally ∧ (s.readIdt c i).1.hlc.quietMs
      = s.hlc.quietMs ∧ (s.readIdt c i).1.hlc.dup = s.hlc.dup ∧ (s.readIdt c i).1.hlc.refreshMs = s.hlc.refreshMs ∧
      (s.readIdt c i).1.hlc.objection = s.hlc.objection := by
  simp only [State.readIdt]; (repeat' split) <;> simp

/-- What retire leaves of the line controller. -/
@[simp] theorem State.retire_hlc_frame (s : State) (c : StationConfig) (i : Identity) (n : Nat) :
    (s.retire c i n).hlc.line = s.hlc.line ∧ (s.retire c i n).hlc.tally = s.hlc.tally ∧ (s.retire c i n).hlc.quietMs =
      s.hlc.quietMs ∧ (s.retire c i n).hlc.dup = s.hlc.dup ∧ (s.retire c i n).hlc.refreshMs = s.hlc.refreshMs ∧
      (s.retire c i n).hlc.objection = s.hlc.objection := by
  simp only [State.retire]; (repeat' split) <;> simp

/-- What takeDivertDone leaves of the line controller. -/
@[simp] theorem State.takeDivertDone_hlc_frame (s : State) (c : StationConfig) (d : DivertDone) :
    (s.takeDivertDone c d).hlc.line = s.hlc.line ∧ (s.takeDivertDone c d).hlc.tally = s.hlc.tally ∧ (s.takeDivertDone c
      d).hlc.quietMs = s.hlc.quietMs ∧ (s.takeDivertDone c d).hlc.dup = s.hlc.dup ∧ (s.takeDivertDone c d).hlc.refreshMs
      = s.hlc.refreshMs ∧ (s.takeDivertDone c d).hlc.objection = s.hlc.objection := by
  simp only [State.takeDivertDone]; (repeat' split) <;> simp

/-- What ambiguousCandidate leaves of the line controller. -/
@[simp] theorem State.ambiguousCandidate_hlc_frame (s : State) (c : StationConfig) (r : SegRec) :
    (s.ambiguousCandidate c r).hlc.line = s.hlc.line ∧ (s.ambiguousCandidate c r).hlc.tally = s.hlc.tally ∧
      (s.ambiguousCandidate c r).hlc.quietMs = s.hlc.quietMs ∧ (s.ambiguousCandidate c r).hlc.dup = s.hlc.dup ∧
      (s.ambiguousCandidate c r).hlc.refreshMs = s.hlc.refreshMs ∧ (s.ambiguousCandidate c r).hlc.objection =
      s.hlc.objection := by
  simp only [State.ambiguousCandidate]; split <;> simp

/-- What an ambiguous read leaves of the line controller. -/
@[simp] theorem State.ambiguousRead_hlc_frame (s : State) (c : StationConfig) (rs : List SegRec) :
    (s.ambiguousRead c rs).hlc.line = s.hlc.line ∧ (s.ambiguousRead c rs).hlc.tally = s.hlc.tally ∧ (s.ambiguousRead c
      rs).hlc.quietMs = s.hlc.quietMs ∧ (s.ambiguousRead c rs).hlc.dup = s.hlc.dup ∧ (s.ambiguousRead c
      rs).hlc.refreshMs = s.hlc.refreshMs ∧ (s.ambiguousRead c rs).hlc.objection = s.hlc.objection := by
  have h := foldl_keeps (fun t : State => (t.hlc.line, t.hlc.tally, t.hlc.quietMs, t.hlc.dup, t.hlc.refreshMs, t.hlc.objection))
    (fun t (r : SegRec) => t.ambiguousCandidate c r) (by intro t a; simp) rs ((s.bump .ambiguousRead).raiseEv .ambiguousRead)
  simpa [State.ambiguousRead, and_assoc] using h

/-- What failedRead leaves of the line controller. -/
@[simp] theorem State.failedRead_hlc_frame (s : State) (c : StationConfig) (r : SegRec) (x : Reason) :
    (s.failedRead c r x).hlc.line = s.hlc.line ∧ (s.failedRead c r x).hlc.tally = s.hlc.tally ∧ (s.failedRead c r
      x).hlc.quietMs = s.hlc.quietMs ∧ (s.failedRead c r x).hlc.dup = s.hlc.dup ∧ (s.failedRead c r x).hlc.refreshMs =
      s.hlc.refreshMs ∧ (s.failedRead c r x).hlc.objection = s.hlc.objection := by
  simp only [State.failedRead]; split <;> simp

/-- What conflict leaves of the line controller. -/
@[simp] theorem State.conflict_hlc_frame (s : State) (c : StationConfig) (r : SegRec) :
    (s.conflict c r).hlc.line = s.hlc.line ∧ (s.conflict c r).hlc.tally = s.hlc.tally ∧ (s.conflict c r).hlc.quietMs =
      s.hlc.quietMs ∧ (s.conflict c r).hlc.dup = s.hlc.dup ∧ (s.conflict c r).hlc.refreshMs = s.hlc.refreshMs ∧
      (s.conflict c r).hlc.objection = s.hlc.objection := by
  simp only [State.conflict]; simp

/-- What findEntry leaves of the line controller. -/
@[simp] theorem State.findEntry_hlc_frame (s : State) (c : StationConfig) (sl : Sailing) (i : Identity) :
    (s.findEntry c sl i).1.hlc.line = s.hlc.line ∧ (s.findEntry c sl i).1.hlc.tally = s.hlc.tally ∧ (s.findEntry c sl
      i).1.hlc.quietMs = s.hlc.quietMs ∧ (s.findEntry c sl i).1.hlc.dup = s.hlc.dup ∧ (s.findEntry c sl
      i).1.hlc.refreshMs = s.hlc.refreshMs ∧ (s.findEntry c sl i).1.hlc.objection = s.hlc.objection := by
  simp only [State.findEntry]; split <;> simp

/-- What find leaves of the line controller. -/
@[simp] theorem State.find_hlc_frame (s : State) (c : StationConfig) (rc : ReaderConfig) (i : Identity) :
    (s.find c rc i).1.hlc.line = s.hlc.line ∧ (s.find c rc i).1.hlc.tally = s.hlc.tally ∧ (s.find c rc i).1.hlc.quietMs
      = s.hlc.quietMs ∧ (s.find c rc i).1.hlc.dup = s.hlc.dup ∧ (s.find c rc i).1.hlc.refreshMs = s.hlc.refreshMs ∧
      (s.find c rc i).1.hlc.objection = s.hlc.objection := by
  simp only [State.find]; split <;> simp

/-- What takeQuery leaves of the line controller. -/
@[simp] theorem State.takeQuery_hlc_frame (s : State) (c : StationConfig) (q : Query) :
    (s.takeQuery c q).hlc.line = s.hlc.line ∧ (s.takeQuery c q).hlc.tally = s.hlc.tally ∧ (s.takeQuery c q).hlc.quietMs
      = s.hlc.quietMs ∧ (s.takeQuery c q).hlc.dup = s.hlc.dup ∧ (s.takeQuery c q).hlc.refreshMs = s.hlc.refreshMs ∧
      (s.takeQuery c q).hlc.objection = s.hlc.objection := by
  simp only [State.takeQuery]; (repeat' split) <;> simp

/-- What screenQuery leaves of the line controller. -/
@[simp] theorem State.screenQuery_hlc_frame (s : State) (c : StationConfig) (q : Query) :
    (s.screenQuery c q).hlc.line = s.hlc.line ∧ (s.screenQuery c q).hlc.tally = s.hlc.tally ∧ (s.screenQuery c
      q).hlc.quietMs = s.hlc.quietMs ∧ (s.screenQuery c q).hlc.dup = s.hlc.dup ∧ (s.screenQuery c q).hlc.refreshMs =
      s.hlc.refreshMs ∧ (s.screenQuery c q).hlc.objection = s.hlc.objection := by
  simp only [State.screenQuery]; split <;> simp

/-- What statusQuery leaves of the line controller. -/
@[simp] theorem State.statusQuery_hlc_frame (s : State) (f : RxFrame) :
    (s.statusQuery f).hlc.tally = s.hlc.tally ∧ (s.statusQuery f).hlc.refreshMs = s.hlc.refreshMs := by
  simp only [State.statusQuery, State.receive]; (repeat' split) <;> simp [State.rxFault, State.duplicateFound]

/-- What reportWrite leaves of the line controller. -/
@[simp] theorem State.reportWrite_hlc_frame (s : State) (c : StationConfig) (f : Finding) (r : SegRec) :
    (s.reportWrite c f r).hlc.line = s.hlc.line ∧ (s.reportWrite c f r).hlc.tally = s.hlc.tally ∧ (s.reportWrite c f
      r).hlc.quietMs = s.hlc.quietMs ∧ (s.reportWrite c f r).hlc.dup = s.hlc.dup ∧ (s.reportWrite c f r).hlc.refreshMs =
      s.hlc.refreshMs ∧ (s.reportWrite c f r).hlc.objection = s.hlc.objection := by
  simp only [State.reportWrite]; (repeat' split) <;> simp

/-- What writeFinding leaves of the line controller. -/
@[simp] theorem State.writeFinding_hlc_frame (s : State) (c : StationConfig) (f : Finding) (r : SegRec) :
    (s.writeFinding c f r).hlc.line = s.hlc.line ∧ (s.writeFinding c f r).hlc.tally = s.hlc.tally ∧ (s.writeFinding c f
      r).hlc.quietMs = s.hlc.quietMs ∧ (s.writeFinding c f r).hlc.dup = s.hlc.dup ∧ (s.writeFinding c f r).hlc.refreshMs
      = s.hlc.refreshMs ∧ (s.writeFinding c f r).hlc.objection = s.hlc.objection := by
  simp only [State.writeFinding]; split <;> simp

/-- What takeRace leaves of the line controller. -/
@[simp] theorem State.takeRace_hlc_frame (s : State) (c : StationConfig) (x : Option Race) :
    (s.takeRace c x).hlc.tally = s.hlc.tally ∧ (s.takeRace c x).hlc.refreshMs = s.hlc.refreshMs := by
  simp only [State.takeRace]; split <;> simp

/-- What identify leaves of the line controller. -/
@[simp] theorem State.identify_hlc_frame (s : State) (c : StationConfig) (rc : ReaderConfig) (i : Identity) (r : SegRec) (x : Option Race) :
    (s.identify c rc i r x).hlc.tally = s.hlc.tally ∧ (s.identify c rc i r x).hlc.refreshMs = s.hlc.refreshMs := by
  simp only [State.identify]; simp

/-- What singleRead leaves of the line controller. -/
@[simp] theorem State.singleRead_hlc_frame (s : State) (c : StationConfig) (rc : ReaderConfig) (k : Scan) (r : SegRec) (x : Option Race) :
    (s.singleRead c rc k r x).hlc.tally = s.hlc.tally ∧ (s.singleRead c rc k r x).hlc.refreshMs = s.hlc.refreshMs := by
  simp only [State.singleRead]; (repeat' split) <;> simp

/-- What associate leaves of the line controller. -/
@[simp] theorem State.associate_hlc_frame (s : State) (c : StationConfig) (rc : ReaderConfig) (k : Scan) (x : Option Race) :
    (s.associate c rc k x).hlc.tally = s.hlc.tally ∧ (s.associate c rc k x).hlc.refreshMs = s.hlc.refreshMs := by
  simp only [State.associate]; split <;> simp

/-- What deskAccept leaves of the line controller. -/
@[simp] theorem State.deskAccept_hlc_frame (s : State) (c : StationConfig) (i : Identity) (d : Nat) :
    (s.deskAccept c i d).hlc.line = s.hlc.line ∧ (s.deskAccept c i d).hlc.tally = s.hlc.tally ∧ (s.deskAccept c i
      d).hlc.quietMs = s.hlc.quietMs ∧ (s.deskAccept c i d).hlc.dup = s.hlc.dup ∧ (s.deskAccept c i d).hlc.refreshMs =
      s.hlc.refreshMs ∧ (s.deskAccept c i d).hlc.objection = s.hlc.objection := by
  simp only [State.deskAccept]; split <;> simp

/-- What deskRecord leaves of the line controller. -/
@[simp] theorem State.deskRecord_hlc_frame (s : State) (c : StationConfig) (rc : ReaderConfig) (b : Bool) (i : Identity) :
    (s.deskRecord c rc b i).hlc.line = s.hlc.line ∧ (s.deskRecord c rc b i).hlc.tally = s.hlc.tally ∧ (s.deskRecord c rc
      b i).hlc.quietMs = s.hlc.quietMs ∧ (s.deskRecord c rc b i).hlc.dup = s.hlc.dup ∧ (s.deskRecord c rc b
      i).hlc.refreshMs = s.hlc.refreshMs ∧ (s.deskRecord c rc b i).hlc.objection = s.hlc.objection := by
  simp only [State.deskRecord]; (repeat' split) <;> simp

/-- What receipt leaves of the line controller. -/
@[simp] theorem State.receipt_hlc_frame (s : State) (c : StationConfig) (h : List Byte) (x : Option Race) :
    (s.receipt c h x).hlc.tally = s.hlc.tally ∧ (s.receipt c h x).hlc.refreshMs = s.hlc.refreshMs := by
  simp only [State.receipt]; (repeat' split) <;> simp

/-- What byteAssembling leaves of the line controller. -/
@[simp] theorem State.byteAssembling_hlc_frame (s : State) (c : StationConfig) (h : List Byte) (b : Byte) (f : Bool) (x : Option Race) :
    (s.byteAssembling c h b f x).hlc.tally = s.hlc.tally ∧ (s.byteAssembling c h b f x).hlc.refreshMs = s.hlc.refreshMs := by
  simp only [State.byteAssembling]; (repeat' split) <;> simp

/-- What hearDownstream leaves of the line controller. -/
@[simp] theorem State.hearDownstream_hlc_frame (s : State) (c : StationConfig) (b : Bool) :
    (s.hearDownstream c b).hlc.line = s.hlc.line ∧ (s.hearDownstream c b).hlc.tally = s.hlc.tally ∧ (s.hearDownstream c
      b).hlc.quietMs = s.hlc.quietMs ∧ (s.hearDownstream c b).hlc.dup = s.hlc.dup ∧ (s.hearDownstream c b).hlc.refreshMs
      = s.hlc.refreshMs ∧ (s.hearDownstream c b).hlc.objection = s.hlc.objection := by
  simp only [State.hearDownstream]; simp

/-- What takeSegmentState leaves of the line controller. -/
@[simp] theorem State.takeSegmentState_hlc_frame (s : State) (c : StationConfig) (n v : Nat) (p : SpeedState) (b : Bool) :
    (s.takeSegmentState c n v p b).hlc.line = s.hlc.line ∧ (s.takeSegmentState c n v p b).hlc.tally = s.hlc.tally ∧
      (s.takeSegmentState c n v p b).hlc.quietMs = s.hlc.quietMs ∧ (s.takeSegmentState c n v p b).hlc.dup = s.hlc.dup ∧
      (s.takeSegmentState c n v p b).hlc.refreshMs = s.hlc.refreshMs ∧ (s.takeSegmentState c n v p b).hlc.objection =
      s.hlc.objection := by
  simp only [State.takeSegmentState]; (repeat' split) <;> simp

/-- What withdraw leaves of the tracking unit. -/
@[simp] theorem State.withdraw_btu_frame (s : State) (d : Div) (k : Ctr) (p : Grant → Bool) :
    (s.withdraw d k p).btu.e = s.btu.e ∧ (s.withdraw d k p).btu.history = s.btu.history ∧ (s.withdraw d k
      p).btu.winCount = s.btu.winCount ∧ (s.withdraw d k p).btu.v = s.btu.v ∧ (s.withdraw d k p).btu.prevV = s.btu.prevV
      ∧ (s.withdraw d k p).btu.speed = s.btu.speed ∧ (s.withdraw d k p).btu.steadyCount = s.btu.steadyCount ∧
      (s.withdraw d k p).btu.reportedV = s.btu.reportedV ∧ (s.withdraw d k p).btu.windowMs = s.btu.windowMs ∧
      (s.withdraw d k p).btu.fEntry = s.btu.fEntry ∧ (s.withdraw d k p).btu.fExit = s.btu.fExit ∧ (s.withdraw d k
      p).btu.fConf0 = s.btu.fConf0 ∧ (s.withdraw d k p).btu.fConf1 = s.btu.fConf1 ∧ (s.withdraw d k p).btu.openRec =
      s.btu.openRec ∧ (s.withdraw d k p).btu.gapRef = s.btu.gapRef ∧ (s.withdraw d k p).btu.skipTrailing =
      s.btu.skipTrailing ∧ (s.withdraw d k p).btu.expects = s.btu.expects ∧ (s.withdraw d k p).btu.upA = s.btu.upA ∧
      (s.withdraw d k p).btu.upB = s.btu.upB ∧ (s.withdraw d k p).btu.down = s.btu.down ∧ (s.withdraw d k
      p).btu.blockedFlag = s.btu.blockedFlag ∧ (s.withdraw d k p).btu.permit = s.btu.permit ∧ (s.withdraw d k
      p).btu.flow = s.btu.flow ∧ (s.withdraw d k p).btu.jamSample = s.btu.jamSample ∧ (s.withdraw d k p).btu.queue.map
      SegRec.ref = s.btu.queue.map SegRec.ref ∧ (s.withdraw d k p).btu.queue.length = s.btu.queue.length := by
  have h := foldl_keeps (fun t : State => (t.btu.e, t.btu.history, t.btu.winCount, t.btu.v, t.btu.prevV, t.btu.speed, t.btu.steadyCount, t.btu.reportedV,
      t.btu.windowMs, t.btu.fEntry, t.btu.fExit, t.btu.fConf0, t.btu.fConf1, t.btu.openRec, t.btu.gapRef,
      t.btu.skipTrailing, t.btu.expects, t.btu.upA, t.btu.upB, t.btu.down, t.btu.blockedFlag, t.btu.permit,
      t.btu.flow, t.btu.jamSample, t.btu.queue.map SegRec.ref, t.btu.queue.length))
    (fun t (g : Grant) => (t.updateRec g.ref fun r => { r with divert := .withdrawn }).bump k) (by intro t a; simp; intros; split <;> rfl)  ((s.dvs.get d).grants.filter p) (s.setDiv d { s.dvs.get d with grants := (s.dvs.get d).grants.filter fun g => !p g })
  simpa [State.withdraw, and_assoc] using h

/-- What withdrawBoth leaves of the tracking unit. -/
@[simp] theorem State.withdrawBoth_btu_frame (s : State) (k : Ctr) (p : Grant → Bool) :
    (s.withdrawBoth k p).btu.e = s.btu.e ∧ (s.withdrawBoth k p).btu.history = s.btu.history ∧ (s.withdrawBoth k
      p).btu.winCount = s.btu.winCount ∧ (s.withdrawBoth k p).btu.v = s.btu.v ∧ (s.withdrawBoth k p).btu.prevV =
      s.btu.prevV ∧ (s.withdrawBoth k p).btu.speed = s.btu.speed ∧ (s.withdrawBoth k p).btu.steadyCount =
      s.btu.steadyCount ∧ (s.withdrawBoth k p).btu.reportedV = s.btu.reportedV ∧ (s.withdrawBoth k p).btu.windowMs =
      s.btu.windowMs ∧ (s.withdrawBoth k p).btu.fEntry = s.btu.fEntry ∧ (s.withdrawBoth k p).btu.fExit = s.btu.fExit ∧
      (s.withdrawBoth k p).btu.fConf0 = s.btu.fConf0 ∧ (s.withdrawBoth k p).btu.fConf1 = s.btu.fConf1 ∧ (s.withdrawBoth
      k p).btu.openRec = s.btu.openRec ∧ (s.withdrawBoth k p).btu.gapRef = s.btu.gapRef ∧ (s.withdrawBoth k
      p).btu.skipTrailing = s.btu.skipTrailing ∧ (s.withdrawBoth k p).btu.expects = s.btu.expects ∧ (s.withdrawBoth k
      p).btu.upA = s.btu.upA ∧ (s.withdrawBoth k p).btu.upB = s.btu.upB ∧ (s.withdrawBoth k p).btu.down = s.btu.down ∧
      (s.withdrawBoth k p).btu.blockedFlag = s.btu.blockedFlag ∧ (s.withdrawBoth k p).btu.permit = s.btu.permit ∧
      (s.withdrawBoth k p).btu.flow = s.btu.flow ∧ (s.withdrawBoth k p).btu.jamSample = s.btu.jamSample ∧
      (s.withdrawBoth k p).btu.queue.map SegRec.ref = s.btu.queue.map SegRec.ref ∧ (s.withdrawBoth k p).btu.queue.length
      = s.btu.queue.length := by
  simp only [State.withdrawBoth]; simp

/-- What tellDestination leaves of the tracking unit. -/
@[simp] theorem State.tellDestination_btu_frame (s : State) (c : StationConfig) (r : RecRef) (dest : Option Nat) :
    (s.tellDestination c r dest).btu.e = s.btu.e ∧ (s.tellDestination c r dest).btu.history = s.btu.history ∧
      (s.tellDestination c r dest).btu.winCount = s.btu.winCount ∧ (s.tellDestination c r dest).btu.v = s.btu.v ∧
      (s.tellDestination c r dest).btu.prevV = s.btu.prevV ∧ (s.tellDestination c r dest).btu.speed = s.btu.speed ∧
      (s.tellDestination c r dest).btu.steadyCount = s.btu.steadyCount ∧ (s.tellDestination c r dest).btu.reportedV =
      s.btu.reportedV ∧ (s.tellDestination c r dest).btu.windowMs = s.btu.windowMs ∧ (s.tellDestination c r
      dest).btu.fEntry = s.btu.fEntry ∧ (s.tellDestination c r dest).btu.fExit = s.btu.fExit ∧ (s.tellDestination c r
      dest).btu.fConf0 = s.btu.fConf0 ∧ (s.tellDestination c r dest).btu.fConf1 = s.btu.fConf1 ∧ (s.tellDestination c r
      dest).btu.openRec = s.btu.openRec ∧ (s.tellDestination c r dest).btu.gapRef = s.btu.gapRef ∧ (s.tellDestination c
      r dest).btu.skipTrailing = s.btu.skipTrailing ∧ (s.tellDestination c r dest).btu.expects = s.btu.expects ∧
      (s.tellDestination c r dest).btu.upA = s.btu.upA ∧ (s.tellDestination c r dest).btu.upB = s.btu.upB ∧
      (s.tellDestination c r dest).btu.down = s.btu.down ∧ (s.tellDestination c r dest).btu.blockedFlag =
      s.btu.blockedFlag ∧ (s.tellDestination c r dest).btu.permit = s.btu.permit ∧ (s.tellDestination c r dest).btu.flow
      = s.btu.flow ∧ (s.tellDestination c r dest).btu.jamSample = s.btu.jamSample ∧ (s.tellDestination c r
      dest).btu.queue.map SegRec.ref = s.btu.queue.map SegRec.ref ∧ (s.tellDestination c r dest).btu.queue.length =
      s.btu.queue.length := by
  simp only [State.tellDestination]; (repeat' split) <;> simp

/-- What offer leaves of the tracking unit. -/
@[simp] theorem State.offer_btu_frame (s : State) (c : StationConfig) (r : RecRef) (x : Reason) :
    (s.offer c r x).btu.e = s.btu.e ∧ (s.offer c r x).btu.history = s.btu.history ∧ (s.offer c r x).btu.winCount =
      s.btu.winCount ∧ (s.offer c r x).btu.v = s.btu.v ∧ (s.offer c r x).btu.prevV = s.btu.prevV ∧ (s.offer c r
      x).btu.speed = s.btu.speed ∧ (s.offer c r x).btu.steadyCount = s.btu.steadyCount ∧ (s.offer c r x).btu.reportedV =
      s.btu.reportedV ∧ (s.offer c r x).btu.windowMs = s.btu.windowMs ∧ (s.offer c r x).btu.fEntry = s.btu.fEntry ∧
      (s.offer c r x).btu.fExit = s.btu.fExit ∧ (s.offer c r x).btu.fConf0 = s.btu.fConf0 ∧ (s.offer c r x).btu.fConf1 =
      s.btu.fConf1 ∧ (s.offer c r x).btu.openRec = s.btu.openRec ∧ (s.offer c r x).btu.gapRef = s.btu.gapRef ∧ (s.offer
      c r x).btu.skipTrailing = s.btu.skipTrailing ∧ (s.offer c r x).btu.expects = s.btu.expects ∧ (s.offer c r
      x).btu.upA = s.btu.upA ∧ (s.offer c r x).btu.upB = s.btu.upB ∧ (s.offer c r x).btu.down = s.btu.down ∧ (s.offer c
      r x).btu.blockedFlag = s.btu.blockedFlag ∧ (s.offer c r x).btu.permit = s.btu.permit ∧ (s.offer c r x).btu.flow =
      s.btu.flow ∧ (s.offer c r x).btu.jamSample = s.btu.jamSample ∧ (s.offer c r x).btu.queue.map SegRec.ref =
      s.btu.queue.map SegRec.ref ∧ (s.offer c r x).btu.queue.length = s.btu.queue.length := by
  simp only [State.offer]; (repeat' split) <;> simp <;> intros <;> (repeat' split) <;> rfl

/-- What chuteTurned leaves of the tracking unit. -/
@[simp] theorem State.chuteTurned_btu_frame (s : State) (d : Div) (x y : ChuteState) :
    (s.chuteTurned d x y).btu.e = s.btu.e ∧ (s.chuteTurned d x y).btu.history = s.btu.history ∧ (s.chuteTurned d x
      y).btu.winCount = s.btu.winCount ∧ (s.chuteTurned d x y).btu.v = s.btu.v ∧ (s.chuteTurned d x y).btu.prevV =
      s.btu.prevV ∧ (s.chuteTurned d x y).btu.speed = s.btu.speed ∧ (s.chuteTurned d x y).btu.steadyCount =
      s.btu.steadyCount ∧ (s.chuteTurned d x y).btu.reportedV = s.btu.reportedV ∧ (s.chuteTurned d x y).btu.windowMs =
      s.btu.windowMs ∧ (s.chuteTurned d x y).btu.fEntry = s.btu.fEntry ∧ (s.chuteTurned d x y).btu.fExit = s.btu.fExit ∧
      (s.chuteTurned d x y).btu.fConf0 = s.btu.fConf0 ∧ (s.chuteTurned d x y).btu.fConf1 = s.btu.fConf1 ∧ (s.chuteTurned
      d x y).btu.openRec = s.btu.openRec ∧ (s.chuteTurned d x y).btu.gapRef = s.btu.gapRef ∧ (s.chuteTurned d x
      y).btu.skipTrailing = s.btu.skipTrailing ∧ (s.chuteTurned d x y).btu.expects = s.btu.expects ∧ (s.chuteTurned d x
      y).btu.upA = s.btu.upA ∧ (s.chuteTurned d x y).btu.upB = s.btu.upB ∧ (s.chuteTurned d x y).btu.down = s.btu.down ∧
      (s.chuteTurned d x y).btu.blockedFlag = s.btu.blockedFlag ∧ (s.chuteTurned d x y).btu.permit = s.btu.permit ∧
      (s.chuteTurned d x y).btu.flow = s.btu.flow ∧ (s.chuteTurned d x y).btu.jamSample = s.btu.jamSample ∧
      (s.chuteTurned d x y).btu.queue.map SegRec.ref = s.btu.queue.map SegRec.ref ∧ (s.chuteTurned d x
      y).btu.queue.length = s.btu.queue.length := by
  simp only [State.chuteTurned]; (repeat' split) <;> simp

/-- What changeAccount leaves of the tracking unit. -/
@[simp] theorem State.changeAccount_btu_frame (s : State) (c : StationConfig) (d : Div) (f : Account → Account) :
    (s.changeAccount c d f).btu.e = s.btu.e ∧ (s.changeAccount c d f).btu.history = s.btu.history ∧ (s.changeAccount c d
      f).btu.winCount = s.btu.winCount ∧ (s.changeAccount c d f).btu.v = s.btu.v ∧ (s.changeAccount c d f).btu.prevV =
      s.btu.prevV ∧ (s.changeAccount c d f).btu.speed = s.btu.speed ∧ (s.changeAccount c d f).btu.steadyCount =
      s.btu.steadyCount ∧ (s.changeAccount c d f).btu.reportedV = s.btu.reportedV ∧ (s.changeAccount c d f).btu.windowMs
      = s.btu.windowMs ∧ (s.changeAccount c d f).btu.fEntry = s.btu.fEntry ∧ (s.changeAccount c d f).btu.fExit =
      s.btu.fExit ∧ (s.changeAccount c d f).btu.fConf0 = s.btu.fConf0 ∧ (s.changeAccount c d f).btu.fConf1 =
      s.btu.fConf1 ∧ (s.changeAccount c d f).btu.openRec = s.btu.openRec ∧ (s.changeAccount c d f).btu.gapRef =
      s.btu.gapRef ∧ (s.changeAccount c d f).btu.skipTrailing = s.btu.skipTrailing ∧ (s.changeAccount c d f).btu.expects
      = s.btu.expects ∧ (s.changeAccount c d f).btu.upA = s.btu.upA ∧ (s.changeAccount c d f).btu.upB = s.btu.upB ∧
      (s.changeAccount c d f).btu.down = s.btu.down ∧ (s.changeAccount c d f).btu.blockedFlag = s.btu.blockedFlag ∧
      (s.changeAccount c d f).btu.permit = s.btu.permit ∧ (s.changeAccount c d f).btu.flow = s.btu.flow ∧
      (s.changeAccount c d f).btu.jamSample = s.btu.jamSample ∧ (s.changeAccount c d f).btu.queue.map SegRec.ref =
      s.btu.queue.map SegRec.ref ∧ (s.changeAccount c d f).btu.queue.length = s.btu.queue.length := by
  simp only [State.changeAccount]; (repeat' split) <;> simp

/-- What fillRise leaves of the tracking unit. -/
@[simp] theorem State.fillRise_btu_frame (s : State) (c : StationConfig) (d : Div) (n : Nat) :
    (s.fillRise c d n).btu.e = s.btu.e ∧ (s.fillRise c d n).btu.history = s.btu.history ∧ (s.fillRise c d
      n).btu.winCount = s.btu.winCount ∧ (s.fillRise c d n).btu.v = s.btu.v ∧ (s.fillRise c d n).btu.prevV = s.btu.prevV
      ∧ (s.fillRise c d n).btu.speed = s.btu.speed ∧ (s.fillRise c d n).btu.steadyCount = s.btu.steadyCount ∧
      (s.fillRise c d n).btu.reportedV = s.btu.reportedV ∧ (s.fillRise c d n).btu.windowMs = s.btu.windowMs ∧
      (s.fillRise c d n).btu.fEntry = s.btu.fEntry ∧ (s.fillRise c d n).btu.fExit = s.btu.fExit ∧ (s.fillRise c d
      n).btu.fConf0 = s.btu.fConf0 ∧ (s.fillRise c d n).btu.fConf1 = s.btu.fConf1 ∧ (s.fillRise c d n).btu.openRec =
      s.btu.openRec ∧ (s.fillRise c d n).btu.gapRef = s.btu.gapRef ∧ (s.fillRise c d n).btu.skipTrailing =
      s.btu.skipTrailing ∧ (s.fillRise c d n).btu.expects = s.btu.expects ∧ (s.fillRise c d n).btu.upA = s.btu.upA ∧
      (s.fillRise c d n).btu.upB = s.btu.upB ∧ (s.fillRise c d n).btu.down = s.btu.down ∧ (s.fillRise c d
      n).btu.blockedFlag = s.btu.blockedFlag ∧ (s.fillRise c d n).btu.permit = s.btu.permit ∧ (s.fillRise c d
      n).btu.flow = s.btu.flow ∧ (s.fillRise c d n).btu.jamSample = s.btu.jamSample ∧ (s.fillRise c d n).btu.queue.map
      SegRec.ref = s.btu.queue.map SegRec.ref ∧ (s.fillRise c d n).btu.queue.length = s.btu.queue.length := by
  simp only [State.fillRise]; split <;> simp

/-- What decideGrant leaves of the tracking unit. -/
@[simp] theorem State.decideGrant_btu_frame (s : State) (c : StationConfig) (d : Div) (v : DiverterConfig) (r : SegRec) :
    (s.decideGrant c d v r).btu.e = s.btu.e ∧ (s.decideGrant c d v r).btu.history = s.btu.history ∧ (s.decideGrant c d v
      r).btu.winCount = s.btu.winCount ∧ (s.decideGrant c d v r).btu.v = s.btu.v ∧ (s.decideGrant c d v r).btu.prevV =
      s.btu.prevV ∧ (s.decideGrant c d v r).btu.speed = s.btu.speed ∧ (s.decideGrant c d v r).btu.steadyCount =
      s.btu.steadyCount ∧ (s.decideGrant c d v r).btu.reportedV = s.btu.reportedV ∧ (s.decideGrant c d v r).btu.windowMs
      = s.btu.windowMs ∧ (s.decideGrant c d v r).btu.fEntry = s.btu.fEntry ∧ (s.decideGrant c d v r).btu.fExit =
      s.btu.fExit ∧ (s.decideGrant c d v r).btu.fConf0 = s.btu.fConf0 ∧ (s.decideGrant c d v r).btu.fConf1 =
      s.btu.fConf1 ∧ (s.decideGrant c d v r).btu.openRec = s.btu.openRec ∧ (s.decideGrant c d v r).btu.gapRef =
      s.btu.gapRef ∧ (s.decideGrant c d v r).btu.skipTrailing = s.btu.skipTrailing ∧ (s.decideGrant c d v r).btu.expects
      = s.btu.expects ∧ (s.decideGrant c d v r).btu.upA = s.btu.upA ∧ (s.decideGrant c d v r).btu.upB = s.btu.upB ∧
      (s.decideGrant c d v r).btu.down = s.btu.down ∧ (s.decideGrant c d v r).btu.blockedFlag = s.btu.blockedFlag ∧
      (s.decideGrant c d v r).btu.permit = s.btu.permit ∧ (s.decideGrant c d v r).btu.flow = s.btu.flow ∧ (s.decideGrant
      c d v r).btu.jamSample = s.btu.jamSample ∧ (s.decideGrant c d v r).btu.queue.map SegRec.ref = s.btu.queue.map
      SegRec.ref ∧ (s.decideGrant c d v r).btu.queue.length = s.btu.queue.length := by
  simp only [State.decideGrant]; split <;> simp <;> intros <;> split <;> rfl

/-- What takePoint leaves of the tracking unit. -/
@[simp] theorem State.takePoint_btu_frame (s : State) (p : Point) (r : RecRef) :
    (s.takePoint p r).btu.e = s.btu.e ∧ (s.takePoint p r).btu.history = s.btu.history ∧ (s.takePoint p r).btu.winCount =
      s.btu.winCount ∧ (s.takePoint p r).btu.v = s.btu.v ∧ (s.takePoint p r).btu.prevV = s.btu.prevV ∧ (s.takePoint p
      r).btu.speed = s.btu.speed ∧ (s.takePoint p r).btu.steadyCount = s.btu.steadyCount ∧ (s.takePoint p
      r).btu.reportedV = s.btu.reportedV ∧ (s.takePoint p r).btu.windowMs = s.btu.windowMs ∧ (s.takePoint p
      r).btu.fEntry = s.btu.fEntry ∧ (s.takePoint p r).btu.fExit = s.btu.fExit ∧ (s.takePoint p r).btu.fConf0 =
      s.btu.fConf0 ∧ (s.takePoint p r).btu.fConf1 = s.btu.fConf1 ∧ (s.takePoint p r).btu.openRec = s.btu.openRec ∧
      (s.takePoint p r).btu.gapRef = s.btu.gapRef ∧ (s.takePoint p r).btu.skipTrailing = s.btu.skipTrailing ∧
      (s.takePoint p r).btu.expects = s.btu.expects ∧ (s.takePoint p r).btu.upA = s.btu.upA ∧ (s.takePoint p r).btu.upB
      = s.btu.upB ∧ (s.takePoint p r).btu.down = s.btu.down ∧ (s.takePoint p r).btu.blockedFlag = s.btu.blockedFlag ∧
      (s.takePoint p r).btu.permit = s.btu.permit ∧ (s.takePoint p r).btu.flow = s.btu.flow ∧ (s.takePoint p
      r).btu.jamSample = s.btu.jamSample ∧ (s.takePoint p r).btu.queue.map SegRec.ref = s.btu.queue.map SegRec.ref ∧
      (s.takePoint p r).btu.queue.length = s.btu.queue.length := by
  simp only [State.takePoint]; simp; intros; split <;> rfl

/-- What endMissed leaves of the tracking unit. -/
@[simp] theorem State.endMissed_btu_frame (s : State) (d : Div) (e : Confirm) :
    (s.endMissed d e).btu.e = s.btu.e ∧ (s.endMissed d e).btu.history = s.btu.history ∧ (s.endMissed d e).btu.winCount =
      s.btu.winCount ∧ (s.endMissed d e).btu.v = s.btu.v ∧ (s.endMissed d e).btu.prevV = s.btu.prevV ∧ (s.endMissed d
      e).btu.speed = s.btu.speed ∧ (s.endMissed d e).btu.steadyCount = s.btu.steadyCount ∧ (s.endMissed d
      e).btu.reportedV = s.btu.reportedV ∧ (s.endMissed d e).btu.windowMs = s.btu.windowMs ∧ (s.endMissed d
      e).btu.fEntry = s.btu.fEntry ∧ (s.endMissed d e).btu.fExit = s.btu.fExit ∧ (s.endMissed d e).btu.fConf0 =
      s.btu.fConf0 ∧ (s.endMissed d e).btu.fConf1 = s.btu.fConf1 ∧ (s.endMissed d e).btu.openRec = s.btu.openRec ∧
      (s.endMissed d e).btu.gapRef = s.btu.gapRef ∧ (s.endMissed d e).btu.skipTrailing = s.btu.skipTrailing ∧
      (s.endMissed d e).btu.expects = s.btu.expects ∧ (s.endMissed d e).btu.upA = s.btu.upA ∧ (s.endMissed d e).btu.upB
      = s.btu.upB ∧ (s.endMissed d e).btu.down = s.btu.down ∧ (s.endMissed d e).btu.blockedFlag = s.btu.blockedFlag ∧
      (s.endMissed d e).btu.permit = s.btu.permit ∧ (s.endMissed d e).btu.flow = s.btu.flow ∧ (s.endMissed d
      e).btu.jamSample = s.btu.jamSample ∧ (s.endMissed d e).btu.queue.map SegRec.ref = s.btu.queue.map SegRec.ref ∧
      (s.endMissed d e).btu.queue.length = s.btu.queue.length := by
  simp only [State.endMissed]; simp; intros; split <;> rfl

/-- What endWaiting leaves of the tracking unit. -/
@[simp] theorem State.endWaiting_btu_frame (s : State) (d : Div) :
    (s.endWaiting d).btu.e = s.btu.e ∧ (s.endWaiting d).btu.history = s.btu.history ∧ (s.endWaiting d).btu.winCount =
      s.btu.winCount ∧ (s.endWaiting d).btu.v = s.btu.v ∧ (s.endWaiting d).btu.prevV = s.btu.prevV ∧ (s.endWaiting
      d).btu.speed = s.btu.speed ∧ (s.endWaiting d).btu.steadyCount = s.btu.steadyCount ∧ (s.endWaiting d).btu.reportedV
      = s.btu.reportedV ∧ (s.endWaiting d).btu.windowMs = s.btu.windowMs ∧ (s.endWaiting d).btu.fEntry = s.btu.fEntry ∧
      (s.endWaiting d).btu.fExit = s.btu.fExit ∧ (s.endWaiting d).btu.fConf0 = s.btu.fConf0 ∧ (s.endWaiting
      d).btu.fConf1 = s.btu.fConf1 ∧ (s.endWaiting d).btu.openRec = s.btu.openRec ∧ (s.endWaiting d).btu.gapRef =
      s.btu.gapRef ∧ (s.endWaiting d).btu.skipTrailing = s.btu.skipTrailing ∧ (s.endWaiting d).btu.expects =
      s.btu.expects ∧ (s.endWaiting d).btu.upA = s.btu.upA ∧ (s.endWaiting d).btu.upB = s.btu.upB ∧ (s.endWaiting
      d).btu.down = s.btu.down ∧ (s.endWaiting d).btu.blockedFlag = s.btu.blockedFlag ∧ (s.endWaiting d).btu.permit =
      s.btu.permit ∧ (s.endWaiting d).btu.flow = s.btu.flow ∧ (s.endWaiting d).btu.jamSample = s.btu.jamSample ∧
      (s.endWaiting d).btu.queue.map SegRec.ref = s.btu.queue.map SegRec.ref ∧ (s.endWaiting d).btu.queue.length =
      s.btu.queue.length := by
  have h := foldl_keeps (fun t : State => (t.btu.e, t.btu.history, t.btu.winCount, t.btu.v, t.btu.prevV, t.btu.speed, t.btu.steadyCount, t.btu.reportedV,
      t.btu.windowMs, t.btu.fEntry, t.btu.fExit, t.btu.fConf0, t.btu.fConf1, t.btu.openRec, t.btu.gapRef,
      t.btu.skipTrailing, t.btu.expects, t.btu.upA, t.btu.upB, t.btu.down, t.btu.blockedFlag, t.btu.permit,
      t.btu.flow, t.btu.jamSample, t.btu.queue.map SegRec.ref, t.btu.queue.length))
    (fun t (e : Confirm) => t.endMissed d e) (by intro t a; simp)  ((s.dvs.get d).confirms.filter (·.waiting)) s
  simpa [State.endWaiting, and_assoc] using h

/-- What unmark leaves of the tracking unit. -/
@[simp] theorem State.unmark_btu_frame (s : State) (d : Div) :
    (s.unmark d).btu.e = s.btu.e ∧ (s.unmark d).btu.history = s.btu.history ∧ (s.unmark d).btu.winCount = s.btu.winCount
      ∧ (s.unmark d).btu.v = s.btu.v ∧ (s.unmark d).btu.prevV = s.btu.prevV ∧ (s.unmark d).btu.speed = s.btu.speed ∧
      (s.unmark d).btu.steadyCount = s.btu.steadyCount ∧ (s.unmark d).btu.reportedV = s.btu.reportedV ∧ (s.unmark
      d).btu.windowMs = s.btu.windowMs ∧ (s.unmark d).btu.fEntry = s.btu.fEntry ∧ (s.unmark d).btu.fExit = s.btu.fExit ∧
      (s.unmark d).btu.fConf0 = s.btu.fConf0 ∧ (s.unmark d).btu.fConf1 = s.btu.fConf1 ∧ (s.unmark d).btu.openRec =
      s.btu.openRec ∧ (s.unmark d).btu.gapRef = s.btu.gapRef ∧ (s.unmark d).btu.skipTrailing = s.btu.skipTrailing ∧
      (s.unmark d).btu.expects = s.btu.expects ∧ (s.unmark d).btu.upA = s.btu.upA ∧ (s.unmark d).btu.upB = s.btu.upB ∧
      (s.unmark d).btu.down = s.btu.down ∧ (s.unmark d).btu.blockedFlag = s.btu.blockedFlag ∧ (s.unmark d).btu.permit =
      s.btu.permit ∧ (s.unmark d).btu.flow = s.btu.flow ∧ (s.unmark d).btu.jamSample = s.btu.jamSample ∧ (s.unmark
      d).btu.queue.map SegRec.ref = s.btu.queue.map SegRec.ref ∧ (s.unmark d).btu.queue.length = s.btu.queue.length := by
  simp only [State.unmark]; (repeat' split) <;> simp <;> intros <;> (repeat' split) <;> rfl

/-- What makeRoom leaves of the tracking unit. -/
@[simp] theorem State.makeRoom_btu_frame (s : State) (d : Div) :
    (s.makeRoom d).btu.e = s.btu.e ∧ (s.makeRoom d).btu.history = s.btu.history ∧ (s.makeRoom d).btu.winCount =
      s.btu.winCount ∧ (s.makeRoom d).btu.v = s.btu.v ∧ (s.makeRoom d).btu.prevV = s.btu.prevV ∧ (s.makeRoom
      d).btu.speed = s.btu.speed ∧ (s.makeRoom d).btu.steadyCount = s.btu.steadyCount ∧ (s.makeRoom d).btu.reportedV =
      s.btu.reportedV ∧ (s.makeRoom d).btu.windowMs = s.btu.windowMs ∧ (s.makeRoom d).btu.fEntry = s.btu.fEntry ∧
      (s.makeRoom d).btu.fExit = s.btu.fExit ∧ (s.makeRoom d).btu.fConf0 = s.btu.fConf0 ∧ (s.makeRoom d).btu.fConf1 =
      s.btu.fConf1 ∧ (s.makeRoom d).btu.openRec = s.btu.openRec ∧ (s.makeRoom d).btu.gapRef = s.btu.gapRef ∧ (s.makeRoom
      d).btu.skipTrailing = s.btu.skipTrailing ∧ (s.makeRoom d).btu.expects = s.btu.expects ∧ (s.makeRoom d).btu.upA =
      s.btu.upA ∧ (s.makeRoom d).btu.upB = s.btu.upB ∧ (s.makeRoom d).btu.down = s.btu.down ∧ (s.makeRoom
      d).btu.blockedFlag = s.btu.blockedFlag ∧ (s.makeRoom d).btu.permit = s.btu.permit ∧ (s.makeRoom d).btu.flow =
      s.btu.flow ∧ (s.makeRoom d).btu.jamSample = s.btu.jamSample ∧ (s.makeRoom d).btu.queue.map SegRec.ref =
      s.btu.queue.map SegRec.ref ∧ (s.makeRoom d).btu.queue.length = s.btu.queue.length := by
  simp only [State.makeRoom]; (repeat' split) <;> simp

/-- What engage leaves of the tracking unit. -/
@[simp] theorem State.engage_btu_frame (s : State) (d : Div) (v : DiverterConfig) (g : Grant) :
    (s.engage d v g).btu.e = s.btu.e ∧ (s.engage d v g).btu.history = s.btu.history ∧ (s.engage d v g).btu.winCount =
      s.btu.winCount ∧ (s.engage d v g).btu.v = s.btu.v ∧ (s.engage d v g).btu.prevV = s.btu.prevV ∧ (s.engage d v
      g).btu.speed = s.btu.speed ∧ (s.engage d v g).btu.steadyCount = s.btu.steadyCount ∧ (s.engage d v g).btu.reportedV
      = s.btu.reportedV ∧ (s.engage d v g).btu.windowMs = s.btu.windowMs ∧ (s.engage d v g).btu.fEntry = s.btu.fEntry ∧
      (s.engage d v g).btu.fExit = s.btu.fExit ∧ (s.engage d v g).btu.fConf0 = s.btu.fConf0 ∧ (s.engage d v
      g).btu.fConf1 = s.btu.fConf1 ∧ (s.engage d v g).btu.openRec = s.btu.openRec ∧ (s.engage d v g).btu.gapRef =
      s.btu.gapRef ∧ (s.engage d v g).btu.skipTrailing = s.btu.skipTrailing ∧ (s.engage d v g).btu.expects =
      s.btu.expects ∧ (s.engage d v g).btu.upA = s.btu.upA ∧ (s.engage d v g).btu.upB = s.btu.upB ∧ (s.engage d v
      g).btu.down = s.btu.down ∧ (s.engage d v g).btu.blockedFlag = s.btu.blockedFlag ∧ (s.engage d v g).btu.permit =
      s.btu.permit ∧ (s.engage d v g).btu.flow = s.btu.flow ∧ (s.engage d v g).btu.jamSample = s.btu.jamSample ∧
      (s.engage d v g).btu.queue.map SegRec.ref = s.btu.queue.map SegRec.ref ∧ (s.engage d v g).btu.queue.length =
      s.btu.queue.length := by
  simp only [State.engage]; simp; intros; split <;> rfl

/-- What markBehind leaves of the tracking unit. -/
@[simp] theorem State.markBehind_btu_frame (s : State) (d : Div) (v : DiverterConfig) (r : RecRef) :
    (s.markBehind d v r).btu.e = s.btu.e ∧ (s.markBehind d v r).btu.history = s.btu.history ∧ (s.markBehind d v
      r).btu.winCount = s.btu.winCount ∧ (s.markBehind d v r).btu.v = s.btu.v ∧ (s.markBehind d v r).btu.prevV =
      s.btu.prevV ∧ (s.markBehind d v r).btu.speed = s.btu.speed ∧ (s.markBehind d v r).btu.steadyCount =
      s.btu.steadyCount ∧ (s.markBehind d v r).btu.reportedV = s.btu.reportedV ∧ (s.markBehind d v r).btu.windowMs =
      s.btu.windowMs ∧ (s.markBehind d v r).btu.fEntry = s.btu.fEntry ∧ (s.markBehind d v r).btu.fExit = s.btu.fExit ∧
      (s.markBehind d v r).btu.fConf0 = s.btu.fConf0 ∧ (s.markBehind d v r).btu.fConf1 = s.btu.fConf1 ∧ (s.markBehind d
      v r).btu.openRec = s.btu.openRec ∧ (s.markBehind d v r).btu.gapRef = s.btu.gapRef ∧ (s.markBehind d v
      r).btu.skipTrailing = s.btu.skipTrailing ∧ (s.markBehind d v r).btu.expects = s.btu.expects ∧ (s.markBehind d v
      r).btu.upA = s.btu.upA ∧ (s.markBehind d v r).btu.upB = s.btu.upB ∧ (s.markBehind d v r).btu.down = s.btu.down ∧
      (s.markBehind d v r).btu.blockedFlag = s.btu.blockedFlag ∧ (s.markBehind d v r).btu.permit = s.btu.permit ∧
      (s.markBehind d v r).btu.flow = s.btu.flow ∧ (s.markBehind d v r).btu.jamSample = s.btu.jamSample ∧ (s.markBehind
      d v r).btu.queue.map SegRec.ref = s.btu.queue.map SegRec.ref ∧ (s.markBehind d v r).btu.queue.length =
      s.btu.queue.length := by
  simp only [State.markBehind]; (repeat' split) <;> simp <;> intros <;> (repeat' split) <;> rfl

/-- What testPasses leaves of the tracking unit. -/
@[simp] theorem State.testPasses_btu_frame (s : State) (c : StationConfig) (r : RecRef) :
    (s.testPasses c r).btu.e = s.btu.e ∧ (s.testPasses c r).btu.history = s.btu.history ∧ (s.testPasses c
      r).btu.winCount = s.btu.winCount ∧ (s.testPasses c r).btu.v = s.btu.v ∧ (s.testPasses c r).btu.prevV = s.btu.prevV
      ∧ (s.testPasses c r).btu.speed = s.btu.speed ∧ (s.testPasses c r).btu.steadyCount = s.btu.steadyCount ∧
      (s.testPasses c r).btu.reportedV = s.btu.reportedV ∧ (s.testPasses c r).btu.windowMs = s.btu.windowMs ∧
      (s.testPasses c r).btu.fEntry = s.btu.fEntry ∧ (s.testPasses c r).btu.fExit = s.btu.fExit ∧ (s.testPasses c
      r).btu.fConf0 = s.btu.fConf0 ∧ (s.testPasses c r).btu.fConf1 = s.btu.fConf1 ∧ (s.testPasses c r).btu.openRec =
      s.btu.openRec ∧ (s.testPasses c r).btu.gapRef = s.btu.gapRef ∧ (s.testPasses c r).btu.skipTrailing =
      s.btu.skipTrailing ∧ (s.testPasses c r).btu.expects = s.btu.expects ∧ (s.testPasses c r).btu.upA = s.btu.upA ∧
      (s.testPasses c r).btu.upB = s.btu.upB ∧ (s.testPasses c r).btu.down = s.btu.down ∧ (s.testPasses c
      r).btu.blockedFlag = s.btu.blockedFlag ∧ (s.testPasses c r).btu.permit = s.btu.permit ∧ (s.testPasses c
      r).btu.flow = s.btu.flow ∧ (s.testPasses c r).btu.jamSample = s.btu.jamSample ∧ (s.testPasses c r).btu.queue.map
      SegRec.ref = s.btu.queue.map SegRec.ref ∧ (s.testPasses c r).btu.queue.length = s.btu.queue.length := by
  simp only [State.testPasses]; (repeat' split) <;> simp <;> intros <;> (repeat' split) <;> rfl

/-- What gapSet leaves of the tracking unit. -/
@[simp] theorem State.gapSet_btu_frame (s : State) (c : StationConfig) (r : RecRef) (n : Nat) :
    (s.gapSet c r n).btu.e = s.btu.e ∧ (s.gapSet c r n).btu.history = s.btu.history ∧ (s.gapSet c r n).btu.winCount =
      s.btu.winCount ∧ (s.gapSet c r n).btu.v = s.btu.v ∧ (s.gapSet c r n).btu.prevV = s.btu.prevV ∧ (s.gapSet c r
      n).btu.speed = s.btu.speed ∧ (s.gapSet c r n).btu.steadyCount = s.btu.steadyCount ∧ (s.gapSet c r n).btu.reportedV
      = s.btu.reportedV ∧ (s.gapSet c r n).btu.windowMs = s.btu.windowMs ∧ (s.gapSet c r n).btu.fEntry = s.btu.fEntry ∧
      (s.gapSet c r n).btu.fExit = s.btu.fExit ∧ (s.gapSet c r n).btu.fConf0 = s.btu.fConf0 ∧ (s.gapSet c r
      n).btu.fConf1 = s.btu.fConf1 ∧ (s.gapSet c r n).btu.openRec = s.btu.openRec ∧ (s.gapSet c r n).btu.gapRef =
      s.btu.gapRef ∧ (s.gapSet c r n).btu.skipTrailing = s.btu.skipTrailing ∧ (s.gapSet c r n).btu.expects =
      s.btu.expects ∧ (s.gapSet c r n).btu.upA = s.btu.upA ∧ (s.gapSet c r n).btu.upB = s.btu.upB ∧ (s.gapSet c r
      n).btu.down = s.btu.down ∧ (s.gapSet c r n).btu.blockedFlag = s.btu.blockedFlag ∧ (s.gapSet c r n).btu.permit =
      s.btu.permit ∧ (s.gapSet c r n).btu.flow = s.btu.flow ∧ (s.gapSet c r n).btu.jamSample = s.btu.jamSample ∧
      (s.gapSet c r n).btu.queue.map SegRec.ref = s.btu.queue.map SegRec.ref ∧ (s.gapSet c r n).btu.queue.length =
      s.btu.queue.length := by
  simp only [State.gapSet]; split <;> simp

/-- What backGapUntracked leaves of the tracking unit. -/
@[simp] theorem State.backGapUntracked_btu_frame (s : State) (c : StationConfig) (n : Count) :
    (s.backGapUntracked c n).btu.e = s.btu.e ∧ (s.backGapUntracked c n).btu.history = s.btu.history ∧
      (s.backGapUntracked c n).btu.winCount = s.btu.winCount ∧ (s.backGapUntracked c n).btu.v = s.btu.v ∧
      (s.backGapUntracked c n).btu.prevV = s.btu.prevV ∧ (s.backGapUntracked c n).btu.speed = s.btu.speed ∧
      (s.backGapUntracked c n).btu.steadyCount = s.btu.steadyCount ∧ (s.backGapUntracked c n).btu.reportedV =
      s.btu.reportedV ∧ (s.backGapUntracked c n).btu.windowMs = s.btu.windowMs ∧ (s.backGapUntracked c n).btu.fEntry =
      s.btu.fEntry ∧ (s.backGapUntracked c n).btu.fExit = s.btu.fExit ∧ (s.backGapUntracked c n).btu.fConf0 =
      s.btu.fConf0 ∧ (s.backGapUntracked c n).btu.fConf1 = s.btu.fConf1 ∧ (s.backGapUntracked c n).btu.openRec =
      s.btu.openRec ∧ (s.backGapUntracked c n).btu.gapRef = s.btu.gapRef ∧ (s.backGapUntracked c n).btu.skipTrailing =
      s.btu.skipTrailing ∧ (s.backGapUntracked c n).btu.expects = s.btu.expects ∧ (s.backGapUntracked c n).btu.upA =
      s.btu.upA ∧ (s.backGapUntracked c n).btu.upB = s.btu.upB ∧ (s.backGapUntracked c n).btu.down = s.btu.down ∧
      (s.backGapUntracked c n).btu.blockedFlag = s.btu.blockedFlag ∧ (s.backGapUntracked c n).btu.permit = s.btu.permit
      ∧ (s.backGapUntracked c n).btu.flow = s.btu.flow ∧ (s.backGapUntracked c n).btu.jamSample = s.btu.jamSample ∧
      (s.backGapUntracked c n).btu.queue.map SegRec.ref = s.btu.queue.map SegRec.ref ∧ (s.backGapUntracked c
      n).btu.queue.length = s.btu.queue.length := by
  simp only [State.backGapUntracked]; (repeat' split) <;> simp <;> intros <;> (repeat' split) <;> rfl

/-- What measure leaves of the tracking unit. -/
@[simp] theorem State.measure_btu_frame (s : State) (c : StationConfig) (r : SegRec) (n : Count) :
    (s.measure c r n).btu.e = s.btu.e ∧ (s.measure c r n).btu.history = s.btu.history ∧ (s.measure c r n).btu.winCount =
      s.btu.winCount ∧ (s.measure c r n).btu.v = s.btu.v ∧ (s.measure c r n).btu.prevV = s.btu.prevV ∧ (s.measure c r
      n).btu.speed = s.btu.speed ∧ (s.measure c r n).btu.steadyCount = s.btu.steadyCount ∧ (s.measure c r
      n).btu.reportedV = s.btu.reportedV ∧ (s.measure c r n).btu.windowMs = s.btu.windowMs ∧ (s.measure c r
      n).btu.fEntry = s.btu.fEntry ∧ (s.measure c r n).btu.fExit = s.btu.fExit ∧ (s.measure c r n).btu.fConf0 =
      s.btu.fConf0 ∧ (s.measure c r n).btu.fConf1 = s.btu.fConf1 ∧ (s.measure c r n).btu.openRec = s.btu.openRec ∧
      (s.measure c r n).btu.gapRef = s.btu.gapRef ∧ (s.measure c r n).btu.skipTrailing = s.btu.skipTrailing ∧ (s.measure
      c r n).btu.expects = s.btu.expects ∧ (s.measure c r n).btu.upA = s.btu.upA ∧ (s.measure c r n).btu.upB = s.btu.upB
      ∧ (s.measure c r n).btu.down = s.btu.down ∧ (s.measure c r n).btu.blockedFlag = s.btu.blockedFlag ∧ (s.measure c r
      n).btu.permit = s.btu.permit ∧ (s.measure c r n).btu.flow = s.btu.flow ∧ (s.measure c r n).btu.jamSample =
      s.btu.jamSample ∧ (s.measure c r n).btu.queue.map SegRec.ref = s.btu.queue.map SegRec.ref ∧ (s.measure c r
      n).btu.queue.length = s.btu.queue.length := by
  simp only [State.measure]; (repeat' split) <;> simp <;> intros <;> (repeat' split) <;> rfl

/-- What setGaps leaves of the tracking unit. -/
@[simp] theorem State.setGaps_btu_frame (s : State) (c : StationConfig) (r : SegRec) :
    (s.setGaps c r).btu.e = s.btu.e ∧ (s.setGaps c r).btu.history = s.btu.history ∧ (s.setGaps c r).btu.winCount =
      s.btu.winCount ∧ (s.setGaps c r).btu.v = s.btu.v ∧ (s.setGaps c r).btu.prevV = s.btu.prevV ∧ (s.setGaps c
      r).btu.speed = s.btu.speed ∧ (s.setGaps c r).btu.steadyCount = s.btu.steadyCount ∧ (s.setGaps c r).btu.reportedV =
      s.btu.reportedV ∧ (s.setGaps c r).btu.windowMs = s.btu.windowMs ∧ (s.setGaps c r).btu.fEntry = s.btu.fEntry ∧
      (s.setGaps c r).btu.fExit = s.btu.fExit ∧ (s.setGaps c r).btu.fConf0 = s.btu.fConf0 ∧ (s.setGaps c r).btu.fConf1 =
      s.btu.fConf1 ∧ (s.setGaps c r).btu.openRec = s.btu.openRec ∧ (s.setGaps c r).btu.gapRef = s.btu.gapRef ∧
      (s.setGaps c r).btu.skipTrailing = s.btu.skipTrailing ∧ (s.setGaps c r).btu.expects = s.btu.expects ∧ (s.setGaps c
      r).btu.upA = s.btu.upA ∧ (s.setGaps c r).btu.upB = s.btu.upB ∧ (s.setGaps c r).btu.down = s.btu.down ∧ (s.setGaps
      c r).btu.blockedFlag = s.btu.blockedFlag ∧ (s.setGaps c r).btu.permit = s.btu.permit ∧ (s.setGaps c r).btu.flow =
      s.btu.flow ∧ (s.setGaps c r).btu.jamSample = s.btu.jamSample ∧ (s.setGaps c r).btu.queue.map SegRec.ref =
      s.btu.queue.map SegRec.ref ∧ (s.setGaps c r).btu.queue.length = s.btu.queue.length := by
  simp only [State.setGaps]; (repeat' split) <;> simp <;> intros <;> (repeat' split) <;> rfl

/-- What makeLong leaves of the tracking unit. -/
@[simp] theorem State.makeLong_btu_frame (s : State) (c : StationConfig) (r : RecRef) :
    (s.makeLong c r).btu.e = s.btu.e ∧ (s.makeLong c r).btu.history = s.btu.history ∧ (s.makeLong c r).btu.winCount =
      s.btu.winCount ∧ (s.makeLong c r).btu.v = s.btu.v ∧ (s.makeLong c r).btu.prevV = s.btu.prevV ∧ (s.makeLong c
      r).btu.speed = s.btu.speed ∧ (s.makeLong c r).btu.steadyCount = s.btu.steadyCount ∧ (s.makeLong c r).btu.reportedV
      = s.btu.reportedV ∧ (s.makeLong c r).btu.windowMs = s.btu.windowMs ∧ (s.makeLong c r).btu.fEntry = s.btu.fEntry ∧
      (s.makeLong c r).btu.fExit = s.btu.fExit ∧ (s.makeLong c r).btu.fConf0 = s.btu.fConf0 ∧ (s.makeLong c
      r).btu.fConf1 = s.btu.fConf1 ∧ (s.makeLong c r).btu.openRec = s.btu.openRec ∧ (s.makeLong c r).btu.gapRef =
      s.btu.gapRef ∧ (s.makeLong c r).btu.skipTrailing = s.btu.skipTrailing ∧ (s.makeLong c r).btu.expects =
      s.btu.expects ∧ (s.makeLong c r).btu.upA = s.btu.upA ∧ (s.makeLong c r).btu.upB = s.btu.upB ∧ (s.makeLong c
      r).btu.down = s.btu.down ∧ (s.makeLong c r).btu.blockedFlag = s.btu.blockedFlag ∧ (s.makeLong c r).btu.permit =
      s.btu.permit ∧ (s.makeLong c r).btu.flow = s.btu.flow ∧ (s.makeLong c r).btu.jamSample = s.btu.jamSample ∧
      (s.makeLong c r).btu.queue.map SegRec.ref = s.btu.queue.map SegRec.ref ∧ (s.makeLong c r).btu.queue.length =
      s.btu.queue.length := by
  simp only [State.makeLong]; simp; intros; split <;> rfl

/-- What longBagReturn leaves of the tracking unit. -/
@[simp] theorem State.longBagReturn_btu_frame (s : State) (c : StationConfig) :
    (s.longBagReturn c).btu.e = s.btu.e ∧ (s.longBagReturn c).btu.history = s.btu.history ∧ (s.longBagReturn
      c).btu.winCount = s.btu.winCount ∧ (s.longBagReturn c).btu.v = s.btu.v ∧ (s.longBagReturn c).btu.prevV =
      s.btu.prevV ∧ (s.longBagReturn c).btu.speed = s.btu.speed ∧ (s.longBagReturn c).btu.steadyCount =
      s.btu.steadyCount ∧ (s.longBagReturn c).btu.reportedV = s.btu.reportedV ∧ (s.longBagReturn c).btu.windowMs =
      s.btu.windowMs ∧ (s.longBagReturn c).btu.fEntry = s.btu.fEntry ∧ (s.longBagReturn c).btu.fExit = s.btu.fExit ∧
      (s.longBagReturn c).btu.fConf0 = s.btu.fConf0 ∧ (s.longBagReturn c).btu.fConf1 = s.btu.fConf1 ∧ (s.longBagReturn
      c).btu.openRec = s.btu.openRec ∧ (s.longBagReturn c).btu.gapRef = s.btu.gapRef ∧ (s.longBagReturn
      c).btu.skipTrailing = s.btu.skipTrailing ∧ (s.longBagReturn c).btu.expects = s.btu.expects ∧ (s.longBagReturn
      c).btu.upA = s.btu.upA ∧ (s.longBagReturn c).btu.upB = s.btu.upB ∧ (s.longBagReturn c).btu.down = s.btu.down ∧
      (s.longBagReturn c).btu.blockedFlag = s.btu.blockedFlag ∧ (s.longBagReturn c).btu.permit = s.btu.permit ∧
      (s.longBagReturn c).btu.flow = s.btu.flow ∧ (s.longBagReturn c).btu.jamSample = s.btu.jamSample ∧ (s.longBagReturn
      c).btu.queue.map SegRec.ref = s.btu.queue.map SegRec.ref ∧ (s.longBagReturn c).btu.queue.length =
      s.btu.queue.length := by
  simp only [State.longBagReturn]; (repeat' split) <;> simp

/-- What passesRule leaves of the tracking unit. -/
@[simp] theorem State.passesRule_btu_frame (s : State) (c : StationConfig) (r : SegRec) :
    (s.passesRule c r).btu.e = s.btu.e ∧ (s.passesRule c r).btu.history = s.btu.history ∧ (s.passesRule c
      r).btu.winCount = s.btu.winCount ∧ (s.passesRule c r).btu.v = s.btu.v ∧ (s.passesRule c r).btu.prevV = s.btu.prevV
      ∧ (s.passesRule c r).btu.speed = s.btu.speed ∧ (s.passesRule c r).btu.steadyCount = s.btu.steadyCount ∧
      (s.passesRule c r).btu.reportedV = s.btu.reportedV ∧ (s.passesRule c r).btu.windowMs = s.btu.windowMs ∧
      (s.passesRule c r).btu.fEntry = s.btu.fEntry ∧ (s.passesRule c r).btu.fExit = s.btu.fExit ∧ (s.passesRule c
      r).btu.fConf0 = s.btu.fConf0 ∧ (s.passesRule c r).btu.fConf1 = s.btu.fConf1 ∧ (s.passesRule c r).btu.openRec =
      s.btu.openRec ∧ (s.passesRule c r).btu.gapRef = s.btu.gapRef ∧ (s.passesRule c r).btu.skipTrailing =
      s.btu.skipTrailing ∧ (s.passesRule c r).btu.expects = s.btu.expects ∧ (s.passesRule c r).btu.upA = s.btu.upA ∧
      (s.passesRule c r).btu.upB = s.btu.upB ∧ (s.passesRule c r).btu.down = s.btu.down ∧ (s.passesRule c
      r).btu.blockedFlag = s.btu.blockedFlag ∧ (s.passesRule c r).btu.permit = s.btu.permit ∧ (s.passesRule c
      r).btu.flow = s.btu.flow ∧ (s.passesRule c r).btu.jamSample = s.btu.jamSample ∧ (s.passesRule c r).btu.queue.map
      SegRec.ref = s.btu.queue.map SegRec.ref ∧ (s.passesRule c r).btu.queue.length = s.btu.queue.length := by
  simp only [State.passesRule]; (repeat' split) <;> simp <;> intros <;> (repeat' split) <;> rfl

/-- What ambiguousCandidate leaves of the tracking unit. -/
@[simp] theorem State.ambiguousCandidate_btu_frame (s : State) (c : StationConfig) (r : SegRec) :
    (s.ambiguousCandidate c r).btu.e = s.btu.e ∧ (s.ambiguousCandidate c r).btu.history = s.btu.history ∧
      (s.ambiguousCandidate c r).btu.winCount = s.btu.winCount ∧ (s.ambiguousCandidate c r).btu.v = s.btu.v ∧
      (s.ambiguousCandidate c r).btu.prevV = s.btu.prevV ∧ (s.ambiguousCandidate c r).btu.speed = s.btu.speed ∧
      (s.ambiguousCandidate c r).btu.steadyCount = s.btu.steadyCount ∧ (s.ambiguousCandidate c r).btu.reportedV =
      s.btu.reportedV ∧ (s.ambiguousCandidate c r).btu.windowMs = s.btu.windowMs ∧ (s.ambiguousCandidate c r).btu.fEntry
      = s.btu.fEntry ∧ (s.ambiguousCandidate c r).btu.fExit = s.btu.fExit ∧ (s.ambiguousCandidate c r).btu.fConf0 =
      s.btu.fConf0 ∧ (s.ambiguousCandidate c r).btu.fConf1 = s.btu.fConf1 ∧ (s.ambiguousCandidate c r).btu.openRec =
      s.btu.openRec ∧ (s.ambiguousCandidate c r).btu.gapRef = s.btu.gapRef ∧ (s.ambiguousCandidate c r).btu.skipTrailing
      = s.btu.skipTrailing ∧ (s.ambiguousCandidate c r).btu.expects = s.btu.expects ∧ (s.ambiguousCandidate c r).btu.upA
      = s.btu.upA ∧ (s.ambiguousCandidate c r).btu.upB = s.btu.upB ∧ (s.ambiguousCandidate c r).btu.down = s.btu.down ∧
      (s.ambiguousCandidate c r).btu.blockedFlag = s.btu.blockedFlag ∧ (s.ambiguousCandidate c r).btu.permit =
      s.btu.permit ∧ (s.ambiguousCandidate c r).btu.flow = s.btu.flow ∧ (s.ambiguousCandidate c r).btu.jamSample =
      s.btu.jamSample ∧ (s.ambiguousCandidate c r).btu.queue.map SegRec.ref = s.btu.queue.map SegRec.ref ∧
      (s.ambiguousCandidate c r).btu.queue.length = s.btu.queue.length := by
  simp only [State.ambiguousCandidate]; split <;> simp; intros; split <;> rfl

/-- What ambiguousRead leaves of the tracking unit. -/
@[simp] theorem State.ambiguousRead_btu_frame (s : State) (c : StationConfig) (rs : List SegRec) :
    (s.ambiguousRead c rs).btu.e = s.btu.e ∧ (s.ambiguousRead c rs).btu.history = s.btu.history ∧ (s.ambiguousRead c
      rs).btu.winCount = s.btu.winCount ∧ (s.ambiguousRead c rs).btu.v = s.btu.v ∧ (s.ambiguousRead c rs).btu.prevV =
      s.btu.prevV ∧ (s.ambiguousRead c rs).btu.speed = s.btu.speed ∧ (s.ambiguousRead c rs).btu.steadyCount =
      s.btu.steadyCount ∧ (s.ambiguousRead c rs).btu.reportedV = s.btu.reportedV ∧ (s.ambiguousRead c rs).btu.windowMs =
      s.btu.windowMs ∧ (s.ambiguousRead c rs).btu.fEntry = s.btu.fEntry ∧ (s.ambiguousRead c rs).btu.fExit = s.btu.fExit
      ∧ (s.ambiguousRead c rs).btu.fConf0 = s.btu.fConf0 ∧ (s.ambiguousRead c rs).btu.fConf1 = s.btu.fConf1 ∧
      (s.ambiguousRead c rs).btu.openRec = s.btu.openRec ∧ (s.ambiguousRead c rs).btu.gapRef = s.btu.gapRef ∧
      (s.ambiguousRead c rs).btu.skipTrailing = s.btu.skipTrailing ∧ (s.ambiguousRead c rs).btu.expects = s.btu.expects
      ∧ (s.ambiguousRead c rs).btu.upA = s.btu.upA ∧ (s.ambiguousRead c rs).btu.upB = s.btu.upB ∧ (s.ambiguousRead c
      rs).btu.down = s.btu.down ∧ (s.ambiguousRead c rs).btu.blockedFlag = s.btu.blockedFlag ∧ (s.ambiguousRead c
      rs).btu.permit = s.btu.permit ∧ (s.ambiguousRead c rs).btu.flow = s.btu.flow ∧ (s.ambiguousRead c
      rs).btu.jamSample = s.btu.jamSample ∧ (s.ambiguousRead c rs).btu.queue.map SegRec.ref = s.btu.queue.map SegRec.ref
      ∧ (s.ambiguousRead c rs).btu.queue.length = s.btu.queue.length := by
  have h := foldl_keeps (fun t : State => (t.btu.e, t.btu.history, t.btu.winCount, t.btu.v, t.btu.prevV, t.btu.speed, t.btu.steadyCount, t.btu.reportedV,
      t.btu.windowMs, t.btu.fEntry, t.btu.fExit, t.btu.fConf0, t.btu.fConf1, t.btu.openRec, t.btu.gapRef,
      t.btu.skipTrailing, t.btu.expects, t.btu.upA, t.btu.upB, t.btu.down, t.btu.blockedFlag, t.btu.permit,
      t.btu.flow, t.btu.jamSample, t.btu.queue.map SegRec.ref, t.btu.queue.length))
    (fun t (r : SegRec) => t.ambiguousCandidate c r) (by intro t a; simp)  rs ((s.bump .ambiguousRead).raiseEv .ambiguousRead)
  simpa [State.ambiguousRead, and_assoc] using h

/-- What failedRead leaves of the tracking unit. -/
@[simp] theorem State.failedRead_btu_frame (s : State) (c : StationConfig) (r : SegRec) (x : Reason) :
    (s.failedRead c r x).btu.e = s.btu.e ∧ (s.failedRead c r x).btu.history = s.btu.history ∧ (s.failedRead c r
      x).btu.winCount = s.btu.winCount ∧ (s.failedRead c r x).btu.v = s.btu.v ∧ (s.failedRead c r x).btu.prevV =
      s.btu.prevV ∧ (s.failedRead c r x).btu.speed = s.btu.speed ∧ (s.failedRead c r x).btu.steadyCount =
      s.btu.steadyCount ∧ (s.failedRead c r x).btu.reportedV = s.btu.reportedV ∧ (s.failedRead c r x).btu.windowMs =
      s.btu.windowMs ∧ (s.failedRead c r x).btu.fEntry = s.btu.fEntry ∧ (s.failedRead c r x).btu.fExit = s.btu.fExit ∧
      (s.failedRead c r x).btu.fConf0 = s.btu.fConf0 ∧ (s.failedRead c r x).btu.fConf1 = s.btu.fConf1 ∧ (s.failedRead c
      r x).btu.openRec = s.btu.openRec ∧ (s.failedRead c r x).btu.gapRef = s.btu.gapRef ∧ (s.failedRead c r
      x).btu.skipTrailing = s.btu.skipTrailing ∧ (s.failedRead c r x).btu.expects = s.btu.expects ∧ (s.failedRead c r
      x).btu.upA = s.btu.upA ∧ (s.failedRead c r x).btu.upB = s.btu.upB ∧ (s.failedRead c r x).btu.down = s.btu.down ∧
      (s.failedRead c r x).btu.blockedFlag = s.btu.blockedFlag ∧ (s.failedRead c r x).btu.permit = s.btu.permit ∧
      (s.failedRead c r x).btu.flow = s.btu.flow ∧ (s.failedRead c r x).btu.jamSample = s.btu.jamSample ∧ (s.failedRead
      c r x).btu.queue.map SegRec.ref = s.btu.queue.map SegRec.ref ∧ (s.failedRead c r x).btu.queue.length =
      s.btu.queue.length := by
  simp only [State.failedRead]; split <;> simp <;> intros <;> split <;> rfl

/-- What conflict leaves of the tracking unit. -/
@[simp] theorem State.conflict_btu_frame (s : State) (c : StationConfig) (r : SegRec) :
    (s.conflict c r).btu.e = s.btu.e ∧ (s.conflict c r).btu.history = s.btu.history ∧ (s.conflict c r).btu.winCount =
      s.btu.winCount ∧ (s.conflict c r).btu.v = s.btu.v ∧ (s.conflict c r).btu.prevV = s.btu.prevV ∧ (s.conflict c
      r).btu.speed = s.btu.speed ∧ (s.conflict c r).btu.steadyCount = s.btu.steadyCount ∧ (s.conflict c r).btu.reportedV
      = s.btu.reportedV ∧ (s.conflict c r).btu.windowMs = s.btu.windowMs ∧ (s.conflict c r).btu.fEntry = s.btu.fEntry ∧
      (s.conflict c r).btu.fExit = s.btu.fExit ∧ (s.conflict c r).btu.fConf0 = s.btu.fConf0 ∧ (s.conflict c
      r).btu.fConf1 = s.btu.fConf1 ∧ (s.conflict c r).btu.openRec = s.btu.openRec ∧ (s.conflict c r).btu.gapRef =
      s.btu.gapRef ∧ (s.conflict c r).btu.skipTrailing = s.btu.skipTrailing ∧ (s.conflict c r).btu.expects =
      s.btu.expects ∧ (s.conflict c r).btu.upA = s.btu.upA ∧ (s.conflict c r).btu.upB = s.btu.upB ∧ (s.conflict c
      r).btu.down = s.btu.down ∧ (s.conflict c r).btu.blockedFlag = s.btu.blockedFlag ∧ (s.conflict c r).btu.permit =
      s.btu.permit ∧ (s.conflict c r).btu.flow = s.btu.flow ∧ (s.conflict c r).btu.jamSample = s.btu.jamSample ∧
      (s.conflict c r).btu.queue.map SegRec.ref = s.btu.queue.map SegRec.ref ∧ (s.conflict c r).btu.queue.length =
      s.btu.queue.length := by
  simp only [State.conflict]; simp; intros; split <;> rfl

/-- What applyNotice leaves of the tracking unit. -/
@[simp] theorem State.applyNotice_btu_frame (s : State) (c : StationConfig) (r : RecRef) (i : Identity) (d : Nat) :
    (s.applyNotice c r i d).btu.e = s.btu.e ∧ (s.applyNotice c r i d).btu.history = s.btu.history ∧ (s.applyNotice c r i
      d).btu.winCount = s.btu.winCount ∧ (s.applyNotice c r i d).btu.v = s.btu.v ∧ (s.applyNotice c r i d).btu.prevV =
      s.btu.prevV ∧ (s.applyNotice c r i d).btu.speed = s.btu.speed ∧ (s.applyNotice c r i d).btu.steadyCount =
      s.btu.steadyCount ∧ (s.applyNotice c r i d).btu.reportedV = s.btu.reportedV ∧ (s.applyNotice c r i d).btu.windowMs
      = s.btu.windowMs ∧ (s.applyNotice c r i d).btu.fEntry = s.btu.fEntry ∧ (s.applyNotice c r i d).btu.fExit =
      s.btu.fExit ∧ (s.applyNotice c r i d).btu.fConf0 = s.btu.fConf0 ∧ (s.applyNotice c r i d).btu.fConf1 =
      s.btu.fConf1 ∧ (s.applyNotice c r i d).btu.openRec = s.btu.openRec ∧ (s.applyNotice c r i d).btu.gapRef =
      s.btu.gapRef ∧ (s.applyNotice c r i d).btu.skipTrailing = s.btu.skipTrailing ∧ (s.applyNotice c r i d).btu.expects
      = s.btu.expects ∧ (s.applyNotice c r i d).btu.upA = s.btu.upA ∧ (s.applyNotice c r i d).btu.upB = s.btu.upB ∧
      (s.applyNotice c r i d).btu.down = s.btu.down ∧ (s.applyNotice c r i d).btu.blockedFlag = s.btu.blockedFlag ∧
      (s.applyNotice c r i d).btu.permit = s.btu.permit ∧ (s.applyNotice c r i d).btu.flow = s.btu.flow ∧ (s.applyNotice
      c r i d).btu.jamSample = s.btu.jamSample ∧ (s.applyNotice c r i d).btu.queue.map SegRec.ref = s.btu.queue.map
      SegRec.ref ∧ (s.applyNotice c r i d).btu.queue.length = s.btu.queue.length := by
  simp only [State.applyNotice]; (repeat' split) <;> simp <;> intros <;> (repeat' split) <;> rfl

/-- What noticeOnSegment leaves of the tracking unit. -/
@[simp] theorem State.noticeOnSegment_btu_frame (s : State) (c : StationConfig) (n : Nat) (i : Identity) (d : Nat) :
    (s.noticeOnSegment c n i d).btu.e = s.btu.e ∧ (s.noticeOnSegment c n i d).btu.history = s.btu.history ∧
      (s.noticeOnSegment c n i d).btu.winCount = s.btu.winCount ∧ (s.noticeOnSegment c n i d).btu.v = s.btu.v ∧
      (s.noticeOnSegment c n i d).btu.prevV = s.btu.prevV ∧ (s.noticeOnSegment c n i d).btu.speed = s.btu.speed ∧
      (s.noticeOnSegment c n i d).btu.steadyCount = s.btu.steadyCount ∧ (s.noticeOnSegment c n i d).btu.reportedV =
      s.btu.reportedV ∧ (s.noticeOnSegment c n i d).btu.windowMs = s.btu.windowMs ∧ (s.noticeOnSegment c n i
      d).btu.fEntry = s.btu.fEntry ∧ (s.noticeOnSegment c n i d).btu.fExit = s.btu.fExit ∧ (s.noticeOnSegment c n i
      d).btu.fConf0 = s.btu.fConf0 ∧ (s.noticeOnSegment c n i d).btu.fConf1 = s.btu.fConf1 ∧ (s.noticeOnSegment c n i
      d).btu.openRec = s.btu.openRec ∧ (s.noticeOnSegment c n i d).btu.gapRef = s.btu.gapRef ∧ (s.noticeOnSegment c n i
      d).btu.skipTrailing = s.btu.skipTrailing ∧ (s.noticeOnSegment c n i d).btu.expects = s.btu.expects ∧
      (s.noticeOnSegment c n i d).btu.upA = s.btu.upA ∧ (s.noticeOnSegment c n i d).btu.upB = s.btu.upB ∧
      (s.noticeOnSegment c n i d).btu.down = s.btu.down ∧ (s.noticeOnSegment c n i d).btu.blockedFlag =
      s.btu.blockedFlag ∧ (s.noticeOnSegment c n i d).btu.permit = s.btu.permit ∧ (s.noticeOnSegment c n i d).btu.flow =
      s.btu.flow ∧ (s.noticeOnSegment c n i d).btu.jamSample = s.btu.jamSample ∧ (s.noticeOnSegment c n i
      d).btu.queue.map SegRec.ref = s.btu.queue.map SegRec.ref ∧ (s.noticeOnSegment c n i d).btu.queue.length =
      s.btu.queue.length := by
  simp only [State.noticeOnSegment]; split <;> simp

/-- What takeNotice leaves of the tracking unit. -/
@[simp] theorem State.takeNotice_btu_frame (s : State) (c : StationConfig) (i : Identity) (d : Nat) :
    (s.takeNotice c i d).btu.e = s.btu.e ∧ (s.takeNotice c i d).btu.history = s.btu.history ∧ (s.takeNotice c i
      d).btu.winCount = s.btu.winCount ∧ (s.takeNotice c i d).btu.v = s.btu.v ∧ (s.takeNotice c i d).btu.prevV =
      s.btu.prevV ∧ (s.takeNotice c i d).btu.speed = s.btu.speed ∧ (s.takeNotice c i d).btu.steadyCount =
      s.btu.steadyCount ∧ (s.takeNotice c i d).btu.reportedV = s.btu.reportedV ∧ (s.takeNotice c i d).btu.windowMs =
      s.btu.windowMs ∧ (s.takeNotice c i d).btu.fEntry = s.btu.fEntry ∧ (s.takeNotice c i d).btu.fExit = s.btu.fExit ∧
      (s.takeNotice c i d).btu.fConf0 = s.btu.fConf0 ∧ (s.takeNotice c i d).btu.fConf1 = s.btu.fConf1 ∧ (s.takeNotice c
      i d).btu.openRec = s.btu.openRec ∧ (s.takeNotice c i d).btu.gapRef = s.btu.gapRef ∧ (s.takeNotice c i
      d).btu.skipTrailing = s.btu.skipTrailing ∧ (s.takeNotice c i d).btu.expects = s.btu.expects ∧ (s.takeNotice c i
      d).btu.upA = s.btu.upA ∧ (s.takeNotice c i d).btu.upB = s.btu.upB ∧ (s.takeNotice c i d).btu.down = s.btu.down ∧
      (s.takeNotice c i d).btu.blockedFlag = s.btu.blockedFlag ∧ (s.takeNotice c i d).btu.permit = s.btu.permit ∧
      (s.takeNotice c i d).btu.flow = s.btu.flow ∧ (s.takeNotice c i d).btu.jamSample = s.btu.jamSample ∧ (s.takeNotice
      c i d).btu.queue.map SegRec.ref = s.btu.queue.map SegRec.ref ∧ (s.takeNotice c i d).btu.queue.length =
      s.btu.queue.length := by
  simp only [State.takeNotice]; (repeat' split) <;> simp

/-- What retire leaves of the tracking unit. -/
@[simp] theorem State.retire_btu_frame (s : State) (c : StationConfig) (i : Identity) (n : Nat) :
    (s.retire c i n).btu.e = s.btu.e ∧ (s.retire c i n).btu.history = s.btu.history ∧ (s.retire c i n).btu.winCount =
      s.btu.winCount ∧ (s.retire c i n).btu.v = s.btu.v ∧ (s.retire c i n).btu.prevV = s.btu.prevV ∧ (s.retire c i
      n).btu.speed = s.btu.speed ∧ (s.retire c i n).btu.steadyCount = s.btu.steadyCount ∧ (s.retire c i n).btu.reportedV
      = s.btu.reportedV ∧ (s.retire c i n).btu.windowMs = s.btu.windowMs ∧ (s.retire c i n).btu.fEntry = s.btu.fEntry ∧
      (s.retire c i n).btu.fExit = s.btu.fExit ∧ (s.retire c i n).btu.fConf0 = s.btu.fConf0 ∧ (s.retire c i
      n).btu.fConf1 = s.btu.fConf1 ∧ (s.retire c i n).btu.openRec = s.btu.openRec ∧ (s.retire c i n).btu.gapRef =
      s.btu.gapRef ∧ (s.retire c i n).btu.skipTrailing = s.btu.skipTrailing ∧ (s.retire c i n).btu.expects =
      s.btu.expects ∧ (s.retire c i n).btu.upA = s.btu.upA ∧ (s.retire c i n).btu.upB = s.btu.upB ∧ (s.retire c i
      n).btu.down = s.btu.down ∧ (s.retire c i n).btu.blockedFlag = s.btu.blockedFlag ∧ (s.retire c i n).btu.permit =
      s.btu.permit ∧ (s.retire c i n).btu.flow = s.btu.flow ∧ (s.retire c i n).btu.jamSample = s.btu.jamSample ∧
      (s.retire c i n).btu.queue.map SegRec.ref = s.btu.queue.map SegRec.ref ∧ (s.retire c i n).btu.queue.length =
      s.btu.queue.length := by
  simp only [State.retire]; (repeat' split) <;> simp

/-- What takeDivertDone leaves of the tracking unit. -/
@[simp] theorem State.takeDivertDone_btu_frame (s : State) (c : StationConfig) (d : DivertDone) :
    (s.takeDivertDone c d).btu.e = s.btu.e ∧ (s.takeDivertDone c d).btu.history = s.btu.history ∧ (s.takeDivertDone c
      d).btu.winCount = s.btu.winCount ∧ (s.takeDivertDone c d).btu.v = s.btu.v ∧ (s.takeDivertDone c d).btu.prevV =
      s.btu.prevV ∧ (s.takeDivertDone c d).btu.speed = s.btu.speed ∧ (s.takeDivertDone c d).btu.steadyCount =
      s.btu.steadyCount ∧ (s.takeDivertDone c d).btu.reportedV = s.btu.reportedV ∧ (s.takeDivertDone c d).btu.windowMs =
      s.btu.windowMs ∧ (s.takeDivertDone c d).btu.fEntry = s.btu.fEntry ∧ (s.takeDivertDone c d).btu.fExit = s.btu.fExit
      ∧ (s.takeDivertDone c d).btu.fConf0 = s.btu.fConf0 ∧ (s.takeDivertDone c d).btu.fConf1 = s.btu.fConf1 ∧
      (s.takeDivertDone c d).btu.openRec = s.btu.openRec ∧ (s.takeDivertDone c d).btu.gapRef = s.btu.gapRef ∧
      (s.takeDivertDone c d).btu.skipTrailing = s.btu.skipTrailing ∧ (s.takeDivertDone c d).btu.expects = s.btu.expects
      ∧ (s.takeDivertDone c d).btu.upA = s.btu.upA ∧ (s.takeDivertDone c d).btu.upB = s.btu.upB ∧ (s.takeDivertDone c
      d).btu.down = s.btu.down ∧ (s.takeDivertDone c d).btu.blockedFlag = s.btu.blockedFlag ∧ (s.takeDivertDone c
      d).btu.permit = s.btu.permit ∧ (s.takeDivertDone c d).btu.flow = s.btu.flow ∧ (s.takeDivertDone c d).btu.jamSample
      = s.btu.jamSample ∧ (s.takeDivertDone c d).btu.queue.map SegRec.ref = s.btu.queue.map SegRec.ref ∧
      (s.takeDivertDone c d).btu.queue.length = s.btu.queue.length := by
  simp only [State.takeDivertDone]; (repeat' split) <;> simp

/-- What readIdt leaves of the tracking unit. -/
@[simp] theorem State.readIdt_btu_frame (s : State) (c : StationConfig) (i : Identity) :
    (s.readIdt c i).1.btu.e = s.btu.e ∧ (s.readIdt c i).1.btu.history = s.btu.history ∧ (s.readIdt c i).1.btu.winCount =
      s.btu.winCount ∧ (s.readIdt c i).1.btu.v = s.btu.v ∧ (s.readIdt c i).1.btu.prevV = s.btu.prevV ∧ (s.readIdt c
      i).1.btu.speed = s.btu.speed ∧ (s.readIdt c i).1.btu.steadyCount = s.btu.steadyCount ∧ (s.readIdt c
      i).1.btu.reportedV = s.btu.reportedV ∧ (s.readIdt c i).1.btu.windowMs = s.btu.windowMs ∧ (s.readIdt c
      i).1.btu.fEntry = s.btu.fEntry ∧ (s.readIdt c i).1.btu.fExit = s.btu.fExit ∧ (s.readIdt c i).1.btu.fConf0 =
      s.btu.fConf0 ∧ (s.readIdt c i).1.btu.fConf1 = s.btu.fConf1 ∧ (s.readIdt c i).1.btu.openRec = s.btu.openRec ∧
      (s.readIdt c i).1.btu.gapRef = s.btu.gapRef ∧ (s.readIdt c i).1.btu.skipTrailing = s.btu.skipTrailing ∧ (s.readIdt
      c i).1.btu.expects = s.btu.expects ∧ (s.readIdt c i).1.btu.upA = s.btu.upA ∧ (s.readIdt c i).1.btu.upB = s.btu.upB
      ∧ (s.readIdt c i).1.btu.down = s.btu.down ∧ (s.readIdt c i).1.btu.blockedFlag = s.btu.blockedFlag ∧ (s.readIdt c
      i).1.btu.permit = s.btu.permit ∧ (s.readIdt c i).1.btu.flow = s.btu.flow ∧ (s.readIdt c i).1.btu.jamSample =
      s.btu.jamSample ∧ (s.readIdt c i).1.btu.queue.map SegRec.ref = s.btu.queue.map SegRec.ref ∧ (s.readIdt c
      i).1.btu.queue.length = s.btu.queue.length := by
  simp only [State.readIdt]; (repeat' split) <;> simp

/-- What findEntry leaves of the tracking unit. -/
@[simp] theorem State.findEntry_btu_frame (s : State) (c : StationConfig) (sl : Sailing) (i : Identity) :
    (s.findEntry c sl i).1.btu.e = s.btu.e ∧ (s.findEntry c sl i).1.btu.history = s.btu.history ∧ (s.findEntry c sl
      i).1.btu.winCount = s.btu.winCount ∧ (s.findEntry c sl i).1.btu.v = s.btu.v ∧ (s.findEntry c sl i).1.btu.prevV =
      s.btu.prevV ∧ (s.findEntry c sl i).1.btu.speed = s.btu.speed ∧ (s.findEntry c sl i).1.btu.steadyCount =
      s.btu.steadyCount ∧ (s.findEntry c sl i).1.btu.reportedV = s.btu.reportedV ∧ (s.findEntry c sl i).1.btu.windowMs =
      s.btu.windowMs ∧ (s.findEntry c sl i).1.btu.fEntry = s.btu.fEntry ∧ (s.findEntry c sl i).1.btu.fExit = s.btu.fExit
      ∧ (s.findEntry c sl i).1.btu.fConf0 = s.btu.fConf0 ∧ (s.findEntry c sl i).1.btu.fConf1 = s.btu.fConf1 ∧
      (s.findEntry c sl i).1.btu.openRec = s.btu.openRec ∧ (s.findEntry c sl i).1.btu.gapRef = s.btu.gapRef ∧
      (s.findEntry c sl i).1.btu.skipTrailing = s.btu.skipTrailing ∧ (s.findEntry c sl i).1.btu.expects = s.btu.expects
      ∧ (s.findEntry c sl i).1.btu.upA = s.btu.upA ∧ (s.findEntry c sl i).1.btu.upB = s.btu.upB ∧ (s.findEntry c sl
      i).1.btu.down = s.btu.down ∧ (s.findEntry c sl i).1.btu.blockedFlag = s.btu.blockedFlag ∧ (s.findEntry c sl
      i).1.btu.permit = s.btu.permit ∧ (s.findEntry c sl i).1.btu.flow = s.btu.flow ∧ (s.findEntry c sl
      i).1.btu.jamSample = s.btu.jamSample ∧ (s.findEntry c sl i).1.btu.queue.map SegRec.ref = s.btu.queue.map
      SegRec.ref ∧ (s.findEntry c sl i).1.btu.queue.length = s.btu.queue.length := by
  simp only [State.findEntry]; split <;> simp

/-- What find leaves of the tracking unit. -/
@[simp] theorem State.find_btu_frame (s : State) (c : StationConfig) (rc : ReaderConfig) (i : Identity) :
    (s.find c rc i).1.btu.e = s.btu.e ∧ (s.find c rc i).1.btu.history = s.btu.history ∧ (s.find c rc i).1.btu.winCount =
      s.btu.winCount ∧ (s.find c rc i).1.btu.v = s.btu.v ∧ (s.find c rc i).1.btu.prevV = s.btu.prevV ∧ (s.find c rc
      i).1.btu.speed = s.btu.speed ∧ (s.find c rc i).1.btu.steadyCount = s.btu.steadyCount ∧ (s.find c rc
      i).1.btu.reportedV = s.btu.reportedV ∧ (s.find c rc i).1.btu.windowMs = s.btu.windowMs ∧ (s.find c rc
      i).1.btu.fEntry = s.btu.fEntry ∧ (s.find c rc i).1.btu.fExit = s.btu.fExit ∧ (s.find c rc i).1.btu.fConf0 =
      s.btu.fConf0 ∧ (s.find c rc i).1.btu.fConf1 = s.btu.fConf1 ∧ (s.find c rc i).1.btu.openRec = s.btu.openRec ∧
      (s.find c rc i).1.btu.gapRef = s.btu.gapRef ∧ (s.find c rc i).1.btu.skipTrailing = s.btu.skipTrailing ∧ (s.find c
      rc i).1.btu.expects = s.btu.expects ∧ (s.find c rc i).1.btu.upA = s.btu.upA ∧ (s.find c rc i).1.btu.upB =
      s.btu.upB ∧ (s.find c rc i).1.btu.down = s.btu.down ∧ (s.find c rc i).1.btu.blockedFlag = s.btu.blockedFlag ∧
      (s.find c rc i).1.btu.permit = s.btu.permit ∧ (s.find c rc i).1.btu.flow = s.btu.flow ∧ (s.find c rc
      i).1.btu.jamSample = s.btu.jamSample ∧ (s.find c rc i).1.btu.queue.map SegRec.ref = s.btu.queue.map SegRec.ref ∧
      (s.find c rc i).1.btu.queue.length = s.btu.queue.length := by
  simp only [State.find]; split <;> simp

/-- What writeFinding leaves of the tracking unit. -/
@[simp] theorem State.writeFinding_btu_frame (s : State) (c : StationConfig) (f : Finding) (r : SegRec) :
    (s.writeFinding c f r).btu.e = s.btu.e ∧ (s.writeFinding c f r).btu.history = s.btu.history ∧ (s.writeFinding c f
      r).btu.winCount = s.btu.winCount ∧ (s.writeFinding c f r).btu.v = s.btu.v ∧ (s.writeFinding c f r).btu.prevV =
      s.btu.prevV ∧ (s.writeFinding c f r).btu.speed = s.btu.speed ∧ (s.writeFinding c f r).btu.steadyCount =
      s.btu.steadyCount ∧ (s.writeFinding c f r).btu.reportedV = s.btu.reportedV ∧ (s.writeFinding c f r).btu.windowMs =
      s.btu.windowMs ∧ (s.writeFinding c f r).btu.fEntry = s.btu.fEntry ∧ (s.writeFinding c f r).btu.fExit = s.btu.fExit
      ∧ (s.writeFinding c f r).btu.fConf0 = s.btu.fConf0 ∧ (s.writeFinding c f r).btu.fConf1 = s.btu.fConf1 ∧
      (s.writeFinding c f r).btu.openRec = s.btu.openRec ∧ (s.writeFinding c f r).btu.gapRef = s.btu.gapRef ∧
      (s.writeFinding c f r).btu.skipTrailing = s.btu.skipTrailing ∧ (s.writeFinding c f r).btu.expects = s.btu.expects
      ∧ (s.writeFinding c f r).btu.upA = s.btu.upA ∧ (s.writeFinding c f r).btu.upB = s.btu.upB ∧ (s.writeFinding c f
      r).btu.down = s.btu.down ∧ (s.writeFinding c f r).btu.blockedFlag = s.btu.blockedFlag ∧ (s.writeFinding c f
      r).btu.permit = s.btu.permit ∧ (s.writeFinding c f r).btu.flow = s.btu.flow ∧ (s.writeFinding c f r).btu.jamSample
      = s.btu.jamSample ∧ (s.writeFinding c f r).btu.queue.map SegRec.ref = s.btu.queue.map SegRec.ref ∧ (s.writeFinding
      c f r).btu.queue.length = s.btu.queue.length := by
  simp only [State.writeFinding]; split <;> simp; intros; split <;> rfl

/-- What deskAccept leaves of the tracking unit. -/
@[simp] theorem State.deskAccept_btu_frame (s : State) (c : StationConfig) (i : Identity) (d : Nat) :
    (s.deskAccept c i d).btu.e = s.btu.e ∧ (s.deskAccept c i d).btu.history = s.btu.history ∧ (s.deskAccept c i
      d).btu.winCount = s.btu.winCount ∧ (s.deskAccept c i d).btu.v = s.btu.v ∧ (s.deskAccept c i d).btu.prevV =
      s.btu.prevV ∧ (s.deskAccept c i d).btu.speed = s.btu.speed ∧ (s.deskAccept c i d).btu.steadyCount =
      s.btu.steadyCount ∧ (s.deskAccept c i d).btu.reportedV = s.btu.reportedV ∧ (s.deskAccept c i d).btu.windowMs =
      s.btu.windowMs ∧ (s.deskAccept c i d).btu.fEntry = s.btu.fEntry ∧ (s.deskAccept c i d).btu.fExit = s.btu.fExit ∧
      (s.deskAccept c i d).btu.fConf0 = s.btu.fConf0 ∧ (s.deskAccept c i d).btu.fConf1 = s.btu.fConf1 ∧ (s.deskAccept c
      i d).btu.openRec = s.btu.openRec ∧ (s.deskAccept c i d).btu.gapRef = s.btu.gapRef ∧ (s.deskAccept c i
      d).btu.skipTrailing = s.btu.skipTrailing ∧ (s.deskAccept c i d).btu.expects = s.btu.expects ∧ (s.deskAccept c i
      d).btu.upA = s.btu.upA ∧ (s.deskAccept c i d).btu.upB = s.btu.upB ∧ (s.deskAccept c i d).btu.down = s.btu.down ∧
      (s.deskAccept c i d).btu.blockedFlag = s.btu.blockedFlag ∧ (s.deskAccept c i d).btu.permit = s.btu.permit ∧
      (s.deskAccept c i d).btu.flow = s.btu.flow ∧ (s.deskAccept c i d).btu.jamSample = s.btu.jamSample ∧ (s.deskAccept
      c i d).btu.queue.map SegRec.ref = s.btu.queue.map SegRec.ref ∧ (s.deskAccept c i d).btu.queue.length =
      s.btu.queue.length := by
  simp only [State.deskAccept]; split <;> simp

/-- What deskRecord leaves of the tracking unit. -/
@[simp] theorem State.deskRecord_btu_frame (s : State) (c : StationConfig) (rc : ReaderConfig) (b : Bool) (i : Identity) :
    (s.deskRecord c rc b i).btu.e = s.btu.e ∧ (s.deskRecord c rc b i).btu.history = s.btu.history ∧ (s.deskRecord c rc b
      i).btu.winCount = s.btu.winCount ∧ (s.deskRecord c rc b i).btu.v = s.btu.v ∧ (s.deskRecord c rc b i).btu.prevV =
      s.btu.prevV ∧ (s.deskRecord c rc b i).btu.speed = s.btu.speed ∧ (s.deskRecord c rc b i).btu.steadyCount =
      s.btu.steadyCount ∧ (s.deskRecord c rc b i).btu.reportedV = s.btu.reportedV ∧ (s.deskRecord c rc b i).btu.windowMs
      = s.btu.windowMs ∧ (s.deskRecord c rc b i).btu.fEntry = s.btu.fEntry ∧ (s.deskRecord c rc b i).btu.fExit =
      s.btu.fExit ∧ (s.deskRecord c rc b i).btu.fConf0 = s.btu.fConf0 ∧ (s.deskRecord c rc b i).btu.fConf1 =
      s.btu.fConf1 ∧ (s.deskRecord c rc b i).btu.openRec = s.btu.openRec ∧ (s.deskRecord c rc b i).btu.gapRef =
      s.btu.gapRef ∧ (s.deskRecord c rc b i).btu.skipTrailing = s.btu.skipTrailing ∧ (s.deskRecord c rc b i).btu.expects
      = s.btu.expects ∧ (s.deskRecord c rc b i).btu.upA = s.btu.upA ∧ (s.deskRecord c rc b i).btu.upB = s.btu.upB ∧
      (s.deskRecord c rc b i).btu.down = s.btu.down ∧ (s.deskRecord c rc b i).btu.blockedFlag = s.btu.blockedFlag ∧
      (s.deskRecord c rc b i).btu.permit = s.btu.permit ∧ (s.deskRecord c rc b i).btu.flow = s.btu.flow ∧ (s.deskRecord
      c rc b i).btu.jamSample = s.btu.jamSample ∧ (s.deskRecord c rc b i).btu.queue.map SegRec.ref = s.btu.queue.map
      SegRec.ref ∧ (s.deskRecord c rc b i).btu.queue.length = s.btu.queue.length := by
  simp only [State.deskRecord]; (repeat' split) <;> simp

/-- What queueSegmentState leaves of the tracking unit. -/
@[simp] theorem State.queueSegmentState_btu_frame (s : State) :
    (s.queueSegmentState).btu.e = s.btu.e ∧ (s.queueSegmentState).btu.history = s.btu.history ∧
      (s.queueSegmentState).btu.winCount = s.btu.winCount ∧ (s.queueSegmentState).btu.v = s.btu.v ∧
      (s.queueSegmentState).btu.prevV = s.btu.prevV ∧ (s.queueSegmentState).btu.speed = s.btu.speed ∧
      (s.queueSegmentState).btu.steadyCount = s.btu.steadyCount ∧ (s.queueSegmentState).btu.windowMs = s.btu.windowMs ∧
      (s.queueSegmentState).btu.fEntry = s.btu.fEntry ∧ (s.queueSegmentState).btu.fExit = s.btu.fExit ∧
      (s.queueSegmentState).btu.fConf0 = s.btu.fConf0 ∧ (s.queueSegmentState).btu.fConf1 = s.btu.fConf1 ∧
      (s.queueSegmentState).btu.openRec = s.btu.openRec ∧ (s.queueSegmentState).btu.gapRef = s.btu.gapRef ∧
      (s.queueSegmentState).btu.skipTrailing = s.btu.skipTrailing ∧ (s.queueSegmentState).btu.expects = s.btu.expects ∧
      (s.queueSegmentState).btu.upA = s.btu.upA ∧ (s.queueSegmentState).btu.upB = s.btu.upB ∧
      (s.queueSegmentState).btu.down = s.btu.down ∧ (s.queueSegmentState).btu.blockedFlag = s.btu.blockedFlag ∧
      (s.queueSegmentState).btu.permit = s.btu.permit ∧ (s.queueSegmentState).btu.flow = s.btu.flow ∧
      (s.queueSegmentState).btu.jamSample = s.btu.jamSample ∧ (s.queueSegmentState).btu.queue = s.btu.queue := by
  simp only [State.queueSegmentState]; simp

/-- What evalBlocked leaves of the tracking unit. -/
@[simp] theorem State.evalBlocked_btu_frame (s : State) (c : StationConfig) :
    (s.evalBlocked c).btu.e = s.btu.e ∧ (s.evalBlocked c).btu.history = s.btu.history ∧ (s.evalBlocked c).btu.winCount =
      s.btu.winCount ∧ (s.evalBlocked c).btu.v = s.btu.v ∧ (s.evalBlocked c).btu.prevV = s.btu.prevV ∧ (s.evalBlocked
      c).btu.speed = s.btu.speed ∧ (s.evalBlocked c).btu.steadyCount = s.btu.steadyCount ∧ (s.evalBlocked
      c).btu.windowMs = s.btu.windowMs ∧ (s.evalBlocked c).btu.fEntry = s.btu.fEntry ∧ (s.evalBlocked c).btu.fExit =
      s.btu.fExit ∧ (s.evalBlocked c).btu.fConf0 = s.btu.fConf0 ∧ (s.evalBlocked c).btu.fConf1 = s.btu.fConf1 ∧
      (s.evalBlocked c).btu.openRec = s.btu.openRec ∧ (s.evalBlocked c).btu.gapRef = s.btu.gapRef ∧ (s.evalBlocked
      c).btu.skipTrailing = s.btu.skipTrailing ∧ (s.evalBlocked c).btu.expects = s.btu.expects ∧ (s.evalBlocked
      c).btu.upA = s.btu.upA ∧ (s.evalBlocked c).btu.upB = s.btu.upB ∧ (s.evalBlocked c).btu.down = s.btu.down ∧
      (s.evalBlocked c).btu.permit = s.btu.permit ∧ (s.evalBlocked c).btu.flow = s.btu.flow ∧ (s.evalBlocked
      c).btu.jamSample = s.btu.jamSample ∧ (s.evalBlocked c).btu.queue = s.btu.queue := by
  simp only [State.evalBlocked]; split <;> simp

/-- What evalPermit leaves of the tracking unit. -/
@[simp] theorem State.evalPermit_btu_frame (s : State) (c : StationConfig) :
    (s.evalPermit c).btu.e = s.btu.e ∧ (s.evalPermit c).btu.history = s.btu.history ∧ (s.evalPermit c).btu.winCount =
      s.btu.winCount ∧ (s.evalPermit c).btu.v = s.btu.v ∧ (s.evalPermit c).btu.prevV = s.btu.prevV ∧ (s.evalPermit
      c).btu.speed = s.btu.speed ∧ (s.evalPermit c).btu.steadyCount = s.btu.steadyCount ∧ (s.evalPermit c).btu.windowMs
      = s.btu.windowMs ∧ (s.evalPermit c).btu.fEntry = s.btu.fEntry ∧ (s.evalPermit c).btu.fExit = s.btu.fExit ∧
      (s.evalPermit c).btu.fConf0 = s.btu.fConf0 ∧ (s.evalPermit c).btu.fConf1 = s.btu.fConf1 ∧ (s.evalPermit
      c).btu.openRec = s.btu.openRec ∧ (s.evalPermit c).btu.gapRef = s.btu.gapRef ∧ (s.evalPermit c).btu.skipTrailing =
      s.btu.skipTrailing ∧ (s.evalPermit c).btu.expects = s.btu.expects ∧ (s.evalPermit c).btu.upA = s.btu.upA ∧
      (s.evalPermit c).btu.upB = s.btu.upB ∧ (s.evalPermit c).btu.down = s.btu.down ∧ (s.evalPermit c).btu.flow =
      s.btu.flow ∧ (s.evalPermit c).btu.jamSample = s.btu.jamSample ∧ (s.evalPermit c).btu.queue = s.btu.queue := by
  simp only [State.evalPermit]; simp

/-- What remove leaves of the tracking unit. -/
@[simp] theorem State.remove_btu_frame (s : State) (c : StationConfig) (r : RecRef) (k : Cause) :
    (s.remove c r k).btu.e = s.btu.e ∧ (s.remove c r k).btu.history = s.btu.history ∧ (s.remove c r k).btu.winCount =
      s.btu.winCount ∧ (s.remove c r k).btu.v = s.btu.v ∧ (s.remove c r k).btu.prevV = s.btu.prevV ∧ (s.remove c r
      k).btu.speed = s.btu.speed ∧ (s.remove c r k).btu.steadyCount = s.btu.steadyCount ∧ (s.remove c r k).btu.windowMs
      = s.btu.windowMs ∧ (s.remove c r k).btu.fEntry = s.btu.fEntry ∧ (s.remove c r k).btu.fExit = s.btu.fExit ∧
      (s.remove c r k).btu.fConf0 = s.btu.fConf0 ∧ (s.remove c r k).btu.fConf1 = s.btu.fConf1 ∧ (s.remove c r
      k).btu.gapRef = s.btu.gapRef ∧ (s.remove c r k).btu.skipTrailing = s.btu.skipTrailing ∧ (s.remove c r
      k).btu.expects = s.btu.expects ∧ (s.remove c r k).btu.upA = s.btu.upA ∧ (s.remove c r k).btu.upB = s.btu.upB ∧
      (s.remove c r k).btu.down = s.btu.down ∧ (s.remove c r k).btu.permit = s.btu.permit ∧ (s.remove c r
      k).btu.jamSample = s.btu.jamSample := by
  simp only [State.remove]; split <;> simp

/-- What removeOverdue leaves of the tracking unit. -/
@[simp] theorem State.removeOverdue_btu_frame (s : State) (c : StationConfig) (r : SegRec) :
    (s.removeOverdue c r).btu.e = s.btu.e ∧ (s.removeOverdue c r).btu.history = s.btu.history ∧ (s.removeOverdue c
      r).btu.winCount = s.btu.winCount ∧ (s.removeOverdue c r).btu.v = s.btu.v ∧ (s.removeOverdue c r).btu.prevV =
      s.btu.prevV ∧ (s.removeOverdue c r).btu.speed = s.btu.speed ∧ (s.removeOverdue c r).btu.steadyCount =
      s.btu.steadyCount ∧ (s.removeOverdue c r).btu.windowMs = s.btu.windowMs ∧ (s.removeOverdue c r).btu.fEntry =
      s.btu.fEntry ∧ (s.removeOverdue c r).btu.fExit = s.btu.fExit ∧ (s.removeOverdue c r).btu.fConf0 = s.btu.fConf0 ∧
      (s.removeOverdue c r).btu.fConf1 = s.btu.fConf1 ∧ (s.removeOverdue c r).btu.gapRef = s.btu.gapRef ∧
      (s.removeOverdue c r).btu.skipTrailing = s.btu.skipTrailing ∧ (s.removeOverdue c r).btu.expects = s.btu.expects ∧
      (s.removeOverdue c r).btu.upA = s.btu.upA ∧ (s.removeOverdue c r).btu.upB = s.btu.upB ∧ (s.removeOverdue c
      r).btu.down = s.btu.down ∧ (s.removeOverdue c r).btu.permit = s.btu.permit ∧ (s.removeOverdue c r).btu.jamSample =
      s.btu.jamSample := by
  simp only [State.removeOverdue]; simp

/-- What the overdue test leaves of the tracking unit. -/
@[simp] theorem State.settleOverdue_btu_frame (c : StationConfig) (n : Nat) (s : State) :
    (s.settleOverdue c n).btu.e = s.btu.e ∧ (s.settleOverdue c n).btu.history = s.btu.history ∧ (s.settleOverdue c
      n).btu.winCount = s.btu.winCount ∧ (s.settleOverdue c n).btu.v = s.btu.v ∧ (s.settleOverdue c n).btu.prevV =
      s.btu.prevV ∧ (s.settleOverdue c n).btu.speed = s.btu.speed ∧ (s.settleOverdue c n).btu.steadyCount =
      s.btu.steadyCount ∧ (s.settleOverdue c n).btu.windowMs = s.btu.windowMs ∧ (s.settleOverdue c n).btu.fEntry =
      s.btu.fEntry ∧ (s.settleOverdue c n).btu.fExit = s.btu.fExit ∧ (s.settleOverdue c n).btu.fConf0 = s.btu.fConf0 ∧
      (s.settleOverdue c n).btu.fConf1 = s.btu.fConf1 ∧ (s.settleOverdue c n).btu.gapRef = s.btu.gapRef ∧
      (s.settleOverdue c n).btu.skipTrailing = s.btu.skipTrailing ∧ (s.settleOverdue c n).btu.expects = s.btu.expects ∧
      (s.settleOverdue c n).btu.upA = s.btu.upA ∧ (s.settleOverdue c n).btu.upB = s.btu.upB ∧ (s.settleOverdue c
      n).btu.down = s.btu.down ∧ (s.settleOverdue c n).btu.permit = s.btu.permit ∧ (s.settleOverdue c n).btu.jamSample =
      s.btu.jamSample := by
  induction n generalizing s with
  | zero => simp [State.settleOverdue]
  | succ n ih => simp only [State.settleOverdue]; split <;> simp [ih]

/-- What settle leaves of the tracking unit. -/
@[simp] theorem State.settle_btu_frame (s : State) (c : StationConfig) :
    (s.settle c).btu.e = s.btu.e ∧ (s.settle c).btu.history = s.btu.history ∧ (s.settle c).btu.winCount = s.btu.winCount
      ∧ (s.settle c).btu.v = s.btu.v ∧ (s.settle c).btu.prevV = s.btu.prevV ∧ (s.settle c).btu.speed = s.btu.speed ∧
      (s.settle c).btu.steadyCount = s.btu.steadyCount ∧ (s.settle c).btu.windowMs = s.btu.windowMs ∧ (s.settle
      c).btu.fEntry = s.btu.fEntry ∧ (s.settle c).btu.fExit = s.btu.fExit ∧ (s.settle c).btu.fConf0 = s.btu.fConf0 ∧
      (s.settle c).btu.fConf1 = s.btu.fConf1 ∧ (s.settle c).btu.gapRef = s.btu.gapRef ∧ (s.settle c).btu.skipTrailing =
      s.btu.skipTrailing ∧ (s.settle c).btu.expects = s.btu.expects ∧ (s.settle c).btu.upA = s.btu.upA ∧ (s.settle
      c).btu.upB = s.btu.upB ∧ (s.settle c).btu.down = s.btu.down ∧ (s.settle c).btu.permit = s.btu.permit ∧ (s.settle
      c).btu.jamSample = s.btu.jamSample := by
  simp only [State.settle]; simp

/-- What confirm leaves of the tracking unit. -/
@[simp] theorem State.confirm_btu_frame (s : State) (c : StationConfig) (d : Div) (v : DiverterConfig) (e : Confirm) (r : SegRec) :
    (s.confirm c d v e r).btu.e = s.btu.e ∧ (s.confirm c d v e r).btu.history = s.btu.history ∧ (s.confirm c d v e
      r).btu.winCount = s.btu.winCount ∧ (s.confirm c d v e r).btu.v = s.btu.v ∧ (s.confirm c d v e r).btu.prevV =
      s.btu.prevV ∧ (s.confirm c d v e r).btu.speed = s.btu.speed ∧ (s.confirm c d v e r).btu.steadyCount =
      s.btu.steadyCount ∧ (s.confirm c d v e r).btu.windowMs = s.btu.windowMs ∧ (s.confirm c d v e r).btu.fEntry =
      s.btu.fEntry ∧ (s.confirm c d v e r).btu.fExit = s.btu.fExit ∧ (s.confirm c d v e r).btu.fConf0 = s.btu.fConf0 ∧
      (s.confirm c d v e r).btu.fConf1 = s.btu.fConf1 ∧ (s.confirm c d v e r).btu.gapRef = s.btu.gapRef ∧ (s.confirm c d
      v e r).btu.skipTrailing = s.btu.skipTrailing ∧ (s.confirm c d v e r).btu.expects = s.btu.expects ∧ (s.confirm c d
      v e r).btu.upA = s.btu.upA ∧ (s.confirm c d v e r).btu.upB = s.btu.upB ∧ (s.confirm c d v e r).btu.down =
      s.btu.down ∧ (s.confirm c d v e r).btu.permit = s.btu.permit ∧ (s.confirm c d v e r).btu.jamSample =
      s.btu.jamSample := by
  simp only [State.confirm]; simp

/-- What sweep leaves of the tracking unit. -/
@[simp] theorem State.sweep_btu_frame (s : State) (c : StationConfig) (d : Div) (v : DiverterConfig) (r : SegRec) :
    (s.sweep c d v r).btu.e = s.btu.e ∧ (s.sweep c d v r).btu.history = s.btu.history ∧ (s.sweep c d v r).btu.winCount =
      s.btu.winCount ∧ (s.sweep c d v r).btu.v = s.btu.v ∧ (s.sweep c d v r).btu.prevV = s.btu.prevV ∧ (s.sweep c d v
      r).btu.speed = s.btu.speed ∧ (s.sweep c d v r).btu.steadyCount = s.btu.steadyCount ∧ (s.sweep c d v
      r).btu.windowMs = s.btu.windowMs ∧ (s.sweep c d v r).btu.fEntry = s.btu.fEntry ∧ (s.sweep c d v r).btu.fExit =
      s.btu.fExit ∧ (s.sweep c d v r).btu.fConf0 = s.btu.fConf0 ∧ (s.sweep c d v r).btu.fConf1 = s.btu.fConf1 ∧ (s.sweep
      c d v r).btu.gapRef = s.btu.gapRef ∧ (s.sweep c d v r).btu.skipTrailing = s.btu.skipTrailing ∧ (s.sweep c d v
      r).btu.expects = s.btu.expects ∧ (s.sweep c d v r).btu.upA = s.btu.upA ∧ (s.sweep c d v r).btu.upB = s.btu.upB ∧
      (s.sweep c d v r).btu.down = s.btu.down ∧ (s.sweep c d v r).btu.permit = s.btu.permit ∧ (s.sweep c d v
      r).btu.jamSample = s.btu.jamSample := by
  simp only [State.sweep]; simp

/-- What confirmEdge leaves of the tracking unit. -/
@[simp] theorem State.confirmEdge_btu_frame (s : State) (c : StationConfig) (d : Div) (n : Count) :
    (s.confirmEdge c d n).btu.e = s.btu.e ∧ (s.confirmEdge c d n).btu.history = s.btu.history ∧ (s.confirmEdge c d
      n).btu.winCount = s.btu.winCount ∧ (s.confirmEdge c d n).btu.v = s.btu.v ∧ (s.confirmEdge c d n).btu.prevV =
      s.btu.prevV ∧ (s.confirmEdge c d n).btu.speed = s.btu.speed ∧ (s.confirmEdge c d n).btu.steadyCount =
      s.btu.steadyCount ∧ (s.confirmEdge c d n).btu.windowMs = s.btu.windowMs ∧ (s.confirmEdge c d n).btu.fEntry =
      s.btu.fEntry ∧ (s.confirmEdge c d n).btu.fExit = s.btu.fExit ∧ (s.confirmEdge c d n).btu.fConf0 = s.btu.fConf0 ∧
      (s.confirmEdge c d n).btu.fConf1 = s.btu.fConf1 ∧ (s.confirmEdge c d n).btu.gapRef = s.btu.gapRef ∧ (s.confirmEdge
      c d n).btu.skipTrailing = s.btu.skipTrailing ∧ (s.confirmEdge c d n).btu.expects = s.btu.expects ∧ (s.confirmEdge
      c d n).btu.upA = s.btu.upA ∧ (s.confirmEdge c d n).btu.upB = s.btu.upB ∧ (s.confirmEdge c d n).btu.down =
      s.btu.down ∧ (s.confirmEdge c d n).btu.permit = s.btu.permit ∧ (s.confirmEdge c d n).btu.jamSample =
      s.btu.jamSample := by
  simp only [State.confirmEdge]; (repeat' split) <;> simp

/-- What exitMatch leaves of the tracking unit. -/
@[simp] theorem State.exitMatch_btu_frame (s : State) (c : StationConfig) (r : SegRec) (n : Count) :
    (s.exitMatch c r n).btu.e = s.btu.e ∧ (s.exitMatch c r n).btu.history = s.btu.history ∧ (s.exitMatch c r
      n).btu.winCount = s.btu.winCount ∧ (s.exitMatch c r n).btu.v = s.btu.v ∧ (s.exitMatch c r n).btu.prevV =
      s.btu.prevV ∧ (s.exitMatch c r n).btu.speed = s.btu.speed ∧ (s.exitMatch c r n).btu.steadyCount =
      s.btu.steadyCount ∧ (s.exitMatch c r n).btu.windowMs = s.btu.windowMs ∧ (s.exitMatch c r n).btu.fEntry =
      s.btu.fEntry ∧ (s.exitMatch c r n).btu.fExit = s.btu.fExit ∧ (s.exitMatch c r n).btu.fConf0 = s.btu.fConf0 ∧
      (s.exitMatch c r n).btu.fConf1 = s.btu.fConf1 ∧ (s.exitMatch c r n).btu.gapRef = s.btu.gapRef ∧ (s.exitMatch c r
      n).btu.skipTrailing = s.btu.skipTrailing ∧ (s.exitMatch c r n).btu.expects = s.btu.expects ∧ (s.exitMatch c r
      n).btu.upA = s.btu.upA ∧ (s.exitMatch c r n).btu.upB = s.btu.upB ∧ (s.exitMatch c r n).btu.down = s.btu.down ∧
      (s.exitMatch c r n).btu.permit = s.btu.permit ∧ (s.exitMatch c r n).btu.jamSample = s.btu.jamSample := by
  simp only [State.exitMatch]; simp

/-- What exitEdge leaves of the tracking unit. -/
@[simp] theorem State.exitEdge_btu_frame (s : State) (c : StationConfig) (n : Count) :
    (s.exitEdge c n).btu.e = s.btu.e ∧ (s.exitEdge c n).btu.history = s.btu.history ∧ (s.exitEdge c n).btu.winCount =
      s.btu.winCount ∧ (s.exitEdge c n).btu.v = s.btu.v ∧ (s.exitEdge c n).btu.prevV = s.btu.prevV ∧ (s.exitEdge c
      n).btu.speed = s.btu.speed ∧ (s.exitEdge c n).btu.steadyCount = s.btu.steadyCount ∧ (s.exitEdge c n).btu.windowMs
      = s.btu.windowMs ∧ (s.exitEdge c n).btu.fEntry = s.btu.fEntry ∧ (s.exitEdge c n).btu.fExit = s.btu.fExit ∧
      (s.exitEdge c n).btu.fConf0 = s.btu.fConf0 ∧ (s.exitEdge c n).btu.fConf1 = s.btu.fConf1 ∧ (s.exitEdge c
      n).btu.gapRef = s.btu.gapRef ∧ (s.exitEdge c n).btu.skipTrailing = s.btu.skipTrailing ∧ (s.exitEdge c
      n).btu.expects = s.btu.expects ∧ (s.exitEdge c n).btu.upA = s.btu.upA ∧ (s.exitEdge c n).btu.upB = s.btu.upB ∧
      (s.exitEdge c n).btu.down = s.btu.down ∧ (s.exitEdge c n).btu.permit = s.btu.permit ∧ (s.exitEdge c
      n).btu.jamSample = s.btu.jamSample := by
  simp only [State.exitEdge]; (repeat' split) <;> simp

/-- What overduePoint leaves of the tracking unit. -/
@[simp] theorem State.overduePoint_btu_frame (s : State) (c : StationConfig) (r : RecRef) :
    (s.overduePoint c r).btu.e = s.btu.e ∧ (s.overduePoint c r).btu.history = s.btu.history ∧ (s.overduePoint c
      r).btu.winCount = s.btu.winCount ∧ (s.overduePoint c r).btu.v = s.btu.v ∧ (s.overduePoint c r).btu.prevV =
      s.btu.prevV ∧ (s.overduePoint c r).btu.speed = s.btu.speed ∧ (s.overduePoint c r).btu.steadyCount =
      s.btu.steadyCount ∧ (s.overduePoint c r).btu.windowMs = s.btu.windowMs ∧ (s.overduePoint c r).btu.fEntry =
      s.btu.fEntry ∧ (s.overduePoint c r).btu.fExit = s.btu.fExit ∧ (s.overduePoint c r).btu.fConf0 = s.btu.fConf0 ∧
      (s.overduePoint c r).btu.fConf1 = s.btu.fConf1 ∧ (s.overduePoint c r).btu.gapRef = s.btu.gapRef ∧ (s.overduePoint
      c r).btu.skipTrailing = s.btu.skipTrailing ∧ (s.overduePoint c r).btu.expects = s.btu.expects ∧ (s.overduePoint c
      r).btu.upA = s.btu.upA ∧ (s.overduePoint c r).btu.upB = s.btu.upB ∧ (s.overduePoint c r).btu.down = s.btu.down ∧
      (s.overduePoint c r).btu.permit = s.btu.permit ∧ (s.overduePoint c r).btu.jamSample = s.btu.jamSample := by
  simp only [State.overduePoint]; split <;> simp

/-- What segmentClear leaves of the tracking unit. -/
@[simp] theorem State.segmentClear_btu_frame (s : State) (c : StationConfig) :
    (s.segmentClear c).btu.e = s.btu.e ∧ (s.segmentClear c).btu.history = s.btu.history ∧ (s.segmentClear
      c).btu.winCount = s.btu.winCount ∧ (s.segmentClear c).btu.v = s.btu.v ∧ (s.segmentClear c).btu.prevV = s.btu.prevV
      ∧ (s.segmentClear c).btu.speed = s.btu.speed ∧ (s.segmentClear c).btu.steadyCount = s.btu.steadyCount ∧
      (s.segmentClear c).btu.windowMs = s.btu.windowMs ∧ (s.segmentClear c).btu.fEntry = s.btu.fEntry ∧ (s.segmentClear
      c).btu.fExit = s.btu.fExit ∧ (s.segmentClear c).btu.fConf0 = s.btu.fConf0 ∧ (s.segmentClear c).btu.fConf1 =
      s.btu.fConf1 ∧ (s.segmentClear c).btu.gapRef = s.btu.gapRef ∧ (s.segmentClear c).btu.skipTrailing =
      s.btu.skipTrailing ∧ (s.segmentClear c).btu.upA = s.btu.upA ∧ (s.segmentClear c).btu.upB = s.btu.upB ∧
      (s.segmentClear c).btu.down = s.btu.down ∧ (s.segmentClear c).btu.permit = s.btu.permit ∧ (s.segmentClear
      c).btu.jamSample = s.btu.jamSample := by
  simp only [State.segmentClear]; simp

/-- A withdrawal takes the grants it reaches from the list, and nothing else from the diverters (R117). -/
@[simp] theorem State.withdraw_dvs (s : State) (d : Div) (k : Ctr) (p : Grant → Bool) :
    (s.withdraw d k p).dvs = s.dvs.put d { s.dvs.get d with grants := (s.dvs.get d).grants.filter fun g => !p g } := by
  have h := foldl_keeps (fun t : State => t.dvs)
    (fun t (g : Grant) => (t.updateRec g.ref fun r => { r with divert := .withdrawn }).bump k) (by intro t a; simp)
    ((s.dvs.get d).grants.filter p) (s.setDiv d { s.dvs.get d with grants := (s.dvs.get d).grants.filter fun g => !p g })
  simpa [State.withdraw] using h

/-- What withdrawBoth leaves of the diverters. -/
@[simp] theorem State.withdrawBoth_dvs_frame (s : State) (k : Ctr) (p : Grant → Bool) (e : Div) :
    ((s.withdrawBoth k p).dvs.get e).eng = (s.dvs.get e).eng ∧ ((s.withdrawBoth k p).dvs.get e).last = (s.dvs.get
      e).last ∧ ((s.withdrawBoth k p).dvs.get e).confirms = (s.dvs.get e).confirms ∧ ((s.withdrawBoth k p).dvs.get
      e).account = (s.dvs.get e).account ∧ ((s.withdrawBoth k p).dvs.get e).bay = (s.dvs.get e).bay := by
  simp only [State.withdrawBoth, State.withdraw_dvs, Dvs.get_put]
  cases e <;> simp

/-- What tellDestination leaves of the diverters. -/
@[simp] theorem State.tellDestination_dvs_frame (s : State) (c : StationConfig) (r : RecRef) (dest : Option Nat) (e : Div) :
    ((s.tellDestination c r dest).dvs.get e).eng = (s.dvs.get e).eng ∧ ((s.tellDestination c r dest).dvs.get e).last =
      (s.dvs.get e).last ∧ ((s.tellDestination c r dest).dvs.get e).confirms = (s.dvs.get e).confirms ∧
      ((s.tellDestination c r dest).dvs.get e).account = (s.dvs.get e).account ∧ ((s.tellDestination c r dest).dvs.get
      e).bay = (s.dvs.get e).bay := by
  simp only [State.tellDestination]
  cases e <;> (repeat' split) <;> simp [Dvs.get_put]

/-- What offer leaves of the diverters. -/
@[simp] theorem State.offer_dvs_frame (s : State) (c : StationConfig) (r : RecRef) (x : Reason) (e : Div) :
    ((s.offer c r x).dvs.get e).eng = (s.dvs.get e).eng ∧ ((s.offer c r x).dvs.get e).last = (s.dvs.get e).last ∧
      ((s.offer c r x).dvs.get e).confirms = (s.dvs.get e).confirms ∧ ((s.offer c r x).dvs.get e).account = (s.dvs.get
      e).account ∧ ((s.offer c r x).dvs.get e).bay = (s.dvs.get e).bay := by
  simp only [State.offer]; (repeat' split) <;> simp

/-- What gapSet leaves of the diverters. -/
@[simp] theorem State.gapSet_dvs_frame (s : State) (c : StationConfig) (r : RecRef) (n : Nat) (e : Div) :
    ((s.gapSet c r n).dvs.get e).eng = (s.dvs.get e).eng ∧ ((s.gapSet c r n).dvs.get e).last = (s.dvs.get e).last ∧
      ((s.gapSet c r n).dvs.get e).confirms = (s.dvs.get e).confirms ∧ ((s.gapSet c r n).dvs.get e).account = (s.dvs.get
      e).account ∧ ((s.gapSet c r n).dvs.get e).bay = (s.dvs.get e).bay := by
  simp only [State.gapSet]; split <;> simp

/-- What testPasses leaves of the diverters. -/
@[simp] theorem State.testPasses_dvs_frame (s : State) (c : StationConfig) (r : RecRef) (e : Div) :
    ((s.testPasses c r).dvs.get e).eng = (s.dvs.get e).eng ∧ ((s.testPasses c r).dvs.get e).last = (s.dvs.get e).last ∧
      ((s.testPasses c r).dvs.get e).confirms = (s.dvs.get e).confirms ∧ ((s.testPasses c r).dvs.get e).account =
      (s.dvs.get e).account ∧ ((s.testPasses c r).dvs.get e).bay = (s.dvs.get e).bay := by
  simp only [State.testPasses]; (repeat' split) <;> simp

/-- What backGapUntracked leaves of the diverters. -/
@[simp] theorem State.backGapUntracked_dvs_frame (s : State) (c : StationConfig) (n : Count) (e : Div) :
    ((s.backGapUntracked c n).dvs.get e).eng = (s.dvs.get e).eng ∧ ((s.backGapUntracked c n).dvs.get e).last =
      (s.dvs.get e).last ∧ ((s.backGapUntracked c n).dvs.get e).confirms = (s.dvs.get e).confirms ∧ ((s.backGapUntracked
      c n).dvs.get e).account = (s.dvs.get e).account ∧ ((s.backGapUntracked c n).dvs.get e).bay = (s.dvs.get e).bay := by
  simp only [State.backGapUntracked]; (repeat' split) <;> simp

/-- What measure leaves of the diverters. -/
@[simp] theorem State.measure_dvs_frame (s : State) (c : StationConfig) (r : SegRec) (n : Count) (e : Div) :
    ((s.measure c r n).dvs.get e).eng = (s.dvs.get e).eng ∧ ((s.measure c r n).dvs.get e).last = (s.dvs.get e).last ∧
      ((s.measure c r n).dvs.get e).confirms = (s.dvs.get e).confirms ∧ ((s.measure c r n).dvs.get e).account =
      (s.dvs.get e).account ∧ ((s.measure c r n).dvs.get e).bay = (s.dvs.get e).bay := by
  simp only [State.measure]; (repeat' split) <;> simp

/-- What setGaps leaves of the diverters. -/
@[simp] theorem State.setGaps_dvs_frame (s : State) (c : StationConfig) (r : SegRec) (e : Div) :
    ((s.setGaps c r).dvs.get e).eng = (s.dvs.get e).eng ∧ ((s.setGaps c r).dvs.get e).last = (s.dvs.get e).last ∧
      ((s.setGaps c r).dvs.get e).confirms = (s.dvs.get e).confirms ∧ ((s.setGaps c r).dvs.get e).account = (s.dvs.get
      e).account ∧ ((s.setGaps c r).dvs.get e).bay = (s.dvs.get e).bay := by
  simp only [State.setGaps]; (repeat' split) <;> simp

/-- What makeLong leaves of the diverters. -/
@[simp] theorem State.makeLong_dvs_frame (s : State) (c : StationConfig) (r : RecRef) (e : Div) :
    ((s.makeLong c r).dvs.get e).eng = (s.dvs.get e).eng ∧ ((s.makeLong c r).dvs.get e).last = (s.dvs.get e).last ∧
      ((s.makeLong c r).dvs.get e).confirms = (s.dvs.get e).confirms ∧ ((s.makeLong c r).dvs.get e).account = (s.dvs.get
      e).account ∧ ((s.makeLong c r).dvs.get e).bay = (s.dvs.get e).bay := by
  simp only [State.makeLong]; simp

/-- What longBagReturn leaves of the diverters. -/
@[simp] theorem State.longBagReturn_dvs_frame (s : State) (c : StationConfig) (e : Div) :
    ((s.longBagReturn c).dvs.get e).eng = (s.dvs.get e).eng ∧ ((s.longBagReturn c).dvs.get e).last = (s.dvs.get e).last
      ∧ ((s.longBagReturn c).dvs.get e).confirms = (s.dvs.get e).confirms ∧ ((s.longBagReturn c).dvs.get e).account =
      (s.dvs.get e).account ∧ ((s.longBagReturn c).dvs.get e).bay = (s.dvs.get e).bay := by
  simp only [State.longBagReturn]; (repeat' split) <;> simp

/-- What passesRule leaves of the diverters. -/
@[simp] theorem State.passesRule_dvs_frame (s : State) (c : StationConfig) (r : SegRec) (e : Div) :
    ((s.passesRule c r).dvs.get e).eng = (s.dvs.get e).eng ∧ ((s.passesRule c r).dvs.get e).last = (s.dvs.get e).last ∧
      ((s.passesRule c r).dvs.get e).confirms = (s.dvs.get e).confirms ∧ ((s.passesRule c r).dvs.get e).account =
      (s.dvs.get e).account ∧ ((s.passesRule c r).dvs.get e).bay = (s.dvs.get e).bay := by
  simp only [State.passesRule]; (repeat' split) <;> simp

/-- What attachLate leaves of the diverters. -/
@[simp] theorem State.attachLate_dvs_frame (s : State) (c : StationConfig) (r : SegRec) (h : Handover) (e : Div) :
    ((s.attachLate c r h).dvs.get e).eng = (s.dvs.get e).eng ∧ ((s.attachLate c r h).dvs.get e).last = (s.dvs.get
      e).last ∧ ((s.attachLate c r h).dvs.get e).confirms = (s.dvs.get e).confirms ∧ ((s.attachLate c r h).dvs.get
      e).account = (s.dvs.get e).account ∧ ((s.attachLate c r h).dvs.get e).bay = (s.dvs.get e).bay := by
  simp only [State.attachLate]; simp

/-- What ambiguousCandidate leaves of the diverters. -/
@[simp] theorem State.ambiguousCandidate_dvs_frame (s : State) (c : StationConfig) (r : SegRec) (e : Div) :
    ((s.ambiguousCandidate c r).dvs.get e).eng = (s.dvs.get e).eng ∧ ((s.ambiguousCandidate c r).dvs.get e).last =
      (s.dvs.get e).last ∧ ((s.ambiguousCandidate c r).dvs.get e).confirms = (s.dvs.get e).confirms ∧
      ((s.ambiguousCandidate c r).dvs.get e).account = (s.dvs.get e).account ∧ ((s.ambiguousCandidate c r).dvs.get
      e).bay = (s.dvs.get e).bay := by
  simp only [State.ambiguousCandidate]; split <;> simp

/-- What an ambiguous read leaves of the diverters. -/
@[simp] theorem State.ambiguousRead_dvs_frame (s : State) (c : StationConfig) (rs : List SegRec) (e : Div) :
    ((s.ambiguousRead c rs).dvs.get e).eng = (s.dvs.get e).eng ∧ ((s.ambiguousRead c rs).dvs.get e).last = (s.dvs.get
      e).last ∧ ((s.ambiguousRead c rs).dvs.get e).confirms = (s.dvs.get e).confirms ∧ ((s.ambiguousRead c rs).dvs.get
      e).account = (s.dvs.get e).account ∧ ((s.ambiguousRead c rs).dvs.get e).bay = (s.dvs.get e).bay := by
  have h := foldl_keeps (fun t : State => ((t.dvs.get e).eng, (t.dvs.get e).last, (t.dvs.get e).confirms, (t.dvs.get e).account,
      (t.dvs.get e).bay))
    (fun t (r : SegRec) => t.ambiguousCandidate c r) (by intro t a; simp) rs ((s.bump .ambiguousRead).raiseEv .ambiguousRead)
  simpa [State.ambiguousRead, and_assoc] using h

/-- What failedRead leaves of the diverters. -/
@[simp] theorem State.failedRead_dvs_frame (s : State) (c : StationConfig) (r : SegRec) (x : Reason) (e : Div) :
    ((s.failedRead c r x).dvs.get e).eng = (s.dvs.get e).eng ∧ ((s.failedRead c r x).dvs.get e).last = (s.dvs.get
      e).last ∧ ((s.failedRead c r x).dvs.get e).confirms = (s.dvs.get e).confirms ∧ ((s.failedRead c r x).dvs.get
      e).account = (s.dvs.get e).account ∧ ((s.failedRead c r x).dvs.get e).bay = (s.dvs.get e).bay := by
  simp only [State.failedRead]; split <;> simp

/-- What conflict leaves of the diverters. -/
@[simp] theorem State.conflict_dvs_frame (s : State) (c : StationConfig) (r : SegRec) (e : Div) :
    ((s.conflict c r).dvs.get e).eng = (s.dvs.get e).eng ∧ ((s.conflict c r).dvs.get e).last = (s.dvs.get e).last ∧
      ((s.conflict c r).dvs.get e).confirms = (s.dvs.get e).confirms ∧ ((s.conflict c r).dvs.get e).account = (s.dvs.get
      e).account ∧ ((s.conflict c r).dvs.get e).bay = (s.dvs.get e).bay := by
  simp only [State.conflict]; simp

/-- What applyNotice leaves of the diverters. -/
@[simp] theorem State.applyNotice_dvs_frame (s : State) (c : StationConfig) (r : RecRef) (i : Identity) (d : Nat) (e : Div) :
    ((s.applyNotice c r i d).dvs.get e).eng = (s.dvs.get e).eng ∧ ((s.applyNotice c r i d).dvs.get e).last = (s.dvs.get
      e).last ∧ ((s.applyNotice c r i d).dvs.get e).confirms = (s.dvs.get e).confirms ∧ ((s.applyNotice c r i d).dvs.get
      e).account = (s.dvs.get e).account ∧ ((s.applyNotice c r i d).dvs.get e).bay = (s.dvs.get e).bay := by
  simp only [State.applyNotice]; (repeat' split) <;> simp

/-- What noticeOnSegment leaves of the diverters. -/
@[simp] theorem State.noticeOnSegment_dvs_frame (s : State) (c : StationConfig) (n : Nat) (i : Identity) (d : Nat) (e : Div) :
    ((s.noticeOnSegment c n i d).dvs.get e).eng = (s.dvs.get e).eng ∧ ((s.noticeOnSegment c n i d).dvs.get e).last =
      (s.dvs.get e).last ∧ ((s.noticeOnSegment c n i d).dvs.get e).confirms = (s.dvs.get e).confirms ∧
      ((s.noticeOnSegment c n i d).dvs.get e).account = (s.dvs.get e).account ∧ ((s.noticeOnSegment c n i d).dvs.get
      e).bay = (s.dvs.get e).bay := by
  simp only [State.noticeOnSegment]; split <;> simp

/-- What takeNotice leaves of the diverters. -/
@[simp] theorem State.takeNotice_dvs_frame (s : State) (c : StationConfig) (i : Identity) (d : Nat) (e : Div) :
    ((s.takeNotice c i d).dvs.get e).eng = (s.dvs.get e).eng ∧ ((s.takeNotice c i d).dvs.get e).last = (s.dvs.get
      e).last ∧ ((s.takeNotice c i d).dvs.get e).confirms = (s.dvs.get e).confirms ∧ ((s.takeNotice c i d).dvs.get
      e).account = (s.dvs.get e).account ∧ ((s.takeNotice c i d).dvs.get e).bay = (s.dvs.get e).bay := by
  simp only [State.takeNotice]; (repeat' split) <;> simp

/-- What retire leaves of the diverters. -/
@[simp] theorem State.retire_dvs_frame (s : State) (c : StationConfig) (i : Identity) (n : Nat) (e : Div) :
    ((s.retire c i n).dvs.get e).eng = (s.dvs.get e).eng ∧ ((s.retire c i n).dvs.get e).last = (s.dvs.get e).last ∧
      ((s.retire c i n).dvs.get e).confirms = (s.dvs.get e).confirms ∧ ((s.retire c i n).dvs.get e).account = (s.dvs.get
      e).account ∧ ((s.retire c i n).dvs.get e).bay = (s.dvs.get e).bay := by
  simp only [State.retire]; (repeat' split) <;> simp

/-- What takeDivertDone leaves of the diverters. -/
@[simp] theorem State.takeDivertDone_dvs_frame (s : State) (c : StationConfig) (d : DivertDone) (e : Div) :
    ((s.takeDivertDone c d).dvs.get e).eng = (s.dvs.get e).eng ∧ ((s.takeDivertDone c d).dvs.get e).last = (s.dvs.get
      e).last ∧ ((s.takeDivertDone c d).dvs.get e).confirms = (s.dvs.get e).confirms ∧ ((s.takeDivertDone c d).dvs.get
      e).account = (s.dvs.get e).account ∧ ((s.takeDivertDone c d).dvs.get e).bay = (s.dvs.get e).bay := by
  simp only [State.takeDivertDone]; (repeat' split) <;> simp

/-- What writeFinding leaves of the diverters. -/
@[simp] theorem State.writeFinding_dvs_frame (s : State) (c : StationConfig) (f : Finding) (r : SegRec) (e : Div) :
    ((s.writeFinding c f r).dvs.get e).eng = (s.dvs.get e).eng ∧ ((s.writeFinding c f r).dvs.get e).last = (s.dvs.get
      e).last ∧ ((s.writeFinding c f r).dvs.get e).confirms = (s.dvs.get e).confirms ∧ ((s.writeFinding c f r).dvs.get
      e).account = (s.dvs.get e).account ∧ ((s.writeFinding c f r).dvs.get e).bay = (s.dvs.get e).bay := by
  simp only [State.writeFinding]; split <;> simp

/-- What deskAccept leaves of the diverters. -/
@[simp] theorem State.deskAccept_dvs_frame (s : State) (c : StationConfig) (i : Identity) (d : Nat) (e : Div) :
    ((s.deskAccept c i d).dvs.get e).eng = (s.dvs.get e).eng ∧ ((s.deskAccept c i d).dvs.get e).last = (s.dvs.get
      e).last ∧ ((s.deskAccept c i d).dvs.get e).confirms = (s.dvs.get e).confirms ∧ ((s.deskAccept c i d).dvs.get
      e).account = (s.dvs.get e).account ∧ ((s.deskAccept c i d).dvs.get e).bay = (s.dvs.get e).bay := by
  simp only [State.deskAccept]; split <;> simp

/-- What deskRecord leaves of the diverters. -/
@[simp] theorem State.deskRecord_dvs_frame (s : State) (c : StationConfig) (rc : ReaderConfig) (b : Bool) (i : Identity) (e : Div) :
    ((s.deskRecord c rc b i).dvs.get e).eng = (s.dvs.get e).eng ∧ ((s.deskRecord c rc b i).dvs.get e).last = (s.dvs.get
      e).last ∧ ((s.deskRecord c rc b i).dvs.get e).confirms = (s.dvs.get e).confirms ∧ ((s.deskRecord c rc b i).dvs.get
      e).account = (s.dvs.get e).account ∧ ((s.deskRecord c rc b i).dvs.get e).bay = (s.dvs.get e).bay := by
  simp only [State.deskRecord]; (repeat' split) <;> simp

/-- What windowClose leaves of the diverters. -/
@[simp] theorem State.windowClose_dvs_frame (s : State) (c : StationConfig) (e : Div) :
    ((s.windowClose c).dvs.get e).eng = (s.dvs.get e).eng ∧ ((s.windowClose c).dvs.get e).last = (s.dvs.get e).last ∧
      ((s.windowClose c).dvs.get e).confirms = (s.dvs.get e).confirms ∧ ((s.windowClose c).dvs.get e).account =
      (s.dvs.get e).account ∧ ((s.windowClose c).dvs.get e).bay = (s.dvs.get e).bay := by
  simp only [State.windowClose]; (repeat' split) <;> simp

end Sys2Proof.Machine
end

