-- ==== Sys2Proof/Laws/Counters.lean ====
section
/-! SUPPORT. What the shared operations do to the counters and the event bits of the Status Unit, in tables of their sizes, and what
the blocked flag, an offer, the state of an account and the points ahead of a record come to. -/

namespace Sys2Proof.Machine

open Sys2Proof

/-- Two counters in one place are one. -/
theorem Ctr.idx_inj {a b : Ctr} (h : a.ctorIdx = b.ctorIdx) : a = b := by
  rw [← Ctr.ofNat_ctorIdx a, h, Ctr.ofNat_ctorIdx]

/-- Two event bits in one place are one. -/
theorem Ev.idx_inj {a b : Ev} (h : a.ctorIdx = b.ctorIdx) : a = b := by
  rw [← Ev.ofNat_ctorIdx a, h, Ev.ofNat_ctorIdx]

/-- Every counter has its place in the table. -/
theorem Ctr.idx_lt (k : Ctr) : k.ctorIdx < 117 := by cases k <;> decide

/-- Every event bit has its place in the table. -/
theorem Ev.idx_lt (e : Ev) : e.ctorIdx < 33 := by cases e <;> decide

/-- The counters are read from the Status Unit alone. -/
theorem State.ctr_congr {s t : State} (h : t.stu = s.stu) (k : Ctr) : t.ctr k = s.ctr k := by simp only [State.ctr, h]

/-- The event bits are read from the Status Unit alone. -/
theorem State.ev_congr {s t : State} (h : t.stu = s.stu) (e : Ev) : t.ev e = s.ev e := by simp only [State.ev, h]

/-! ### Sizes -/

@[simp] theorem State.bump_counters_length (s : State) (c : Ctr) :
    (s.bump c).stu.counters.length = s.stu.counters.length := by simp

@[simp] theorem State.bump_events (s : State) (c : Ctr) : (s.bump c).stu.events = s.stu.events := rfl

@[simp] theorem State.raiseEv_counters (s : State) (e : Ev) : (s.raiseEv e).stu.counters = s.stu.counters := rfl

@[simp] theorem State.raiseEv_events_length (s : State) (e : Ev) :
    (s.raiseEv e).stu.events.length = s.stu.events.length := by simp [State.raiseEv]

/-! ### bump and raiseEv -/

/-- A bump moves the one counter, and saturates it (R37). -/
theorem State.bump_ctr {s : State} (h : s.stu.counters.length = 117) (c k : Ctr) :
    (s.bump c).ctr k = if k = c then satInc (s.ctr k) else s.ctr k := by
  have hk : k.ctorIdx < s.stu.counters.length := by rw [h]; exact Ctr.idx_lt k
  simp only [State.ctr, State.bump, List.getD_eq_getElem?_getD, List.getElem?_modify, List.getElem?_eq_getElem hk]
  by_cases e : k = c
  · subst e; simp
  · have : ¬ c.ctorIdx = k.ctorIdx := fun q => e (Ctr.idx_inj q.symm)
    simp [e, this]

/-- A bump moves no event bit. -/
@[simp] theorem State.bump_ev (s : State) (c : Ctr) (e : Ev) : (s.bump c).ev e = s.ev e := rfl

/-- Raising an event bit moves no counter. -/
@[simp] theorem State.raiseEv_ctr (s : State) (e : Ev) (k : Ctr) : (s.raiseEv e).ctr k = s.ctr k := rfl

/-- Raising an event bit sets the one bit. -/
theorem State.raiseEv_ev {s : State} (h : s.stu.events.length = 33) (e k : Ev) :
    (s.raiseEv e).ev k = (s.ev k || decide (k = e)) := by
  have hk : k.ctorIdx < s.stu.events.length := by rw [h]; exact Ev.idx_lt k
  simp only [State.ev, State.raiseEv, List.getD_eq_getElem?_getD, List.getElem?_set]
  by_cases q : k = e
  · subst q; simp [hk]
  · have : ¬ e.ctorIdx = k.ctorIdx := fun w => q (Ev.idx_inj w.symm)
    simp [q, this]

/-! ### queueFrame and queueSegmentState -/

/-- The kind's own counter is one that queuing moves. -/
@[simp] theorem queuedCtr_ofQueue (f : Frame) : (queuedCtr f).ofQueue = true := by cases f <;> rfl

/-- A frame that joins keeps the sizes of the Status Unit's tables. -/
@[simp] theorem State.joinFrame_stu_lengths (s : State) (f : Frame) (q : List OutFrame) :
    (s.joinFrame f q).stu.counters.length = s.stu.counters.length
      ∧ (s.joinFrame f q).stu.events.length = s.stu.events.length := by
  simp [State.joinFrame]

/-- A frame that joins counts under its kind alone (R166). -/
theorem State.joinFrame_ctr {s : State} (h : s.stu.counters.length = 117) (f : Frame) (q : List OutFrame) (k : Ctr) :
    (s.joinFrame f q).ctr k = if k = queuedCtr f then satInc (s.ctr k) else s.ctr k := by
  unfold State.joinFrame
  rw [State.bump_ctr (by simpa using h)]
  rfl

/-- A frame that joins raises no event bit. -/
@[simp] theorem State.joinFrame_ev (s : State) (f : Frame) (q : List OutFrame) (e : Ev) : (s.joinFrame f q).ev e = s.ev e := by
  unfold State.joinFrame
  rw [State.bump_ev]
  rfl

/-- Queuing a frame keeps the sizes of the Status Unit's tables. -/
@[simp] theorem State.queueFrame_stu_lengths (s : State) (f : Frame) :
    (s.queueFrame f).stu.counters.length = s.stu.counters.length
      ∧ (s.queueFrame f).stu.events.length = s.stu.events.length := by
  simp only [State.queueFrame]
  (repeat' split) <;> simp

/-- Queuing a frame moves only the counters of the outbound queue (R166, R167, R168). -/
theorem State.queueFrame_ctr {s : State} (h : s.stu.counters.length = 117) (f : Frame) {k : Ctr} (hk : k.ofQueue = false) :
    (s.queueFrame f).ctr k = s.ctr k := by
  have hq : k ≠ queuedCtr f := fun e => by rw [e, queuedCtr_ofQueue] at hk; cases hk
  have h1 : k ≠ .superseded := fun e => by rw [e] at hk; cases hk
  have h2 : k ≠ .droppedFull := fun e => by rw [e] at hk; cases hk
  simp only [State.queueFrame]
  split
  · rw [State.joinFrame_ctr (by simpa using h), if_neg hq, State.bump_ctr h, if_neg h1]
  · split
    · rw [State.joinFrame_ctr h, if_neg hq]
    · split
      · rw [State.joinFrame_ctr (by simpa using h), if_neg hq, State.raiseEv_ctr, State.bump_ctr h, if_neg h2]
      · rw [State.raiseEv_ctr, State.bump_ctr h, if_neg h2]

/-- Queuing a frame raises no event bit but DROPPED (R168). -/
theorem State.queueFrame_ev {s : State} (h : s.stu.events.length = 33) (f : Frame) {e : Ev} (he : e ≠ .dropped) :
    (s.queueFrame f).ev e = s.ev e := by
  simp only [State.queueFrame]
  (repeat' split) <;> simp [State.raiseEv_ev, State.bump_ev, h, he]

/-- The same of a SEGMENT_STATE (R8). -/
theorem State.queueSegmentState_ctr {s : State} (h : s.stu.counters.length = 117) {k : Ctr} (hk : k.ofQueue = false) :
    s.queueSegmentState.ctr k = s.ctr k := State.queueFrame_ctr h _ hk

/-- The same of a SEGMENT_STATE (R8). -/
theorem State.queueSegmentState_ev {s : State} (h : s.stu.events.length = 33) {e : Ev} (he : e ≠ .dropped) :
    s.queueSegmentState.ev e = s.ev e := State.queueFrame_ev h _ he

/-- Evaluating the blocked flag moves only what queuing moves (R29). -/
theorem State.evalBlocked_ctr {s : State} (c : StationConfig) (h : s.stu.counters.length = 117) {k : Ctr}
    (hk : k.ofQueue = false) : (s.evalBlocked c).ctr k = s.ctr k := by
  simp only [State.evalBlocked]
  split
  · rfl
  · exact (State.queueSegmentState_ctr (s := s.setBtu { s.btu with blockedFlag := s.blockedNow c }) h hk).trans rfl

/-! ### The blocked flag, an offer, an account and the points ahead, in the terms of the statements -/

/-- The flag that is evaluated is the one of R29. -/
theorem State.blockedNow_eq (s : State) (c : StationConfig) :
    s.blockedNow c = flagOf c s.btu.queue.length s.btu.down s.btu.blockedFlag := by
  simp only [State.blockedNow, flagOf, State.downstreamStops]
  congr 1
  simp [and_assoc]

/-- Evaluating sets the flag of R29. -/
theorem State.evalBlocked_blockedFlag (s : State) (c : StationConfig) :
    (s.evalBlocked c).btu.blockedFlag = flagOf c s.btu.queue.length s.btu.down s.btu.blockedFlag := by
  rw [← s.blockedNow_eq c]
  simp only [State.evalBlocked]
  split
  · rename_i h; exact h.symm
  · simp

/-- Evaluating a flag that stands changes nothing (R29). -/
theorem State.evalBlocked_same {s : State} {c : StationConfig}
    (h : flagOf c s.btu.queue.length s.btu.down s.btu.blockedFlag = s.btu.blockedFlag) : s.evalBlocked c = s := by
  rw [State.evalBlocked, s.blockedNow_eq c, if_pos h]

/-- When an offered reason takes (R146). -/
theorem offerTakes_iff (held : Option Reason) (x : Reason) :
    offerTakes held x = true ↔ held = none ∨ (held.any Reason.soft = true ∧ x.hard = true) := by
  cases held <;> simp [offerTakes]

/-- A derived state is one of the four that an account can have (R137). -/
theorem Account.derive_ne_unknown (a : Account) : a.derive ≠ .unknown := by
  unfold Account.derive
  (repeat' split) <;> decide

/-- A chute stops taking bags when it was grantable and is so no more (R138). -/
theorem Account.stopsTaking_eq (a : Account) {b : Account} (h : b.state ≠ .unknown) :
    a.stopsTaking b = (a.state.grantable && !b.state.grantable) := by
  unfold Account.stopsTaking ChuteState.grantable
  cases hb : b.state <;> simp_all

/-- The points ahead of a position are those that stand beyond it (R18). -/
theorem mem_pointsAhead {c : StationConfig} {pos : Nat} {p : Point} :
    p ∈ pointsAhead c pos ↔ ∃ x ∈ pointPosition c p, pos < x := by
  have hp : p ∈ Point.all := by rcases p with _ | _ | d | _ | _ <;> (try cases d) <;> decide
  simp only [pointsAhead, List.mem_filter, hp, true_and]
  cases pointPosition c p <;> simp

/-- No point stands twice among them. -/
theorem pointsAhead_nodup (c : StationConfig) (pos : Nat) : (pointsAhead c pos).Nodup :=
  List.Nodup.filter _ (by decide)

/-! ### Several bumps -/

/-- A counter that rises n times, saturating at 65535. -/
theorem State.bumpN_ctr_other {s : State} (h : s.stu.counters.length = 117) (c : Ctr) (n : Nat) {k : Ctr} (hk : k ≠ c) :
    (s.bumpN c n).ctr k = s.ctr k ∧ (s.bumpN c n).stu.counters.length = 117 := by
  induction n with
  | zero => exact ⟨rfl, h⟩
  | succ n ih => exact ⟨by simp only [State.bumpN]; rw [State.bump_ctr ih.2, if_neg hk, ih.1], by simpa [State.bumpN] using ih.2⟩

/-- The value of a saturating counter. -/
theorem satInc_toNat (x : Tally16) : (satInc x).toNat = min 65535 (x.toNat + 1) := by
  unfold satInc
  split
  · rename_i h; subst h; decide
  · rename_i h
    have hx := x.isLt
    have hne : x.toNat ≠ 65535 := fun e => h (BitVec.eq_of_toNat_eq (by simpa using e))
    rw [BitVec.toNat_add]
    simp
    omega

/-- The value of a counter that has risen n times. -/
theorem State.bumpN_ctr_self {s : State} (h : s.stu.counters.length = 117) (c : Ctr) (n : Nat) :
    ((s.bumpN c n).ctr c).toNat = min 65535 ((s.ctr c).toNat + n) ∧ (s.bumpN c n).stu.counters.length = 117 := by
  induction n with
  | zero =>
    refine ⟨?_, h⟩
    have := (s.ctr c).isLt
    simp only [State.bumpN]
    omega
  | succ n ih =>
    refine ⟨?_, by simpa [State.bumpN] using ih.2⟩
    simp only [State.bumpN]
    rw [State.bump_ctr ih.2, if_pos rfl, satInc_toNat, ih.1]
    omega

end Sys2Proof.Machine
end

