-- ==== Sys2Proof/WellFormed.lean ====
section
/-! DEFINITION. Which commands can come about on the part: the sizes that the wires and the configuration memory give.
The meanings are total and do not rest on these checks. -/

namespace Sys2Proof

/-- A record's slot is one of 0 to 15 (R15). -/
def RecRef.wf (r : RecRef) : Bool := r.slot < 16

/-- A frame's length field has 5 bits (R156). -/
def RxFrame.wf (f : RxFrame) : Bool := f.payload.length < 32

/-- The operands of the event a race takes; the entry eye removes no record (R28). -/
def Race.wf : Race → Bool
  | .exitEdge => true
  | .overdue r => r.wf
  | .confirmEdge _ => true
  | .rawChange eye _ => eye != .entry
  | .jamClr => true
  | .statusQuery f => f.wf

/-- The longest frame, 43 + 9 × 31 bit times (R156, 10.6). -/
def maxFrameBits : Nat := 322

/-- The operands of a command are ones the wires and the memory can give. -/
def Instr.wf : Instr → Bool
  | .reset => true
  | .resetRelease => true
  | .configurationLoadDone image => image.length == 256
  | .alertBlinkTimer => true
  | .encoderTick => true
  | .windowClose => true
  | .eyeRawChange _ _ => true
  | .leadingEdgeAccepted _ => true
  | .trailingEdgeAccepted _ => true
  | .longBagPoint r => r.wf
  | .lateGraceEnd r => r.wf
  | .readDecisionPoint r => r.wf
  | .commitPoint _ r => r.wf
  | .overduePoint r => r.wf
  | .fire _ => true
  | .release _ => true
  | .recoveryEnd _ => true
  | .confirmWindowEnd _ => true
  | .handoverStale => true
  | .scanByte _ _ race => race.all Race.wf
  | .scanGapTimeout => true
  | .fullSensorChange _ _ => true
  | .closeSwitchChange _ _ => true
  | .chuteClear _ => true
  | .jamClr => true
  | .refreshTimer => true
  | .downstreamSilence => true
  | .upstreamSilence _ => true
  | .minuteTimer => true
  | .segmentState f => f.wf
  | .handover f => f.wf
  | .divertDone f => f.wf
  | .identityNotice f => f.wf
  | .chuteState f => f.wf
  | .strayNotice f => f.wf
  | .statusQuery f => f.wf
  | .statusReply f => f.wf
  | .unknownKind _ f => f.wf
  | .frameStart => true
  | .attemptEnd read => read.length ≤ maxFrameBits
  | .quietTimer => true
  | .lineFault => true
  | .lineFaultExit => true
  | .rxMalformed bits => bits.length ≤ maxFrameBits

end Sys2Proof
end

