-- ==== Sys2Proof/Tests/Slice0.lean ====
section
/-! SUPPORT. Tests: ill-formed commands that the checks refuse, the spec's worked examples, and for every statement with
hypotheses a witness that meets them, clause by clause, at the boundary of a range where the clause has one. -/

set_option maxRecDepth 20000
set_option linter.unusedVariables false

namespace Sys2Proof.Tests

open Sys2Proof Sys2Proof.Machine

/-! ## Building blocks -/

/-- A merge, reader, desk and owner station. -/
def cA : StationConfig :=
  { station := 9, upA := 5, upB := 6, down := 7, priority := .a, bitRate := 1, reader := true, desk := true, alertMask := 0
    pExit := 40, dExit := 20, band := 2, gf := 3, gMin := 4, eMin := 3, lateGrace := 10, vStop := 2, vTol := 3, refresh := 1
    readerSection := some ⟨8, 12, 2, 3, 318, 422⟩, div0 := some ⟨8, 20, 10, 3, 4, 5, 9, 10⟩, div1 := some ⟨10, 24, 9, 3, 4, 0, 9, 10⟩
    problem := 30, maxPasses := 3, ageLimit := 2
    ranges := [⟨.any, 0, 99, 29, 0⟩, ⟨.a, 9000, 9499, 8, 7⟩, ⟨.b, 9000, 9999, 19, 20⟩] }

/-- A feed start with no other role. -/
def cF : StationConfig :=
  { cA with
    upA := 0, upB := 0, reader := false, desk := false, readerSection := none, div0 := none, div1 := none }

/-- The same as cA, with priority source B. -/
def cB : StationConfig := { cA with priority := .b }

/-- The same as cA, without a glitch filter. -/
def cG : StationConfig := { cA with gf := 0 }

/-- A desk that is no reader. -/
def cD : StationConfig := { cA with reader := false }

/-- Neither reader nor desk. -/
def cN : StationConfig := { cA with reader := false, desk := false }

/-- The same as cA, without a downstream neighbour. -/
def cZ : StationConfig := { cA with down := 0 }

def rdA : ReaderConfig := ⟨8, 12, 2, 3, 318, 422⟩
def dvA : DiverterConfig := ⟨8, 20, 10, 3, 4, 5, 9, 10⟩
def acA : Account := ⟨8, 10, 0, false, false, .isOpen, .isOpen⟩
def idA : Identity := ⟨4071239856, 318, 9214⟩
def hoA : Handover := ⟨9, 100, 20, 0, none, .announced, 0, none, 0, false⟩
def expA : ExpectRec := ⟨.a, none, none, none, 0, 0, 0, 5⟩

/-- A record with nothing known of its bag. -/
def bag : SegRec :=
  { slot := 0, ein := 100, len := none, front := none, back := none, origin := .announced, ident := none, entry := none
    dest := none, reason := none, passes := 0, readStatus := .none, divert := .none, tight := false, closeBehind := false
    lateId := false, ambiguous := false, longBag := false
    awaiting := [.lateGraceEnd, .readDecision, .commit .d0, .commit .d1, .longBag, .overdue] }

/-- n records, one tick apart. -/
def bags (n : Nat) : List SegRec := (List.range n).map fun i => { bag with slot := i, ein := BitVec.ofNat 24 (100 + i) }

/-- A station configured as cA, ACTIVE, with nothing on its belt. -/
def base : State :=
  { State.reset with
    cfl := ⟨.valid cA, false, true, 0, 0⟩, hlc := { Hlc.reset with line := .active, refreshMs := some 0 }
    btu := { Btu.reset with e := 130, windowMs := some 0, permit := true } }

def under (c : StationConfig) (s : State) : State := { s with cfl := { s.cfl with load := .valid c } }
def moved (e : Count) (v w : Nat) : State := { base with btu := { base.btu with e := e, v := v, winCount := w } }
def steady (s : State) : State := { s with btu := { s.btu with speed := .steady, steadyCount := 8 } }
def holding (q : List SegRec) (s : State) : State := { s with btu := { s.btu with queue := q } }
def flagged (b : Bool) (s : State) : State := { s with btu := { s.btu with blockedFlag := b } }
def withExpects (xs : List ExpectRec) (s : State) : State := { s with btu := { s.btu with expects := xs } }
def expecting (xs : List ExpectRec) : State := withExpects xs base
def atEye (eye : Eye) (st : FilterState) (raw e : Count) : State :=
  { base with btu := { (base.btu.setFilter eye ⟨st, raw, false⟩) with e := e } }
def muted (eye : Eye) (s : State) : State :=
  { s with btu := s.btu.setFilter eye { s.btu.filter eye with mute := true } }
def wired (eye : Eye) (s : State) : State := s.setEyePin eye true
def opened (o : OpenRec) (s : State) : State := { s with btu := { s.btu with openRec := some o, gapRef := .count 90 } }
def skipping (s : State) : State := { s with btu := { s.btu with skipTrailing := true, gapRef := .lost } }
def engaged (e : EngState) (l : LastFire) (s : State) : State :=
  { s with dvs := { s.dvs with d0 := { s.dvs.d0 with eng := e, last := some l } } }
def granting (gs : List Grant) (s : State) : State := { s with dvs := { s.dvs with d0 := { s.dvs.d0 with grants := gs } } }
def confirming (cs : List Confirm) (s : State) : State := { s with dvs := { s.dvs with d0 := { s.dvs.d0 with confirms := cs } } }
def accounted (s : State) : State := { s with dvs := { s.dvs with d0 := { s.dvs.d0 with account := some acA } } }
def filledTo (n : Nat) (st : ChuteState) (s : State) : State :=
  { s with dvs := { s.dvs with d0 := { s.dvs.d0 with account := some { acA with fill := n, state := st } } } }
def grantingToo (gs : List Grant) (s : State) : State := { s with dvs := { s.dvs with d1 := { s.dvs.d1 with grants := gs } } }
def bayed (b : Bay) (s : State) : State := { accounted s with dvs := { (accounted s).dvs with d0 := { (accounted s).dvs.d0 with bay := b } } }
def clrHigh (s : State) : State := { s with pins := { s.pins with clr0 := true } }
def gapAt (g : Count) (s : State) : State := { s with btu := { s.btu with gapRef := .count g } }
def blinking (phase ms : Nat) : State := { State.reset with cfl := ⟨.invalid .noMemory, false, true, phase, ms⟩ }
def stocked (es : List (Option IdtEntry)) (s : State) : State := { s with idt := { s.idt with entries := es } }
def viewing (s : State) : State := { s with rrv := ⟨List.replicate 31 ⟨.isOpen, 17, 0, 96, 0⟩⟩ }
def shut (s : State) : State := { s with rrv := ⟨List.replicate 31 ⟨.closed, 17, 0, 96, 0⟩⟩ }
def queueing (q : List OutFrame) (s : State) : State := { s with hlc := { s.hlc with queue := q } }
def tallied (n : Nat) (s : State) : State := { s with hlc := { s.hlc with tally := n } }
def lined (l : LineState) (s : State) : State := { s with hlc := { s.hlc with line := l } }
def doubled (s : State) : State := { s with hlc := { s.hlc with dup := true } }
def entered (i : Nat) (e : IdtEntry) (s : State) : State := { s with idt := { s.idt with entries := s.idt.entries.set i (some e) } }
def scanning (held : List Byte) (s : State) : State := { s with rdu := ⟨.assembling held, some 0⟩ }
def loaded (p : Pins) : State := { State.reset with pins := p, cfl := ⟨.loading, true, true, 0, 0⟩ }

/-- One millisecond before a window close, with a sample of JAM_CLR about to rise. -/
def tick : State :=
  { base with btu := { base.btu with windowMs := some 15 }, pins := { base.pins with jam := true, full0 := true } }

/-- The silence timers have reached three refresh periods. -/
def silentSoon : State :=
  { base with btu := { base.btu with down := ⟨true, false, some 3000, false⟩, upA := ⟨.moving, 9, some 3000, false⟩ } }

/-- Seven waiting announcements. -/
def sevenStale : List OutFrame := (List.range 7).map fun i => ⟨.handover hoA (BitVec.ofNat 24 i), false, false, false⟩

/-- A complete record on the scanner line but for its CR: the letter, 19 digits, the check character. -/
def record (letter : Byte) (n : Nat) (check : Byte) : List Byte :=
  letter :: (List.range 19).map (fun i => BitVec.ofNat 8 (48 + n / 10 ^ (18 - i) % 10)) ++ [check]

def bag377 : List Byte := record letterR 6110452290037709214 0x30
def bag4096 : List Byte := record letterR 6110452290409609214 0x30
def bag318 : List Byte := record letterR 4071239856031809214 letterX
def desk318 : List Byte := record letterM 4071239856031809214 letterX
def desk377 : List Byte := record letterM 6110452290037709214 0x30
def desk12005 : List Byte := record letterM 3318204417031812005 0x30

/-- Young entries in every place but one: no place is reusable. -/
def crowded : List (Option IdtEntry) := (List.range 128).map fun i => some ⟨1000 + i, 1, false, 1, 8, .onLoop, .read, 0⟩

/-- The sixteen held places taken, in a state each, with the rest free. -/
def heldBy (st : Nat → EntryState) : List (Option IdtEntry) :=
  (List.range 16).map (fun i => some ⟨1000 + i, 1, false, 1, 8, st i, .notice, i / 4⟩) ++ List.replicate 112 none

/-- An image of 256 bytes. -/
def padded (bytes : List Byte) : List Byte := bytes ++ List.replicate (256 - bytes.length) 0

/-- The image of cA, written out from the layouts of R175 and R176. -/
def imgA : List Byte := padded
  [0xA5, 0x3C, 0x01, 0x00, 0x6E, 0x0B, 0xF5, 0x08, 0x01, 0x0B, 0x13, 0x09, 0x05, 0x06, 0x07, 0x00, 0x01, 0xC0, 0x00,
   0x02, 0x0F, 0x22, 0x00, 0x28, 0x00, 0x14, 0x00, 0x02, 0x03, 0x00, 0x04, 0x03, 0x00, 0x0A, 0x03, 0x06, 0x28, 0x02,
   0x03, 0x01, 0x04, 0x0E, 0x36, 0x00, 0x08, 0x00, 0x0C, 0x00, 0x02, 0x03, 0x01, 0x3E, 0x01, 0xA6, 0x05, 0x10, 0x46,
   0x08, 0x00, 0x14, 0x00, 0x0A, 0x03, 0x00, 0x04, 0x05, 0x00, 0x09, 0x00, 0x0A, 0x05, 0x10, 0x56, 0x0A, 0x00, 0x18,
   0x00, 0x09, 0x03, 0x00, 0x04, 0x00, 0x00, 0x09, 0x00, 0x0A, 0x06, 0x18, 0x00, 0x1E, 0x03, 0x02, 0xC0, 0x00, 0x00,
   0x06, 0x33, 0xA0, 0x44, 0x65, 0x02, 0x51, 0xB1, 0x07, 0x84, 0x65, 0x02, 0x70, 0xF2, 0x74]

/-- The image of cF, with a section of unknown kind in its chain. -/
def imgF : List Byte := padded
  [0xA5, 0x3C, 0x01, 0x00, 0x46, 0x08, 0xE9, 0x08, 0x01, 0x0B, 0x13, 0x09, 0x00, 0x00, 0x07, 0x00, 0x01, 0x00, 0x00,
   0x4D, 0x06, 0x19, 0x01, 0x02, 0x03, 0x02, 0x0F, 0x28, 0x00, 0x28, 0x00, 0x14, 0x00, 0x02, 0x03, 0x00, 0x04, 0x03,
   0x00, 0x0A, 0x03, 0x06, 0x2E, 0x02, 0x03, 0x01, 0x06, 0x18, 0x00, 0x1E, 0x03, 0x02, 0xC0, 0x00, 0x00, 0x06, 0x33,
   0xA0, 0x44, 0x65, 0x02, 0x51, 0xB1, 0x07, 0x84, 0x65, 0x02, 0x70, 0xF2, 0x74]

/-- A header with a used length and a check of 0 (R175). -/
def imgHead (used : Nat) : List Byte := padded [0xA5, 0x3C, 1, BitVec.ofNat 8 (used / 256), BitVec.ofNat 8 used, 0, 0, 0]

/-! ## How a witness meets the laws -/

def sizeOk (s : State) : Bool :=
  s.stu.counters.length == 117 && s.stu.events.length == 33 && s.btu.history.length == 8 && s.idt.entries.length == 128
    && s.rrv.view.length == 31 && decide (s.btu.queue.length ≤ 16) && decide (s.btu.expects.length ≤ 8)
    && decide (s.hlc.queue.length ≤ 8) && decide (s.hlc.tally ≤ 3) && decide (16 ≤ s.idt.pointer ∧ s.idt.pointer ≤ 127)
    && [Div.d0, Div.d1].all fun d => decide ((s.dvs.get d).grants.length ≤ 3) && decide ((s.dvs.get d).confirms.length ≤ 2)
      && (s.dvs.get d).account.all fun a => decide (a.fill ≤ 4095)

theorem sizeLaw_of {s : State} (h : sizeOk s = true) : SizeLaw s := by
  simp only [sizeOk, Bool.and_eq_true, beq_iff_eq, decide_eq_true_eq, List.all_cons, List.all_nil] at h
  obtain ⟨⟨⟨⟨⟨⟨⟨⟨⟨⟨h1, h2⟩, h3⟩, h4⟩, h5⟩, h6⟩, h7⟩, h8⟩, h9⟩, h10⟩, h11, h12, -⟩ := h
  refine ⟨h1, h2, h3, h4, h5, h6, h7, h8, h9, h10.1, h10.2, fun d => ?_⟩
  have hd : ∀ x : Diverter, ((x.grants.length ≤ 3 ∧ x.confirms.length ≤ 2) ∧ (x.account.all fun a => decide (a.fill ≤ 4095)) = true) →
      x.grants.length ≤ 3 ∧ x.confirms.length ≤ 2 ∧ ∀ a, x.account = some a → a.fill ≤ 4095 :=
    fun x hx => ⟨hx.1.1, hx.1.2, fun a ha => by simpa [ha] using hx.2⟩
  cases d
  · exact hd _ h11
  · exact hd _ h12

theorem slotLaw_of {s : State} (h : (s.btu.queue.map SegRec.slot).Nodup ∧ (∀ r ∈ s.btu.queue, r.slot < 16) ∧ (s.btu.queue.map SegRec.ein).Nodup) :
    SlotLaw s := h

/-- The tag numbers of the valid entries. -/
def tagsOf (es : List (Option IdtEntry)) : List Nat := es.filterMap fun o => o.map (·.tag)

theorem tag_mem {es : List (Option IdtEntry)} {j : Nat} {y : IdtEntry} (h : entryAt es j = some y) : y.tag ∈ tagsOf es := by
  have hm : some y ∈ es := by
    unfold entryAt at h
    rw [List.getD_eq_getElem?_getD] at h
    cases hj : es[j]? with
    | none => rw [hj] at h; cases h
    | some o => rw [hj] at h; exact List.mem_of_getElem? (by rw [hj]; exact congrArg some h)
  exact List.mem_filterMap.2 ⟨some y, hm, rfl⟩

theorem tags_distinct : ∀ es : List (Option IdtEntry), (tagsOf es).Nodup → ∀ i j x y, entryAt es i = some x →
    entryAt es j = some y → x.tag = y.tag → i = j
  | [], _, i, _, _, _, hx, _, _ => by simp [entryAt] at hx
  | o :: es, hn, i, j, x, y, hx, hy, ht => by
    have hn' : (tagsOf es).Nodup := by
      cases o with
      | none => exact hn
      | some a => exact (List.nodup_cons.1 (show (a.tag :: tagsOf es).Nodup from hn)).2
    have hno : ∀ a, o = some a → ∀ k b, entryAt es k = some b → a.tag ≠ b.tag := by
      intro a ha k b hb he
      subst ha
      exact (List.nodup_cons.1 (show (a.tag :: tagsOf es).Nodup from hn)).1 (he ▸ tag_mem hb)
    cases i with
    | zero =>
      cases j with
      | zero => rfl
      | succ j => exact absurd ht (hno x hx j y hy)
    | succ i =>
      cases j with
      | zero => exact absurd ht.symm (hno y hy i x hx)
      | succ j => exact congrArg _ (tags_distinct es hn' i j x y hx hy ht)

theorem tagLaw_of {s : State} (h : (tagsOf s.idt.entries).Nodup) : TagLaw s := tags_distinct s.idt.entries h

def judgedAs (img : List Byte) (v : Except BadReason StationConfig) (n : Nat) : Bool :=
  (match (judgeImage img).1, v with
    | .ok c, .ok d => c == d
    | .error r, .error q => r == q
    | .ok _, .error _ => false
    | .error _, .ok _ => false) && (judgeImage img).2 == n

theorem judged {img : List Byte} {v : Except BadReason StationConfig} {n : Nat} (h : judgedAs img v n = true) :
    judgeImage img = (v, n) := by
  unfold judgedAs at h
  obtain ⟨h1, h2⟩ := Bool.and_eq_true_iff.1 h
  have h2' := eq_of_beq h2
  generalize judgeImage img = p at *
  obtain ⟨a, b⟩ := p
  cases a <;> cases v <;> simp_all

/-! ## The witnesses -/

/-- Witness of IdleMillisecondAdvancesTimers. -/
theorem test_witness_IdleMillisecondAdvancesTimers :
    (∃ (s : State),
      s.pending = [] ∧ s.cfg = none)
    ∧ (∃ (s : State),
      s.pending = [] ∧ s.cfg = some cA ∧ s.btu.windowMs = some 15 ∧ s.pins.jam = true)
    ∧ (∃ (s : State),
      s.pending = [] ∧ s.cfl.load = .invalid .noMemory ∧ s.cfl.blinkPhase = 2 * BadReason.noMemory.code
        ∧ s.cfl.blinkMs + 1 = 1000)
    ∧ (∃ (s : State),
      s.pending = [] ∧ s.cfl.load = .invalid .noMemory ∧ s.cfl.blinkPhase ≠ 2 * BadReason.noMemory.code
        ∧ s.cfl.blinkMs + 1 = 250)
    ∧ (∃ (s : State),
      s.pending = [] ∧ s.cfg = some cA ∧ s.pins.clr .d0 ≠ (s.dvs.get .d0).bay.clrLevel ∧ s.pins.clr .d0 = true
        ∧ (s.dvs.get .d0).bay.clr + 1 = 16)
    ∧ (∃ (s : State),
      s.pending = [] ∧ s.cfg = some cA ∧ s.pins.clr .d0 = false ∧ 15 = (s.dvs.get .d0).bay.clr
        ∧ (s.dvs.get .d0).account.isSome = true) :=
  ⟨⟨State.reset,
      by decide, rfl⟩,
    ⟨tick,
      by decide, rfl, by decide⟩,
    ⟨blinking 2 999,
      by decide⟩,
    ⟨blinking 1 249,
      by decide⟩,
    ⟨clrHigh (bayed ⟨0, 0, 15, false⟩ base),
      by decide, rfl, by decide⟩,
    ⟨bayed ⟨0, 0, 15, true⟩ base,
      by decide, rfl, by decide⟩⟩

/-- Witness of ValidLoadStartsTheStation. -/
theorem test_witness_ValidLoadStartsTheStation :
    (∃ (image : List Byte) (c : StationConfig) (n : Nat) (s : State),
      s.cfl.reading = true ∧ s.cfl.load = .loading ∧ judgeImage image = (.ok c, n) ∧ SizeLaw s ∧ c.upA ≠ 0
        ∧ (c.diverter .d0).isSome = true ∧ s.hlc.queue = [] ∧ s.pins.eyeIn = true ∧ s.pins.full .d0 = true)
    ∧ (∃ (image : List Byte) (c : StationConfig) (n : Nat) (s : State),
      s.cfl.reading = true ∧ s.cfl.load = .loading ∧ judgeImage image = (.ok c, n) ∧ SizeLaw s ∧ c.upA = 0 ∧ c.upB = 0
        ∧ c.diverter .d0 = none ∧ n ≠ 0 ∧ s.pins.eyeIn = false) :=
  ⟨⟨imgA, cA, 0, loaded { Pins.reset with eyeIn := true, full0 := true },
      by decide, by decide, judged (by decide), sizeLaw_of (by decide), by decide⟩,
    ⟨imgF, cF, 1, loaded Pins.reset,
      by decide, by decide, judged (by decide), sizeLaw_of (by decide), by decide⟩⟩

/-- Witness of InvalidLoadNamesTheFirstFailure. -/
theorem test_witness_InvalidLoadNamesTheFirstFailure :
    (∃ (image : List Byte) (r : BadReason) (n : Nat) (s : State),
      image.length = 256 ∧ (∀ b ∈ image, b = 0xFF))
    ∧ (∃ (image : List Byte) (r : BadReason) (n : Nat) (s : State),
      image.length = 256 ∧ (¬ (∀ b ∈ image, b = 0xFF)) ∧ (¬ (image.getD 0 0 = 0xA5 ∧ image.getD 1 0 = 0x3C
        ∧ image.getD 2 0 = 1)))
    ∧ (∃ (image : List Byte) (r : BadReason) (n : Nat) (s : State),
      image.length = 256 ∧ (image.getD 0 0 = 0xA5 ∧ image.getD 1 0 = 0x3C ∧ image.getD 2 0 = 1) ∧ usedLength image = 7)
    ∧ (∃ (image : List Byte) (r : BadReason) (n : Nat) (s : State),
      image.length = 256 ∧ usedLength image = 257)
    ∧ (∃ (image : List Byte) (r : BadReason) (n : Nat) (s : State),
      image.length = 256 ∧ usedLength image = 8
        ∧ (256 * (image.getD 5 0).toNat + (image.getD 6 0).toNat ≠ ((((List.range (usedLength image)).filter fun k => k ≠ 5
          ∧ k ≠ 6).map fun k => (image.getD k 0).toNat).sum) % 65536))
    ∧ (∃ (image : List Byte) (r : BadReason) (n : Nat) (s : State),
      image.length = 256 ∧ 8 = usedLength image
        ∧ (256 * (image.getD 5 0).toNat + (image.getD 6 0).toNat = ((((List.range (usedLength image)).filter fun k => k ≠ 5
          ∧ k ≠ 6).map fun k => (image.getD k 0).toNat).sum) % 65536) ∧ judgeImage image = (.error r, n))
    ∧ (∃ (image : List Byte) (r : BadReason) (n : Nat) (s : State),
      image.length = 256 ∧ usedLength image = 256 ∧ s.cfl.reading = true ∧ s.cfl.load = .loading
        ∧ judgeImage image = (.error r, n) ∧ s.hlc.line = .offline) :=
  ⟨⟨List.replicate 256 0xFF, .noMemory, 0, loaded Pins.reset,
      by decide⟩,
    ⟨List.replicate 256 0, .badSignature, 0, loaded Pins.reset,
      by decide⟩,
    ⟨imgHead 7, .badValue, 0, loaded Pins.reset,
      by decide⟩,
    ⟨imgHead 257, .badValue, 0, loaded Pins.reset,
      by decide⟩,
    ⟨imgHead 8, .badCheck, 0, loaded Pins.reset,
      by decide⟩,
    ⟨(imgHead 8).set 6 234, .badValue, 0, loaded Pins.reset,
      by decide, by decide, by decide, judged (by decide)⟩,
    ⟨imgHead 256, .badCheck, 0, loaded Pins.reset,
      by decide, by decide, by decide, by decide, judged (by decide), by decide⟩⟩

/-- Witness of ValidImageIsWithinItsRanges. -/
theorem test_witness_ValidImageIsWithinItsRanges :
    (∃ (image : List Byte) (c : StationConfig) (n : Nat),
      judgeImage image = (.ok c, n) ∧ c.readerSection.isSome = true ∧ c.ranges ≠ [])
    ∧ (∃ (image : List Byte) (c : StationConfig) (n : Nat),
      judgeImage image = (.ok c, n) ∧ c.div0 = none) :=
  ⟨⟨imgA, cA, 0,
      judged (by decide), by decide⟩,
    ⟨imgF, cF, 1,
      judged (by decide), by decide⟩⟩

/-- Witness of BlinkPatternShowsReasonCode. -/
theorem test_witness_BlinkPatternShowsReasonCode :
    (∃ (r : BadReason) (s : State),
      s.cfl.load = .invalid r ∧ s.cfl.blinkPhase ≤ 2 * r.code ∧ s.cfl.blinkPhase = 0)
    ∧ (∃ (r : BadReason) (s : State),
      s.cfl.load = .invalid r ∧ s.cfl.blinkPhase ≤ 2 * r.code ∧ s.cfl.blinkPhase = 2 * r.code) :=
  ⟨⟨.noMemory, { State.reset with cfl := ⟨.invalid .noMemory, false, true, 0, 0⟩ },
      by decide⟩,
    ⟨.badValue, { State.reset with cfl := ⟨.invalid .badValue, false, true, 8, 0⟩ },
      by decide⟩⟩

/-- Witness of EncoderTickCountsOne. -/
theorem test_witness_EncoderTickCountsOne :
    (∃ (s : State),
      SizeLaw s ∧ s.cfg = none)
    ∧ (∃ (s : State),
      SizeLaw s ∧ s.cfg = some cA ∧ s.btu.e + 1 = 0 ∧ s.btu.winCount = 255) :=
  ⟨⟨State.reset,
      sizeLaw_of (by decide), rfl⟩,
    ⟨moved 16777215 0 255,
      sizeLaw_of (by decide), rfl, by decide⟩⟩

/-- Witness of WindowCloseFormsSpeedFigure. -/
theorem test_witness_WindowCloseFormsSpeedFigure :
    (∃ (c : StationConfig) (i : Instr) (s : State),
      s.cfg = some c ∧ SizeLaw s ∧ i ≠ .windowClose ∧ i ≠ .reset)
    ∧ (∃ (c : StationConfig) (i : Instr) (s : State),
      s.cfg = some c ∧ SizeLaw s ∧ i ≠ .windowClose ∧ i ≠ .reset ∧ i ≠ .encoderTick) :=
  ⟨⟨cA, .encoderTick, moved 100 1023 256,
      rfl, sizeLaw_of (by decide), by decide⟩,
    ⟨cA, .jamClr, moved 100 0 0,
      rfl, sizeLaw_of (by decide), by decide⟩⟩

/-- Witness of SpeedStateFollowsItsTable. -/
theorem test_witness_SpeedStateFollowsItsTable :
    (∃ (c : StationConfig) (i : Instr) (s : State),
      s.cfg = some c ∧ i ≠ .windowClose ∧ i ≠ .reset)
    ∧ (∃ (c : StationConfig) (i : Instr) (s : State),
      s.cfg = some c ∧ s.btu.speed ≠ .stopped) :=
  ⟨⟨cA, .jamClr, moved 100 2 2,
      rfl, by decide⟩,
    ⟨cA, .windowClose, steady (moved 100 197 25),
      rfl, by decide⟩⟩

/-- Witness of WindowCloseTellsTheNewSpeed. -/
theorem test_witness_WindowCloseTellsTheNewSpeed :
    (∃ (c : StationConfig) (s : State),
      s.cfg = none)
    ∧ (∃ (c : StationConfig) (s : State),
      s.cfg = some c ∧ s.btu.speed = .steady ∧ s.hlc.queue.length < 8)
    ∧ (∃ (c : StationConfig) (s : State),
      s.cfg = some c ∧ s.btu.speed = .stopped)
    ∧ (∃ (c : StationConfig) (s : State),
      s.cfg = some c ∧ s.btu.speed = .steady ∧ s.stu.counters.length = 117
        ∧ s.dvs.d0.grants.length + s.dvs.d1.grants.length = 2) :=
  ⟨⟨cA, State.reset,
      rfl⟩,
    ⟨cA, steady (moved 100 197 0),
      rfl, by decide⟩,
    ⟨cA, moved 100 0 0,
      rfl, by decide⟩,
    ⟨cA, granting [⟨bag.ref, 200, 210, 220⟩] (grantingToo [⟨bag.ref, 200, 210, 220⟩] (holding [bag] (steady (moved 100 197 0)))),
      rfl, by decide⟩⟩

/-- Witness of WindowCloseAdvancesExpectList. -/
theorem test_witness_WindowCloseAdvancesExpectList :
    (∃ (c : StationConfig) (s : State),
      s.cfg = some c ∧ SizeLaw s ∧ s.btu.expects.length = 2) :=
  ⟨cA, expecting [expA, { expA with drem := -32768 }],
      rfl, sizeLaw_of (by decide), by decide⟩

/-- Witness of EyeChangesMoveTheFilter. -/
theorem test_witness_EyeChangesMoveTheFilter :
    (∃ (c : StationConfig) (eye : Eye) (b : Bool) (s : State),
      s.cfg = some c ∧ 0 < c.gf ∧ s.pins.eye eye = b)
    ∧ (∃ (c : StationConfig) (eye : Eye) (b : Bool) (s : State),
      s.cfg = some c ∧ 0 < c.gf ∧ s.pins.eye eye = false ∧ (s.btu.filter eye).st = .clear)
    ∧ (∃ (c : StationConfig) (eye : Eye) (b : Bool) (s : State),
      s.cfg = some c ∧ 0 < c.gf ∧ s.pins.eye eye = true ∧ (s.btu.filter eye).st = .blocking ∧ eye = .entry)
    ∧ (∃ (c : StationConfig) (eye : Eye) (b : Bool) (s : State),
      s.cfg = some c ∧ 0 < c.gf ∧ s.pins.eye eye = true ∧ (s.btu.filter eye).st = .blocked)
    ∧ (∃ (c : StationConfig) (eye : Eye) (b : Bool) (s : State),
      s.cfg = some c ∧ 0 < c.gf ∧ s.pins.eye eye = false ∧ (s.btu.filter eye).st = .clearing ∧ eye ≠ .entry)
    ∧ (∃ (c : StationConfig) (eye : Eye) (b : Bool) (s : State),
      s.cfg = some c ∧ 0 < c.gf ∧ (s.btu.filter eye).st = .clearing ∧ c.gf = fwd (s.btu.filter eye).raw s.btu.e
        ∧ eye ≠ .entry)
    ∧ (∃ (c : StationConfig) (eye : Eye) (b : Bool) (s : State),
      s.cfg = some c ∧ 0 < c.gf ∧ (s.btu.filter eye).st = .clearing ∧ (s.btu.filter eye).mute = true)
    ∧ (∃ (c : StationConfig) (eye : Eye) (b : Bool) (s : State),
      s.cfg = none ∧ s.pins.eye eye ≠ b)
    ∧ (∃ (c : StationConfig) (eye : Eye) (b : Bool) (s : State),
      s.cfg = some c ∧ c.gf = 0 ∧ s.pins.eye eye = false ∧ (s.btu.filter eye).st = .clear)
    ∧ (∃ (c : StationConfig) (eye : Eye) (b : Bool) (s : State),
      s.cfg = some c ∧ c.gf = 0 ∧ s.pins.eye eye = true ∧ (s.btu.filter eye).st = .blocked) :=
  ⟨⟨cA, .entry, false, atEye .entry .clear 100 103,
      rfl, by decide⟩,
    ⟨cA, .exit, true, atEye .exit .clear 100 103,
      rfl, by decide⟩,
    ⟨cA, .entry, false, wired .entry (atEye .entry .blocking 100 103),
      rfl, by decide⟩,
    ⟨cA, .confirm .d0, false, wired (.confirm .d0) (atEye (.confirm .d0) .blocked 100 103),
      rfl, by decide⟩,
    ⟨cA, .confirm .d1, true, atEye (.confirm .d1) .clearing 100 103,
      rfl, by decide⟩,
    ⟨cA, .exit, true, atEye .exit .clearing 100 103,
      rfl, by decide⟩,
    ⟨cA, .entry, true, muted .entry (atEye .entry .clearing 100 103),
      rfl, by decide⟩,
    ⟨cA, .exit, true, State.reset,
      rfl, by decide⟩,
    ⟨cG, .entry, true, under cG (atEye .entry .clear 100 103),
      rfl, by decide⟩,
    ⟨cG, .exit, false, under cG (wired .exit (atEye .exit .blocked 100 103)),
      rfl, by decide⟩⟩

/-- Witness of EntryArrivalOpensARecord. -/
theorem test_witness_EntryArrivalOpensARecord :
    (∃ (c : StationConfig) (s : State),
      s.cfg = some c ∧ SizeLaw s ∧ SlotLaw s ∧ s.btu.fEntry.st = .blocking ∧ c.gf ≤ fwd s.btu.fEntry.raw s.btu.e
        ∧ s.btu.queue.length = 15 ∧ (∀ q ∈ s.btu.queue, q.ein ≠ s.btu.fEntry.raw) ∧ c.feedStart = false
          ∧ matchArrival c s.btu.expects = none ∧ c.gf = fwd s.btu.fEntry.raw s.btu.e)
    ∧ (∃ (c : StationConfig) (s : State),
      s.cfg = some c ∧ SizeLaw s ∧ SlotLaw s ∧ s.btu.fEntry.st = .blocking ∧ c.gf ≤ fwd s.btu.fEntry.raw s.btu.e
        ∧ s.btu.queue = [] ∧ c.feedStart = true)
    ∧ (∃ (c : StationConfig) (s : State),
      s.cfg = some c ∧ SizeLaw s ∧ SlotLaw s ∧ s.btu.fEntry.st = .blocking ∧ c.gf ≤ fwd s.btu.fEntry.raw s.btu.e
        ∧ c.feedStart = false ∧ ((matchArrival c s.btu.expects).any (fun x => decide (x.passes < c.maxPasses)) = true))
    ∧ (∃ (c : StationConfig) (s : State),
      s.cfg = some c ∧ SizeLaw s ∧ SlotLaw s ∧ s.btu.fEntry.st = .blocking ∧ c.gf ≤ fwd s.btu.fEntry.raw s.btu.e
        ∧ ((matchArrival c s.btu.expects).any (fun x => decide (c.maxPasses = x.passes)) = true))
    ∧ (∃ (c : StationConfig) (s : State),
      s.cfg = some c ∧ SizeLaw s ∧ SlotLaw s ∧ s.btu.fEntry.st = .blocking ∧ c.gf ≤ fwd s.btu.fEntry.raw s.btu.e
        ∧ s.btu.queue.length < 16 ∧ (∃ q ∈ s.btu.queue, q.ein = s.btu.fEntry.raw))
    ∧ (∃ (c : StationConfig) (s : State),
      s.cfg = some c ∧ SizeLaw s ∧ SlotLaw s ∧ s.btu.fEntry.st = .blocking ∧ c.gf ≤ fwd s.btu.fEntry.raw s.btu.e
        ∧ s.btu.queue.length = 16)
    ∧ (∃ (c : StationConfig) (s : State),
      s.cfg = some c ∧ SizeLaw s ∧ SlotLaw s ∧ s.btu.fEntry.st = .blocking ∧ c.gf ≤ fwd s.btu.fEntry.raw s.btu.e
        ∧ s.btu.queue.length = 16
          ∧ ((s.btu.queue.getLast?).any (fun (r : SegRec) => r.back.isNone && s.dvs.d0.grants.any (·.ref == r.ref)) = true)
            ∧ fwd 497 s.btu.fEntry.raw + 1 = c.gMin)
    ∧ (∃ (c : StationConfig) (s : State),
      s.cfg = some c ∧ SizeLaw s ∧ SlotLaw s ∧ s.btu.fEntry.st = .blocking ∧ c.gf ≤ fwd s.btu.fEntry.raw s.btu.e
        ∧ s.btu.queue.length = 13 ∧ s.btu.blockedFlag = false ∧ flagOf c 14 s.btu.down s.btu.blockedFlag = true)
    ∧ (∃ (c : StationConfig) (s : State),
      s.cfg = some c ∧ SizeLaw s ∧ SlotLaw s ∧ s.btu.fEntry.st = .blocking ∧ c.gf ≤ fwd s.btu.fEntry.raw s.btu.e
        ∧ s.btu.queue.length = 12 ∧ s.btu.blockedFlag = false ∧ flagOf c 13 s.btu.down s.btu.blockedFlag = false)
    ∧ (∃ (c : StationConfig) (s : State),
      s.cfg = some c ∧ SizeLaw s ∧ SlotLaw s ∧ s.btu.fEntry.st = .blocking ∧ c.gf ≤ fwd s.btu.fEntry.raw s.btu.e
        ∧ s.btu.queue.length = 12 ∧ flagOf c 13 s.btu.down s.btu.blockedFlag = true)
    ∧ (∃ (c : StationConfig) (s : State),
      s.cfg = some c ∧ SizeLaw s ∧ SlotLaw s ∧ s.btu.fEntry.st = .blocking ∧ c.gf ≤ fwd s.btu.fEntry.raw s.btu.e
        ∧ s.btu.queue.length = 11 ∧ flagOf c 12 s.btu.down s.btu.blockedFlag = false)
    ∧ (∃ (c : StationConfig) (s : State),
      s.cfg = some c ∧ SizeLaw s ∧ SlotLaw s ∧ s.btu.fEntry.st = .blocking ∧ c.gf ≤ fwd s.btu.fEntry.raw s.btu.e
        ∧ s.btu.queue = [] ∧ fwd s.btu.fEntry.raw s.btu.e = c.lateGrace + 1
          ∧ (c.readerSection.any (fun rc => decide (fwd s.btu.fEntry.raw s.btu.e < rc.pDec)) = true))
    ∧ (∃ (c : StationConfig) (s : State),
      s.cfg = some c ∧ SizeLaw s ∧ SlotLaw s ∧ s.btu.fEntry.st = .blocking ∧ c.gf ≤ fwd s.btu.fEntry.raw s.btu.e
        ∧ s.btu.queue = [] ∧ fwd s.btu.fEntry.raw s.btu.e + 1 = c.pExit + c.band + 1) :=
  ⟨⟨cA, holding (bags 15) (atEye .entry .blocking 500 503),
      rfl, sizeLaw_of (by decide), slotLaw_of (by decide), by decide⟩,
    ⟨cF, under cF (atEye .entry .blocking 500 503),
      rfl, sizeLaw_of (by decide), slotLaw_of (by decide), by decide⟩,
    ⟨cA, withExpects [{ expA with drem := 47 }] (atEye .entry .blocking 500 503),
      rfl, sizeLaw_of (by decide), slotLaw_of (by decide), by decide⟩,
    ⟨cA, withExpects [{ expA with passes := 3, reason := some .noRead }] (atEye .entry .blocking 500 503),
      rfl, sizeLaw_of (by decide), slotLaw_of (by decide), by decide⟩,
    ⟨cA, holding [{ bag with ein := 500 }] (atEye .entry .blocking 500 503),
      rfl, sizeLaw_of (by decide), slotLaw_of (by decide), by decide⟩,
    ⟨cA, holding (bags 16) (atEye .entry .blocking 500 503),
      rfl, sizeLaw_of (by decide), slotLaw_of (by decide), by decide⟩,
    ⟨cA, gapAt 497 (granting [⟨⟨15, 115⟩, 600, 610, 620⟩] (holding (bags 16) (atEye .entry .blocking 500 503))),
      rfl, sizeLaw_of (by decide), slotLaw_of (by decide), by decide⟩,
    ⟨cA, holding (bags 13) (atEye .entry .blocking 500 503),
      rfl, sizeLaw_of (by decide), slotLaw_of (by decide), by decide⟩,
    ⟨cA, holding (bags 12) (atEye .entry .blocking 500 503),
      rfl, sizeLaw_of (by decide), slotLaw_of (by decide), by decide⟩,
    ⟨cA, flagged true (holding (bags 12) (atEye .entry .blocking 500 503)),
      rfl, sizeLaw_of (by decide), slotLaw_of (by decide), by decide⟩,
    ⟨cA, flagged true (holding (bags 11) (atEye .entry .blocking 500 503)),
      rfl, sizeLaw_of (by decide), slotLaw_of (by decide), by decide⟩,
    ⟨cA, atEye .entry .blocking 500 511,
      rfl, sizeLaw_of (by decide), slotLaw_of (by decide), by decide⟩,
    ⟨cA, atEye .entry .blocking 500 542,
      rfl, sizeLaw_of (by decide), slotLaw_of (by decide), by decide⟩⟩

/-- Witness of ArrivalIsMatchedByDistance. -/
theorem test_witness_ArrivalIsMatchedByDistance :
    (∃ (c : StationConfig) (s : State),
      s.cfg = some c ∧ SlotLaw s ∧ s.btu.fEntry.st = .blocking ∧ c.gf ≤ fwd s.btu.fEntry.raw s.btu.e ∧ c.feedStart = false
        ∧ s.btu.queue.length < 16 ∧ (∀ q ∈ s.btu.queue, q.ein ≠ s.btu.fEntry.raw)
          ∧ ((s.btu.expects.find? (fun (x : ExpectRec) => x.source == .a && decide ((x.drem.tdiv 8).natAbs ≤ x.tol))).isSome = true) ∧ (s.btu.expects.find? (fun (x : ExpectRec) => x.source == .b && decide ((x.drem.tdiv 8).natAbs ≤ x.tol)) = none))
    ∧ (∃ (c : StationConfig) (s : State),
      s.cfg = some c ∧ SlotLaw s ∧ s.btu.fEntry.st = .blocking ∧ c.gf ≤ fwd s.btu.fEntry.raw s.btu.e ∧ c.feedStart = false
        ∧ s.btu.queue.length < 16 ∧ (∀ q ∈ s.btu.queue, q.ein ≠ s.btu.fEntry.raw)
          ∧ ((s.btu.expects.find? (fun (x : ExpectRec) => x.source == .b && decide ((x.drem.tdiv 8).natAbs ≤ x.tol))).isSome = true) ∧ (s.btu.expects.find? (fun (x : ExpectRec) => x.source == .a && decide ((x.drem.tdiv 8).natAbs ≤ x.tol)) = none))
    ∧ (∃ (c : StationConfig) (s : State),
      s.cfg = some c ∧ SlotLaw s ∧ s.btu.fEntry.st = .blocking ∧ c.gf ≤ fwd s.btu.fEntry.raw s.btu.e ∧ c.feedStart = false
        ∧ s.btu.queue.length < 16 ∧ (∀ q ∈ s.btu.queue, q.ein ≠ s.btu.fEntry.raw)
          ∧ (s.btu.expects.find? (fun (x : ExpectRec) => x.source == .a && decide ((x.drem.tdiv 8).natAbs ≤ x.tol)) = some { expA with drem := 39 }) ∧ (s.btu.expects.find? (fun (x : ExpectRec) => x.source == .b && decide ((x.drem.tdiv 8).natAbs ≤ x.tol)) = some { expA with source := .b, drem := -40 }))
    ∧ (∃ (c : StationConfig) (s : State),
      s.cfg = some c ∧ SlotLaw s ∧ s.btu.fEntry.st = .blocking ∧ c.gf ≤ fwd s.btu.fEntry.raw s.btu.e ∧ c.feedStart = false
        ∧ s.btu.queue.length < 16 ∧ (∀ q ∈ s.btu.queue, q.ein ≠ s.btu.fEntry.raw)
          ∧ ((s.btu.expects.find? (fun (x : ExpectRec) => x.source == .a && decide ((x.drem.tdiv 8).natAbs ≤ x.tol))).isSome = true) ∧ ((s.btu.expects.find? (fun (x : ExpectRec) => x.source == .b && decide ((x.drem.tdiv 8).natAbs ≤ x.tol))).isSome = true) ∧ c.priority = .a)
    ∧ (∃ (c : StationConfig) (s : State),
      s.cfg = some c ∧ SlotLaw s ∧ s.btu.fEntry.st = .blocking ∧ c.gf ≤ fwd s.btu.fEntry.raw s.btu.e ∧ c.feedStart = false
        ∧ s.btu.queue.length < 16 ∧ (∀ q ∈ s.btu.queue, q.ein ≠ s.btu.fEntry.raw)
          ∧ ((s.btu.expects.find? (fun (x : ExpectRec) => x.source == .a && decide ((x.drem.tdiv 8).natAbs ≤ x.tol))).isSome = true) ∧ ((s.btu.expects.find? (fun (x : ExpectRec) => x.source == .b && decide ((x.drem.tdiv 8).natAbs ≤ x.tol))).isSome = true) ∧ c.priority = .b) :=
  ⟨⟨cA, withExpects [{ expA with drem := -47 }] (atEye .entry .blocking 500 503),
      rfl, slotLaw_of (by decide), by decide⟩,
    ⟨cA, withExpects [{ expA with source := .b, drem := 47 }] (atEye .entry .blocking 500 503),
      rfl, slotLaw_of (by decide), by decide⟩,
    ⟨cA, withExpects [{ expA with drem := 39 }, { expA with source := .b, drem := -40 }] (atEye .entry .blocking 500 503),
      rfl, slotLaw_of (by decide), by decide⟩,
    ⟨cA, withExpects [{ expA with drem := 40 }, { expA with source := .b, drem := -40 }] (atEye .entry .blocking 500 503),
      rfl, slotLaw_of (by decide), by decide⟩,
    ⟨cB, under cB (withExpects [{ expA with drem := 40 }, { expA with source := .b, drem := -40 }] (atEye .entry .blocking 500 503)),
      rfl, slotLaw_of (by decide), by decide⟩⟩

/-- Witness of TrailingEdgeCompletesTheOpenRecord. -/
theorem test_witness_TrailingEdgeCompletesTheOpenRecord :
    (∃ (c : StationConfig) (o : OpenRec) (r : SegRec) (s : State),
      s.cfg = some c ∧ SizeLaw s ∧ SlotLaw s ∧ s.btu.fEntry.st = .clearing ∧ c.gf ≤ fwd s.btu.fEntry.raw s.btu.e
        ∧ s.btu.fEntry.mute = false ∧ s.btu.openRec = some o ∧ s.findRec o.ref = some r ∧ fwd r.ein s.btu.fEntry.raw = 2046
          ∧ o.reopened = false ∧ (aheadOf r.ref s.btu.queue).isSome = true)
    ∧ (∃ (c : StationConfig) (o : OpenRec) (r : SegRec) (s : State),
      s.cfg = some c ∧ SizeLaw s ∧ SlotLaw s ∧ s.btu.fEntry.st = .clearing ∧ c.gf ≤ fwd s.btu.fEntry.raw s.btu.e
        ∧ s.btu.fEntry.mute = false ∧ s.btu.openRec = some o ∧ s.findRec o.ref = some r ∧ fwd r.ein s.btu.fEntry.raw = 2047
          ∧ r.reason = none ∧ o.reopened = true)
    ∧ (∃ (c : StationConfig) (o : OpenRec) (r : SegRec) (s : State),
      s.cfg = some c ∧ SizeLaw s ∧ SlotLaw s ∧ s.btu.fEntry.st = .clearing ∧ c.gf ≤ fwd s.btu.fEntry.raw s.btu.e
        ∧ s.btu.fEntry.mute = false ∧ s.btu.openRec = some o ∧ s.findRec o.ref = some r ∧ o.reopened = true
          ∧ (aheadOf r.ref s.btu.queue).isSome = true ∧ fwd r.ein s.btu.fEntry.raw = 2047 ∧ r.reason.all Reason.soft = false)
    ∧ (∃ (c : StationConfig) (o : OpenRec) (r : SegRec) (s : State),
      s.cfg = some c ∧ SizeLaw s ∧ SlotLaw s ∧ s.btu.fEntry.st = .clearing ∧ c.gf ≤ fwd s.btu.fEntry.raw s.btu.e
        ∧ s.btu.fEntry.mute = false ∧ s.btu.openRec = some o ∧ s.findRec o.ref = some r ∧ o.reopened = false
          ∧ aheadOf r.ref s.btu.queue = some { bag with slot := 3, ein := 50 } ∧ fwd 97 r.ein + 1 = c.gMin
            ∧ s.dvs.d0.grants.any (·.ref == ⟨3, 50⟩) = true)
    ∧ (∃ (c : StationConfig) (o : OpenRec) (r : SegRec) (s : State),
      s.cfg = some c ∧ SizeLaw s ∧ SlotLaw s ∧ s.btu.fEntry.st = .clearing ∧ c.gf ≤ fwd s.btu.fEntry.raw s.btu.e
        ∧ s.btu.fEntry.mute = false ∧ s.btu.openRec = some o ∧ s.findRec o.ref = some r ∧ r.longBag = true
          ∧ o.reopened = false ∧ fwd r.ein s.btu.fEntry.raw = 2050
            ∧ aheadOf r.ref s.btu.queue = some { bag with slot := 3, ein := 50 }) :=
  ⟨⟨cA, ⟨bag.ref, false⟩, bag, opened ⟨bag.ref, false⟩ (holding [{ bag with slot := 3, ein := 50 }, bag] (atEye .entry .clearing 2146 2149)),
      rfl, sizeLaw_of (by decide), slotLaw_of (by decide), by decide⟩,
    ⟨cA, ⟨bag.ref, true⟩, bag, opened ⟨bag.ref, true⟩ (holding [bag] (atEye .entry .clearing 2147 2150)),
      rfl, sizeLaw_of (by decide), slotLaw_of (by decide), by decide⟩,
    ⟨cA, ⟨bag.ref, true⟩, { bag with reason := some .noCabin, dest := some 30 }, opened ⟨bag.ref, true⟩ (holding [{ bag with slot := 3, ein := 50 }, { bag with reason := some .noCabin, dest := some 30 }] (atEye .entry .clearing 2147 2150)),
      rfl, sizeLaw_of (by decide), slotLaw_of (by decide), by decide⟩,
    ⟨cA, ⟨bag.ref, false⟩, bag, gapAt 97 (opened ⟨bag.ref, false⟩ (granting [⟨⟨3, 50⟩, 200, 210, 220⟩] (holding [{ bag with slot := 3, ein := 50 }, bag] (atEye .entry .clearing 110 113)))),
      rfl, sizeLaw_of (by decide), slotLaw_of (by decide), by decide⟩,
    ⟨cA, ⟨bag.ref, false⟩, { bag with len := some 2047, reason := some .oversize, dest := some 30, longBag := true }, opened ⟨bag.ref, false⟩ (holding [{ bag with slot := 3, ein := 50 }, { bag with len := some 2047, reason := some .oversize, dest := some 30, longBag := true }] (atEye .entry .clearing 2150 2153)),
      rfl, sizeLaw_of (by decide), slotLaw_of (by decide), by decide⟩⟩

/-- Witness of TrailingEdgeWithoutOpenRecord. -/
theorem test_witness_TrailingEdgeWithoutOpenRecord :
    (∃ (c : StationConfig) (s : State),
      s.cfg = some c ∧ s.btu.fEntry.st = .clearing ∧ c.gf ≤ fwd s.btu.fEntry.raw s.btu.e ∧ s.btu.openRec = none
        ∧ s.btu.skipTrailing = false ∧ s.btu.fEntry.mute = false ∧ c.gf = fwd s.btu.fEntry.raw s.btu.e)
    ∧ (∃ (c : StationConfig) (s : State),
      s.cfg = some c ∧ s.btu.fEntry.st = .clearing ∧ c.gf ≤ fwd s.btu.fEntry.raw s.btu.e ∧ s.btu.openRec = none
        ∧ s.btu.skipTrailing = true ∧ s.btu.fEntry.mute = false)
    ∧ (∃ (c : StationConfig) (s : State),
      s.cfg = some c ∧ s.btu.fEntry.st = .clearing ∧ c.gf ≤ fwd s.btu.fEntry.raw s.btu.e ∧ s.btu.openRec = none
        ∧ s.btu.fEntry.mute = true) :=
  ⟨⟨cA, atEye .entry .clearing 100 103,
      rfl, by decide⟩,
    ⟨cA, skipping (atEye .entry .clearing 100 103),
      rfl, by decide⟩,
    ⟨cA, muted .entry (atEye .entry .clearing 100 103),
      rfl, by decide⟩⟩

/-- Witness of ExitEdgeMatchesOrIsUnexpected. -/
theorem test_witness_ExitEdgeMatchesOrIsUnexpected :
    (∃ (c : StationConfig) (s : State),
      s.cfg = some c ∧ SizeLaw s ∧ SlotLaw s ∧ s.btu.fExit.st = .blocking ∧ c.gf ≤ fwd s.btu.fExit.raw s.btu.e
        ∧ s.hlc.queue.length ≤ 5 ∧ fwd bag.ein s.btu.fExit.raw = c.pExit - c.band ∧ s.btu.queue.head? = some bag
          ∧ c.down ≠ 0 ∧ bag.dest.any c.ownChute = false)
    ∧ (∃ (c : StationConfig) (s : State),
      s.cfg = some c ∧ SizeLaw s ∧ SlotLaw s ∧ s.btu.fExit.st = .blocking ∧ c.gf ≤ fwd s.btu.fExit.raw s.btu.e
        ∧ s.hlc.queue.length ≤ 5 ∧ s.btu.queue.head? = some { bag with dest := some 8, passes := 1 }
          ∧ fwd bag.ein s.btu.fExit.raw = c.pExit + c.band ∧ c.ownChute 8 = true ∧ 1 + 1 < c.maxPasses)
    ∧ (∃ (c : StationConfig) (s : State),
      s.cfg = some c ∧ SizeLaw s ∧ SlotLaw s ∧ s.btu.fExit.st = .blocking ∧ c.gf ≤ fwd s.btu.fExit.raw s.btu.e
        ∧ s.hlc.queue.length ≤ 5 ∧ s.btu.queue.head? = some { bag with dest := some 8, passes := 2 } ∧ c.maxPasses ≤ 2 + 1)
    ∧ (∃ (c : StationConfig) (s : State),
      s.cfg = some c ∧ SizeLaw s ∧ SlotLaw s ∧ s.btu.fExit.st = .blocking ∧ c.gf ≤ fwd s.btu.fExit.raw s.btu.e
        ∧ s.hlc.queue.length ≤ 5 ∧ s.btu.queue.head? = some bag ∧ fwd bag.ein s.btu.fExit.raw = c.pExit + c.band + 1)
    ∧ (∃ (c : StationConfig) (s : State),
      s.cfg = some c ∧ SizeLaw s ∧ SlotLaw s ∧ s.btu.fExit.st = .blocking ∧ c.gf ≤ fwd s.btu.fExit.raw s.btu.e
        ∧ s.hlc.queue.length ≤ 5 ∧ s.btu.queue.head? = some bag ∧ fwd bag.ein s.btu.fExit.raw = c.pExit - c.band - 1)
    ∧ (∃ (c : StationConfig) (s : State),
      s.cfg = some c ∧ SizeLaw s ∧ SlotLaw s ∧ s.btu.fExit.st = .blocking ∧ c.gf ≤ fwd s.btu.fExit.raw s.btu.e
        ∧ s.hlc.queue.length ≤ 5 ∧ s.btu.queue = [])
    ∧ (∃ (c : StationConfig) (s : State),
      s.cfg = some c ∧ SizeLaw s ∧ SlotLaw s ∧ s.btu.fExit.st = .blocking ∧ c.gf ≤ fwd s.btu.fExit.raw s.btu.e
        ∧ s.hlc.queue.length ≤ 5 ∧ s.btu.queue.head? = some { bag with dest := some 8, passes := 2 } ∧ c.down = 0
          ∧ c.ownChute 8 = true ∧ c.maxPasses = 2 + 1)
    ∧ (∃ (c : StationConfig) (s : State),
      s.cfg = some c ∧ SizeLaw s ∧ SlotLaw s ∧ s.btu.fExit.st = .blocking ∧ c.gf ≤ fwd s.btu.fExit.raw s.btu.e
        ∧ s.hlc.queue.length ≤ 5 ∧ s.btu.queue = [] ∧ c.down = 0)
    ∧ (∃ (c : StationConfig) (s : State),
      s.cfg = some c ∧ SizeLaw s ∧ SlotLaw s ∧ s.btu.fExit.st = .blocking ∧ c.gf ≤ fwd s.btu.fExit.raw s.btu.e
        ∧ s.hlc.queue.length ≤ 5 ∧ s.btu.queue.head? = some { bag with dest := some 8, passes := 2 }
          ∧ s.dvs.d0.grants.any (·.ref == bag.ref) = true ∧ (c.div0.any (fun v => v.chute != c.problem) = true))
    ∧ (∃ (c : StationConfig) (s : State),
      s.cfg = some c ∧ SizeLaw s ∧ SlotLaw s ∧ s.btu.fExit.st = .blocking ∧ c.gf ≤ fwd s.btu.fExit.raw s.btu.e
        ∧ s.hlc.queue.length ≤ 5 ∧ s.btu.queue.head? = some bag ∧ s.btu.queue.length = 13
          ∧ flagOf c 12 s.btu.down s.btu.blockedFlag = false ∧ s.btu.blockedFlag = true)
    ∧ (∃ (c : StationConfig) (s : State),
      s.cfg = some c ∧ SizeLaw s ∧ SlotLaw s ∧ s.btu.fExit.st = .blocking ∧ c.gf ≤ fwd s.btu.fExit.raw s.btu.e
        ∧ s.hlc.queue.length ≤ 5 ∧ s.btu.queue.head? = some bag ∧ s.btu.queue.length = 14
          ∧ flagOf c 13 s.btu.down s.btu.blockedFlag = true) :=
  ⟨⟨cA, holding [bag] (atEye .exit .blocking 138 141),
      rfl, sizeLaw_of (by decide), slotLaw_of (by decide), by decide⟩,
    ⟨cA, holding [{ bag with dest := some 8, passes := 1 }] (atEye .exit .blocking 142 145),
      rfl, sizeLaw_of (by decide), slotLaw_of (by decide), by decide⟩,
    ⟨cA, holding [{ bag with dest := some 8, passes := 2 }] (atEye .exit .blocking 140 143),
      rfl, sizeLaw_of (by decide), slotLaw_of (by decide), by decide⟩,
    ⟨cA, holding [bag] (atEye .exit .blocking 143 146),
      rfl, sizeLaw_of (by decide), slotLaw_of (by decide), by decide⟩,
    ⟨cA, holding [bag] (atEye .exit .blocking 137 140),
      rfl, sizeLaw_of (by decide), slotLaw_of (by decide), by decide⟩,
    ⟨cA, atEye .exit .blocking 140 143,
      rfl, sizeLaw_of (by decide), slotLaw_of (by decide), by decide⟩,
    ⟨cZ, under cZ (holding [{ bag with dest := some 8, passes := 2 }] (atEye .exit .blocking 140 143)),
      rfl, sizeLaw_of (by decide), slotLaw_of (by decide), by decide⟩,
    ⟨cZ, under cZ (atEye .exit .blocking 140 143),
      rfl, sizeLaw_of (by decide), slotLaw_of (by decide), by decide⟩,
    ⟨cA, granting [⟨bag.ref, 200, 210, 220⟩] (holding [{ bag with dest := some 8, passes := 2 }] (atEye .exit .blocking 140 143)),
      rfl, sizeLaw_of (by decide), slotLaw_of (by decide), by decide⟩,
    ⟨cA, flagged true (holding (bags 13) (atEye .exit .blocking 140 143)),
      rfl, sizeLaw_of (by decide), slotLaw_of (by decide), by decide⟩,
    ⟨cA, flagged true (holding (bags 14) (atEye .exit .blocking 140 143)),
      rfl, sizeLaw_of (by decide), slotLaw_of (by decide), by decide⟩⟩

/-- Witness of OverduePointRemovesTheOldest. -/
theorem test_witness_OverduePointRemovesTheOldest :
    (∃ (c : StationConfig) (r : SegRec) (s : State),
      s.cfg = some c ∧ SizeLaw s ∧ SlotLaw s ∧ r ∈ s.btu.queue ∧ c.pExit + c.band + 1 ≤ fwd r.ein s.btu.e
        ∧ s.hlc.queue.length ≤ 6 ∧ s.btu.queue.head? = some r ∧ .overdue ∈ r.awaiting
          ∧ s.dvs.d0.grants.any (·.ref == r.ref) = true ∧ s.dvs.d0.confirms.any (·.ref == r.ref) = true)
    ∧ (∃ (c : StationConfig) (r : SegRec) (s : State),
      s.cfg = some c ∧ SizeLaw s ∧ SlotLaw s ∧ r ∈ s.btu.queue ∧ c.pExit + c.band + 1 ≤ fwd r.ein s.btu.e
        ∧ s.hlc.queue.length ≤ 6 ∧ s.btu.queue.head? = some r ∧ .overdue ∈ r.awaiting ∧ r.awaiting.Nodup
          ∧ fwd r.ein s.btu.e = c.pExit + c.band + 1 ∧ s.btu.fExit.st ≠ .blocking
            ∧ (s.btu.queue.tail.head?.all (fun q => q.awaiting.contains .overdue) = true))
    ∧ (∃ (c : StationConfig) (r : SegRec) (s : State),
      s.cfg = some c ∧ SizeLaw s ∧ SlotLaw s ∧ r ∈ s.btu.queue ∧ c.pExit + c.band + 1 ≤ fwd r.ein s.btu.e
        ∧ s.hlc.queue.length ≤ 6 ∧ s.btu.queue.head? = some r ∧ .overdue ∈ r.awaiting ∧ (s.btu.fExit.st = .blocking
          ∧ fwd r.ein s.btu.fExit.raw = c.pExit + c.band))
    ∧ (∃ (c : StationConfig) (r : SegRec) (s : State),
      s.cfg = some c ∧ SizeLaw s ∧ SlotLaw s ∧ r ∈ s.btu.queue ∧ c.pExit + c.band + 1 ≤ fwd r.ein s.btu.e
        ∧ s.hlc.queue.length ≤ 6 ∧ s.btu.queue.head? = some bag ∧ .overdue ∈ r.awaiting ∧ bag ≠ r
          ∧ Point.overdue ∈ bag.awaiting)
    ∧ (∃ (c : StationConfig) (r : SegRec) (s : State),
      s.cfg = some c ∧ SizeLaw s ∧ SlotLaw s ∧ r ∈ s.btu.queue ∧ c.pExit + c.band + 1 ≤ fwd r.ein s.btu.e
        ∧ s.hlc.queue.length ≤ 6 ∧ .overdue ∉ r.awaiting ∧ s.btu.queue.head? = some r ∧ s.pins.eyeOut = true
          ∧ s.btu.fExit.st = .blocking ∧ (s.btu.queue.tail.head?.all (fun q => q.awaiting.contains .overdue) = true))
    ∧ (∃ (c : StationConfig) (r : SegRec) (s : State),
      s.cfg = some c ∧ SizeLaw s ∧ SlotLaw s ∧ r ∈ s.btu.queue ∧ c.pExit + c.band + 1 ≤ fwd r.ein s.btu.e
        ∧ s.hlc.queue.length ≤ 6 ∧ s.btu.queue.head? = some r ∧ .overdue ∈ r.awaiting ∧ s.btu.queue.length = 13
          ∧ flagOf c 12 s.btu.down s.btu.blockedFlag = false ∧ s.btu.blockedFlag = true) :=
  ⟨⟨cA, bag, granting [⟨bag.ref, 200, 210, 220⟩] (confirming [⟨bag.ref, 115, 124, false⟩] (holding [bag] (moved 143 197 0))),
      rfl, sizeLaw_of (by decide), slotLaw_of (by decide), by decide⟩,
    ⟨cA, bag, holding [bag, { bag with slot := 4, ein := 120 }] (moved 143 197 0),
      rfl, sizeLaw_of (by decide), slotLaw_of (by decide), by decide⟩,
    ⟨cA, bag, holding [bag] (atEye .exit .blocking 142 143),
      rfl, sizeLaw_of (by decide), slotLaw_of (by decide), by decide⟩,
    ⟨cA, { bag with slot := 4, ein := 101 }, holding [bag, { bag with slot := 4, ein := 101 }] (moved 144 197 0),
      rfl, sizeLaw_of (by decide), slotLaw_of (by decide), by decide⟩,
    ⟨cA, { bag with awaiting := [] }, holding [{ bag with awaiting := [] }, { bag with slot := 4, ein := 120 }] (wired .exit (atEye .exit .blocking 142 143)),
      rfl, sizeLaw_of (by decide), slotLaw_of (by decide), by decide⟩,
    ⟨cA, bag, flagged true (holding (bags 13) (moved 143 197 0)),
      rfl, sizeLaw_of (by decide), slotLaw_of (by decide), by decide⟩⟩

/-- Witness of LongBagPointMakesOversize. -/
theorem test_witness_LongBagPointMakesOversize :
    (∃ (c : StationConfig) (r : SegRec) (s : State),
      s.cfg = some c ∧ SizeLaw s ∧ SlotLaw s ∧ r ∈ s.btu.queue ∧ 2047 ≤ fwd r.ein s.btu.e ∧ .longBag ∈ r.awaiting
        ∧ fwd r.ein s.btu.e = 2047 ∧ (s.btu.openRec.any (·.ref == r.ref) = true ∧ s.btu.fEntry.st = .blocked))
    ∧ (∃ (c : StationConfig) (r : SegRec) (s : State),
      s.cfg = some c ∧ SizeLaw s ∧ SlotLaw s ∧ r ∈ s.btu.queue ∧ 2047 ≤ fwd r.ein s.btu.e ∧ .longBag ∈ r.awaiting
        ∧ (¬ (s.btu.openRec.any (·.ref == r.ref) = true ∧ s.btu.fEntry.st = .blocked)))
    ∧ (∃ (c : StationConfig) (r : SegRec) (s : State),
      s.cfg = some c ∧ SizeLaw s ∧ SlotLaw s ∧ r ∈ s.btu.queue ∧ 2047 ≤ fwd r.ein s.btu.e ∧ .longBag ∉ r.awaiting
        ∧ r.longBag = false ∧ fwd r.ein s.btu.e = 2047 ∧ s.pins.eyeIn = false ∧ s.btu.fEntry.st = .clearing
          ∧ s.btu.openRec.any (·.ref == r.ref) = true)
    ∧ (∃ (c : StationConfig) (r : SegRec) (s : State),
      s.cfg = some c ∧ SizeLaw s ∧ SlotLaw s ∧ r ∈ s.btu.queue ∧ 2047 ≤ fwd r.ein s.btu.e ∧ .longBag ∈ r.awaiting
        ∧ s.pins.eyeIn = false ∧ s.btu.fEntry.st = .clearing ∧ s.btu.openRec.any (·.ref == r.ref) = true) :=
  ⟨⟨cA, bag, opened ⟨bag.ref, false⟩ (holding [bag] (atEye .entry .blocked 100 2147)),
      rfl, sizeLaw_of (by decide), slotLaw_of (by decide), by decide⟩,
    ⟨cA, bag, holding [bag] (moved 2147 197 0),
      rfl, sizeLaw_of (by decide), slotLaw_of (by decide), by decide⟩,
    ⟨cA, { bag with awaiting := [] }, opened ⟨bag.ref, false⟩ (holding [{ bag with awaiting := [] }] (atEye .entry .clearing 2147 2147)),
      rfl, sizeLaw_of (by decide), slotLaw_of (by decide), by decide⟩,
    ⟨cA, bag, opened ⟨bag.ref, false⟩ (holding [bag] (atEye .entry .clearing 2147 2147)),
      rfl, sizeLaw_of (by decide), slotLaw_of (by decide), by decide⟩⟩

/-- Witness of LateGraceEndMakesABlindStray. -/
theorem test_witness_LateGraceEndMakesABlindStray :
    (∃ (c : StationConfig) (r : SegRec) (s : State),
      s.cfg = some c ∧ SizeLaw s ∧ SlotLaw s ∧ r ∈ s.btu.queue ∧ .lateGraceEnd ∈ r.awaiting
        ∧ c.lateGrace + 1 ≤ fwd r.ein s.btu.e ∧ fwd r.ein s.btu.e = c.lateGrace + 1 ∧ (r.origin = .blind ∧ r.lateId = false
          ∧ r.ident = none))
    ∧ (∃ (c : StationConfig) (r : SegRec) (s : State),
      s.cfg = some c ∧ SizeLaw s ∧ SlotLaw s ∧ r ∈ s.btu.queue ∧ .lateGraceEnd ∈ r.awaiting
        ∧ c.lateGrace + 1 ≤ fwd r.ein s.btu.e ∧ (¬ (r.origin = .blind ∧ r.lateId = false ∧ r.ident = none))) :=
  ⟨⟨cA, { bag with origin := .blind }, holding [{ bag with origin := .blind }] (moved 111 197 0),
      rfl, sizeLaw_of (by decide), slotLaw_of (by decide), by decide⟩,
    ⟨cA, bag, holding [bag] (moved 111 197 0),
      rfl, sizeLaw_of (by decide), slotLaw_of (by decide), by decide⟩⟩

/-- Witness of ReadDecisionPointJudgesUnread. -/
theorem test_witness_ReadDecisionPointJudgesUnread :
    (∃ (c : StationConfig) (rc : ReaderConfig) (r : SegRec) (s : State),
      s.cfg = some c ∧ c.reader = true ∧ c.readerSection = some rc ∧ SizeLaw s ∧ SlotLaw s ∧ r ∈ s.btu.queue
        ∧ .readDecision ∈ r.awaiting ∧ rc.pDec ≤ fwd r.ein s.btu.e ∧ fwd r.ein s.btu.e = rc.pDec ∧ r.readStatus = .none)
    ∧ (∃ (c : StationConfig) (rc : ReaderConfig) (r : SegRec) (s : State),
      s.cfg = some c ∧ c.reader = true ∧ c.readerSection = some rc ∧ SizeLaw s ∧ SlotLaw s ∧ r ∈ s.btu.queue
        ∧ .readDecision ∈ r.awaiting ∧ rc.pDec ≤ fwd r.ein s.btu.e ∧ r.readStatus ≠ .none) :=
  ⟨⟨cA, rdA, bag, holding [bag] (moved 112 197 0),
      rfl, by decide, by decide, sizeLaw_of (by decide), slotLaw_of (by decide), by decide⟩,
    ⟨cA, rdA, { bag with readStatus := .read }, holding [{ bag with readStatus := .read }] (moved 112 197 0),
      rfl, by decide, by decide, sizeLaw_of (by decide), slotLaw_of (by decide), by decide⟩⟩

/-- Witness of CommitPointDecidesTheGrant. -/
theorem test_witness_CommitPointDecidesTheGrant :
    (∃ (c : StationConfig) (d : Div) (v : DiverterConfig) (r : SegRec) (s : State),
      s.cfg = some c ∧ c.diverter d = some v ∧ SizeLaw s ∧ SlotLaw s ∧ r ∈ s.btu.queue ∧ .commit d ∈ r.awaiting
        ∧ v.pDiv - v.commit ≤ fwd r.ein s.btu.e ∧ r.dest ≠ some v.chute)
    ∧ (∃ (c : StationConfig) (d : Div) (v : DiverterConfig) (r : SegRec) (s : State),
      s.cfg = some c ∧ c.diverter d = some v ∧ SizeLaw s ∧ SlotLaw s ∧ r ∈ s.btu.queue ∧ .commit d ∈ r.awaiting
        ∧ v.pDiv - v.commit ≤ fwd r.ein s.btu.e ∧ fwd r.ein s.btu.e = v.pDiv - v.commit ∧ r.dest = some v.chute
          ∧ ((if (s.dvs.get d).account.any (fun a => a.state == .isOpen || a.state == .nearFull) = false then some Ctr.refusedChuteNotOpen
        else if s.btu.speed ≠ .steady then some .refusedNotSteady
        else if r.len = none then some .refusedLengthUnknown
        else if 2047 ≤ r.len.getD 0 then some .refusedLongBag
        else if v.commit ≤ (v.actuation * s.btu.v + 127) / 128 then some .refusedSpeedTooHigh
        else if r.front = none ∨ r.tight = true then some .refusedFrontGap
        else if r.back.any (· < c.gMin) then some .refusedBackGap
        else if (s.dvs.get d).busyUntil.any (fun b => 2 ^ 23 ≤ fwd b (r.ein + BitVec.ofNat 24 (v.pDiv - (v.actuation * s.btu.v + 127) / 128)))
          then some .refusedDiverterBusy
        else if 3 ≤ (s.dvs.get d).grants.length then some .refusedGrantListFull
        else none) = none))
    ∧ (∃ (c : StationConfig) (d : Div) (v : DiverterConfig) (r : SegRec) (s : State),
      s.cfg = some c ∧ c.diverter d = some v ∧ SizeLaw s ∧ SlotLaw s ∧ r ∈ s.btu.queue ∧ .commit d ∈ r.awaiting
        ∧ v.pDiv - v.commit ≤ fwd r.ein s.btu.e ∧ fwd r.ein s.btu.e = v.pDiv - v.commit ∧ r.dest = some v.chute
          ∧ ((if (s.dvs.get d).account.any (fun a => a.state == .isOpen || a.state == .nearFull) = false then some Ctr.refusedChuteNotOpen
        else if s.btu.speed ≠ .steady then some .refusedNotSteady
        else if r.len = none then some .refusedLengthUnknown
        else if 2047 ≤ r.len.getD 0 then some .refusedLongBag
        else if v.commit ≤ (v.actuation * s.btu.v + 127) / 128 then some .refusedSpeedTooHigh
        else if r.front = none ∨ r.tight = true then some .refusedFrontGap
        else if r.back.any (· < c.gMin) then some .refusedBackGap
        else if (s.dvs.get d).busyUntil.any (fun b => 2 ^ 23 ≤ fwd b (r.ein + BitVec.ofNat 24 (v.pDiv - (v.actuation * s.btu.v + 127) / 128)))
          then some .refusedDiverterBusy
        else if 3 ≤ (s.dvs.get d).grants.length then some .refusedGrantListFull
        else none) = some .refusedChuteNotOpen))
    ∧ (∃ (c : StationConfig) (d : Div) (v : DiverterConfig) (r : SegRec) (s : State),
      s.cfg = some c ∧ c.diverter d = some v ∧ SizeLaw s ∧ SlotLaw s ∧ r ∈ s.btu.queue ∧ .commit d ∈ r.awaiting
        ∧ v.pDiv - v.commit ≤ fwd r.ein s.btu.e ∧ fwd r.ein s.btu.e = v.pDiv - v.commit ∧ r.dest = some v.chute
          ∧ ((if (s.dvs.get d).account.any (fun a => a.state == .isOpen || a.state == .nearFull) = false then some Ctr.refusedChuteNotOpen
        else if s.btu.speed ≠ .steady then some .refusedNotSteady
        else if r.len = none then some .refusedLengthUnknown
        else if 2047 ≤ r.len.getD 0 then some .refusedLongBag
        else if v.commit ≤ (v.actuation * s.btu.v + 127) / 128 then some .refusedSpeedTooHigh
        else if r.front = none ∨ r.tight = true then some .refusedFrontGap
        else if r.back.any (· < c.gMin) then some .refusedBackGap
        else if (s.dvs.get d).busyUntil.any (fun b => 2 ^ 23 ≤ fwd b (r.ein + BitVec.ofNat 24 (v.pDiv - (v.actuation * s.btu.v + 127) / 128)))
          then some .refusedDiverterBusy
        else if 3 ≤ (s.dvs.get d).grants.length then some .refusedGrantListFull
        else none) = some .refusedNotSteady))
    ∧ (∃ (c : StationConfig) (d : Div) (v : DiverterConfig) (r : SegRec) (s : State),
      s.cfg = some c ∧ c.diverter d = some v ∧ SizeLaw s ∧ SlotLaw s ∧ r ∈ s.btu.queue ∧ .commit d ∈ r.awaiting
        ∧ v.pDiv - v.commit ≤ fwd r.ein s.btu.e ∧ fwd r.ein s.btu.e = v.pDiv - v.commit ∧ r.dest = some v.chute
          ∧ ((if (s.dvs.get d).account.any (fun a => a.state == .isOpen || a.state == .nearFull) = false then some Ctr.refusedChuteNotOpen
        else if s.btu.speed ≠ .steady then some .refusedNotSteady
        else if r.len = none then some .refusedLengthUnknown
        else if 2047 ≤ r.len.getD 0 then some .refusedLongBag
        else if v.commit ≤ (v.actuation * s.btu.v + 127) / 128 then some .refusedSpeedTooHigh
        else if r.front = none ∨ r.tight = true then some .refusedFrontGap
        else if r.back.any (· < c.gMin) then some .refusedBackGap
        else if (s.dvs.get d).busyUntil.any (fun b => 2 ^ 23 ≤ fwd b (r.ein + BitVec.ofNat 24 (v.pDiv - (v.actuation * s.btu.v + 127) / 128)))
          then some .refusedDiverterBusy
        else if 3 ≤ (s.dvs.get d).grants.length then some .refusedGrantListFull
        else none) = some .refusedLengthUnknown))
    ∧ (∃ (c : StationConfig) (d : Div) (v : DiverterConfig) (r : SegRec) (s : State),
      s.cfg = some c ∧ c.diverter d = some v ∧ SizeLaw s ∧ SlotLaw s ∧ r ∈ s.btu.queue ∧ .commit d ∈ r.awaiting
        ∧ v.pDiv - v.commit ≤ fwd r.ein s.btu.e ∧ fwd r.ein s.btu.e = v.pDiv - v.commit ∧ r.dest = some v.chute
          ∧ ((if (s.dvs.get d).account.any (fun a => a.state == .isOpen || a.state == .nearFull) = false then some Ctr.refusedChuteNotOpen
        else if s.btu.speed ≠ .steady then some .refusedNotSteady
        else if r.len = none then some .refusedLengthUnknown
        else if 2047 ≤ r.len.getD 0 then some .refusedLongBag
        else if v.commit ≤ (v.actuation * s.btu.v + 127) / 128 then some .refusedSpeedTooHigh
        else if r.front = none ∨ r.tight = true then some .refusedFrontGap
        else if r.back.any (· < c.gMin) then some .refusedBackGap
        else if (s.dvs.get d).busyUntil.any (fun b => 2 ^ 23 ≤ fwd b (r.ein + BitVec.ofNat 24 (v.pDiv - (v.actuation * s.btu.v + 127) / 128)))
          then some .refusedDiverterBusy
        else if 3 ≤ (s.dvs.get d).grants.length then some .refusedGrantListFull
        else none) = some .refusedLongBag))
    ∧ (∃ (c : StationConfig) (d : Div) (v : DiverterConfig) (r : SegRec) (s : State),
      s.cfg = some c ∧ c.diverter d = some v ∧ SizeLaw s ∧ SlotLaw s ∧ r ∈ s.btu.queue ∧ .commit d ∈ r.awaiting
        ∧ v.pDiv - v.commit ≤ fwd r.ein s.btu.e ∧ fwd r.ein s.btu.e = v.pDiv - v.commit ∧ r.dest = some v.chute
          ∧ ((if (s.dvs.get d).account.any (fun a => a.state == .isOpen || a.state == .nearFull) = false then some Ctr.refusedChuteNotOpen
        else if s.btu.speed ≠ .steady then some .refusedNotSteady
        else if r.len = none then some .refusedLengthUnknown
        else if 2047 ≤ r.len.getD 0 then some .refusedLongBag
        else if v.commit ≤ (v.actuation * s.btu.v + 127) / 128 then some .refusedSpeedTooHigh
        else if r.front = none ∨ r.tight = true then some .refusedFrontGap
        else if r.back.any (· < c.gMin) then some .refusedBackGap
        else if (s.dvs.get d).busyUntil.any (fun b => 2 ^ 23 ≤ fwd b (r.ein + BitVec.ofNat 24 (v.pDiv - (v.actuation * s.btu.v + 127) / 128)))
          then some .refusedDiverterBusy
        else if 3 ≤ (s.dvs.get d).grants.length then some .refusedGrantListFull
        else none) = some .refusedSpeedTooHigh))
    ∧ (∃ (c : StationConfig) (d : Div) (v : DiverterConfig) (r : SegRec) (s : State),
      s.cfg = some c ∧ c.diverter d = some v ∧ SizeLaw s ∧ SlotLaw s ∧ r ∈ s.btu.queue ∧ .commit d ∈ r.awaiting
        ∧ v.pDiv - v.commit ≤ fwd r.ein s.btu.e ∧ fwd r.ein s.btu.e = v.pDiv - v.commit ∧ r.dest = some v.chute
          ∧ ((if (s.dvs.get d).account.any (fun a => a.state == .isOpen || a.state == .nearFull) = false then some Ctr.refusedChuteNotOpen
        else if s.btu.speed ≠ .steady then some .refusedNotSteady
        else if r.len = none then some .refusedLengthUnknown
        else if 2047 ≤ r.len.getD 0 then some .refusedLongBag
        else if v.commit ≤ (v.actuation * s.btu.v + 127) / 128 then some .refusedSpeedTooHigh
        else if r.front = none ∨ r.tight = true then some .refusedFrontGap
        else if r.back.any (· < c.gMin) then some .refusedBackGap
        else if (s.dvs.get d).busyUntil.any (fun b => 2 ^ 23 ≤ fwd b (r.ein + BitVec.ofNat 24 (v.pDiv - (v.actuation * s.btu.v + 127) / 128)))
          then some .refusedDiverterBusy
        else if 3 ≤ (s.dvs.get d).grants.length then some .refusedGrantListFull
        else none) = some .refusedFrontGap))
    ∧ (∃ (c : StationConfig) (d : Div) (v : DiverterConfig) (r : SegRec) (s : State),
      s.cfg = some c ∧ c.diverter d = some v ∧ SizeLaw s ∧ SlotLaw s ∧ r ∈ s.btu.queue ∧ .commit d ∈ r.awaiting
        ∧ v.pDiv - v.commit ≤ fwd r.ein s.btu.e ∧ fwd r.ein s.btu.e = v.pDiv - v.commit ∧ r.dest = some v.chute
          ∧ ((if (s.dvs.get d).account.any (fun a => a.state == .isOpen || a.state == .nearFull) = false then some Ctr.refusedChuteNotOpen
        else if s.btu.speed ≠ .steady then some .refusedNotSteady
        else if r.len = none then some .refusedLengthUnknown
        else if 2047 ≤ r.len.getD 0 then some .refusedLongBag
        else if v.commit ≤ (v.actuation * s.btu.v + 127) / 128 then some .refusedSpeedTooHigh
        else if r.front = none ∨ r.tight = true then some .refusedFrontGap
        else if r.back.any (· < c.gMin) then some .refusedBackGap
        else if (s.dvs.get d).busyUntil.any (fun b => 2 ^ 23 ≤ fwd b (r.ein + BitVec.ofNat 24 (v.pDiv - (v.actuation * s.btu.v + 127) / 128)))
          then some .refusedDiverterBusy
        else if 3 ≤ (s.dvs.get d).grants.length then some .refusedGrantListFull
        else none) = some .refusedBackGap))
    ∧ (∃ (c : StationConfig) (d : Div) (v : DiverterConfig) (r : SegRec) (s : State),
      s.cfg = some c ∧ c.diverter d = some v ∧ SizeLaw s ∧ SlotLaw s ∧ r ∈ s.btu.queue ∧ .commit d ∈ r.awaiting
        ∧ v.pDiv - v.commit ≤ fwd r.ein s.btu.e ∧ fwd r.ein s.btu.e = v.pDiv - v.commit ∧ r.dest = some v.chute
          ∧ ((if (s.dvs.get d).account.any (fun a => a.state == .isOpen || a.state == .nearFull) = false then some Ctr.refusedChuteNotOpen
        else if s.btu.speed ≠ .steady then some .refusedNotSteady
        else if r.len = none then some .refusedLengthUnknown
        else if 2047 ≤ r.len.getD 0 then some .refusedLongBag
        else if v.commit ≤ (v.actuation * s.btu.v + 127) / 128 then some .refusedSpeedTooHigh
        else if r.front = none ∨ r.tight = true then some .refusedFrontGap
        else if r.back.any (· < c.gMin) then some .refusedBackGap
        else if (s.dvs.get d).busyUntil.any (fun b => 2 ^ 23 ≤ fwd b (r.ein + BitVec.ofNat 24 (v.pDiv - (v.actuation * s.btu.v + 127) / 128)))
          then some .refusedDiverterBusy
        else if 3 ≤ (s.dvs.get d).grants.length then some .refusedGrantListFull
        else none) = some .refusedDiverterBusy))
    ∧ (∃ (c : StationConfig) (d : Div) (v : DiverterConfig) (r : SegRec) (s : State),
      s.cfg = some c ∧ c.diverter d = some v ∧ SizeLaw s ∧ SlotLaw s ∧ r ∈ s.btu.queue ∧ .commit d ∈ r.awaiting
        ∧ v.pDiv - v.commit ≤ fwd r.ein s.btu.e ∧ fwd r.ein s.btu.e = v.pDiv - v.commit ∧ r.dest = some v.chute
          ∧ ((if (s.dvs.get d).account.any (fun a => a.state == .isOpen || a.state == .nearFull) = false then some Ctr.refusedChuteNotOpen
        else if s.btu.speed ≠ .steady then some .refusedNotSteady
        else if r.len = none then some .refusedLengthUnknown
        else if 2047 ≤ r.len.getD 0 then some .refusedLongBag
        else if v.commit ≤ (v.actuation * s.btu.v + 127) / 128 then some .refusedSpeedTooHigh
        else if r.front = none ∨ r.tight = true then some .refusedFrontGap
        else if r.back.any (· < c.gMin) then some .refusedBackGap
        else if (s.dvs.get d).busyUntil.any (fun b => 2 ^ 23 ≤ fwd b (r.ein + BitVec.ofNat 24 (v.pDiv - (v.actuation * s.btu.v + 127) / 128)))
          then some .refusedDiverterBusy
        else if 3 ≤ (s.dvs.get d).grants.length then some .refusedGrantListFull
        else none) = some .refusedGrantListFull)) :=
  ⟨⟨cA, .d0, dvA, bag, holding [bag] (moved 110 197 0),
      rfl, by decide, sizeLaw_of (by decide), slotLaw_of (by decide), by decide⟩,
    ⟨cA, .d0, dvA, { bag with dest := some 8, len := some 10, front := some 20 }, holding [{ bag with dest := some 8, len := some 10, front := some 20 }] (accounted (steady (moved 110 197 0))),
      rfl, by decide, sizeLaw_of (by decide), slotLaw_of (by decide), by decide⟩,
    ⟨cA, .d0, dvA, { bag with dest := some 8, len := some 10, front := some 20 }, holding [{ bag with dest := some 8, len := some 10, front := some 20 }] (steady (moved 110 197 0)),
      rfl, by decide, sizeLaw_of (by decide), slotLaw_of (by decide), by decide⟩,
    ⟨cA, .d0, dvA, { bag with dest := some 8, len := some 10, front := some 20 }, holding [{ bag with dest := some 8, len := some 10, front := some 20 }] (accounted (moved 110 197 0)),
      rfl, by decide, sizeLaw_of (by decide), slotLaw_of (by decide), by decide⟩,
    ⟨cA, .d0, dvA, { bag with dest := some 8, front := some 20 }, holding [{ bag with dest := some 8, front := some 20 }] (accounted (steady (moved 110 197 0))),
      rfl, by decide, sizeLaw_of (by decide), slotLaw_of (by decide), by decide⟩,
    ⟨cA, .d0, dvA, { bag with dest := some 8, len := some 2047, front := some 20 }, holding [{ bag with dest := some 8, len := some 2047, front := some 20 }] (accounted (steady (moved 110 197 0))),
      rfl, by decide, sizeLaw_of (by decide), slotLaw_of (by decide), by decide⟩,
    ⟨cA, .d0, dvA, { bag with dest := some 8, len := some 10, front := some 20 }, holding [{ bag with dest := some 8, len := some 10, front := some 20 }] (accounted (steady (moved 110 385 0))),
      rfl, by decide, sizeLaw_of (by decide), slotLaw_of (by decide), by decide⟩,
    ⟨cA, .d0, dvA, { bag with dest := some 8, len := some 10 }, holding [{ bag with dest := some 8, len := some 10 }] (accounted (steady (moved 110 197 0))),
      rfl, by decide, sizeLaw_of (by decide), slotLaw_of (by decide), by decide⟩,
    ⟨cA, .d0, dvA, { bag with dest := some 8, len := some 10, front := some 20, back := some 3 }, holding [{ bag with dest := some 8, len := some 10, front := some 20, back := some 3 }] (accounted (steady (moved 110 197 0))),
      rfl, by decide, sizeLaw_of (by decide), slotLaw_of (by decide), by decide⟩,
    ⟨cA, .d0, dvA, { bag with dest := some 8, len := some 10, front := some 20 }, holding [{ bag with dest := some 8, len := some 10, front := some 20 }] (granting [⟨⟨9, 5⟩, 90, 112, 116⟩] (accounted (steady (moved 110 197 0)))),
      rfl, by decide, sizeLaw_of (by decide), slotLaw_of (by decide), by decide⟩,
    ⟨cA, .d0, dvA, { bag with dest := some 8, len := some 10, front := some 20 }, holding [{ bag with dest := some 8, len := some 10, front := some 20 }] (granting [⟨⟨9, 5⟩, 90, 92, 115⟩, ⟨⟨8, 6⟩, 91, 92, 115⟩, ⟨⟨7, 7⟩, 92, 92, 115⟩] (accounted (steady (moved 110 197 0)))),
      rfl, by decide, sizeLaw_of (by decide), slotLaw_of (by decide), by decide⟩⟩

/-- Witness of FireEngagesTheDiverter. -/
theorem test_witness_FireEngagesTheDiverter :
    (∃ (c : StationConfig) (d : Div) (v : DiverterConfig) (g : Grant) (s : State),
      s.cfg = some c ∧ c.diverter d = some v ∧ SizeLaw s ∧ SlotLaw s ∧ (s.dvs.get d).grants.head? = some g
        ∧ fwd g.fire s.btu.e < 2 ^ 23 ∧ fwd g.fire s.btu.e = 0
          ∧ ((nextBehind g.ref s.btu.queue).filter (fun (b : SegRec) => b.front.any (· < v.hold)) = some { bag with slot := 4, ein := 105, front := some 3 }))
    ∧ (∃ (c : StationConfig) (d : Div) (v : DiverterConfig) (g : Grant) (s : State),
      s.cfg = some c ∧ c.diverter d = some v ∧ SizeLaw s ∧ SlotLaw s ∧ (s.dvs.get d).grants.head? = some g
        ∧ fwd g.fire s.btu.e < 2 ^ 23 ∧ (s.dvs.get d).confirms.length = 2)
    ∧ (∃ (c : StationConfig) (d : Div) (v : DiverterConfig) (g : Grant) (s : State),
      s.cfg = some c ∧ c.diverter d = some v ∧ SizeLaw s ∧ SlotLaw s ∧ (s.dvs.get d).grants.head? = some g
        ∧ fwd g.fire s.btu.e < 2 ^ 23 ∧ (s.dvs.get d).last.any (·.closeBehind == some ⟨5, 120⟩) = true
          ∧ (s.dvs.get (otherDiv d)).last = none ∧ (s.btu.queue.any (fun q => q.ref == ⟨5, 120⟩ && q.closeBehind) = true)) :=
  ⟨⟨cA, .d0, dvA, ⟨bag.ref, 115, 134, 142⟩, granting [⟨bag.ref, 115, 134, 142⟩] (holding [bag, { bag with slot := 4, ein := 105, front := some 3 }] (moved 115 197 0)),
      rfl, by decide, sizeLaw_of (by decide), slotLaw_of (by decide), by decide⟩,
    ⟨cA, .d0, dvA, ⟨bag.ref, 115, 134, 142⟩, confirming [⟨⟨1, 5⟩, 90, 99, false⟩, ⟨⟨2, 6⟩, 91, 100, false⟩] (granting [⟨bag.ref, 115, 134, 142⟩] (holding [bag] (moved 115 197 0))),
      rfl, by decide, sizeLaw_of (by decide), slotLaw_of (by decide), by decide⟩,
    ⟨cA, .d0, dvA, ⟨bag.ref, 115, 134, 142⟩, engaged .recovering ⟨90, 92, 93, none, true, some ⟨5, 120⟩⟩ (granting [⟨bag.ref, 115, 134, 142⟩] (holding [bag, { bag with slot := 5, ein := 120, closeBehind := true }] (moved 115 197 0))),
      rfl, by decide, sizeLaw_of (by decide), slotLaw_of (by decide), by decide⟩⟩

/-- Witness of ReleaseAndRecoveryEndTheEngagement. -/
theorem test_witness_ReleaseAndRecoveryEndTheEngagement :
    (∃ (d : Div) (l : LastFire) (s : State),
      (s.dvs.get d).last = some l ∧ (s.dvs.get d).eng = .engaged ∧ fwd l.release s.btu.e = 0)
    ∧ (∃ (d : Div) (l : LastFire) (s : State),
      (s.dvs.get d).last = some l ∧ (s.dvs.get d).eng = .recovering ∧ fwd l.freeFrom s.btu.e = 0) :=
  ⟨⟨.d0, ⟨115, 134, 142, none, false, none⟩, engaged .engaged ⟨115, 134, 142, none, false, none⟩ (moved 134 197 0),
      by decide⟩,
    ⟨.d0, ⟨115, 134, 142, none, false, none⟩, engaged .recovering ⟨115, 134, 142, none, false, none⟩ (moved 142 197 0),
      by decide⟩⟩

/-- Witness of ConfirmWindowEndMissesOrWaits. -/
theorem test_witness_ConfirmWindowEndMissesOrWaits :
    (∃ (c : StationConfig) (d : Div) (e : Confirm) (r : SegRec) (s : State),
      SizeLaw s ∧ SlotLaw s ∧ (s.dvs.get d).confirms.head? = some e ∧ e.waiting = false ∧ r ∈ s.btu.queue ∧ r.ref = e.ref
        ∧ fwd e.windowEnd s.btu.e = 0 ∧ (s.btu.filter (.confirm d)).st ≠ .blocking)
    ∧ (∃ (c : StationConfig) (d : Div) (e : Confirm) (r : SegRec) (s : State),
      SizeLaw s ∧ SlotLaw s ∧ (s.dvs.get d).confirms.head? = some e ∧ e.waiting = false ∧ fwd e.windowEnd s.btu.e = 0
        ∧ ((s.btu.filter (.confirm d)).st = .blocking ∧ within e.fire e.windowEnd (s.btu.filter (.confirm d)).raw = true))
    ∧ (∃ (c : StationConfig) (d : Div) (e : Confirm) (r : SegRec) (s : State),
      SizeLaw s ∧ SlotLaw s ∧ (s.dvs.get d).confirms.head? = some e ∧ e.waiting = false ∧ r ∈ s.btu.queue ∧ r.ref = e.ref
        ∧ fwd e.windowEnd s.btu.e = 0 ∧ within e.fire e.windowEnd (s.btu.filter (.confirm d)).raw = false)
    ∧ (∃ (c : StationConfig) (d : Div) (e : Confirm) (r : SegRec) (s : State),
      SizeLaw s ∧ SlotLaw s ∧ s.cfg = some c ∧ s.pins.eye (.confirm d) = true ∧ (s.btu.filter (.confirm d)).st = .blocking
        ∧ (s.dvs.get d).confirms.all (·.waiting) = true ∧ (s.dvs.get d).confirms = [e]) :=
  ⟨⟨cA, .d0, ⟨bag.ref, 115, 124, false⟩, bag, confirming [⟨bag.ref, 115, 124, false⟩] (holding [bag] (moved 124 197 0)),
      sizeLaw_of (by decide), slotLaw_of (by decide), by decide⟩,
    ⟨cA, .d0, ⟨bag.ref, 115, 124, false⟩, bag, confirming [⟨bag.ref, 115, 124, false⟩] (holding [bag] (atEye (.confirm .d0) .blocking 124 124)),
      sizeLaw_of (by decide), slotLaw_of (by decide), by decide⟩,
    ⟨cA, .d0, ⟨bag.ref, 115, 124, false⟩, bag, confirming [⟨bag.ref, 115, 124, false⟩] (holding [bag] (atEye (.confirm .d0) .blocking 114 124)),
      sizeLaw_of (by decide), slotLaw_of (by decide), by decide⟩,
    ⟨cA, .d0, ⟨bag.ref, 115, 124, true⟩, bag, confirming [⟨bag.ref, 115, 124, true⟩] (holding [bag] (wired (.confirm .d0) (atEye (.confirm .d0) .blocking 124 125))),
      sizeLaw_of (by decide), slotLaw_of (by decide), rfl, by decide⟩⟩

/-- Witness of ConfirmEyeEdgeConfirmsSweepsOrIsUnexpected. -/
theorem test_witness_ConfirmEyeEdgeConfirmsSweepsOrIsUnexpected :
    (∃ (c : StationConfig) (d : Div) (v : DiverterConfig) (s : State),
      s.cfg = some c ∧ SizeLaw s ∧ SlotLaw s ∧ (s.btu.filter (.confirm d)).st = .blocking
        ∧ c.gf ≤ fwd (s.btu.filter (.confirm d)).raw s.btu.e ∧ c.diverter d = none)
    ∧ (∃ (c : StationConfig) (d : Div) (v : DiverterConfig) (s : State),
      s.cfg = some c ∧ SizeLaw s ∧ SlotLaw s ∧ (s.btu.filter (.confirm d)).st = .blocking
        ∧ c.gf ≤ fwd (s.btu.filter (.confirm d)).raw s.btu.e ∧ c.diverter d = some v
          ∧ ((s.dvs.get d).confirms.find? (fun (e : Confirm) => (s.findRec e.ref).any (fun (r : SegRec) => r.divert == .fired) && within e.fire e.windowEnd (s.btu.filter (.confirm d)).raw) = some ⟨bag.ref, 115, 124, false⟩) ∧ ((s.dvs.get d).confirms.any (fun x => x.waiting && x.ref != bag.ref) = true) ∧ (s.dvs.get d).account.isSome = true ∧ (∀ q ∈ s.btu.queue, .overdue ∈ q.awaiting) ∧ s.hlc.queue.length ≤ 4)
    ∧ (∃ (c : StationConfig) (d : Div) (v : DiverterConfig) (s : State),
      s.cfg = some c ∧ SizeLaw s ∧ SlotLaw s ∧ (s.btu.filter (.confirm d)).st = .blocking
        ∧ c.gf ≤ fwd (s.btu.filter (.confirm d)).raw s.btu.e ∧ c.diverter d = some v
          ∧ ((s.dvs.get d).confirms.find? (fun (e : Confirm) => (s.findRec e.ref).any (fun (r : SegRec) => r.divert == .fired) && within e.fire e.windowEnd (s.btu.filter (.confirm d)).raw) = none) ∧ (s.dvs.get d).last = none ∧ (s.dvs.get d).confirms.any (·.waiting) = true)
    ∧ (∃ (c : StationConfig) (d : Div) (v : DiverterConfig) (s : State),
      s.cfg = some c ∧ SizeLaw s ∧ SlotLaw s ∧ (s.btu.filter (.confirm d)).st = .blocking
        ∧ c.gf ≤ fwd (s.btu.filter (.confirm d)).raw s.btu.e ∧ c.diverter d = some v ∧ (∀ q ∈ s.btu.queue,
          .overdue ∈ q.awaiting) ∧ s.hlc.queue.length ≤ 4
            ∧ ((s.dvs.get d).confirms.find? (fun (e : Confirm) => (s.findRec e.ref).any (fun (r : SegRec) => r.divert == .fired) && within e.fire e.windowEnd (s.btu.filter (.confirm d)).raw) = some ⟨bag.ref, 115, 124, false⟩) ∧ s.findRec bag.ref = some { bag with divert := .fired, len := some 64 } ∧ (s.dvs.get d).account.isSome = true)
    ∧ (∃ (c : StationConfig) (d : Div) (v : DiverterConfig) (s : State),
      s.cfg = some c ∧ SizeLaw s ∧ SlotLaw s ∧ (s.btu.filter (.confirm d)).st = .blocking
        ∧ c.gf ≤ fwd (s.btu.filter (.confirm d)).raw s.btu.e ∧ c.diverter d = some v ∧ (∀ q ∈ s.btu.queue,
          .overdue ∈ q.awaiting) ∧ s.hlc.queue.length ≤ 4
            ∧ ((s.dvs.get d).confirms.find? (fun (e : Confirm) => (s.findRec e.ref).any (fun (r : SegRec) => r.divert == .fired) && within e.fire e.windowEnd (s.btu.filter (.confirm d)).raw) = some ⟨bag.ref, 115, 124, false⟩))
    ∧ (∃ (c : StationConfig) (d : Div) (v : DiverterConfig) (s : State),
      s.cfg = some c ∧ SizeLaw s ∧ SlotLaw s ∧ (s.btu.filter (.confirm d)).st = .blocking
        ∧ c.gf ≤ fwd (s.btu.filter (.confirm d)).raw s.btu.e ∧ c.diverter d = some v ∧ (∀ q ∈ s.btu.queue,
          .overdue ∈ q.awaiting) ∧ s.hlc.queue.length ≤ 4
            ∧ ((s.dvs.get d).confirms.find? (fun (e : Confirm) => (s.findRec e.ref).any (fun (r : SegRec) => r.divert == .fired) && within e.fire e.windowEnd (s.btu.filter (.confirm d)).raw) = none) ∧ (s.dvs.get d).last = some ⟨115, 134, 142, none, true, some ⟨4, 105⟩⟩ ∧ within 115 134 (s.btu.filter (.confirm d)).raw = true ∧ s.findRec ⟨4, 105⟩ = some { bag with slot := 4, ein := 105, closeBehind := true })
    ∧ (∃ (c : StationConfig) (d : Div) (v : DiverterConfig) (s : State),
      s.cfg = some c ∧ SizeLaw s ∧ SlotLaw s ∧ (s.btu.filter (.confirm d)).st = .blocking
        ∧ c.gf ≤ fwd (s.btu.filter (.confirm d)).raw s.btu.e ∧ c.diverter d = some v
          ∧ ((s.dvs.get d).confirms.find? (fun (e : Confirm) => (s.findRec e.ref).any (fun (r : SegRec) => r.divert == .fired) && within e.fire e.windowEnd (s.btu.filter (.confirm d)).raw) = none) ∧ (s.dvs.get d).last = some ⟨115, 134, 142, none, true, some ⟨4, 105⟩⟩ ∧ within 115 134 (s.btu.filter (.confirm d)).raw = false)
    ∧ (∃ (c : StationConfig) (d : Div) (v : DiverterConfig) (s : State),
      s.cfg = some c ∧ SizeLaw s ∧ SlotLaw s ∧ (s.btu.filter (.confirm d)).st = .blocking
        ∧ c.gf ≤ fwd (s.btu.filter (.confirm d)).raw s.btu.e ∧ c.diverter d = some v ∧ (∀ q ∈ s.btu.queue,
          .overdue ∈ q.awaiting) ∧ s.hlc.queue.length ≤ 4
            ∧ ((s.dvs.get d).confirms.find? (fun (e : Confirm) => (s.findRec e.ref).any (fun (r : SegRec) => r.divert == .fired) && within e.fire e.windowEnd (s.btu.filter (.confirm d)).raw) = some ⟨bag.ref, 115, 124, false⟩) ∧ ((s.dvs.get d).account.any (fun a => a.state == .nearFull && a.fill + 1 == a.capacity) = true) ∧ (s.dvs.get d).grants.any (·.ref != bag.ref) = true ∧ s.dvs.d1.grants.any (·.ref == bag.ref) = true)
    ∧ (∃ (c : StationConfig) (d : Div) (v : DiverterConfig) (s : State),
      s.cfg = some c ∧ SizeLaw s ∧ SlotLaw s ∧ (s.btu.filter (.confirm d)).st = .blocking
        ∧ c.gf ≤ fwd (s.btu.filter (.confirm d)).raw s.btu.e ∧ c.diverter d = some v ∧ (∀ q ∈ s.btu.queue,
          .overdue ∈ q.awaiting) ∧ s.hlc.queue.length ≤ 4
            ∧ ((s.dvs.get d).confirms.find? (fun (e : Confirm) => (s.findRec e.ref).any (fun (r : SegRec) => r.divert == .fired) && within e.fire e.windowEnd (s.btu.filter (.confirm d)).raw) = none) ∧ (s.dvs.get d).last = some ⟨115, 134, 142, none, true, some ⟨4, 105⟩⟩ ∧ ((s.dvs.get d).account.any (fun a => decide (4095 < a.fill + (2047 + 63) / 64)) = true)) :=
  ⟨⟨cF, .d1, dvA, under cF (atEye (.confirm .d1) .blocking 115 118),
      rfl, sizeLaw_of (by decide), slotLaw_of (by decide), by decide⟩,
    ⟨cA, .d0, dvA, accounted (confirming [⟨⟨4, 105⟩, 110, 117, true⟩, ⟨bag.ref, 115, 124, false⟩] (holding [{ bag with divert := .fired, len := some 64 }, { bag with slot := 4, ein := 105 }] (atEye (.confirm .d0) .blocking 124 127))),
      rfl, sizeLaw_of (by decide), slotLaw_of (by decide), by decide⟩,
    ⟨cA, .d0, dvA, confirming [⟨⟨4, 105⟩, 110, 117, true⟩] (holding [{ bag with slot := 4, ein := 105 }] (atEye (.confirm .d0) .blocking 117 120)),
      rfl, sizeLaw_of (by decide), slotLaw_of (by decide), by decide⟩,
    ⟨cA, .d0, dvA, accounted (confirming [⟨bag.ref, 115, 124, false⟩] (holding [{ bag with divert := .fired, len := some 64 }] (atEye (.confirm .d0) .blocking 115 118))),
      rfl, sizeLaw_of (by decide), slotLaw_of (by decide), by decide⟩,
    ⟨cA, .d0, dvA, accounted (confirming [⟨bag.ref, 115, 124, false⟩] (holding [{ bag with divert := .fired, len := some 64 }] (atEye (.confirm .d0) .blocking 124 127))),
      rfl, sizeLaw_of (by decide), slotLaw_of (by decide), by decide⟩,
    ⟨cA, .d0, dvA, accounted (engaged .engaged ⟨115, 134, 142, none, true, some ⟨4, 105⟩⟩ (holding [{ bag with slot := 4, ein := 105, closeBehind := true }] (atEye (.confirm .d0) .blocking 134 137))),
      rfl, sizeLaw_of (by decide), slotLaw_of (by decide), by decide⟩,
    ⟨cA, .d0, dvA, accounted (engaged .engaged ⟨115, 134, 142, none, true, some ⟨4, 105⟩⟩ (holding [{ bag with slot := 4, ein := 105, closeBehind := true }] (atEye (.confirm .d0) .blocking 135 138))),
      rfl, sizeLaw_of (by decide), slotLaw_of (by decide), by decide⟩,
    ⟨cA, .d0, dvA, granting [⟨⟨4, 105⟩, 200, 210, 220⟩] (grantingToo [⟨bag.ref, 200, 210, 220⟩] (filledTo 9 .nearFull (confirming [⟨bag.ref, 115, 124, false⟩] (holding [{ bag with divert := .fired, len := some 64 }, { bag with slot := 4, ein := 105 }] (atEye (.confirm .d0) .blocking 115 118))))),
      rfl, sizeLaw_of (by decide), slotLaw_of (by decide), by decide⟩,
    ⟨cA, .d0, dvA, filledTo 4095 .full (engaged .engaged ⟨115, 134, 142, none, true, some ⟨4, 105⟩⟩ (holding [{ bag with slot := 4, ein := 105, closeBehind := true, len := some 2047 }] (atEye (.confirm .d0) .blocking 134 137))),
      rfl, sizeLaw_of (by decide), slotLaw_of (by decide), by decide⟩⟩

/-- Witness of StaleHandoverLeavesTheQueue. -/
theorem test_witness_StaleHandoverLeavesTheQueue :
    (∃ (c : StationConfig) (n : Nat) (h : Handover) (x : Count) (b : Bool) (ov : Bool) (s : State),
      s.cfg = some c ∧ SizeLaw s ∧ s.hlc.queue[n]? = some ⟨.handover h x, b, false, ov⟩
        ∧ fwd x s.btu.e = c.dExit + c.lateGrace + 1
          ∧ staleFrame c s.btu.e ⟨.segmentState 0 .stopped false, false, false, false⟩ = false)
    ∧ (∃ (c : StationConfig) (n : Nat) (h : Handover) (x : Count) (b : Bool) (ov : Bool) (s : State),
      s.cfg = some c ∧ SizeLaw s ∧ (∀ o ∈ s.hlc.queue, staleFrame c s.btu.e o = false)
        ∧ fwd x s.btu.e = c.dExit + c.lateGrace) :=
  ⟨⟨cA, 1, hoA, 100, false, false, queueing [⟨.segmentState 0 .stopped false, false, false, false⟩, ⟨.handover hoA 100, false, false, false⟩] (moved 131 197 0),
      rfl, sizeLaw_of (by decide), by decide⟩,
    ⟨cA, 0, hoA, 100, false, false, queueing [⟨.handover hoA 100, false, false, false⟩] (moved 130 197 0),
      rfl, sizeLaw_of (by decide), by decide⟩⟩

/-- Witness of FrameJoinsTheOutboundQueue. -/
theorem test_witness_FrameJoinsTheOutboundQueue :
    (∃ (f : Frame) (g : OutFrame → OutFrame) (s : State),
      SizeLaw s ∧ s.hlc.queue.length ≤ 8 ∧ (g = fun (o : OutFrame) => if o.sending = true
        ∧ f.sameClass o.frame = true then { o with overtaken := true } else o)
          ∧ ((s.hlc.queue[0]?).any (fun (o : OutFrame) => !o.sending && f.sameClass o.frame) = true))
    ∧ (∃ (f : Frame) (g : OutFrame → OutFrame) (s : State),
      SizeLaw s ∧ s.hlc.queue.length ≤ 8 ∧ (g = fun (o : OutFrame) => if o.sending = true
        ∧ f.sameClass o.frame = true then { o with overtaken := true } else o) ∧ (∀ o ∈ s.hlc.queue, ¬ (o.sending = false
          ∧ f.sameClass o.frame = true)) ∧ s.hlc.queue.length = 7)
    ∧ (∃ (f : Frame) (g : OutFrame → OutFrame) (s : State),
      SizeLaw s ∧ s.hlc.queue.length ≤ 8 ∧ (g = fun (o : OutFrame) => if o.sending = true
        ∧ f.sameClass o.frame = true then { o with overtaken := true } else o) ∧ (∀ o ∈ s.hlc.queue, ¬ (o.sending = false
          ∧ f.sameClass o.frame = true)) ∧ s.hlc.queue.length = 8 ∧ (∃ o ∈ s.hlc.queue, o.sending = false ∧ f.kind < o.kind))
    ∧ (∃ (f : Frame) (g : OutFrame → OutFrame) (s : State),
      SizeLaw s ∧ s.hlc.queue.length ≤ 8 ∧ (g = fun (o : OutFrame) => if o.sending = true
        ∧ f.sameClass o.frame = true then { o with overtaken := true } else o) ∧ (∀ o ∈ s.hlc.queue, ¬ (o.sending = false
          ∧ f.sameClass o.frame = true)) ∧ s.hlc.queue.length = 8 ∧ (∀ o ∈ s.hlc.queue,
            o.sending = false → o.kind ≤ f.kind)) :=
  ⟨⟨(.segmentState 5 .moving false), _, queueing [⟨.segmentState 0 .stopped false, true, false, false⟩] base,
      sizeLaw_of (by decide), by decide, rfl, by decide⟩,
    ⟨(.segmentState 5 .moving false), _, queueing (sevenStale ++ []) base,
      sizeLaw_of (by decide), by decide, rfl, by decide⟩,
    ⟨(.segmentState 5 .moving false), _, queueing (sevenStale ++ [⟨.strayNotice ⟨.lost, none, 1, 0, .blind⟩, false, false, false⟩]) base,
      sizeLaw_of (by decide), by decide, rfl, by decide⟩,
    ⟨(.strayNotice ⟨.swept, none, 1, 8, .blind⟩), _, queueing (sevenStale ++ [⟨.strayNotice ⟨.lost, none, 1, 0, .blind⟩, false, false, false⟩]) base,
      sizeLaw_of (by decide), by decide, rfl, by decide⟩⟩

/-- Witness of ScannerBytesAssembleARecord. -/
theorem test_witness_ScannerBytesAssembleARecord :
    (∃ (c : StationConfig) (b : Byte) (framing : Bool) (race : Option Race) (letter : Byte) (digits : List Byte) (s : State),
      SizeLaw s ∧ s.cfg = some c ∧ s.rdu.asm = .idle ∧ (b = letterR ∨ b = letterN ∨ b = letterM))
    ∧ (∃ (c : StationConfig) (b : Byte) (framing : Bool) (race : Option Race) (letter : Byte) (digits : List Byte) (s : State),
      SizeLaw s ∧ s.cfg = some c ∧ s.rdu.asm = .idle ∧ (b = charLF ∨ b = charCR))
    ∧ (∃ (c : StationConfig) (b : Byte) (framing : Bool) (race : Option Race) (letter : Byte) (digits : List Byte) (s : State),
      SizeLaw s ∧ s.cfg = some c ∧ s.rdu.asm = .idle ∧ framing = true)
    ∧ (∃ (c : StationConfig) (b : Byte) (framing : Bool) (race : Option Race) (letter : Byte) (digits : List Byte) (s : State),
      SizeLaw s ∧ s.cfg = some c ∧ s.rdu.asm = .assembling (letter :: digits) ∧ (digits.length < 19 ∧ isDigit b = true))
    ∧ (∃ (c : StationConfig) (b : Byte) (framing : Bool) (race : Option Race) (letter : Byte) (digits : List Byte) (s : State),
      SizeLaw s ∧ s.cfg = some c ∧ s.rdu.asm = .assembling (letter :: digits) ∧ (digits.length = 19
        ∧ (isDigit b = true ∨ b = letterX)))
    ∧ (∃ (c : StationConfig) (b : Byte) (framing : Bool) (race : Option Race) (letter : Byte) (digits : List Byte) (s : State),
      SizeLaw s ∧ s.cfg = some c ∧ s.rdu.asm = .assembling (letter :: digits) ∧ digits.length = 19 ∧ isDigit b = false
        ∧ b ≠ letterX)
    ∧ (∃ (c : StationConfig) (b : Byte) (framing : Bool) (race : Option Race) (letter : Byte) (digits : List Byte) (s : State),
      SizeLaw s ∧ s.cfg = some c ∧ s.rdu.asm = .assembling (letter :: digits) ∧ digits.length = 20 ∧ b ≠ charCR)
    ∧ (∃ (c : StationConfig) (b : Byte) (framing : Bool) (race : Option Race) (letter : Byte) (digits : List Byte) (s : State),
      SizeLaw s ∧ s.cfg = some c ∧ s.rdu.asm = .discarding)
    ∧ (∃ (c : StationConfig) (b : Byte) (framing : Bool) (race : Option Race) (letter : Byte) (digits : List Byte) (s : State),
      SizeLaw s ∧ s.cfg = none)
    ∧ (∃ (c : StationConfig) (b : Byte) (framing : Bool) (race : Option Race) (letter : Byte) (digits : List Byte) (s : State),
      SizeLaw s ∧ s.cfg = some c ∧ s.rdu.asm = .assembling (letter :: digits) ∧ c.reader = false)
    ∧ (∃ (c : StationConfig) (b : Byte) (framing : Bool) (race : Option Race) (letter : Byte) (digits : List Byte) (s : State),
      SizeLaw s ∧ s.cfg = some c ∧ s.rdu.asm = .assembling (letter :: digits) ∧ digits.length = 20 ∧ c.reader = false
        ∧ recordValid (letter :: digits) = true)
    ∧ (∃ (c : StationConfig) (b : Byte) (framing : Bool) (race : Option Race) (letter : Byte) (digits : List Byte) (s : State),
      SizeLaw s ∧ s.cfg = some c ∧ s.rdu.asm = .assembling (letter :: digits) ∧ digits.length = 20 ∧ c.desk = false
        ∧ recordValid (letter :: digits) = false) :=
  ⟨⟨cA, letterR, false, none, letterR, [], base,
      sizeLaw_of (by decide), rfl, by decide⟩,
    ⟨cA, charCR, false, none, letterR, [], base,
      sizeLaw_of (by decide), rfl, by decide⟩,
    ⟨cA, letterX, true, none, letterR, [], base,
      sizeLaw_of (by decide), rfl, by decide⟩,
    ⟨cA, 0x39, false, none, letterR, (List.replicate 18 0x31), scanning (letterR :: List.replicate 18 0x31) base,
      sizeLaw_of (by decide), rfl, by decide⟩,
    ⟨cA, letterX, false, none, letterM, (List.replicate 19 0x31), scanning (letterM :: (List.replicate 19 0x31)) base,
      sizeLaw_of (by decide), rfl, by decide⟩,
    ⟨cA, charCR, false, none, letterR, (List.replicate 19 0x31), scanning (letterR :: (List.replicate 19 0x31)) base,
      sizeLaw_of (by decide), rfl, by decide⟩,
    ⟨cA, 0x31, false, none, letterR, (List.replicate 20 0x31), scanning (letterR :: List.replicate 20 0x31) base,
      sizeLaw_of (by decide), rfl, by decide⟩,
    ⟨cA, charCR, false, none, letterR, [], { base with rdu := ⟨.discarding, some 5⟩ },
      sizeLaw_of (by decide), rfl, by decide⟩,
    ⟨cA, letterR, false, none, letterR, [], State.reset,
      sizeLaw_of (by decide), rfl⟩,
    ⟨cD, charCR, false, none, letterN, [], under cD (scanning [letterN] base),
      sizeLaw_of (by decide), rfl, by decide⟩,
    ⟨cN, charCR, false, none, letterR, bag318.tail, under cN (scanning bag318 base),
      sizeLaw_of (by decide), rfl, by decide⟩,
    ⟨cN, charCR, false, none, letterM, ((List.replicate 19 0x31) ++ [0x32]), under cN (scanning (letterM :: (List.replicate 19 0x31) ++ [0x32]) base),
      sizeLaw_of (by decide), rfl, by decide⟩⟩

/-- Witness of GoodReadIdentifiesANewBag. -/
theorem test_witness_GoodReadIdentifiesANewBag :
    (∃ (c : StationConfig) (rc : ReaderConfig) (held : List Byte) (r : SegRec) (id : Identity) (sl : Sailing) (dd : Decode) (k : Ctr) (ks : Ctr) (i : Nat) (s : State),
      s.cfg = some c ∧ c.reader = true ∧ c.readerSection = some rc ∧ SizeLaw s ∧ SlotLaw s ∧ TagLaw s
        ∧ s.rdu.asm = .assembling held ∧ held.length = 21 ∧ held.head? = some letterR ∧ recordValid held = true
          ∧ candidates rc s = [r] ∧ recordIdentity held = id ∧ (∀ x ∈ r.ident, x.tag = id.tag ∧ x.sailing = id.sailing
            ∧ r.readStatus ≠ .read) ∧ sailingCheck rc id.sailing = sl ∧ decodeDestination c s.rrv sl id.cabin = dd
              ∧ (k = if dd = .noCabin then Ctr.noCabin else if dd = .unavailable then .chuteUnavailable else if dd = .primary (dd.chute.getD 0) then .decodePrimary else if dd = .overflow (dd.chute.getD 0) then .decodeOverflow else .decodePrimaryFull) ∧ (ks = if sl = .a then Ctr.sailingA else if sl = .b then .sailingB else if sl = .noSailing then .sailingNone else .wrongSailing) ∧ r.reason = none ∧ sl ≠ .refused ∧ (s.idt.entries.all (fun o => o.all (fun e => e.tag != id.tag)) = true) ∧ rotating c.ageLimit s.idt.pointer s.idt.entries = some i)
    ∧ (∃ (c : StationConfig) (rc : ReaderConfig) (held : List Byte) (r : SegRec) (id : Identity) (sl : Sailing) (dd : Decode) (k : Ctr) (ks : Ctr) (i : Nat) (s : State),
      s.cfg = some c ∧ c.reader = true ∧ c.readerSection = some rc ∧ SizeLaw s ∧ SlotLaw s ∧ TagLaw s
        ∧ s.rdu.asm = .assembling held ∧ held.length = 21 ∧ held.head? = some letterR ∧ recordValid held = true
          ∧ candidates rc s = [r] ∧ recordIdentity held = id ∧ (∀ x ∈ r.ident, x.tag = id.tag ∧ x.sailing = id.sailing
            ∧ r.readStatus ≠ .read) ∧ sailingCheck rc id.sailing = sl ∧ decodeDestination c s.rrv sl id.cabin = dd
              ∧ (k = if dd = .noCabin then Ctr.noCabin else if dd = .unavailable then .chuteUnavailable else if dd = .primary (dd.chute.getD 0) then .decodePrimary else if dd = .overflow (dd.chute.getD 0) then .decodeOverflow else .decodePrimaryFull) ∧ (ks = if sl = .a then Ctr.sailingA else if sl = .b then .sailingB else if sl = .noSailing then .sailingNone else .wrongSailing) ∧ r.reason.all Reason.soft = false ∧ fwd r.ein s.btu.e = rc.pRead - rc.margin ∧ (s.idt.entries.all (fun o => o.all (fun e => e.tag != id.tag)) = true))
    ∧ (∃ (c : StationConfig) (rc : ReaderConfig) (held : List Byte) (r : SegRec) (id : Identity) (sl : Sailing) (dd : Decode) (k : Ctr) (ks : Ctr) (i : Nat) (s : State),
      s.cfg = some c ∧ c.reader = true ∧ c.readerSection = some rc ∧ SizeLaw s ∧ SlotLaw s ∧ TagLaw s
        ∧ s.rdu.asm = .assembling held ∧ held.length = 21 ∧ held.head? = some letterR ∧ recordValid held = true
          ∧ candidates rc s = [r] ∧ recordIdentity held = id ∧ (∀ x ∈ r.ident, x.tag = id.tag ∧ x.sailing = id.sailing
            ∧ r.readStatus ≠ .read) ∧ sailingCheck rc id.sailing = sl ∧ decodeDestination c s.rrv sl id.cabin = dd
              ∧ (k = if dd = .noCabin then Ctr.noCabin else if dd = .unavailable then .chuteUnavailable else if dd = .primary (dd.chute.getD 0) then .decodePrimary else if dd = .overflow (dd.chute.getD 0) then .decodeOverflow else .decodePrimaryFull) ∧ (ks = if sl = .a then Ctr.sailingA else if sl = .b then .sailingB else if sl = .noSailing then .sailingNone else .wrongSailing) ∧ sl = .refused)
    ∧ (∃ (c : StationConfig) (rc : ReaderConfig) (held : List Byte) (r : SegRec) (id : Identity) (sl : Sailing) (dd : Decode) (k : Ctr) (ks : Ctr) (i : Nat) (s : State),
      s.cfg = some c ∧ c.reader = true ∧ c.readerSection = some rc ∧ SizeLaw s ∧ SlotLaw s ∧ TagLaw s
        ∧ s.rdu.asm = .assembling held ∧ held.length = 21 ∧ held.head? = some letterR ∧ recordValid held = true
          ∧ candidates rc s = [r] ∧ recordIdentity held = id ∧ (∀ x ∈ r.ident, x.tag = id.tag ∧ x.sailing = id.sailing
            ∧ r.readStatus ≠ .read) ∧ sailingCheck rc id.sailing = sl ∧ decodeDestination c s.rrv sl id.cabin = dd
              ∧ (k = if dd = .noCabin then Ctr.noCabin else if dd = .unavailable then .chuteUnavailable else if dd = .primary (dd.chute.getD 0) then .decodePrimary else if dd = .overflow (dd.chute.getD 0) then .decodeOverflow else .decodePrimaryFull) ∧ (ks = if sl = .a then Ctr.sailingA else if sl = .b then .sailingB else if sl = .noSailing then .sailingNone else .wrongSailing) ∧ sl = .refused ∧ 4095 + 1 = id.sailing)
    ∧ (∃ (c : StationConfig) (rc : ReaderConfig) (held : List Byte) (r : SegRec) (id : Identity) (sl : Sailing) (dd : Decode) (k : Ctr) (ks : Ctr) (i : Nat) (s : State),
      s.cfg = some c ∧ c.reader = true ∧ c.readerSection = some rc ∧ SizeLaw s ∧ SlotLaw s ∧ TagLaw s
        ∧ s.rdu.asm = .assembling held ∧ held.length = 21 ∧ held.head? = some letterR ∧ recordValid held = true
          ∧ candidates rc s = [r] ∧ recordIdentity held = id ∧ (∀ x ∈ r.ident, x.tag = id.tag ∧ x.sailing = id.sailing
            ∧ r.readStatus ≠ .read) ∧ sailingCheck rc id.sailing = sl ∧ decodeDestination c s.rrv sl id.cabin = dd
              ∧ (k = if dd = .noCabin then Ctr.noCabin else if dd = .unavailable then .chuteUnavailable else if dd = .primary (dd.chute.getD 0) then .decodePrimary else if dd = .overflow (dd.chute.getD 0) then .decodeOverflow else .decodePrimaryFull) ∧ (ks = if sl = .a then Ctr.sailingA else if sl = .b then .sailingB else if sl = .noSailing then .sailingNone else .wrongSailing) ∧ (s.idt.entries.all (fun o => o.all (fun e => e.tag != id.tag)) = true) ∧ rotating c.ageLimit s.idt.pointer s.idt.entries = none)
    ∧ (∃ (c : StationConfig) (rc : ReaderConfig) (held : List Byte) (r : SegRec) (id : Identity) (sl : Sailing) (dd : Decode) (k : Ctr) (ks : Ctr) (i : Nat) (s : State),
      s.cfg = some c ∧ c.reader = true ∧ c.readerSection = some rc ∧ SizeLaw s ∧ SlotLaw s ∧ TagLaw s
        ∧ s.rdu.asm = .assembling held ∧ held.length = 21 ∧ held.head? = some letterR ∧ recordValid held = true
          ∧ candidates rc s = [r] ∧ recordIdentity held = id ∧ (∀ x ∈ r.ident, x.tag = id.tag ∧ x.sailing = id.sailing
            ∧ r.readStatus ≠ .read) ∧ sailingCheck rc id.sailing = sl ∧ decodeDestination c s.rrv sl id.cabin = dd
              ∧ (k = if dd = .noCabin then Ctr.noCabin else if dd = .unavailable then .chuteUnavailable else if dd = .primary (dd.chute.getD 0) then .decodePrimary else if dd = .overflow (dd.chute.getD 0) then .decodeOverflow else .decodePrimaryFull) ∧ (ks = if sl = .a then Ctr.sailingA else if sl = .b then .sailingB else if sl = .noSailing then .sailingNone else .wrongSailing) ∧ (s.idt.entries.all (fun o => o.all (fun e => !e.matchedBy id.tag id.sailing)) = true) ∧ ((entryAt s.idt.entries 60).any (fun e => e.tag == id.tag && e.state != .onSegment) = true))
    ∧ (∃ (c : StationConfig) (rc : ReaderConfig) (held : List Byte) (r : SegRec) (id : Identity) (sl : Sailing) (dd : Decode) (k : Ctr) (ks : Ctr) (i : Nat) (s : State),
      s.cfg = some c ∧ c.reader = true ∧ c.readerSection = some rc ∧ SizeLaw s ∧ SlotLaw s ∧ TagLaw s
        ∧ s.rdu.asm = .assembling held ∧ held.length = 21 ∧ held.head? = some letterR ∧ recordValid held = true
          ∧ candidates rc s = [r] ∧ recordIdentity held = id ∧ (∀ x ∈ r.ident, x.tag = id.tag ∧ x.sailing = id.sailing
            ∧ r.readStatus ≠ .read) ∧ sailingCheck rc id.sailing = sl ∧ decodeDestination c s.rrv sl id.cabin = dd
              ∧ (k = if dd = .noCabin then Ctr.noCabin else if dd = .unavailable then .chuteUnavailable else if dd = .primary (dd.chute.getD 0) then .decodePrimary else if dd = .overflow (dd.chute.getD 0) then .decodeOverflow else .decodePrimaryFull) ∧ (ks = if sl = .a then Ctr.sailingA else if sl = .b then .sailingB else if sl = .noSailing then .sailingNone else .wrongSailing) ∧ (s.idt.entries.all (fun o => o.all (fun e => !e.matchedBy id.tag id.sailing)) = true) ∧ ((entryAt s.idt.entries 0).any (fun e => e.tag == id.tag && e.state == .onSegment) = true))
    ∧ (∃ (c : StationConfig) (rc : ReaderConfig) (held : List Byte) (r : SegRec) (id : Identity) (sl : Sailing) (dd : Decode) (k : Ctr) (ks : Ctr) (i : Nat) (s : State),
      s.cfg = some c ∧ c.reader = true ∧ c.readerSection = some rc ∧ SizeLaw s ∧ SlotLaw s ∧ TagLaw s
        ∧ s.rdu.asm = .assembling held ∧ held.length = 21 ∧ held.head? = some letterR ∧ recordValid held = true
          ∧ candidates rc s = [r] ∧ recordIdentity held = id ∧ (∀ x ∈ r.ident, x.tag = id.tag ∧ x.sailing = id.sailing
            ∧ r.readStatus ≠ .read) ∧ sailingCheck rc id.sailing = sl ∧ decodeDestination c s.rrv sl id.cabin = dd
              ∧ (k = if dd = .noCabin then Ctr.noCabin else if dd = .unavailable then .chuteUnavailable else if dd = .primary (dd.chute.getD 0) then .decodePrimary else if dd = .overflow (dd.chute.getD 0) then .decodeOverflow else .decodePrimaryFull) ∧ (ks = if sl = .a then Ctr.sailingA else if sl = .b then .sailingB else if sl = .noSailing then .sailingNone else .wrongSailing) ∧ ((entryAt s.idt.entries 16).any (fun e => e.matchedBy id.tag id.sailing && e.state == .onLoop) = true))
    ∧ (∃ (c : StationConfig) (rc : ReaderConfig) (held : List Byte) (r : SegRec) (id : Identity) (sl : Sailing) (dd : Decode) (k : Ctr) (ks : Ctr) (i : Nat) (s : State),
      s.cfg = some c ∧ c.reader = true ∧ c.readerSection = some rc ∧ SizeLaw s ∧ SlotLaw s ∧ TagLaw s
        ∧ s.rdu.asm = .assembling held ∧ held.length = 21 ∧ held.head? = some letterR ∧ recordValid held = true
          ∧ candidates rc s = [r] ∧ recordIdentity held = id ∧ (∀ x ∈ r.ident, x.tag = id.tag ∧ x.sailing = id.sailing
            ∧ r.readStatus ≠ .read) ∧ sailingCheck rc id.sailing = sl ∧ decodeDestination c s.rrv sl id.cabin = dd
              ∧ (k = if dd = .noCabin then Ctr.noCabin else if dd = .unavailable then .chuteUnavailable else if dd = .primary (dd.chute.getD 0) then .decodePrimary else if dd = .overflow (dd.chute.getD 0) then .decodeOverflow else .decodePrimaryFull) ∧ (ks = if sl = .a then Ctr.sailingA else if sl = .b then .sailingB else if sl = .noSailing then .sailingNone else .wrongSailing) ∧ ((entryAt s.idt.entries 127).any (fun e => e.matchedBy id.tag id.sailing && e.state == .manual) = true) ∧ r.reason.isSome = true)
    ∧ (∃ (c : StationConfig) (rc : ReaderConfig) (held : List Byte) (r : SegRec) (id : Identity) (sl : Sailing) (dd : Decode) (k : Ctr) (ks : Ctr) (i : Nat) (s : State),
      s.cfg = some c ∧ c.reader = true ∧ c.readerSection = some rc ∧ SizeLaw s ∧ SlotLaw s ∧ TagLaw s
        ∧ s.rdu.asm = .assembling held ∧ held.length = 21 ∧ held.head? = some letterR ∧ recordValid held = true
          ∧ candidates rc s = [r] ∧ recordIdentity held = id ∧ (∀ x ∈ r.ident, x.tag = id.tag ∧ x.sailing = id.sailing
            ∧ r.readStatus ≠ .read) ∧ sailingCheck rc id.sailing = sl ∧ decodeDestination c s.rrv sl id.cabin = dd
              ∧ (k = if dd = .noCabin then Ctr.noCabin else if dd = .unavailable then .chuteUnavailable else if dd = .primary (dd.chute.getD 0) then .decodePrimary else if dd = .overflow (dd.chute.getD 0) then .decodeOverflow else .decodePrimaryFull) ∧ (ks = if sl = .a then Ctr.sailingA else if sl = .b then .sailingB else if sl = .noSailing then .sailingNone else .wrongSailing) ∧ ((entryAt s.idt.entries 3).any (fun e => e.matchedBy id.tag id.sailing && e.state == .diverted) = true))
    ∧ (∃ (c : StationConfig) (rc : ReaderConfig) (held : List Byte) (r : SegRec) (id : Identity) (sl : Sailing) (dd : Decode) (k : Ctr) (ks : Ctr) (i : Nat) (s : State),
      s.cfg = some c ∧ c.reader = true ∧ c.readerSection = some rc ∧ SizeLaw s ∧ SlotLaw s ∧ TagLaw s
        ∧ s.rdu.asm = .assembling held ∧ held.length = 21 ∧ held.head? = some letterR ∧ recordValid held = true
          ∧ candidates rc s = [r] ∧ recordIdentity held = id ∧ (∀ x ∈ r.ident, x.tag = id.tag ∧ x.sailing = id.sailing
            ∧ r.readStatus ≠ .read) ∧ sailingCheck rc id.sailing = sl ∧ decodeDestination c s.rrv sl id.cabin = dd
              ∧ (k = if dd = .noCabin then Ctr.noCabin else if dd = .unavailable then .chuteUnavailable else if dd = .primary (dd.chute.getD 0) then .decodePrimary else if dd = .overflow (dd.chute.getD 0) then .decodeOverflow else .decodePrimaryFull) ∧ (ks = if sl = .a then Ctr.sailingA else if sl = .b then .sailingB else if sl = .noSailing then .sailingNone else .wrongSailing) ∧ ((entryAt s.idt.entries 3).any (fun e => e.matchedBy id.tag id.sailing && e.state == .onSegment) = true) ∧ (s.btu.queue.find? (fun (u : SegRec) => u.entry == some 3) = some { bag with slot := 4, ein := 20, len := some 5, entry := some 3 }) ∧ (⟨4, 20⟩ : RecRef) ≠ r.ref)
    ∧ (∃ (c : StationConfig) (rc : ReaderConfig) (held : List Byte) (r : SegRec) (id : Identity) (sl : Sailing) (dd : Decode) (k : Ctr) (ks : Ctr) (i : Nat) (s : State),
      s.cfg = some c ∧ c.reader = true ∧ c.readerSection = some rc ∧ SizeLaw s ∧ SlotLaw s ∧ TagLaw s
        ∧ s.rdu.asm = .assembling held ∧ held.length = 21 ∧ held.head? = some letterR ∧ recordValid held = true
          ∧ candidates rc s = [r] ∧ recordIdentity held = id ∧ (∀ x ∈ r.ident, x.tag = id.tag ∧ x.sailing = id.sailing
            ∧ r.readStatus ≠ .read) ∧ sailingCheck rc id.sailing = sl ∧ decodeDestination c s.rrv sl id.cabin = dd
              ∧ (k = if dd = .noCabin then Ctr.noCabin else if dd = .unavailable then .chuteUnavailable else if dd = .primary (dd.chute.getD 0) then .decodePrimary else if dd = .overflow (dd.chute.getD 0) then .decodeOverflow else .decodePrimaryFull) ∧ (ks = if sl = .a then Ctr.sailingA else if sl = .b then .sailingB else if sl = .noSailing then .sailingNone else .wrongSailing) ∧ dd = .unavailable ∧ (s.idt.entries.all (fun o => o.all (fun e => e.tag != id.tag)) = true)) :=
  ⟨⟨cA, rdA, bag318, bag, idA, .a, .primary 8, .decodePrimary, .sailingA, 127, scanning bag318 (viewing (holding [bag] (moved 110 0 0))),
      rfl, by decide, by decide, sizeLaw_of (by decide), slotLaw_of (by decide), tagLaw_of (by decide), by decide⟩,
    ⟨cA, rdA, bag318, { bag with reason := some .noCabin, dest := some 30 }, idA, .a, .primary 8, .decodePrimary, .sailingA, 127, scanning bag318 (viewing (holding [{ bag with reason := some .noCabin, dest := some 30 }] (moved 106 0 0))),
      rfl, by decide, by decide, sizeLaw_of (by decide), slotLaw_of (by decide), tagLaw_of (by decide), by decide⟩,
    ⟨cA, rdA, bag377, bag, ⟨6110452290, 377, 9214⟩, .refused, .noCabin, .noCabin, .wrongSailing, 127, scanning bag377 (viewing (holding [bag] (moved 110 0 0))),
      rfl, by decide, by decide, sizeLaw_of (by decide), slotLaw_of (by decide), tagLaw_of (by decide), by decide⟩,
    ⟨cA, rdA, bag4096, bag, ⟨6110452290, 4096, 9214⟩, .refused, .noCabin, .noCabin, .wrongSailing, 127, scanning bag4096 (viewing (holding [bag] (moved 110 0 0))),
      rfl, by decide, by decide, sizeLaw_of (by decide), slotLaw_of (by decide), tagLaw_of (by decide), by decide⟩,
    ⟨cA, rdA, bag318, bag, idA, .a, .primary 8, .decodePrimary, .sailingA, 0, stocked crowded (scanning bag318 (viewing (holding [bag] (moved 110 0 0)))),
      rfl, by decide, by decide, sizeLaw_of (by decide), slotLaw_of (by decide), tagLaw_of (by decide), by decide⟩,
    ⟨cA, rdA, bag318, bag, idA, .a, .primary 8, .decodePrimary, .sailingA, 127, entered 60 ⟨4071239856, 422, false, 9214, 8, .manual, .read, 3⟩ (scanning bag318 (viewing (holding [bag] (moved 110 0 0)))),
      rfl, by decide, by decide, sizeLaw_of (by decide), slotLaw_of (by decide), tagLaw_of (by decide), by decide⟩,
    ⟨cA, rdA, bag318, bag, idA, .a, .primary 8, .decodePrimary, .sailingA, 127, entered 0 ⟨4071239856, 422, false, 9214, 8, .onSegment, .read, 3⟩ (scanning bag318 (viewing (holding [bag] (moved 110 0 0)))),
      rfl, by decide, by decide, sizeLaw_of (by decide), slotLaw_of (by decide), tagLaw_of (by decide), by decide⟩,
    ⟨cA, rdA, bag318, bag, idA, .a, .primary 8, .decodePrimary, .sailingA, 127, entered 16 ⟨4071239856, 318, false, 9214, 8, .onLoop, .read, 3⟩ (scanning bag318 (viewing (holding [bag] (moved 110 0 0)))),
      rfl, by decide, by decide, sizeLaw_of (by decide), slotLaw_of (by decide), tagLaw_of (by decide), by decide⟩,
    ⟨cA, rdA, bag318, { bag with reason := some .noCabin, dest := some 30 }, idA, .a, .primary 8, .decodePrimary, .sailingA, 127, entered 127 ⟨4071239856, 318, false, 9214, 8, .manual, .read, 3⟩ (scanning bag318 (viewing (holding [{ bag with reason := some .noCabin, dest := some 30 }] (moved 110 0 0)))),
      rfl, by decide, by decide, sizeLaw_of (by decide), slotLaw_of (by decide), tagLaw_of (by decide), by decide⟩,
    ⟨cA, rdA, bag318, bag, idA, .a, .primary 8, .decodePrimary, .sailingA, 127, entered 3 ⟨4071239856, 318, false, 9214, 8, .diverted, .read, 3⟩ (scanning bag318 (viewing (holding [bag] (moved 110 0 0)))),
      rfl, by decide, by decide, sizeLaw_of (by decide), slotLaw_of (by decide), tagLaw_of (by decide), by decide⟩,
    ⟨cA, rdA, bag318, bag, idA, .a, .primary 8, .decodePrimary, .sailingA, 127, entered 3 ⟨4071239856, 318, false, 9214, 8, .onSegment, .read, 3⟩ (scanning bag318 (viewing (holding [{ bag with slot := 4, ein := 20, len := some 5, entry := some 3 }, bag] (moved 110 0 0)))),
      rfl, by decide, by decide, sizeLaw_of (by decide), slotLaw_of (by decide), tagLaw_of (by decide), by decide⟩,
    ⟨cA, rdA, bag318, bag, idA, .a, .unavailable, .chuteUnavailable, .sailingA, 127, scanning bag318 (shut (holding [bag] (moved 110 0 0))),
      rfl, by decide, by decide, sizeLaw_of (by decide), slotLaw_of (by decide), tagLaw_of (by decide), by decide⟩⟩

/-- Witness of ReadIsTakenByItsCandidates. -/
theorem test_witness_ReadIsTakenByItsCandidates :
    (∃ (c : StationConfig) (rc : ReaderConfig) (held : List Byte) (sum : Nat) (r : SegRec) (s : State),
      s.cfg = some c ∧ c.reader = true ∧ c.readerSection = some rc ∧ SizeLaw s ∧ SlotLaw s ∧ s.rdu.asm = .assembling held
        ∧ (held = [letterN] ∨ (held.length = 21 ∧ held.head? = some letterR))
          ∧ (sum = ((List.range 19).map fun k => ((held.getD (k + 1) 0).toNat - 48) * [2, 3, 5, 7].getD (k % 4) 0).sum)
            ∧ candidates rc s = [] ∧ fwd bag.ein s.btu.e = rc.pRead - rc.margin - 1)
    ∧ (∃ (c : StationConfig) (rc : ReaderConfig) (held : List Byte) (sum : Nat) (r : SegRec) (s : State),
      s.cfg = some c ∧ c.reader = true ∧ c.readerSection = some rc ∧ SizeLaw s ∧ SlotLaw s ∧ s.rdu.asm = .assembling held
        ∧ (held = [letterN] ∨ (held.length = 21 ∧ held.head? = some letterR))
          ∧ (sum = ((List.range 19).map fun k => ((held.getD (k + 1) 0).toNat - 48) * [2, 3, 5, 7].getD (k % 4) 0).sum)
            ∧ 2 = (candidates rc s).length)
    ∧ (∃ (c : StationConfig) (rc : ReaderConfig) (held : List Byte) (sum : Nat) (r : SegRec) (s : State),
      s.cfg = some c ∧ c.reader = true ∧ c.readerSection = some rc ∧ SizeLaw s ∧ SlotLaw s ∧ s.rdu.asm = .assembling held
        ∧ (held = [letterN] ∨ (held.length = 21 ∧ held.head? = some letterR))
          ∧ (sum = ((List.range 19).map fun k => ((held.getD (k + 1) 0).toNat - 48) * [2, 3, 5, 7].getD (k % 4) 0).sum)
            ∧ candidates rc s = [r] ∧ held = [letterN] ∧ r.readStatus ≠ .read)
    ∧ (∃ (c : StationConfig) (rc : ReaderConfig) (held : List Byte) (sum : Nat) (r : SegRec) (s : State),
      s.cfg = some c ∧ c.reader = true ∧ c.readerSection = some rc ∧ SizeLaw s ∧ SlotLaw s ∧ s.rdu.asm = .assembling held
        ∧ (held = [letterN] ∨ (held.length = 21 ∧ held.head? = some letterR))
          ∧ (sum = ((List.range 19).map fun k => ((held.getD (k + 1) 0).toNat - 48) * [2, 3, 5, 7].getD (k % 4) 0).sum)
            ∧ candidates rc s = [r] ∧ r.readStatus = .read ∧ (held ≠ [letterN] ∧ recordValid held = true
              ∧ r.ident.any (fun i => i.tag == (recordIdentity held).tag && i.sailing == (recordIdentity held).sailing) = true))
    ∧ (∃ (c : StationConfig) (rc : ReaderConfig) (held : List Byte) (sum : Nat) (r : SegRec) (s : State),
      s.cfg = some c ∧ c.reader = true ∧ c.readerSection = some rc ∧ SizeLaw s ∧ SlotLaw s ∧ s.rdu.asm = .assembling held
        ∧ (held = [letterN] ∨ (held.length = 21 ∧ held.head? = some letterR))
          ∧ (sum = ((List.range 19).map fun k => ((held.getD (k + 1) 0).toNat - 48) * [2, 3, 5, 7].getD (k % 4) 0).sum)
            ∧ candidates rc s = [r] ∧ recordValid held = true ∧ r.ident = some ⟨4071239856, 422, 9214⟩
              ∧ (recordIdentity held).sailing ≠ 422)
    ∧ (∃ (c : StationConfig) (rc : ReaderConfig) (held : List Byte) (sum : Nat) (r : SegRec) (s : State),
      s.cfg = some c ∧ c.reader = true ∧ c.readerSection = some rc ∧ SizeLaw s ∧ SlotLaw s ∧ s.rdu.asm = .assembling held
        ∧ (held = [letterN] ∨ (held.length = 21 ∧ held.head? = some letterR))
          ∧ (sum = ((List.range 19).map fun k => ((held.getD (k + 1) 0).toNat - 48) * [2, 3, 5, 7].getD (k % 4) 0).sum)
            ∧ candidates rc s = [r] ∧ recordValid held = false ∧ r.readStatus ≠ .read)
    ∧ (∃ (c : StationConfig) (rc : ReaderConfig) (held : List Byte) (sum : Nat) (r : SegRec) (s : State),
      s.cfg = some c ∧ c.reader = true ∧ c.readerSection = some rc ∧ SizeLaw s ∧ SlotLaw s ∧ s.rdu.asm = .assembling held
        ∧ (held = [letterN] ∨ (held.length = 21 ∧ held.head? = some letterR))
          ∧ (sum = ((List.range 19).map fun k => ((held.getD (k + 1) 0).toNat - 48) * [2, 3, 5, 7].getD (k % 4) 0).sum)
            ∧ candidates rc s = [r] ∧ recordValid held = false ∧ r.readStatus = .read) :=
  ⟨⟨cA, rdA, [letterN], _, bag, scanning [letterN] (holding [bag] (moved 105 0 0)),
      rfl, by decide, by decide, sizeLaw_of (by decide), slotLaw_of (by decide), by decide, by decide, rfl, by decide⟩,
    ⟨cA, rdA, bag318, _, bag, scanning bag318 (holding [bag, { bag with slot := 4, ein := 101 }] (moved 110 0 0)),
      rfl, by decide, by decide, sizeLaw_of (by decide), slotLaw_of (by decide), by decide, by decide, rfl, by decide⟩,
    ⟨cA, rdA, [letterN], _, bag, scanning [letterN] (holding [bag] (moved 110 0 0)),
      rfl, by decide, by decide, sizeLaw_of (by decide), slotLaw_of (by decide), by decide, by decide, rfl, by decide⟩,
    ⟨cA, rdA, bag318, _, { bag with ident := some ⟨4071239856, 318, 9214⟩, dest := some 8, readStatus := .read }, scanning bag318 (holding [{ bag with ident := some ⟨4071239856, 318, 9214⟩, dest := some 8, readStatus := .read }] (moved 110 0 0)),
      rfl, by decide, by decide, sizeLaw_of (by decide), slotLaw_of (by decide), by decide, by decide, rfl, by decide⟩,
    ⟨cA, rdA, bag318, _, { bag with ident := some ⟨4071239856, 422, 9214⟩, dest := some 8 }, scanning bag318 (holding [{ bag with ident := some ⟨4071239856, 422, 9214⟩, dest := some 8 }] (moved 110 0 0)),
      rfl, by decide, by decide, sizeLaw_of (by decide), slotLaw_of (by decide), by decide, by decide, rfl, by decide⟩,
    ⟨cA, rdA, (bag318.set 20 0x39), _, bag, scanning (bag318.set 20 0x39) (holding [bag] (moved 110 0 0)),
      rfl, by decide, by decide, sizeLaw_of (by decide), slotLaw_of (by decide), by decide, by decide, rfl, by decide⟩,
    ⟨cA, rdA, (bag318.set 20 0x39), _, { bag with ident := some ⟨4071239856, 318, 9214⟩, dest := some 8, readStatus := .read }, scanning (bag318.set 20 0x39) (holding [{ bag with ident := some ⟨4071239856, 318, 9214⟩, dest := some 8, readStatus := .read }] (moved 110 0 0)),
      rfl, by decide, by decide, sizeLaw_of (by decide), slotLaw_of (by decide), by decide, by decide, rfl, by decide⟩⟩

/-- Witness of DeskRecordIsAcceptedOrRefused. -/
theorem test_witness_DeskRecordIsAcceptedOrRefused :
    (∃ (c : StationConfig) (rc : ReaderConfig) (held : List Byte) (sl : Sailing) (cabin : Nat) (code : Nat) (s : State),
      s.cfg = some c ∧ TagLaw s ∧ c.desk = true ∧ c.readerSection = some rc ∧ SizeLaw s ∧ s.rdu.asm = .assembling held
        ∧ held.length = 21 ∧ held.head? = some letterM ∧ recordValid held = false ∧ code = 0
          ∧ (c.ranges.find? (fun (g : Range) => decide (g.low ≤ cabin ∧ cabin ≤ g.high ∧ ((g.slot = .any
            ∧ sl ≠ .refused) ∨ (g.slot = .a ∧ sl = .a) ∨ (g.slot = .b ∧ sl = .b)))) = none))
    ∧ (∃ (c : StationConfig) (rc : ReaderConfig) (held : List Byte) (sl : Sailing) (cabin : Nat) (code : Nat) (s : State),
      s.cfg = some c ∧ TagLaw s ∧ c.desk = true ∧ c.readerSection = some rc ∧ SizeLaw s ∧ s.rdu.asm = .assembling held
        ∧ held.length = 21 ∧ held.head? = some letterM ∧ recordValid held = true
          ∧ sailingCheck rc (recordIdentity held).sailing = .refused ∧ code = rc.sailingA
            ∧ ((c.ranges.find? (fun (g : Range) => decide (g.low ≤ cabin ∧ cabin ≤ g.high ∧ ((g.slot = .any
              ∧ sl ≠ .refused) ∨ (g.slot = .a ∧ sl = .a) ∨ (g.slot = .b ∧ sl = .b))))).isSome = true))
    ∧ (∃ (c : StationConfig) (rc : ReaderConfig) (held : List Byte) (sl : Sailing) (cabin : Nat) (code : Nat) (s : State),
      s.cfg = some c ∧ TagLaw s ∧ c.desk = true ∧ c.readerSection = some rc ∧ SizeLaw s ∧ s.rdu.asm = .assembling held
        ∧ held.length = 21 ∧ held.head? = some letterM ∧ recordValid held = true
          ∧ sailingCheck rc (recordIdentity held).sailing ≠ .refused
            ∧ decodeDestination c s.rrv (sailingCheck rc (recordIdentity held).sailing) (recordIdentity held).cabin = .noCabin)
    ∧ (∃ (c : StationConfig) (rc : ReaderConfig) (held : List Byte) (sl : Sailing) (cabin : Nat) (code : Nat) (s : State),
      s.cfg = some c ∧ TagLaw s ∧ c.desk = true ∧ c.readerSection = some rc ∧ SizeLaw s ∧ s.rdu.asm = .assembling held
        ∧ held.length = 21 ∧ held.head? = some letterM
          ∧ decodeDestination c s.rrv (sailingCheck rc (recordIdentity held).sailing) (recordIdentity held).cabin = .unavailable)
    ∧ (∃ (c : StationConfig) (rc : ReaderConfig) (held : List Byte) (sl : Sailing) (cabin : Nat) (code : Nat) (s : State),
      s.cfg = some c ∧ TagLaw s ∧ c.desk = true ∧ c.readerSection = some rc ∧ SizeLaw s ∧ s.rdu.asm = .assembling held
        ∧ held.length = 21 ∧ held.head? = some letterM
          ∧ (decodeDestination c s.rrv (sailingCheck rc (recordIdentity held).sailing) (recordIdentity held).cabin).chute = some 8 ∧ s.hlc.queue.length < 8)
    ∧ (∃ (c : StationConfig) (rc : ReaderConfig) (held : List Byte) (sl : Sailing) (cabin : Nat) (code : Nat) (s : State),
      s.cfg = some c ∧ TagLaw s ∧ c.desk = true ∧ c.readerSection = some rc ∧ SizeLaw s ∧ s.rdu.asm = .assembling held
        ∧ held.length = 21 ∧ held.head? = some letterM ∧ c.reader = true
          ∧ (decodeDestination c s.rrv (sailingCheck rc (recordIdentity held).sailing) (recordIdentity held).cabin).chute = some 8 ∧ (s.idt.entries.all (fun o => o.all (fun e => e.tag != (recordIdentity held).tag)) = true) ∧ entryAt s.idt.entries 0 = none)
    ∧ (∃ (c : StationConfig) (rc : ReaderConfig) (held : List Byte) (sl : Sailing) (cabin : Nat) (code : Nat) (s : State),
      s.cfg = some c ∧ TagLaw s ∧ c.desk = true ∧ c.readerSection = some rc ∧ SizeLaw s ∧ s.rdu.asm = .assembling held
        ∧ held.length = 21 ∧ held.head? = some letterM ∧ c.reader = true
          ∧ ((entryAt s.idt.entries 127).any (fun e => e.matchedBy (recordIdentity held).tag (recordIdentity held).sailing && e.state != .onSegment) = true)) :=
  ⟨⟨cD, rdA, (desk318.set 20 0x39), .refused, 5, 0, scanning (desk318.set 20 0x39) (under cD base),
      rfl, tagLaw_of (by decide), by decide, by decide, sizeLaw_of (by decide), by decide⟩,
    ⟨cD, rdA, desk377, .noSailing, 5, 318, scanning desk377 (under cD base),
      rfl, tagLaw_of (by decide), by decide, by decide, sizeLaw_of (by decide), by decide⟩,
    ⟨cD, rdA, desk12005, .a, 9000, 422, scanning desk12005 (under cD base),
      rfl, tagLaw_of (by decide), by decide, by decide, sizeLaw_of (by decide), by decide⟩,
    ⟨cD, rdA, desk318, .b, 9500, 377, scanning desk318 (shut (under cD base)),
      rfl, tagLaw_of (by decide), by decide, by decide, sizeLaw_of (by decide), by decide⟩,
    ⟨cD, rdA, desk318, .a, 9214, 318, scanning desk318 (viewing (under cD base)),
      rfl, tagLaw_of (by decide), by decide, by decide, sizeLaw_of (by decide), by decide⟩,
    ⟨cA, rdA, desk318, .a, 9214, 318, scanning desk318 (viewing base),
      rfl, tagLaw_of (by decide), by decide, by decide, sizeLaw_of (by decide), by decide⟩,
    ⟨cA, rdA, desk318, .a, 9214, 318, entered 127 ⟨4071239856, 318, false, 9214, 8, .onLoop, .read, 3⟩ (scanning desk318 (viewing base)),
      rfl, tagLaw_of (by decide), by decide, by decide, sizeLaw_of (by decide), by decide⟩⟩

/-- Witness of BayInputsMoveTheAccount. -/
theorem test_witness_BayInputsMoveTheAccount :
    (∃ (d : Div) (b : Bool) (s : State),
      SizeLaw s ∧ s.cfg = some cA ∧ ((s.dvs.get d).account.any (fun a => a.state == .isOpen) = true)
        ∧ (s.dvs.get d).grants.any (·.ref == bag.ref) = true)
    ∧ (∃ (d : Div) (b : Bool) (s : State),
      SizeLaw s ∧ s.cfg = some cA ∧ (s.dvs.get d).account.isSome = true)
    ∧ (∃ (d : Div) (b : Bool) (s : State),
      SizeLaw s ∧ s.cfg = some cA ∧ (s.dvs.get d).account = none)
    ∧ (∃ (d : Div) (b : Bool) (s : State),
      SizeLaw s ∧ s.cfg = none) :=
  ⟨⟨.d0, true, granting [⟨bag.ref, 200, 210, 220⟩] (holding [bag, { bag with slot := 4, ein := 105 }] (accounted base)),
      sizeLaw_of (by decide), rfl, by decide⟩,
    ⟨.d0, true, accounted base,
      sizeLaw_of (by decide), rfl, by decide⟩,
    ⟨.d1, true, accounted base,
      sizeLaw_of (by decide), rfl, by decide⟩,
    ⟨.d0, true, State.reset,
      sizeLaw_of (by decide), rfl⟩⟩

/-- Witness of SegmentClearEmptiesTheSegment. -/
theorem test_witness_SegmentClearEmptiesTheSegment :
    (∃ (s : State),
      SizeLaw s ∧ s.cfg = some cA ∧ s.btu.queue.length = 16)
    ∧ (∃ (s : State),
      SizeLaw s ∧ s.cfg = none) :=
  ⟨⟨holding (bags 16) base,
      sizeLaw_of (by decide), rfl, by decide⟩,
    ⟨State.reset,
      sizeLaw_of (by decide), rfl⟩⟩

/-- Witness of RefreshTimerAgesTheViewAndReports. -/
theorem test_witness_RefreshTimerAgesTheViewAndReports :
    (∃ (c : StationConfig) (s : State),
      s.cfg = some c ∧ SizeLaw s ∧ s.hlc.queue.length ≤ 5 ∧ (∀ d, ∀ a ∈ (s.dvs.get d).account,
        ∀ b ∈ (s.dvs.get (otherDiv d)).account, a.chute ≠ b.chute) ∧ (s.dvs.get .d0).account.isSome = true) :=
  ⟨cA, accounted (viewing base),
      rfl, sizeLaw_of (by decide), by decide, by intro d; cases d <;> decide, by decide⟩

/-- Witness of SilenceAndMinuteTimersExpire. -/
theorem test_witness_SilenceAndMinuteTimersExpire :
    (∃ (c : StationConfig) (src : Source) (s : State),
      s.cfg = some c ∧ SizeLaw s ∧ s.btu.down.timer ≠ none ∧ (s.btu.upstream src).timer ≠ none ∧ c.down ≠ 0
        ∧ s.btu.down.heard = true) :=
  ⟨cA, .a, silentSoon,
      rfl, sizeLaw_of (by decide), by decide⟩

/-- Witness of SegmentStateMovesTheNeighbourStates. -/
theorem test_witness_SegmentStateMovesTheNeighbourStates :
    (∃ (c : StationConfig) (f : RxFrame) (v : Nat) (sp : SpeedState) (b : Bool) (s : State),
      s.cfg = some c ∧ s.hlc.line.actsOn = true ∧ f.sender ≠ 0 ∧ f.sender ≠ 63 ∧ f.voided = false
        ∧ f.sender.toNat ≠ c.station ∧ SizeLaw s ∧ readSegmentState f.payload = some (v, sp, b) ∧ f.sender.toNat = c.upA)
    ∧ (∃ (c : StationConfig) (f : RxFrame) (v : Nat) (sp : SpeedState) (b : Bool) (s : State),
      s.cfg = some c ∧ s.hlc.line.actsOn = true ∧ f.sender ≠ 0 ∧ f.sender ≠ 63 ∧ f.voided = false
        ∧ f.sender.toNat ≠ c.station ∧ SizeLaw s ∧ readSegmentState f.payload = some (v, sp, b) ∧ f.sender.toNat = c.upB)
    ∧ (∃ (c : StationConfig) (f : RxFrame) (v : Nat) (sp : SpeedState) (b : Bool) (s : State),
      s.cfg = some c ∧ s.hlc.line.actsOn = true ∧ f.sender ≠ 0 ∧ f.sender ≠ 63 ∧ f.voided = false
        ∧ f.sender.toNat ≠ c.station ∧ SizeLaw s ∧ readSegmentState f.payload = some (v, sp, b) ∧ f.sender.toNat = c.down)
    ∧ (∃ (c : StationConfig) (f : RxFrame) (v : Nat) (sp : SpeedState) (b : Bool) (s : State),
      s.cfg = some c ∧ s.hlc.line.actsOn = true ∧ f.sender ≠ 0 ∧ f.sender ≠ 63 ∧ f.voided = false
        ∧ f.sender.toNat ≠ c.station ∧ SizeLaw s ∧ readSegmentState f.payload = some (v, sp, b) ∧ f.sender.toNat = c.down
          ∧ s.btu.queue.length = 12 ∧ s.btu.blockedFlag = true
            ∧ flagOf c 12 ⟨true, b, some 0, false⟩ s.btu.blockedFlag = false)
    ∧ (∃ (c : StationConfig) (f : RxFrame) (v : Nat) (sp : SpeedState) (b : Bool) (s : State),
      s.cfg = some c ∧ s.hlc.line.actsOn = true ∧ f.sender ≠ 0 ∧ f.sender ≠ 63 ∧ f.voided = false
        ∧ f.sender.toNat ≠ c.station ∧ SizeLaw s ∧ readSegmentState f.payload = some (v, sp, b) ∧ f.sender.toNat = c.down
          ∧ s.btu.queue.length = 13 ∧ flagOf c 13 ⟨true, b, some 0, false⟩ s.btu.blockedFlag = true) :=
  ⟨⟨cA, ⟨5, (Frame.segmentState 1023 .moving true).payload, false⟩, 1023, .moving, true, base,
      rfl, by decide, by decide, by decide, by decide, by decide, sizeLaw_of (by decide), by decide⟩,
    ⟨cA, ⟨6, (Frame.segmentState 5 .stopped false).payload, false⟩, 5, .stopped, false, base,
      rfl, by decide, by decide, by decide, by decide, by decide, sizeLaw_of (by decide), by decide⟩,
    ⟨cA, ⟨7, (Frame.segmentState 0 .steady true).payload, false⟩, 0, .steady, true, base,
      rfl, by decide, by decide, by decide, by decide, by decide, sizeLaw_of (by decide), by decide⟩,
    ⟨cA, ⟨7, (Frame.segmentState 0 .steady false).payload, false⟩, 0, .steady, false, flagged true (holding (bags 12) base),
      rfl, by decide, by decide, by decide, by decide, by decide, sizeLaw_of (by decide), by decide⟩,
    ⟨cA, ⟨7, (Frame.segmentState 0 .steady false).payload, false⟩, 0, .steady, false, flagged true (holding (bags 13) base),
      rfl, by decide, by decide, by decide, by decide, by decide, sizeLaw_of (by decide), by decide⟩⟩

/-- Witness of HandoverIsScreenedAttachedOrExpected. -/
theorem test_witness_HandoverIsScreenedAttachedOrExpected :
    (∃ (c : StationConfig) (f : RxFrame) (h : Handover) (src : Source) (s : State),
      s.cfg = some c ∧ s.hlc.line.actsOn = true ∧ f.sender ≠ 0 ∧ f.sender ≠ 63 ∧ f.voided = false
        ∧ f.sender.toNat ≠ c.station ∧ SizeLaw s ∧ SlotLaw s ∧ readHandover f.payload = some h ∧ h.toStation ≠ c.station)
    ∧ (∃ (c : StationConfig) (f : RxFrame) (h : Handover) (src : Source) (s : State),
      s.cfg = some c ∧ s.hlc.line.actsOn = true ∧ f.sender ≠ 0 ∧ f.sender ≠ 63 ∧ f.voided = false
        ∧ f.sender.toNat ≠ c.station ∧ SizeLaw s ∧ SlotLaw s ∧ readHandover f.payload = some h ∧ h.toStation = c.station
          ∧ f.sender.toNat ≠ c.upA ∧ f.sender.toNat ≠ c.upB)
    ∧ (∃ (c : StationConfig) (f : RxFrame) (h : Handover) (src : Source) (s : State),
      s.cfg = some c ∧ s.hlc.line.actsOn = true ∧ f.sender ≠ 0 ∧ f.sender ≠ 63 ∧ f.voided = false
        ∧ f.sender.toNat ≠ c.station ∧ SizeLaw s ∧ SlotLaw s ∧ readHandover f.payload = some h ∧ h.toStation = c.station
          ∧ (f.sender.toNat = c.upA ∧ src = .a) ∧ s.btu.queue.find? (s.attachable c) = some { bag with origin := .blind }
            ∧ fwd bag.ein s.btu.e = c.lateGrace ∧ bag.passes < c.maxPasses)
    ∧ (∃ (c : StationConfig) (f : RxFrame) (h : Handover) (src : Source) (s : State),
      s.cfg = some c ∧ s.hlc.line.actsOn = true ∧ f.sender ≠ 0 ∧ f.sender ≠ 63 ∧ f.voided = false
        ∧ f.sender.toNat ≠ c.station ∧ SizeLaw s ∧ SlotLaw s ∧ readHandover f.payload = some h ∧ h.toStation = c.station
          ∧ (f.sender.toNat = c.upA ∧ src = .a)
            ∧ ((s.btu.queue.find? (s.attachable c)).any (fun (r : SegRec) => r.passes == c.maxPasses) = true))
    ∧ (∃ (c : StationConfig) (f : RxFrame) (h : Handover) (src : Source) (s : State),
      s.cfg = some c ∧ s.hlc.line.actsOn = true ∧ f.sender ≠ 0 ∧ f.sender ≠ 63 ∧ f.voided = false
        ∧ f.sender.toNat ≠ c.station ∧ SizeLaw s ∧ SlotLaw s ∧ readHandover f.payload = some h ∧ (f.sender.toNat ≠ c.upA
          ∧ f.sender.toNat = c.upB ∧ src = .b) ∧ s.btu.queue.find? (s.attachable c) = none ∧ s.btu.expects.length = 8)
    ∧ (∃ (c : StationConfig) (f : RxFrame) (h : Handover) (src : Source) (s : State),
      s.cfg = some c ∧ s.hlc.line.actsOn = true ∧ f.sender ≠ 0 ∧ f.sender ≠ 63 ∧ f.voided = false
        ∧ f.sender.toNat ≠ c.station ∧ SizeLaw s ∧ SlotLaw s ∧ readHandover f.payload = some h
          ∧ s.btu.queue.find? (s.attachable c) = none ∧ s.btu.expects.length = 7) :=
  ⟨⟨cA, ⟨5, Handover.payload { hoA with toStation := 62 }, false⟩, { hoA with toStation := 62 }, .a, base,
      rfl, by decide, by decide, by decide, by decide, by decide, sizeLaw_of (by decide), slotLaw_of (by decide), by decide⟩,
    ⟨cA, ⟨8, hoA.payload, false⟩, hoA, .a, base,
      rfl, by decide, by decide, by decide, by decide, by decide, sizeLaw_of (by decide), slotLaw_of (by decide), by decide⟩,
    ⟨cA, ⟨5, hoA.payload, false⟩, hoA, .a, holding [{ bag with origin := .blind }] (moved 110 0 0),
      rfl, by decide, by decide, by decide, by decide, by decide, sizeLaw_of (by decide), slotLaw_of (by decide), by decide⟩,
    ⟨cA, ⟨5, hoA.payload, false⟩, hoA, .a, holding [{ bag with origin := .blind, passes := 3, reason := some .oversize, dest := some 30 }] (moved 110 0 0),
      rfl, by decide, by decide, by decide, by decide, by decide, sizeLaw_of (by decide), slotLaw_of (by decide), by decide⟩,
    ⟨cA, ⟨6, hoA.payload, false⟩, hoA, .b, withExpects (List.replicate 8 expA) base,
      rfl, by decide, by decide, by decide, by decide, by decide, sizeLaw_of (by decide), slotLaw_of (by decide), by decide⟩,
    ⟨cA, ⟨5, hoA.payload, false⟩, hoA, .a, withExpects (List.replicate 7 expA) (holding [{ bag with origin := .blind, awaiting := [] }] (moved 111 0 0)),
      rfl, by decide, by decide, by decide, by decide, by decide, sizeLaw_of (by decide), slotLaw_of (by decide), by decide⟩⟩

/-- Witness of DivertDoneRetiresTheTag. -/
theorem test_witness_DivertDoneRetiresTheTag :
    (∃ (c : StationConfig) (f : RxFrame) (m : DivertDone) (s : State),
      s.cfg = some c ∧ s.hlc.line.actsOn = true ∧ f.sender ≠ 0 ∧ f.sender ≠ 63 ∧ f.voided = false
        ∧ f.sender.toNat ≠ c.station ∧ SizeLaw s ∧ SlotLaw s ∧ TagLaw s ∧ readDivertDone f.payload = some m ∧ m.ident = none)
    ∧ (∃ (c : StationConfig) (f : RxFrame) (m : DivertDone) (s : State),
      s.cfg = some c ∧ s.hlc.line.actsOn = true ∧ f.sender ≠ 0 ∧ f.sender ≠ 63 ∧ f.voided = false
        ∧ f.sender.toNat ≠ c.station ∧ SizeLaw s ∧ SlotLaw s ∧ TagLaw s ∧ readDivertDone f.payload = some m
          ∧ (c.reader = false ∧ c.desk = false))
    ∧ (∃ (c : StationConfig) (f : RxFrame) (m : DivertDone) (s : State),
      s.cfg = some c ∧ s.hlc.line.actsOn = true ∧ f.sender ≠ 0 ∧ f.sender ≠ 63 ∧ f.voided = false
        ∧ f.sender.toNat ≠ c.station ∧ SizeLaw s ∧ SlotLaw s ∧ TagLaw s ∧ readDivertDone f.payload = some m
          ∧ c.reader = true ∧ m.ident ≠ none ∧ m.swept = true)
    ∧ (∃ (c : StationConfig) (f : RxFrame) (m : DivertDone) (s : State),
      s.cfg = some c ∧ s.hlc.line.actsOn = true ∧ f.sender ≠ 0 ∧ f.sender ≠ 63 ∧ f.voided = false
        ∧ f.sender.toNat ≠ c.station ∧ SizeLaw s ∧ SlotLaw s ∧ TagLaw s ∧ readDivertDone f.payload = some m
          ∧ m.swept = false ∧ m.ident = some idA
            ∧ (s.idt.entries.all (fun o => o.all (fun e => !e.matchedBy idA.tag idA.sailing)) = true))
    ∧ (∃ (c : StationConfig) (f : RxFrame) (m : DivertDone) (s : State),
      s.cfg = some c ∧ s.hlc.line.actsOn = true ∧ f.sender ≠ 0 ∧ f.sender ≠ 63 ∧ f.voided = false
        ∧ f.sender.toNat ≠ c.station ∧ SizeLaw s ∧ SlotLaw s ∧ TagLaw s ∧ readDivertDone f.payload = some m
          ∧ ((entryAt s.idt.entries 127).any (fun e => e.matchedBy idA.tag idA.sailing && e.state == .onLoop) = true))
    ∧ (∃ (c : StationConfig) (f : RxFrame) (m : DivertDone) (s : State),
      s.cfg = some c ∧ s.hlc.line.actsOn = true ∧ f.sender ≠ 0 ∧ f.sender ≠ 63 ∧ f.voided = false
        ∧ f.sender.toNat ≠ c.station ∧ SizeLaw s ∧ SlotLaw s ∧ TagLaw s ∧ readDivertDone f.payload = some m
          ∧ ((entryAt s.idt.entries 16).any (fun e => e.matchedBy idA.tag idA.sailing && e.state == .diverted) = true))
    ∧ (∃ (c : StationConfig) (f : RxFrame) (m : DivertDone) (s : State),
      s.cfg = some c ∧ s.hlc.line.actsOn = true ∧ f.sender ≠ 0 ∧ f.sender ≠ 63 ∧ f.voided = false
        ∧ f.sender.toNat ≠ c.station ∧ SizeLaw s ∧ SlotLaw s ∧ TagLaw s ∧ readDivertDone f.payload = some m
          ∧ ((entryAt s.idt.entries 0).any (fun e => e.matchedBy idA.tag idA.sailing && e.state == .onSegment) = true)
            ∧ ((s.btu.queue.find? (fun (r : SegRec) => r.entry == some 0)).isSome = true)) :=
  ⟨⟨cA, ⟨5, DivertDone.payload ⟨8, 64, none, false⟩, false⟩, ⟨8, 64, none, false⟩, base,
      rfl, by decide, by decide, by decide, by decide, by decide, sizeLaw_of (by decide), slotLaw_of (by decide),
        tagLaw_of (by decide), by decide⟩,
    ⟨cN, ⟨5, DivertDone.payload ⟨8, 64, some idA, false⟩, false⟩, ⟨8, 64, some idA, false⟩, under cN base,
      rfl, by decide, by decide, by decide, by decide, by decide, sizeLaw_of (by decide), slotLaw_of (by decide),
        tagLaw_of (by decide), by decide⟩,
    ⟨cA, ⟨5, DivertDone.payload ⟨8, 64, some idA, true⟩, false⟩, ⟨8, 64, some idA, true⟩, base,
      rfl, by decide, by decide, by decide, by decide, by decide, sizeLaw_of (by decide), slotLaw_of (by decide),
        tagLaw_of (by decide), by decide⟩,
    ⟨cA, ⟨5, DivertDone.payload ⟨8, 64, some idA, false⟩, false⟩, ⟨8, 64, some idA, false⟩, base,
      rfl, by decide, by decide, by decide, by decide, by decide, sizeLaw_of (by decide), slotLaw_of (by decide),
        tagLaw_of (by decide), by decide⟩,
    ⟨cA, ⟨5, DivertDone.payload ⟨8, 64, some idA, false⟩, false⟩, ⟨8, 64, some idA, false⟩, entered 127 ⟨4071239856, 318, false, 9214, 8, .onLoop, .read, 3⟩ base,
      rfl, by decide, by decide, by decide, by decide, by decide, sizeLaw_of (by decide), slotLaw_of (by decide),
        tagLaw_of (by decide), by decide⟩,
    ⟨cA, ⟨5, DivertDone.payload ⟨8, 64, some idA, false⟩, false⟩, ⟨8, 64, some idA, false⟩, entered 16 ⟨4071239856, 318, false, 9214, 8, .diverted, .read, 3⟩ base,
      rfl, by decide, by decide, by decide, by decide, by decide, sizeLaw_of (by decide), slotLaw_of (by decide),
        tagLaw_of (by decide), by decide⟩,
    ⟨cA, ⟨5, DivertDone.payload ⟨8, 64, some idA, false⟩, false⟩, ⟨8, 64, some idA, false⟩, entered 0 ⟨4071239856, 318, false, 9214, 8, .onSegment, .read, 3⟩ (holding [{ bag with ident := some idA, dest := some 8, entry := some 0 }] base),
      rfl, by decide, by decide, by decide, by decide, by decide, sizeLaw_of (by decide), slotLaw_of (by decide),
        tagLaw_of (by decide), by decide⟩⟩

/-- Witness of IdentityNoticeIsStoredOrApplied. -/
theorem test_witness_IdentityNoticeIsStoredOrApplied :
    (∃ (c : StationConfig) (f : RxFrame) (id : Identity) (n : Nat) (s : State),
      s.cfg = some c ∧ s.hlc.line.actsOn = true ∧ f.sender ≠ 0 ∧ f.sender ≠ 63 ∧ f.voided = false
        ∧ f.sender.toNat ≠ c.station ∧ SizeLaw s ∧ SlotLaw s ∧ TagLaw s ∧ readIdentityNotice f.payload = some (id, n)
          ∧ c.reader = false)
    ∧ (∃ (c : StationConfig) (f : RxFrame) (id : Identity) (n : Nat) (s : State),
      s.cfg = some c ∧ s.hlc.line.actsOn = true ∧ f.sender ≠ 0 ∧ f.sender ≠ 63 ∧ f.voided = false
        ∧ f.sender.toNat ≠ c.station ∧ SizeLaw s ∧ SlotLaw s ∧ TagLaw s ∧ readIdentityNotice f.payload = some (id, n)
          ∧ c.reader = true
            ∧ ((entryAt s.idt.entries 127).any (fun e => e.matchedBy id.tag id.sailing && e.state != .onSegment) = true))
    ∧ (∃ (c : StationConfig) (f : RxFrame) (id : Identity) (n : Nat) (s : State),
      s.cfg = some c ∧ s.hlc.line.actsOn = true ∧ f.sender ≠ 0 ∧ f.sender ≠ 63 ∧ f.voided = false
        ∧ f.sender.toNat ≠ c.station ∧ SizeLaw s ∧ SlotLaw s ∧ TagLaw s ∧ readIdentityNotice f.payload = some (id, n)
          ∧ ((entryAt s.idt.entries 16).any (fun e => e.matchedBy id.tag id.sailing && e.state == .onSegment) = true)
            ∧ ((s.btu.queue.find? (fun (r : SegRec) => r.entry == some 16)).isSome = true))
    ∧ (∃ (c : StationConfig) (f : RxFrame) (id : Identity) (n : Nat) (s : State),
      s.cfg = some c ∧ s.hlc.line.actsOn = true ∧ f.sender ≠ 0 ∧ f.sender ≠ 63 ∧ f.voided = false
        ∧ f.sender.toNat ≠ c.station ∧ SizeLaw s ∧ SlotLaw s ∧ TagLaw s ∧ readIdentityNotice f.payload = some (id, n)
          ∧ (s.idt.entries.all (fun o => o.all (fun e => e.tag != id.tag)) = true) ∧ entryAt s.idt.entries 0 = none)
    ∧ (∃ (c : StationConfig) (f : RxFrame) (id : Identity) (n : Nat) (s : State),
      s.cfg = some c ∧ s.hlc.line.actsOn = true ∧ f.sender ≠ 0 ∧ f.sender ≠ 63 ∧ f.voided = false
        ∧ f.sender.toNat ≠ c.station ∧ SizeLaw s ∧ SlotLaw s ∧ TagLaw s ∧ readIdentityNotice f.payload = some (id, n)
          ∧ (s.idt.entries.all (fun o => o.all (fun e => !e.matchedBy id.tag id.sailing)) = true)
            ∧ ((entryAt s.idt.entries 60).any (fun e => e.tag == id.tag && e.state == .onSegment) = true))
    ∧ (∃ (c : StationConfig) (f : RxFrame) (id : Identity) (n : Nat) (s : State),
      s.cfg = some c ∧ s.hlc.line.actsOn = true ∧ f.sender ≠ 0 ∧ f.sender ≠ 63 ∧ f.voided = false
        ∧ f.sender.toNat ≠ c.station ∧ SizeLaw s ∧ SlotLaw s ∧ TagLaw s ∧ readIdentityNotice f.payload = some (id, n)
          ∧ (s.idt.entries.all (fun o => o.all (fun e => !e.matchedBy id.tag id.sailing)) = true)
            ∧ ((entryAt s.idt.entries 60).any (fun e => e.tag == id.tag && e.state != .onSegment) = true))
    ∧ (∃ (c : StationConfig) (f : RxFrame) (id : Identity) (n : Nat) (s : State),
      s.cfg = some c ∧ s.hlc.line.actsOn = true ∧ f.sender ≠ 0 ∧ f.sender ≠ 63 ∧ f.voided = false
        ∧ f.sender.toNat ≠ c.station ∧ SizeLaw s ∧ SlotLaw s ∧ TagLaw s ∧ readIdentityNotice f.payload = some (id, n)
          ∧ ((entryAt s.idt.entries 16).any (fun e => e.matchedBy id.tag id.sailing && e.state == .onSegment) = true)
            ∧ ((c.diverter .d0).any (fun v => v.chute != n) = true) ∧ s.dvs.d0.grants.any (·.ref == bag.ref) = true)
    ∧ (∃ (c : StationConfig) (f : RxFrame) (id : Identity) (n : Nat) (s : State),
      s.cfg = some c ∧ s.hlc.line.actsOn = true ∧ f.sender ≠ 0 ∧ f.sender ≠ 63 ∧ f.voided = false
        ∧ f.sender.toNat ≠ c.station ∧ SizeLaw s ∧ SlotLaw s ∧ TagLaw s ∧ readIdentityNotice f.payload = some (id, n)
          ∧ (s.idt.entries.all (fun o => o.all (fun e => e.tag != id.tag)) = true) ∧ (∀ i < 16,
            entryAt s.idt.entries i ≠ none)
              ∧ ((entryAt s.idt.entries 12).any (fun e => e.state == .manual && e.age == 3) = true) ∧ (∀ j < 16,
                (entryAt s.idt.entries j).all (fun x => x.state == .onSegment || decide (x.age ≤ 3
                  ∧ (j < 12 → x.age < 3))) = true))
    ∧ (∃ (c : StationConfig) (f : RxFrame) (id : Identity) (n : Nat) (s : State),
      s.cfg = some c ∧ s.hlc.line.actsOn = true ∧ f.sender ≠ 0 ∧ f.sender ≠ 63 ∧ f.voided = false
        ∧ f.sender.toNat ≠ c.station ∧ SizeLaw s ∧ SlotLaw s ∧ TagLaw s ∧ readIdentityNotice f.payload = some (id, n)
          ∧ (s.idt.entries.all (fun o => o.all (fun e => e.tag != id.tag)) = true) ∧ (∀ i < 16,
            (entryAt s.idt.entries i).any (·.state == .onSegment) = true)) :=
  ⟨⟨cN, ⟨5, (Frame.identityNotice idA 8).payload, false⟩, idA, 8, under cN base,
      rfl, by decide, by decide, by decide, by decide, by decide, sizeLaw_of (by decide), slotLaw_of (by decide),
        tagLaw_of (by decide), by decide⟩,
    ⟨cA, ⟨5, (Frame.identityNotice idA 8).payload, false⟩, idA, 8, entered 127 ⟨4071239856, 318, false, 9214, 8, .onLoop, .read, 3⟩ base,
      rfl, by decide, by decide, by decide, by decide, by decide, sizeLaw_of (by decide), slotLaw_of (by decide),
        tagLaw_of (by decide), by decide⟩,
    ⟨cA, ⟨5, (Frame.identityNotice idA 8).payload, false⟩, idA, 8, entered 16 ⟨4071239856, 318, false, 9214, 8, .onSegment, .read, 3⟩ (holding [{ bag with ident := some idA, dest := some 30, reason := some .noRead, entry := some 16 }] base),
      rfl, by decide, by decide, by decide, by decide, by decide, sizeLaw_of (by decide), slotLaw_of (by decide),
        tagLaw_of (by decide), by decide⟩,
    ⟨cA, ⟨5, (Frame.identityNotice idA 8).payload, false⟩, idA, 8, base,
      rfl, by decide, by decide, by decide, by decide, by decide, sizeLaw_of (by decide), slotLaw_of (by decide),
        tagLaw_of (by decide), by decide⟩,
    ⟨cA, ⟨5, (Frame.identityNotice idA 8).payload, false⟩, idA, 8, entered 60 ⟨4071239856, 422, false, 9214, 8, .onSegment, .read, 3⟩ base,
      rfl, by decide, by decide, by decide, by decide, by decide, sizeLaw_of (by decide), slotLaw_of (by decide),
        tagLaw_of (by decide), by decide⟩,
    ⟨cA, ⟨5, (Frame.identityNotice idA 8).payload, false⟩, idA, 8, entered 60 ⟨4071239856, 422, false, 9214, 8, .onLoop, .read, 3⟩ base,
      rfl, by decide, by decide, by decide, by decide, by decide, sizeLaw_of (by decide), slotLaw_of (by decide),
        tagLaw_of (by decide), by decide⟩,
    ⟨cA, ⟨5, (Frame.identityNotice idA 10).payload, false⟩, idA, 10, granting [⟨bag.ref, 200, 210, 220⟩] (entered 16 ⟨4071239856, 318, false, 9214, 8, .onSegment, .read, 3⟩ (holding [{ bag with ident := some idA, dest := some 8, divert := .granted, entry := some 16 }] base)),
      rfl, by decide, by decide, by decide, by decide, by decide, sizeLaw_of (by decide), slotLaw_of (by decide),
        tagLaw_of (by decide), by decide⟩,
    ⟨cA, ⟨5, (Frame.identityNotice idA 8).payload, false⟩, idA, 8, stocked (heldBy fun i => if i = 12 ∨ i = 13 then .manual else if 8 ≤ i then .onSegment else .onLoop) base,
      rfl, by decide, by decide, by decide, by decide, by decide, sizeLaw_of (by decide), slotLaw_of (by decide),
        tagLaw_of (by decide), by decide⟩,
    ⟨cA, ⟨5, (Frame.identityNotice idA 8).payload, false⟩, idA, 8, stocked (heldBy fun _ => .onSegment) base,
      rfl, by decide, by decide, by decide, by decide, by decide, sizeLaw_of (by decide), slotLaw_of (by decide),
        tagLaw_of (by decide), by decide⟩⟩

/-- Witness of ChuteStateWritesTheView. -/
theorem test_witness_ChuteStateWritesTheView :
    (∃ (c : StationConfig) (f : RxFrame) (m : ChuteReport) (s : State),
      s.cfg = some c ∧ s.hlc.line.actsOn = true ∧ f.sender ≠ 0 ∧ f.sender ≠ 63 ∧ f.voided = false
        ∧ f.sender.toNat ≠ c.station ∧ SizeLaw s ∧ readChuteState f.payload = some m ∧ c.ownChute m.chute = true)
    ∧ (∃ (c : StationConfig) (f : RxFrame) (m : ChuteReport) (s : State),
      s.cfg = some c ∧ s.hlc.line.actsOn = true ∧ f.sender ≠ 0 ∧ f.sender ≠ 63 ∧ f.voided = false
        ∧ f.sender.toNat ≠ c.station ∧ SizeLaw s ∧ readChuteState f.payload = some m ∧ c.ownChute m.chute = false) :=
  ⟨⟨cA, ⟨5, ChuteReport.payload ⟨8, .full, 3, 10⟩, false⟩, ⟨8, .full, 3, 10⟩, base,
      rfl, by decide, by decide, by decide, by decide, by decide, sizeLaw_of (by decide), by decide⟩,
    ⟨cA, ⟨62, ChuteReport.payload ⟨31, .full, 4095, 4095⟩, false⟩, ⟨31, .full, 4095, 4095⟩, base,
      rfl, by decide, by decide, by decide, by decide, by decide, sizeLaw_of (by decide), by decide⟩⟩

/-- Witness of UntakenKindsAndTheOwnNumber. -/
theorem test_witness_UntakenKindsAndTheOwnNumber :
    (∃ (c : StationConfig) (f : RxFrame) (code : BitVec 3) (s : State),
      s.cfg = some c ∧ s.hlc.line.actsOn = true ∧ f.sender ≠ 0 ∧ f.sender ≠ 63 ∧ f.payload.length ≤ 20 ∧ SizeLaw s
        ∧ f.voided = false ∧ f.sender.toNat ≠ c.station ∧ (readStrayNotice f.payload).isSome = true)
    ∧ (∃ (c : StationConfig) (f : RxFrame) (code : BitVec 3) (s : State),
      s.cfg = some c ∧ s.hlc.line.actsOn = true ∧ f.sender ≠ 0 ∧ f.sender ≠ 63 ∧ f.payload.length ≤ 20 ∧ SizeLaw s
        ∧ f.voided = false ∧ f.sender.toNat ≠ c.station ∧ f.payload.length = 4)
    ∧ (∃ (c : StationConfig) (f : RxFrame) (code : BitVec 3) (s : State),
      s.cfg = some c ∧ s.hlc.line.actsOn = true ∧ f.sender ≠ 0 ∧ f.sender ≠ 63 ∧ f.payload.length ≤ 20 ∧ SizeLaw s
        ∧ f.voided = false ∧ f.sender.toNat = c.station ∧ (readSegmentState f.payload).isSome = true ∧ 4 ≤ f.payload.length)
    ∧ (∃ (c : StationConfig) (f : RxFrame) (code : BitVec 3) (s : State),
      s.cfg = some c ∧ s.hlc.line.actsOn = true ∧ f.sender ≠ 0 ∧ f.sender ≠ 63 ∧ f.payload.length ≤ 20 ∧ SizeLaw s
        ∧ f.voided = false ∧ f.sender.toNat = c.station ∧ (readHandover f.payload).isSome = true ∧ 4 ≤ f.payload.length)
    ∧ (∃ (c : StationConfig) (f : RxFrame) (code : BitVec 3) (s : State),
      s.cfg = some c ∧ s.hlc.line.actsOn = true ∧ f.sender ≠ 0 ∧ f.sender ≠ 63 ∧ f.payload.length ≤ 20 ∧ SizeLaw s
        ∧ f.voided = false ∧ f.sender.toNat = c.station ∧ (readDivertDone f.payload).isSome = true ∧ 4 ≤ f.payload.length)
    ∧ (∃ (c : StationConfig) (f : RxFrame) (code : BitVec 3) (s : State),
      s.cfg = some c ∧ s.hlc.line.actsOn = true ∧ f.sender ≠ 0 ∧ f.sender ≠ 63 ∧ f.payload.length ≤ 20 ∧ SizeLaw s
        ∧ f.voided = false ∧ f.sender.toNat = c.station ∧ (readIdentityNotice f.payload).isSome = true ∧ 4 ≤ f.payload.length)
    ∧ (∃ (c : StationConfig) (f : RxFrame) (code : BitVec 3) (s : State),
      s.cfg = some c ∧ s.hlc.line.actsOn = true ∧ f.sender ≠ 0 ∧ f.sender ≠ 63 ∧ f.payload.length ≤ 20 ∧ SizeLaw s
        ∧ f.voided = false ∧ f.sender.toNat = c.station ∧ (readChuteState f.payload).isSome = true ∧ 4 ≤ f.payload.length)
    ∧ (∃ (c : StationConfig) (f : RxFrame) (code : BitVec 3) (s : State),
      s.cfg = some c ∧ s.hlc.line.actsOn = true ∧ f.sender ≠ 0 ∧ f.sender ≠ 63 ∧ f.payload.length ≤ 20 ∧ SizeLaw s
        ∧ f.voided = false ∧ f.sender.toNat = c.station ∧ (readStrayNotice f.payload).isSome = true ∧ 4 ≤ f.payload.length)
    ∧ (∃ (c : StationConfig) (f : RxFrame) (code : BitVec 3) (s : State),
      s.cfg = some c ∧ s.hlc.line.actsOn = true ∧ f.sender ≠ 0 ∧ f.sender ≠ 63 ∧ f.payload.length ≤ 20 ∧ SizeLaw s
        ∧ f.voided = false ∧ f.sender.toNat = c.station ∧ (readStatusQuery f.payload).isSome = true ∧ 4 ≤ f.payload.length)
    ∧ (∃ (c : StationConfig) (f : RxFrame) (code : BitVec 3) (s : State),
      s.cfg = some c ∧ s.hlc.line.actsOn = true ∧ f.sender ≠ 0 ∧ f.sender ≠ 63 ∧ f.payload.length ≤ 20 ∧ SizeLaw s
        ∧ f.voided = true ∧ (readSegmentState f.payload).isSome = true ∧ 4 ≤ f.payload.length)
    ∧ (∃ (c : StationConfig) (f : RxFrame) (code : BitVec 3) (s : State),
      s.cfg = some c ∧ s.hlc.line.actsOn = true ∧ f.sender ≠ 0 ∧ f.sender ≠ 63 ∧ f.payload.length ≤ 20 ∧ SizeLaw s
        ∧ f.voided = true ∧ (readHandover f.payload).isSome = true ∧ 4 ≤ f.payload.length)
    ∧ (∃ (c : StationConfig) (f : RxFrame) (code : BitVec 3) (s : State),
      s.cfg = some c ∧ s.hlc.line.actsOn = true ∧ f.sender ≠ 0 ∧ f.sender ≠ 63 ∧ f.payload.length ≤ 20 ∧ SizeLaw s
        ∧ f.voided = true ∧ (readDivertDone f.payload).isSome = true ∧ 4 ≤ f.payload.length)
    ∧ (∃ (c : StationConfig) (f : RxFrame) (code : BitVec 3) (s : State),
      s.cfg = some c ∧ s.hlc.line.actsOn = true ∧ f.sender ≠ 0 ∧ f.sender ≠ 63 ∧ f.payload.length ≤ 20 ∧ SizeLaw s
        ∧ f.voided = true ∧ (readIdentityNotice f.payload).isSome = true ∧ 4 ≤ f.payload.length)
    ∧ (∃ (c : StationConfig) (f : RxFrame) (code : BitVec 3) (s : State),
      s.cfg = some c ∧ s.hlc.line.actsOn = true ∧ f.sender ≠ 0 ∧ f.sender ≠ 63 ∧ f.payload.length ≤ 20 ∧ SizeLaw s
        ∧ f.voided = true ∧ (readChuteState f.payload).isSome = true ∧ 4 ≤ f.payload.length)
    ∧ (∃ (c : StationConfig) (f : RxFrame) (code : BitVec 3) (s : State),
      s.cfg = some c ∧ s.hlc.line.actsOn = true ∧ f.sender ≠ 0 ∧ f.sender ≠ 63 ∧ f.payload.length ≤ 20 ∧ SizeLaw s
        ∧ f.voided = true ∧ (readStrayNotice f.payload).isSome = true ∧ 4 ≤ f.payload.length)
    ∧ (∃ (c : StationConfig) (f : RxFrame) (code : BitVec 3) (s : State),
      s.cfg = some c ∧ s.hlc.line.actsOn = true ∧ f.sender ≠ 0 ∧ f.sender ≠ 63 ∧ f.payload.length ≤ 20 ∧ SizeLaw s
        ∧ f.voided = true ∧ (readStatusQuery f.payload).isSome = true ∧ 4 ≤ f.payload.length) :=
  ⟨⟨cA, ⟨62, StrayNotice.payload ⟨.noRead, none, 3, 8, .blind⟩, false⟩, 0, base,
      rfl, by decide, by decide, by decide, by decide, sizeLaw_of (by decide), by decide⟩,
    ⟨cA, ⟨1, [1, 2, 3, 4], false⟩, 7, base,
      rfl, by decide, by decide, by decide, by decide, sizeLaw_of (by decide), by decide⟩,
    ⟨cA, ⟨9, (Frame.segmentState 1023 .moving true).payload, false⟩, 0, base,
      rfl, by decide, by decide, by decide, by decide, sizeLaw_of (by decide), by decide⟩,
    ⟨cA, ⟨9, hoA.payload, false⟩, 0, base,
      rfl, by decide, by decide, by decide, by decide, sizeLaw_of (by decide), by decide⟩,
    ⟨cA, ⟨9, DivertDone.payload ⟨8, 64, none, false⟩, false⟩, 0, base,
      rfl, by decide, by decide, by decide, by decide, sizeLaw_of (by decide), by decide⟩,
    ⟨cA, ⟨9, (Frame.identityNotice idA 8).payload, false⟩, 0, base,
      rfl, by decide, by decide, by decide, by decide, sizeLaw_of (by decide), by decide⟩,
    ⟨cA, ⟨9, ChuteReport.payload ⟨8, .full, 3, 10⟩, false⟩, 0, base,
      rfl, by decide, by decide, by decide, by decide, sizeLaw_of (by decide), by decide⟩,
    ⟨cA, ⟨9, StrayNotice.payload ⟨.noRead, none, 3, 8, .blind⟩, false⟩, 0, base,
      rfl, by decide, by decide, by decide, by decide, sizeLaw_of (by decide), by decide⟩,
    ⟨cA, ⟨9, [63, 0, 0, 7], false⟩, 0, base,
      rfl, by decide, by decide, by decide, by decide, sizeLaw_of (by decide), by decide⟩,
    ⟨cA, ⟨9, (Frame.segmentState 1023 .moving true).payload, true⟩, 7, base,
      rfl, by decide, by decide, by decide, by decide, sizeLaw_of (by decide), by decide⟩,
    ⟨cA, ⟨5, hoA.payload, true⟩, 7, base,
      rfl, by decide, by decide, by decide, by decide, sizeLaw_of (by decide), by decide⟩,
    ⟨cA, ⟨9, DivertDone.payload ⟨8, 64, none, false⟩, true⟩, 7, base,
      rfl, by decide, by decide, by decide, by decide, sizeLaw_of (by decide), by decide⟩,
    ⟨cA, ⟨5, (Frame.identityNotice idA 8).payload, true⟩, 7, base,
      rfl, by decide, by decide, by decide, by decide, sizeLaw_of (by decide), by decide⟩,
    ⟨cA, ⟨9, ChuteReport.payload ⟨8, .full, 3, 10⟩, true⟩, 7, base,
      rfl, by decide, by decide, by decide, by decide, sizeLaw_of (by decide), by decide⟩,
    ⟨cA, ⟨5, StrayNotice.payload ⟨.noRead, none, 3, 8, .blind⟩, true⟩, 7, base,
      rfl, by decide, by decide, by decide, by decide, sizeLaw_of (by decide), by decide⟩,
    ⟨cA, ⟨9, [63, 0, 0, 7], true⟩, 7, base,
      rfl, by decide, by decide, by decide, by decide, sizeLaw_of (by decide), by decide⟩⟩

/-- Witness of StatusQueryIsTakenInOrder. -/
theorem test_witness_StatusQueryIsTakenInOrder :
    (∃ (c : StationConfig) (f : RxFrame) (q : Query) (u : List Tally16) (s : State),
      s.cfg = some c ∧ s.hlc.line.actsOn = true ∧ f.sender ≠ 0 ∧ f.sender ≠ 63 ∧ f.voided = false
        ∧ f.sender.toNat ≠ c.station ∧ SizeLaw s ∧ readStatusQuery f.payload = some q
          ∧ u = ((s.bump .frameTaken).bump .queryTaken).stu.counters ∧ q.target ≠ c.station ∧ q.target ≠ 63)
    ∧ (∃ (c : StationConfig) (f : RxFrame) (q : Query) (u : List Tally16) (s : State),
      s.cfg = some c ∧ s.hlc.line.actsOn = true ∧ f.sender ≠ 0 ∧ f.sender ≠ 63 ∧ f.voided = false
        ∧ f.sender.toNat ≠ c.station ∧ SizeLaw s ∧ readStatusQuery f.payload = some q
          ∧ u = ((s.bump .frameTaken).bump .queryTaken).stu.counters ∧ q.target = c.station ∧ q.group = 0 ∧ q.page = 0
            ∧ q.zero = true ∧ q.clear = false ∧ s.hlc.queue.length < 7)
    ∧ (∃ (c : StationConfig) (f : RxFrame) (q : Query) (u : List Tally16) (s : State),
      s.cfg = some c ∧ s.hlc.line.actsOn = true ∧ f.sender ≠ 0 ∧ f.sender ≠ 63 ∧ f.voided = false
        ∧ f.sender.toNat ≠ c.station ∧ SizeLaw s ∧ readStatusQuery f.payload = some q
          ∧ u = ((s.bump .frameTaken).bump .queryTaken).stu.counters ∧ q.target = 63 ∧ q.page = 1 ∧ q.clear = true)
    ∧ (∃ (c : StationConfig) (f : RxFrame) (q : Query) (u : List Tally16) (s : State),
      s.cfg = some c ∧ s.hlc.line.actsOn = true ∧ f.sender ≠ 0 ∧ f.sender ≠ 63 ∧ f.voided = false
        ∧ f.sender.toNat ≠ c.station ∧ SizeLaw s ∧ readStatusQuery f.payload = some q
          ∧ u = ((s.bump .frameTaken).bump .queryTaken).stu.counters ∧ q.zero = true ∧ q.group = 3)
    ∧ (∃ (c : StationConfig) (f : RxFrame) (q : Query) (u : List Tally16) (s : State),
      s.cfg = some c ∧ s.hlc.line.actsOn = true ∧ f.sender ≠ 0 ∧ f.sender ≠ 63 ∧ f.voided = false
        ∧ f.sender.toNat ≠ c.station ∧ SizeLaw s ∧ readStatusQuery f.payload = some q
          ∧ u = ((s.bump .frameTaken).bump .queryTaken).stu.counters ∧ q.zero = true ∧ q.group = 2)
    ∧ (∃ (c : StationConfig) (f : RxFrame) (q : Query) (u : List Tally16) (s : State),
      s.cfg = some c ∧ s.hlc.line.actsOn = true ∧ f.sender ≠ 0 ∧ f.sender ≠ 63 ∧ f.voided = false
        ∧ f.sender.toNat ≠ c.station ∧ SizeLaw s ∧ readStatusQuery f.payload = some q
          ∧ u = ((s.bump .frameTaken).bump .queryTaken).stu.counters ∧ q.zero = true ∧ q.group = 1)
    ∧ (∃ (c : StationConfig) (f : RxFrame) (q : Query) (u : List Tally16) (s : State),
      s.cfg = some c ∧ s.hlc.line.actsOn = true ∧ f.sender ≠ 0 ∧ f.sender ≠ 63 ∧ f.voided = false
        ∧ f.sender.toNat ≠ c.station ∧ SizeLaw s ∧ readStatusQuery f.payload = some q
          ∧ u = ((s.bump .frameTaken).bump .queryTaken).stu.counters ∧ q.target = c.station ∧ q.group = 0 ∧ q.page = 2
            ∧ s.hlc.queue.length < 7)
    ∧ (∃ (c : StationConfig) (f : RxFrame) (q : Query) (u : List Tally16) (s : State),
      s.cfg = some c ∧ s.hlc.line.actsOn = true ∧ f.sender ≠ 0 ∧ f.sender ≠ 63 ∧ f.voided = false
        ∧ f.sender.toNat ≠ c.station ∧ SizeLaw s ∧ readStatusQuery f.payload = some q
          ∧ u = ((s.bump .frameTaken).bump .queryTaken).stu.counters ∧ q.target = c.station ∧ q.group = 1 ∧ q.page = 4
            ∧ s.hlc.queue.length < 7)
    ∧ (∃ (c : StationConfig) (f : RxFrame) (q : Query) (u : List Tally16) (s : State),
      s.cfg = some c ∧ s.hlc.line.actsOn = true ∧ f.sender ≠ 0 ∧ f.sender ≠ 63 ∧ f.voided = false
        ∧ f.sender.toNat ≠ c.station ∧ SizeLaw s ∧ readStatusQuery f.payload = some q
          ∧ u = ((s.bump .frameTaken).bump .queryTaken).stu.counters ∧ q.target = c.station ∧ q.group = 2 ∧ q.page = 3
            ∧ s.hlc.queue.length < 7)
    ∧ (∃ (c : StationConfig) (f : RxFrame) (q : Query) (u : List Tally16) (s : State),
      s.cfg = some c ∧ s.hlc.line.actsOn = true ∧ f.sender ≠ 0 ∧ f.sender ≠ 63 ∧ f.voided = false
        ∧ f.sender.toNat ≠ c.station ∧ SizeLaw s ∧ readStatusQuery f.payload = some q
          ∧ u = ((s.bump .frameTaken).bump .queryTaken).stu.counters ∧ q.target = c.station ∧ q.group = 3 ∧ q.page = 6
            ∧ s.hlc.queue.length < 7)
    ∧ (∃ (c : StationConfig) (f : RxFrame) (q : Query) (u : List Tally16) (s : State),
      s.cfg = some c ∧ s.hlc.line.actsOn = true ∧ f.sender ≠ 0 ∧ f.sender ≠ 63 ∧ f.voided = false
        ∧ f.sender.toNat ≠ c.station ∧ SizeLaw s ∧ readStatusQuery f.payload = some q
          ∧ u = ((s.bump .frameTaken).bump .queryTaken).stu.counters ∧ q.target = c.station ∧ q.group = 0 ∧ q.page = 8
            ∧ s.hlc.queue.length < 7)
    ∧ (∃ (c : StationConfig) (f : RxFrame) (q : Query) (u : List Tally16) (s : State),
      s.cfg = some c ∧ s.hlc.line.actsOn = true ∧ f.sender ≠ 0 ∧ f.sender ≠ 63 ∧ f.voided = false
        ∧ f.sender.toNat ≠ c.station ∧ SizeLaw s ∧ readStatusQuery f.payload = some q
          ∧ u = ((s.bump .frameTaken).bump .queryTaken).stu.counters ∧ q.target = c.station ∧ q.group = 1 ∧ q.page = 9
            ∧ s.hlc.queue.length < 7)
    ∧ (∃ (c : StationConfig) (f : RxFrame) (q : Query) (u : List Tally16) (s : State),
      s.cfg = some c ∧ s.hlc.line.actsOn = true ∧ f.sender ≠ 0 ∧ f.sender ≠ 63 ∧ f.voided = false
        ∧ f.sender.toNat ≠ c.station ∧ SizeLaw s ∧ readStatusQuery f.payload = some q
          ∧ u = ((s.bump .frameTaken).bump .queryTaken).stu.counters ∧ q.target = c.station ∧ q.group = 2 ∧ q.page = 10
            ∧ s.hlc.queue.length < 7)
    ∧ (∃ (c : StationConfig) (f : RxFrame) (q : Query) (u : List Tally16) (s : State),
      s.cfg = some c ∧ s.hlc.line.actsOn = true ∧ f.sender ≠ 0 ∧ f.sender ≠ 63 ∧ f.voided = false
        ∧ f.sender.toNat ≠ c.station ∧ SizeLaw s ∧ readStatusQuery f.payload = some q
          ∧ u = ((s.bump .frameTaken).bump .queryTaken).stu.counters ∧ q.target = c.station ∧ q.group = 3 ∧ q.page = 11
            ∧ s.hlc.queue.length < 7)
    ∧ (∃ (c : StationConfig) (f : RxFrame) (q : Query) (u : List Tally16) (s : State),
      s.cfg = some c ∧ s.hlc.line.actsOn = true ∧ f.sender ≠ 0 ∧ f.sender ≠ 63 ∧ f.voided = false
        ∧ f.sender.toNat ≠ c.station ∧ SizeLaw s ∧ readStatusQuery f.payload = some q
          ∧ u = ((s.bump .frameTaken).bump .queryTaken).stu.counters ∧ q.target = c.station ∧ q.group = 0 ∧ q.page = 12
            ∧ s.hlc.queue.length < 7)
    ∧ (∃ (c : StationConfig) (f : RxFrame) (q : Query) (u : List Tally16) (s : State),
      s.cfg = some c ∧ s.hlc.line.actsOn = true ∧ f.sender ≠ 0 ∧ f.sender ≠ 63 ∧ f.voided = false
        ∧ f.sender.toNat ≠ c.station ∧ SizeLaw s ∧ readStatusQuery f.payload = some q
          ∧ u = ((s.bump .frameTaken).bump .queryTaken).stu.counters ∧ q.target = c.station ∧ q.group = 3 ∧ q.page = 15
            ∧ s.hlc.queue.length < 7) :=
  ⟨⟨cA, ⟨5, [5, 2, 255, 7], false⟩, ⟨5, 0, 0, true, false, 255, 7⟩, _, base,
      rfl, by decide, by decide, by decide, by decide, by decide, sizeLaw_of (by decide), by decide, rfl, by decide⟩,
    ⟨cA, ⟨5, [9, 2, 255, 7], false⟩, ⟨9, 0, 0, true, false, 255, 7⟩, _, queueing (sevenStale.take 6) base,
      rfl, by decide, by decide, by decide, by decide, by decide, sizeLaw_of (by decide), by decide, rfl, by decide⟩,
    ⟨cA, ⟨5, [63, 5, 0, 7], false⟩, ⟨63, 0, 1, false, true, 0, 7⟩, _, holding [bag] base,
      rfl, by decide, by decide, by decide, by decide, by decide, sizeLaw_of (by decide), by decide, rfl, by decide⟩,
    ⟨cA, ⟨5, [9, 0xC2, 0, 7], false⟩, ⟨9, 3, 0, true, false, 0, 7⟩, _, base,
      rfl, by decide, by decide, by decide, by decide, by decide, sizeLaw_of (by decide), by decide, rfl, by decide⟩,
    ⟨cA, ⟨5, [9, 0x82, 0, 7], false⟩, ⟨9, 2, 0, true, false, 0, 7⟩, _, base,
      rfl, by decide, by decide, by decide, by decide, by decide, sizeLaw_of (by decide), by decide, rfl, by decide⟩,
    ⟨cA, ⟨5, [9, 0x42, 0, 7], false⟩, ⟨9, 1, 0, true, false, 0, 7⟩, _, base,
      rfl, by decide, by decide, by decide, by decide, by decide, sizeLaw_of (by decide), by decide, rfl, by decide⟩,
    ⟨cA, ⟨5, [9, 8, 0, 7], false⟩, ⟨9, 0, 2, false, false, 0, 7⟩, _, accounted base,
      rfl, by decide, by decide, by decide, by decide, by decide, sizeLaw_of (by decide), by decide, rfl, by decide⟩,
    ⟨cA, ⟨5, [9, 80, 0, 7], false⟩, ⟨9, 1, 4, false, false, 0, 7⟩, _, accounted base,
      rfl, by decide, by decide, by decide, by decide, by decide, sizeLaw_of (by decide), by decide, rfl, by decide⟩,
    ⟨cA, ⟨5, [9, 140, 0, 7], false⟩, ⟨9, 2, 3, false, false, 0, 7⟩, _, accounted base,
      rfl, by decide, by decide, by decide, by decide, by decide, sizeLaw_of (by decide), by decide, rfl, by decide⟩,
    ⟨cA, ⟨5, [9, 216, 0, 7], false⟩, ⟨9, 3, 6, false, false, 0, 7⟩, _, accounted base,
      rfl, by decide, by decide, by decide, by decide, by decide, sizeLaw_of (by decide), by decide, rfl, by decide⟩,
    ⟨cA, ⟨5, [9, 32, 0, 7], false⟩, ⟨9, 0, 8, false, false, 0, 7⟩, _, accounted base,
      rfl, by decide, by decide, by decide, by decide, by decide, sizeLaw_of (by decide), by decide, rfl, by decide⟩,
    ⟨cA, ⟨5, [9, 100, 0, 7], false⟩, ⟨9, 1, 9, false, false, 0, 7⟩, _, accounted base,
      rfl, by decide, by decide, by decide, by decide, by decide, sizeLaw_of (by decide), by decide, rfl, by decide⟩,
    ⟨cA, ⟨5, [9, 168, 0, 7], false⟩, ⟨9, 2, 10, false, false, 0, 7⟩, _, accounted base,
      rfl, by decide, by decide, by decide, by decide, by decide, sizeLaw_of (by decide), by decide, rfl, by decide⟩,
    ⟨cA, ⟨5, [9, 236, 0, 7], false⟩, ⟨9, 3, 11, false, false, 0, 7⟩, _, accounted base,
      rfl, by decide, by decide, by decide, by decide, by decide, sizeLaw_of (by decide), by decide, rfl, by decide⟩,
    ⟨cA, ⟨5, [9, 48, 0, 7], false⟩, ⟨9, 0, 12, false, false, 0, 7⟩, _, accounted base,
      rfl, by decide, by decide, by decide, by decide, by decide, sizeLaw_of (by decide), by decide, rfl, by decide⟩,
    ⟨cA, ⟨5, [9, 252, 0, 7], false⟩, ⟨9, 3, 15, false, false, 0, 7⟩, _, accounted base,
      rfl, by decide, by decide, by decide, by decide, by decide, sizeLaw_of (by decide), by decide, rfl, by decide⟩⟩

/-- Witness of FaultyFramesAreObjectedTo. -/
theorem test_witness_FaultyFramesAreObjectedTo :
    (∃ (c : StationConfig) (f : RxFrame) (code : BitVec 3) (bits : List Bool) (s : State),
      s.cfg = some c ∧ SizeLaw s ∧ s.hlc.line.actsOn = true ∧ readHandover f.payload = none
        ∧ readSegmentState f.payload = none ∧ f.payload.length < 4)
    ∧ (∃ (c : StationConfig) (f : RxFrame) (code : BitVec 3) (bits : List Bool) (s : State),
      s.cfg = some c ∧ SizeLaw s ∧ f.sender = 0 ∧ f.payload.length = 20 ∧ judgeWire bits = .bad)
    ∧ (∃ (c : StationConfig) (f : RxFrame) (code : BitVec 3) (bits : List Bool) (s : State),
      s.cfg = some c ∧ SizeLaw s ∧ f.sender = 63 ∧ judgeWire bits = .tooLong ∧ numAt bits 11 5 = 21)
    ∧ (∃ (c : StationConfig) (f : RxFrame) (code : BitVec 3) (bits : List Bool) (s : State),
      s.cfg = some c ∧ SizeLaw s ∧ s.hlc.line.actsOn = false)
    ∧ (∃ (c : StationConfig) (f : RxFrame) (code : BitVec 3) (bits : List Bool) (s : State),
      s.cfg = some c ∧ SizeLaw s ∧ s.hlc.line.actsOn = true ∧ 20 + 1 = f.payload.length) :=
  ⟨⟨cA, ⟨5, [], false⟩, 0, [false], base,
      rfl, sizeLaw_of (by decide), by decide⟩,
    ⟨cA, ⟨0, List.replicate 20 0, false⟩, 7, (frameBits 3 5 [1, 2]).set 17 true, base,
      rfl, sizeLaw_of (by decide), by decide⟩,
    ⟨cA, ⟨63, [], false⟩, 0, [false, true, true, true, true, true, true, true, true, true, true, true, false, true, false, true], base,
      rfl, sizeLaw_of (by decide), by decide⟩,
    ⟨cA, ⟨5, [], false⟩, 0, [], lined .lineFault base,
      rfl, sizeLaw_of (by decide), by decide⟩,
    ⟨cA, ⟨5, List.replicate 21 0, false⟩, 0, [], base,
      rfl, sizeLaw_of (by decide), by decide⟩⟩

/-- Witness of AttemptsOfOwnFrames. -/
theorem test_witness_AttemptsOfOwnFrames :
    (∃ (c : StationConfig) (f : OutFrame) (rest : List OutFrame) (read : List Bool) (s : State),
      s.cfg = some c ∧ SizeLaw s ∧ s.hlc.queue = f :: rest ∧ s.hlc.line = .active ∧ (∀ o ∈ s.hlc.queue, o.sending = false)
        ∧ f.sending = false)
    ∧ (∃ (c : StationConfig) (f : OutFrame) (rest : List OutFrame) (read : List Bool) (s : State),
      s.cfg = some c ∧ SizeLaw s ∧ s.hlc.queue = f :: rest ∧ s.hlc.line ≠ .active)
    ∧ (∃ (c : StationConfig) (f : OutFrame) (rest : List OutFrame) (read : List Bool) (s : State),
      s.cfg = some c ∧ SizeLaw s ∧ s.hlc.queue = f :: rest ∧ f.sending = true
        ∧ read = frameBits f.kind c.station f.frame.payload
          ∧ judgeAttempt (frameBits f.kind c.station f.frame.payload) read = .sent)
    ∧ (∃ (c : StationConfig) (f : OutFrame) (rest : List OutFrame) (read : List Bool) (s : State),
      s.cfg = some c ∧ SizeLaw s ∧ s.hlc.queue = f :: rest ∧ f.sending = true
        ∧ judgeAttempt (frameBits f.kind c.station f.frame.payload) read = .lost ∧ f.overtaken = true)
    ∧ (∃ (c : StationConfig) (f : OutFrame) (rest : List OutFrame) (read : List Bool) (s : State),
      s.cfg = some c ∧ SizeLaw s ∧ s.hlc.queue = f :: rest ∧ f.sending = true
        ∧ judgeAttempt (frameBits f.kind c.station f.frame.payload) read = .lost ∧ f.overtaken = false)
    ∧ (∃ (c : StationConfig) (f : OutFrame) (rest : List OutFrame) (read : List Bool) (s : State),
      s.cfg = some c ∧ SizeLaw s ∧ s.hlc.queue = f :: rest ∧ f.sending = true
        ∧ judgeAttempt (frameBits f.kind c.station f.frame.payload) read = .objected ∧ f.overtaken = true)
    ∧ (∃ (c : StationConfig) (f : OutFrame) (rest : List OutFrame) (read : List Bool) (s : State),
      s.cfg = some c ∧ SizeLaw s ∧ s.hlc.queue = f :: rest ∧ f.sending = true
        ∧ judgeAttempt (frameBits f.kind c.station f.frame.payload) read = .objected ∧ f.overtaken = false
          ∧ f.retried = false)
    ∧ (∃ (c : StationConfig) (f : OutFrame) (rest : List OutFrame) (read : List Bool) (s : State),
      s.cfg = some c ∧ SizeLaw s ∧ s.hlc.queue = f :: rest ∧ f.sending = true
        ∧ judgeAttempt (frameBits f.kind c.station f.frame.payload) read = .objected ∧ f.overtaken = false
          ∧ f.retried = true ∧ (s.hlc.line = .active ∧ 2 = s.hlc.tally))
    ∧ (∃ (c : StationConfig) (f : OutFrame) (rest : List OutFrame) (read : List Bool) (s : State),
      s.cfg = some c ∧ SizeLaw s ∧ s.hlc.queue = f :: rest ∧ f.sending = true
        ∧ judgeAttempt (frameBits f.kind c.station f.frame.payload) read = .collision ∧ f.overtaken = true)
    ∧ (∃ (c : StationConfig) (f : OutFrame) (rest : List OutFrame) (read : List Bool) (s : State),
      s.cfg = some c ∧ SizeLaw s ∧ s.hlc.queue = f :: rest ∧ f.sending = true
        ∧ judgeAttempt (frameBits f.kind c.station f.frame.payload) read = .collision ∧ f.overtaken = false
          ∧ f.retried = false ∧ s.hlc.line = .active)
    ∧ (∃ (c : StationConfig) (f : OutFrame) (rest : List OutFrame) (read : List Bool) (s : State),
      s.cfg = some c ∧ SizeLaw s ∧ s.hlc.queue = f :: rest ∧ f.sending = true
        ∧ judgeAttempt (frameBits f.kind c.station f.frame.payload) read = .collision ∧ f.overtaken = false
          ∧ f.retried = true ∧ (s.hlc.line = .active ∧ 2 = s.hlc.tally))
    ∧ (∃ (c : StationConfig) (f : OutFrame) (rest : List OutFrame) (read : List Bool) (s : State),
      s.cfg = some c ∧ SizeLaw s ∧ s.hlc.queue = f :: rest ∧ f.sending = true
        ∧ judgeAttempt (frameBits f.kind c.station f.frame.payload) read = .collision ∧ f.overtaken = false
          ∧ f.retried = true ∧ s.hlc.line ≠ .active) :=
  ⟨⟨cA, ⟨.segmentState 0 .stopped false, false, false, false⟩, [], [], queueing [⟨.segmentState 0 .stopped false, false, false, false⟩] base,
      rfl, sizeLaw_of (by decide), by decide⟩,
    ⟨cA, ⟨.segmentState 0 .stopped false, false, false, false⟩, [], [], queueing [⟨.segmentState 0 .stopped false, false, false, false⟩] (lined .listenOnly base),
      rfl, sizeLaw_of (by decide), by decide⟩,
    ⟨cA, ⟨.segmentState 0 .stopped false, false, true, false⟩, [], (frameBits 0 9 (Frame.segmentState 0 .stopped false).payload), queueing (⟨.segmentState 0 .stopped false, false, true, false⟩ :: []) (base),
      rfl, sizeLaw_of (by decide), by decide⟩,
    ⟨cA, ⟨.segmentState 0 .stopped false, false, true, true⟩, [⟨.segmentState 5 .moving false, false, false, false⟩], (List.replicate 43 false), queueing (⟨.segmentState 0 .stopped false, false, true, true⟩ :: [⟨.segmentState 5 .moving false, false, false, false⟩]) (base),
      rfl, sizeLaw_of (by decide), by decide⟩,
    ⟨cA, ⟨.segmentState 0 .stopped false, false, true, false⟩, [⟨.handover hoA 100, false, false, false⟩], (List.replicate 43 false), queueing (⟨.segmentState 0 .stopped false, false, true, false⟩ :: [⟨.handover hoA 100, false, false, false⟩]) (base),
      rfl, sizeLaw_of (by decide), by decide⟩,
    ⟨cA, ⟨.segmentState 0 .stopped false, false, true, true⟩, [⟨.segmentState 5 .moving false, false, false, false⟩], ((frameBits 0 9 (Frame.segmentState 0 .stopped false).payload).set 71 false), queueing (⟨.segmentState 0 .stopped false, false, true, true⟩ :: [⟨.segmentState 5 .moving false, false, false, false⟩]) (base),
      rfl, sizeLaw_of (by decide), by decide⟩,
    ⟨cA, ⟨.segmentState 0 .stopped false, false, true, false⟩, [], ((frameBits 0 9 (Frame.segmentState 0 .stopped false).payload).set 70 false), queueing (⟨.segmentState 0 .stopped false, false, true, false⟩ :: []) (base),
      rfl, sizeLaw_of (by decide), by decide⟩,
    ⟨cA, ⟨.segmentState 0 .stopped false, true, true, false⟩, [], ((frameBits 0 9 (Frame.segmentState 0 .stopped false).payload).set 71 false), queueing (⟨.segmentState 0 .stopped false, true, true, false⟩ :: []) (tallied 2 base),
      rfl, sizeLaw_of (by decide), by decide⟩,
    ⟨cA, ⟨.segmentState 0 .stopped false, false, true, true⟩, [⟨.segmentState 5 .moving false, false, false, false⟩], ((frameBits 0 9 (Frame.segmentState 0 .stopped false).payload).set 12 true), queueing (⟨.segmentState 0 .stopped false, false, true, true⟩ :: [⟨.segmentState 5 .moving false, false, false, false⟩]) (base),
      rfl, sizeLaw_of (by decide), by decide⟩,
    ⟨cA, ⟨.segmentState 0 .stopped false, false, true, false⟩, [], ((frameBits 0 9 (Frame.segmentState 0 .stopped false).payload).set 12 true), queueing (⟨.segmentState 0 .stopped false, false, true, false⟩ :: []) (base),
      rfl, sizeLaw_of (by decide), by decide⟩,
    ⟨cA, ⟨.segmentState 0 .stopped false, true, true, false⟩, [], ((frameBits 0 9 (Frame.segmentState 0 .stopped false).payload).set 12 true), queueing (⟨.segmentState 0 .stopped false, true, true, false⟩ :: []) (tallied 2 base),
      rfl, sizeLaw_of (by decide), by decide⟩,
    ⟨cA, ⟨.segmentState 0 .stopped false, true, true, false⟩, [], ((frameBits 0 9 (Frame.segmentState 0 .stopped false).payload).set 12 true), queueing (⟨.segmentState 0 .stopped false, true, true, false⟩ :: []) (tallied 2 (lined .lineFault base)),
      rfl, sizeLaw_of (by decide), by decide⟩⟩

/-- Witness of LineStatesChange. -/
theorem test_witness_LineStatesChange :
    (∃ (s : State),
      SizeLaw s ∧ s.hlc.line = .quiet)
    ∧ (∃ (s : State),
      SizeLaw s ∧ s.hlc.line = .active)
    ∧ (∃ (s : State),
      SizeLaw s ∧ s.hlc.line = .listenOnly)
    ∧ (∃ (s : State),
      SizeLaw s ∧ s.hlc.line = .lineFault ∧ s.hlc.dup = true)
    ∧ (∃ (s : State),
      SizeLaw s ∧ s.hlc.line = .lineFault ∧ s.hlc.dup = false) :=
  ⟨⟨lined .quiet base,
      sizeLaw_of (by decide), by decide⟩,
    ⟨base,
      sizeLaw_of (by decide), by decide⟩,
    ⟨lined .listenOnly base,
      sizeLaw_of (by decide), by decide⟩,
    ⟨doubled (lined .lineFault base),
      sizeLaw_of (by decide), by decide⟩,
    ⟨lined .lineFault base,
      sizeLaw_of (by decide), by decide⟩⟩

/-- Witness of FrameBitsAreReadBackGood. -/
theorem test_witness_FrameBitsAreReadBackGood :
    (∃ (kind : Nat) (sender : Nat) (p : List Byte),
      kind < 16 ∧ 1 ≤ sender ∧ sender ≤ 62 ∧ p.length ≤ 20)
    ∧ (∃ (kind : Nat) (sender : Nat) (p : List Byte),
      kind < 16 ∧ 1 ≤ sender ∧ sender ≤ 62 ∧ p.length ≤ 20) :=
  ⟨⟨15, 62, List.replicate 20 0xFF,
      by decide⟩,
    ⟨0, 1, [],
      by decide⟩⟩

/-- Witness of HandoverPayloadRoundTrip. -/
theorem test_witness_HandoverPayloadRoundTrip :
    (∃ (h : Handover) (p : List Byte) (m : Handover),
      h.wellFormed = true ∧ (∀ r ∈ h.reason, r.cls ≠ .report) ∧ (∀ i ∈ h.ident, i.tag ≤ 9999999999 ∧ i.sailing ≤ 4095
        ∧ i.cabin ≤ 99999) ∧ readHandover p = some m ∧ h.dest = 31)
    ∧ (∃ (h : Handover) (p : List Byte) (m : Handover),
      h.wellFormed = true ∧ (∀ r ∈ h.reason, r.cls ≠ .report) ∧ (∀ i ∈ h.ident, i.tag ≤ 9999999999 ∧ i.sailing ≤ 4095
        ∧ i.cabin ≤ 99999) ∧ readHandover p = some m ∧ h.ident = none) :=
  ⟨⟨{ hoA with ident := some ⟨9999999999, 4095, 99999⟩, dest := 31, passes := 7 }, (Handover.payload { hoA with ident := some ⟨9999999999, 4095, 99999⟩, dest := 31, passes := 7 }), { hoA with ident := some ⟨9999999999, 4095, 99999⟩, dest := 31, passes := 7 },
      by decide⟩,
    ⟨{ hoA with ident := none, dest := 0, toStation := 62, v := 1023, dExit := 2047, len := 2047 }, (Handover.payload { hoA with ident := none, dest := 0, toStation := 62, v := 1023, dExit := 2047, len := 2047 }), { hoA with ident := none, dest := 0, toStation := 62, v := 1023, dExit := 2047, len := 2047 },
      by decide⟩⟩

/-- Witness of OtherPayloadsRoundTrip. -/
theorem test_witness_OtherPayloadsRoundTrip :
    (∃ (v : Nat) (sp : SpeedState) (b : Bool) (m : DivertDone) (i : Identity) (n : Nat) (r : ChuteReport) (w : StrayNotice) (q : Query) (p : List Byte),
      v ≤ 1023 ∧ 1 ≤ m.chute ∧ m.chute ≤ 31 ∧ m.len ≤ 2047 ∧ (∀ x ∈ m.ident, x.inRange = true) ∧ i.inRange = true ∧ n ≤ 31
        ∧ r.state ≠ .unknown ∧ r.fill ≤ 4095 ∧ r.capacity ≤ 4095 ∧ w.passes ≤ 7 ∧ w.chute ≤ 31
          ∧ (w.reason = .swept → w.chute ≠ 0) ∧ q.target = 63 ∧ q.group = 3 ∧ q.page = 15 ∧ (readStatusQuery p).isSome = true)
    ∧ (∃ (v : Nat) (sp : SpeedState) (b : Bool) (m : DivertDone) (i : Identity) (n : Nat) (r : ChuteReport) (w : StrayNotice) (q : Query) (p : List Byte),
      (readSegmentState p).isSome = true)
    ∧ (∃ (v : Nat) (sp : SpeedState) (b : Bool) (m : DivertDone) (i : Identity) (n : Nat) (r : ChuteReport) (w : StrayNotice) (q : Query) (p : List Byte),
      (readDivertDone p).isSome = true)
    ∧ (∃ (v : Nat) (sp : SpeedState) (b : Bool) (m : DivertDone) (i : Identity) (n : Nat) (r : ChuteReport) (w : StrayNotice) (q : Query) (p : List Byte),
      (readIdentityNotice p).isSome = true)
    ∧ (∃ (v : Nat) (sp : SpeedState) (b : Bool) (m : DivertDone) (i : Identity) (n : Nat) (r : ChuteReport) (w : StrayNotice) (q : Query) (p : List Byte),
      (readChuteState p).isSome = true)
    ∧ (∃ (v : Nat) (sp : SpeedState) (b : Bool) (m : DivertDone) (i : Identity) (n : Nat) (r : ChuteReport) (w : StrayNotice) (q : Query) (p : List Byte),
      (readStrayNotice p).isSome = true) :=
  ⟨⟨1023, .steady, true, ⟨31, 2047, some idA, true⟩, ⟨9999999999, 4095, 99999⟩, 31, ⟨31, .closed, 4095, 4095⟩, ⟨.swept, none, 7, 31, .blind⟩, ⟨63, 3, 15, true, true, 0xFF, 7⟩, [63, 0xFF, 0xFF, 7],
      by decide⟩,
    ⟨0, .stopped, false, ⟨1, 0, none, false⟩, ⟨0, 0, 0⟩, 1, ⟨1, .isOpen, 0, 1⟩, ⟨.lost, none, 0, 0, .blind⟩, ⟨1, 0, 0, false, false, 0, 0⟩, (Frame.segmentState 1023 .moving true).payload,
      by decide⟩,
    ⟨0, .stopped, false, ⟨1, 0, none, false⟩, ⟨0, 0, 0⟩, 1, ⟨1, .isOpen, 0, 1⟩, ⟨.lost, none, 0, 0, .blind⟩, ⟨1, 0, 0, false, false, 0, 0⟩, DivertDone.payload ⟨31, 2047, some idA, true⟩,
      by decide⟩,
    ⟨0, .stopped, false, ⟨1, 0, none, false⟩, ⟨0, 0, 0⟩, 1, ⟨1, .isOpen, 0, 1⟩, ⟨.lost, none, 0, 0, .blind⟩, ⟨1, 0, 0, false, false, 0, 0⟩, (Frame.identityNotice idA 31).payload,
      by decide⟩,
    ⟨0, .stopped, false, ⟨1, 0, none, false⟩, ⟨0, 0, 0⟩, 1, ⟨1, .isOpen, 0, 1⟩, ⟨.lost, none, 0, 0, .blind⟩, ⟨1, 0, 0, false, false, 0, 0⟩, ChuteReport.payload ⟨31, .closed, 4095, 4095⟩,
      by decide⟩,
    ⟨0, .stopped, false, ⟨1, 0, none, false⟩, ⟨0, 0, 0⟩, 1, ⟨1, .isOpen, 0, 1⟩, ⟨.lost, none, 0, 0, .blind⟩, ⟨1, 0, 0, false, false, 0, 0⟩, StrayNotice.payload ⟨.swept, some idA, 7, 31, .blind⟩,
      by decide⟩⟩

/-! ### Witnesses of the statements about every step -/

/-- A state with a record, an entry, an account, a frame in transmission and two that wait. -/
def busy : State :=
  accounted (entered 127 ⟨4071239856, 318, false, 9214, 8, .onSegment, .read, 3⟩ (queueing
    [⟨.divertDone ⟨8, 64, none, false⟩, false, true, false⟩, ⟨.segmentState 0 .stopped false, false, false, false⟩,
      ⟨.handover hoA 100, false, false, false⟩]
    { holding [{ bag with ident := some idA, dest := some 8, entry := some 127 }] base with
      btu := { (holding [{ bag with ident := some idA, dest := some 8, entry := some 127 }] base).btu with
        flow := ⟨0, 0xFFFFFFFF, 0, 0, 0, 0, 0⟩ } }))

/-- The same, with the record READ. -/
def referred : State :=
  holding [{ bag with ident := some idA, dest := some 8, entry := some 127, readStatus := .read }] busy

/-- A record that has reached the maximum of passes. -/
def lapped : State := holding [{ bag with dest := some 30, reason := some .lapLimit, passes := 3 }] base

/-- The law of the references, from what can be decided of it. -/
theorem referenceLaw_of {s : State}
    (h : s.idt.entries.length = 128 ∧ (∀ i < 128, inState s.idt.entries i .onSegment = true → ∃ r ∈ s.btu.queue, r.entry = some i)
      ∧ (s.btu.queue.Pairwise fun a b => a.entry = none ∨ a.entry ≠ b.entry)
      ∧ s.btu.queue.all (fun r => r.entry.all fun i =>
        inState s.idt.entries i .onSegment && r.readStatus == .read && r.ident.isSome) = true) : ReferenceLaw s := by
  obtain ⟨hl, h1, h2, h3⟩ := h
  refine ⟨fun i hi => ?_, h2, fun r hr i hi => ?_⟩
  · by_cases hlt : i < 128
    · exact h1 i hlt hi
    · simp [inState, entryAt, List.getD_eq_getElem?_getD, List.getElem?_eq_none (show s.idt.entries.length ≤ i by omega)] at hi
  · have := List.all_eq_true.1 h3 r hr
    simpa [hi, and_assoc] using this

theorem test_witness_EveryStepKeeps :
    (∃ s t, SizeLaw s ∧ step s = .next t) ∧ (∃ s t, FlowBalance s ∧ s.btu.queue ≠ [] ∧ step s = .next t)
    ∧ (∃ s t, SlotLaw s ∧ step s = .next t) ∧ (∃ s t, DestinationLaw s ∧ s.btu.queue ≠ [] ∧ step s = .next t)
    ∧ (∃ s t, TagLaw s ∧ entryAt s.idt.entries 127 ≠ none ∧ step s = .next t)
    ∧ (∃ s t, LineLaw s ∧ s.hlc.line = .active ∧ step s = .next t)
    ∧ (∃ s t, DivertLaw s ∧ (s.dvs.get .d0).account ≠ none ∧ step s = .next t)
    ∧ (∃ s t, OutboundLaw s ∧ s.hlc.queue.length = 3 ∧ step s = .next t)
    ∧ (∃ s t, OrderLaw s ∧ (∀ r ∈ s.btu.queue, s.position r + 1 < 2 ^ 24) ∧ s.btu.queue.length = 2 ∧ step s = .next t)
    ∧ (∃ s t, ObjectionLaw s ∧ s.hlc.objection ≠ .none ∧ step s = .next t) ∧ (∃ s t, StartLaw s ∧ s.cfg = none ∧ step s = .next t)
    ∧ (∃ s t, SizeLaw s ∧ SlotLaw s ∧ ReferenceLaw s ∧ inState s.idt.entries 127 .onSegment = true ∧ step s = .next t)
    ∧ (∃ s t, SlotLaw s ∧ DestinationLaw s ∧ PassesLaw s ∧ s.btu.queue.any (·.passes == 3) = true ∧ step s = .next t)
    ∧ (∃ s t, FlagLaw s ∧ s.cfg ≠ none ∧ s.btu.queue.length = 14 ∧ s.btu.blockedFlag = true ∧ step s = .next t) :=
  ⟨⟨busy, _, sizeLaw_of (by decide), rfl⟩, ⟨busy, _, by unfold FlowBalance; decide, by decide, rfl⟩,
    ⟨busy, _, slotLaw_of (by decide), rfl⟩,
    ⟨busy, _, ⟨by decide, by decide, fun c h => by cases h; decide⟩, by decide, rfl⟩,
    ⟨busy, _, tagLaw_of (by decide), by decide, rfl⟩, ⟨busy, _, by unfold LineLaw; decide, by decide, rfl⟩,
    ⟨busy, _, ⟨fun d a h => by cases d <;> cases h <;> decide, fun d => by cases d <;> decide⟩, by decide, rfl⟩,
    ⟨busy, _, by unfold OutboundLaw; decide, by decide, rfl⟩,
    ⟨holding (bags 2) base, _, by unfold OrderLaw; decide, by decide, by decide, rfl⟩,
    ⟨{ base with hlc := { base.hlc with objection := .slot } }, _, by unfold ObjectionLaw; decide, by decide, rfl⟩,
    ⟨State.reset, _, fun _ => ⟨rfl, fun d => by cases d <;> rfl⟩, rfl, rfl⟩,
    ⟨referred, _, sizeLaw_of (by decide), slotLaw_of (by decide), referenceLaw_of (by decide), by decide, rfl⟩,
    ⟨lapped, _, slotLaw_of (by decide), ⟨by decide, by decide, fun c h => by cases h; decide⟩, fun c h => by cases h; decide,
      by decide, rfl⟩,
    ⟨flagged true (holding (bags 14) base), _, fun c h => by cases h; decide, by decide, by decide, by decide, rfl⟩⟩

/-! ## Ill-formed commands -/

theorem test_wf_image_length : (Instr.configurationLoadDone (List.replicate 255 0)).wf = false
    ∧ (Instr.configurationLoadDone (List.replicate 256 0)).wf = true := by decide

theorem test_wf_slots : ∀ r ∈ [(⟨16, 0⟩ : RecRef), ⟨99, 5⟩],
    (Instr.longBagPoint r).wf = false ∧ (Instr.lateGraceEnd r).wf = false ∧ (Instr.readDecisionPoint r).wf = false
    ∧ (Instr.commitPoint .d0 r).wf = false ∧ (Instr.overduePoint r).wf = false
    ∧ (Instr.scanByte 0 false (some (.overdue r))).wf = false := by decide

/-- An edge of the entry eye removes no record (R28). -/
theorem test_wf_race : (Instr.scanByte 0 false (some (.rawChange .entry true))).wf = false
    ∧ (Instr.scanByte 0 false (some (.rawChange .exit true))).wf = true
    ∧ (Instr.scanByte 0 false (some (.statusQuery ⟨5, List.replicate 32 0, false⟩))).wf = false
    ∧ (Instr.scanByte 0 false (some (.statusQuery ⟨5, [9, 1, 0, 0], false⟩))).wf = true := by decide

theorem test_wf_slots_good : (Instr.longBagPoint ⟨15, 0⟩).wf = true ∧ (Instr.lateGraceEnd ⟨15, 0⟩).wf = true
    ∧ (Instr.readDecisionPoint ⟨15, 0⟩).wf = true ∧ (Instr.commitPoint .d1 ⟨15, 0⟩).wf = true
    ∧ (Instr.overduePoint ⟨15, 0⟩).wf = true ∧ (Instr.scanByte 0 false (some (.overdue ⟨15, 0⟩))).wf = true
    ∧ (Instr.scanByte 0 false none).wf = true := by decide

/-- A payload longer than the length field can say. -/
def longFrame : RxFrame := ⟨5, List.replicate 32 0, false⟩

theorem test_wf_frames : (Instr.segmentState longFrame).wf = false ∧ (Instr.handover longFrame).wf = false
    ∧ (Instr.divertDone longFrame).wf = false ∧ (Instr.identityNotice longFrame).wf = false
    ∧ (Instr.chuteState longFrame).wf = false ∧ (Instr.strayNotice longFrame).wf = false
    ∧ (Instr.statusQuery longFrame).wf = false ∧ (Instr.statusReply longFrame).wf = false
    ∧ (Instr.unknownKind 0 longFrame).wf = false ∧ (Instr.handover ⟨5, List.replicate 31 0, false⟩).wf = true := by decide

theorem test_wf_bits : (Instr.attemptEnd (List.replicate 323 true)).wf = false
    ∧ (Instr.rxMalformed (List.replicate 323 true)).wf = false ∧ (Instr.attemptEnd (List.replicate 322 true)).wf = true := by
  decide

/-- No row of the table gives bits, so no word spells a command. -/
theorem test_decode_none : decodeTableWord 16 0x1234 = none ∧ (base.withFetchWord 16 0x1234).pending = [] := by decide

/-! ## The spec's worked examples, one step each -/

/-- The state after a command. -/
def after (i : Instr) (s : State) : State :=
  match exec i s with
  | .next t => t
  | .fault _ => s
  | .refused _ => s

/-- Chapter 1, the belt starting: V_stop = 8, V_tol = 4, windows 1 and 2. -/
theorem test_window_2 :
    let t := after .windowClose (under { cA with vStop := 8, vTol := 4 }
      { base with btu := { base.btu with history := [0, 0, 0, 0, 0, 0, 0, 6], v := 6, winCount := 14 } })
    t.btu.v = 20 ∧ t.btu.speed = .moving ∧ t.btu.steadyCount = 0 ∧ t.btu.reportedV = 20 := by decide

/-- Chapter 1, the belt settling: window 18. -/
theorem test_window_18 :
    let t := after .windowClose (under { cA with vStop := 8, vTol := 4 }
      { base with btu := { base.btu with
        history := [25, 24, 25, 24, 25, 25, 24, 25], v := 197, winCount := 25, speed := .moving, steadyCount := 7, reportedV := 192 } })
    t.btu.v = 197 ∧ t.btu.speed = .steady ∧ t.btu.steadyCount = 8 ∧ t.btu.reportedV = 197 := by decide

/-- Chapter 1, times as distances at V = 197 and the speed limit of diverter 0. -/
theorem test_ticks : ticksOf 70 197 = 108 ∧ ticksOf 90 197 = 139 ∧ ticksOf 40 197 = 62 ∧ ticksOf 70 729 = 399
    ∧ ticksOf 70 730 = 400 := by decide

/-- Chapter 2: bag A clears the eye, then bag B behind it. -/
theorem test_trailing_edges :
    let a := { bag with slot := 0, ein := 100000, origin := .inducted }
    let b := { bag with slot := 1, ein := 100900, origin := .inducted }
    let c := { cF with gf := 4, gMin := 300 }
    let s := after (.trailingEdgeAccepted .entry) (under c (holding [a] (atEye .entry .clearing 100620 100624)))
    let t := after (.trailingEdgeAccepted .entry) (under c { (holding [a, b] (atEye .entry .clearing 101600 101604)) with
      btu := { (holding [a, b] (atEye .entry .clearing 101600 101604)).btu with
        openRec := some ⟨b.ref, false⟩, gapRef := .count 100620 } })
    s.btu.gapRef = .count 100620 ∧ t.btu.queue.map (·.len) = [none, some 700] ∧ t.btu.queue.map (·.front) = [none, some 280]
    ∧ t.btu.queue.map (·.back) = [some 280, none] ∧ t.btu.queue.map (·.tight) = [false, true] ∧ t.ctr .tightEntry = 1 := by
  decide

/-- Chapter 3: the announcement whose Tol is 146, at windows 30 and 42. -/
theorem test_expect_countdown :
    let x : ExpectRec := { expA with tol := 146 }
    let s := { base with btu := { base.btu with upA := ⟨.moving, 190, some 0, false⟩ } }
    (after .windowClose (withExpects [{ x with drem := 1290 }] s)).btu.expects = [{ x with drem := 1100 }]
    ∧ (after .windowClose (withExpects [{ x with drem := -990 }] s)).btu.expects = []
    ∧ (after .windowClose (withExpects [{ x with drem := -990 }] s)).ctr .noShow = 1 := by decide

/-- Chapter 3, station 12: D_rem and Tol of an accepted announcement. -/
theorem test_announcement :
    let f : RxFrame := ⟨5, Handover.payload { hoA with v := 190, dExit := 850, len := 620, origin := .inducted }, false⟩
    let t := after (.handover f) (under { cA with eMin := 40 } base)
    t.btu.expects = [⟨.a, none, none, none, 0, 620, 6800, 146⟩] ∧ t.btu.upA.vsrc = 190 := by decide

/-- Chapter 4: the check character of R40712398560318092149X is X; 9 in its place makes it bad. -/
theorem test_check_character : recordValid bag318 = true ∧ recordValid (bag318.set 20 0x39) = false
    ∧ recordIdentity bag318 = ⟨4071239856, 318, 9214⟩ := by decide

/-- Chapter 9: the check character of 2630918475 0318 09120 is 9. -/
theorem test_check_digit : recordValid (record letterM 2630918475031809120 0x39) = true := by decide

/-- Chapter 4: the first read identifies the bag, allocates entry 127 and moves the pointer to 126. -/
theorem test_identification :
    let t := after (.scanByte charCR false none) (scanning bag318 (viewing (holding [bag] (moved 110 0 0))))
    t.btu.queue.map (·.ident) = [some idA] ∧ t.btu.queue.map (·.dest) = [some 8] ∧ t.btu.queue.map (·.entry) = [some 127]
    ∧ t.idt.pointer = 126 ∧ entryAt t.idt.entries 127 = some ⟨4071239856, 318, false, 9214, 8, .onSegment, .read, 0⟩
    ∧ t.ctr .goodRead = 1 := by decide

/-- Chapter 5: the allocation begins at 40, skips 40 and 39, and takes 38. -/
theorem test_rotation :
    let e (st : EntryState) (age : Nat) : Option IdtEntry := some ⟨age, 1, false, 1, 8, st, .read, age⟩
    let es := ((Idt.reset.entries.set 40 (e .onSegment 0)).set 39 (e .onLoop 12)).set 38 (e .manual 31)
    rotating 20 40 es = some 38 ∧ pointerAfter 38 = 37 ∧ pointerAfter 16 = 127 := by decide

/-- Chapter 5: a DIVERT_DONE for a tag whose entry is ON_SEGMENT. -/
theorem test_duplicate :
    let s := entered 127 ⟨4071239856, 318, false, 9214, 8, .onSegment, .read, 3⟩
      (holding [{ bag with slot := 3, ident := some idA, dest := some 8, entry := some 127 }] base)
    let t := after (.divertDone ⟨5, DivertDone.payload ⟨8, 620, some idA, false⟩, false⟩) s
    t.btu.queue.map (·.reason) = [some .duplicateTag] ∧ t.btu.queue.map (·.dest) = [some 30] ∧ t.ev .duplicate = true := by
  decide

/-- Chapter 6: cabin 9214 on each ship, crew cabin 40, and a cabin of no range. -/
theorem test_two_ships :
    let v : Rrv := ⟨((List.replicate 31 (⟨.isOpen, 17, 20, 96, 1⟩ : ViewEntry)).set 7 ⟨.full, 17, 96, 96, 0⟩).set 18
      ⟨.nearFull, 21, 85, 96, 2⟩⟩
    decodeDestination cA v .a 9214 = .overflow 7 ∧ decodeDestination cA v .b 9214 = .primary 19
    ∧ decodeDestination cA v .noSailing 40 = .primary 29 ∧ decodeDestination cA v .a 12005 = .noCabin
    ∧ sailingCheck rdA 377 = .refused := by decide

/-- Chapter 7, bag A: fire 202,292, release 203,170, free from 203,309; at that release DIV0 goes off. -/
theorem test_grant_of_bag_A :
    let v : DiverterConfig := ⟨8, 2400, 400, 70, 150, 90, 300, 96⟩
    let r := { bag with ein := 200000, dest := some 8, len := some 620, front := some 1000, back := some 400 }
    let s := under { cA with gMin := 120, div0 := some v } (accounted (holding [r] (steady (moved 202000 197 0))))
    let t := after (.commitPoint .d0 r.ref) s
    t.dvs.d0.grants = [⟨r.ref, 202292, 203170, 203309⟩] ∧ t.btu.queue.map (·.divert) = [.granted] ∧ t.ctr .grant = 1
    ∧ (after (.release .d0) (engaged .engaged ⟨202292, 203170, 203309, none, true, none⟩ (moved 203170 197 0))).dvs.d0.eng
      = .recovering := by decide

/-- Chapter 8: the states of the account of chute 8, whose capacity is 96. -/
theorem test_near_full :
    let a (fill : Nat) (sensor : Bool) : ChuteState := (⟨8, 96, fill, sensor, false, .isOpen, .isOpen⟩ : Account).derive
    a 80 false = .isOpen ∧ a 83 false = .isOpen ∧ a 84 false = .nearFull ∧ a 95 false = .nearFull ∧ a 96 false = .full
    ∧ a 0 true = .full := by decide

/-- Chapter 10: stations 12, 14 and 17 at one free line; 12's frame is 205 bit times long and its slot lies at 196. -/
theorem test_arbitration :
    let p := Handover.payload { hoA with toStation := 13, ident := some idA, dest := 8 }
    let line := frameBits 1 12 p
    judgeAttempt (frameBits 5 14 (StrayNotice.payload ⟨.ambiguous, none, 0, 0, .blind⟩)) line = .lost
    ∧ judgeAttempt (frameBits 1 17 (Handover.payload hoA)) line = .lost ∧ judgeAttempt line line = .sent
    ∧ judgeAttempt line ((line.set 196 false).set 197 false) = .objected ∧ line.length = 205
    ∧ (frameBits 0 12 (Frame.segmentState 0 .stopped true).payload).length = 79 := by decide

/-- Chapter 10, station 12: a SEGMENT_STATE joins behind the HANDOVER in transmission, and stands before it after the objection. -/
theorem test_objection :
    let h : OutFrame := ⟨.handover hoA 100, false, true, false⟩
    let t := after (.attemptEnd ((frameBits 1 9 hoA.payload).set 115 false)) ((queueing [h] base).queueFrame (.segmentState 0 .stopped true))
    t.hlc.queue = [.fresh (.segmentState 0 .stopped true), ⟨.handover hoA 100, true, false, false⟩] ∧ t.ctr .ownObjected = 1 := by
  decide

/-- R167: a CHUTE_STATE overtaken during its attempt leaves, though the newer one was dropped from the full queue (R168). -/
theorem test_overtaken :
    let old : OutFrame := ⟨.chuteState ⟨8, .isOpen, 0, 10⟩, false, true, false⟩
    let s := (queueing [old] base).queueFrame (.chuteState ⟨8, .full, 10, 10⟩)
    let t := after (.attemptEnd (List.replicate 43 false)) { s with hlc := { s.hlc with queue := s.hlc.queue.take 1 } }
    t.hlc.queue = [] ∧ t.ctr .superseded = 1 ∧ t.ctr .arbitrationLost = 1 := by decide

/-- R73, R89: a STATUS_QUERY with a segment clear, taken between the identity table's part and the write. -/
theorem test_late_update :
    let t := after (.scanByte charCR false (some (.statusQuery ⟨5, [9, 1, 0, 0], false⟩)))
      (scanning bag318 (viewing (holding [bag] (moved 110 0 0))))
    t.btu.queue = [] ∧ t.ctr .lateUpdate = 1 ∧ inState t.idt.entries 127 .onLoop = true ∧ t.ctr .queryTaken = 1 := by decide

/-- R17, R27: the exit filter returns to CLEAR, and the waiting overdue test removes the record before the write. -/
theorem test_late_update_overdue :
    let old := { bag with ein := 98, awaiting := [] }
    let t := after (.scanByte charCR false (some (.rawChange .exit false)))
      (scanning bag318 (viewing (holding [old] (wired .exit (atEye .exit .blocking 140 141)))))
    t.btu.queue = [] ∧ t.ctr .lateUpdate = 1 ∧ t.ctr .exitOverdue = 1 ∧ inState t.idt.entries 127 .onLoop = true := by decide

/-- Chapter 11: the second query's reply and the counters after it. -/
theorem test_zeroed_flow :
    let s := { holding (bags 2) base with btu := { (holding (bags 2) base).btu with flow := ⟨1203, 1190, 0, 0, 0, 11, 3⟩ } }
    let t := after (.statusQuery ⟨5, [9, 0x06, 0, 42], false⟩) s
    t.btu.flow = ⟨2, 0, 0, 0, 0, 0, 0⟩
    ∧ t.hlc.queue.map (·.frame) = [.statusReply
      [42, 0x01, 0, 0x70, 0, 0, 0, 0, 0, 0, 0, 11, 0, 0, 0, 3]] := by decide

/-- R29: the flag rises as the count reaches 14, keeps at 13, and falls at 12. Each change queues a SEGMENT_STATE. -/
theorem test_water_marks :
    let join (n : Nat) (b : Bool) := after (.leadingEdgeAccepted .entry) (flagged b (holding (bags n) (atEye .entry .blocking 500 503)))
    let leave (n : Nat) := after (.overduePoint bag.ref) (flagged true (holding (bags n) (moved 143 197 0)))
    let told (s : State) := s.hlc.queue.filterMap fun o => match o.frame with | .segmentState v _ b => some (v, b) | _ => none
    (join 13 false).btu.blockedFlag = true ∧ told (join 13 false) = [(0, true)]
    ∧ (join 12 false).btu.blockedFlag = false ∧ (join 12 true).btu.blockedFlag = true ∧ told (join 12 true) = []
    ∧ (leave 14).btu.blockedFlag = true ∧ told (leave 14) = []
    ∧ (leave 13).btu.blockedFlag = false ∧ told (leave 13) = [(197, false)] := by decide

/-- R146: what NO_READ does to a record with no reason, a soft one and a hard one, and what counts it. -/
theorem test_stray_counts :
    let at' (x : Option Reason) := after (.readDecisionPoint bag.ref)
      (holding [{ bag with reason := x, dest := x.map fun _ => 30 }] (moved 112 197 0))
    ([none, some .ambiguous, some .oversize].map fun x =>
        ((at' x).ctr .straySet, (at' x).ctr .strayReplaced, (at' x).ctr .strayKept)) = [(1, 0, 0), (0, 0, 1), (0, 0, 1)]
    ∧ (after (.longBagPoint bag.ref) (opened ⟨bag.ref, false⟩
        (holding [{ bag with reason := some .noRead, dest := some 30 }] (atEye .entry .blocked 100 2147)))).ctr .strayReplaced = 1 := by
  decide

end Sys2Proof.Tests
end

section
/-! SUPPORT. Belt motion and speed: what a window close does to the speed figure, the speed state and the steady count, and that no
other operation changes the last two. -/

namespace Sys2Proof.Machine

open Sys2Proof

/-! ### The table of R6 -/

/-- First row of R6: at or below V_stop. -/
theorem speedUpdate_of_le_vStop {c : StationConfig} {v : Nat} (h : v ≤ c.vStop) (prevV : Nat) (st : SpeedState) (count : Nat) :
    speedUpdate c v prevV st count = (.stopped, 0) := if_pos h

/-- Second row of R6: above V_stop from STOPPED. -/
theorem speedUpdate_of_stopped {c : StationConfig} {v : Nat} (h : c.vStop < v) (prevV count : Nat) :
    speedUpdate c v prevV .stopped count = (.moving, 0) := by
  rw [speedUpdate, if_neg (Nat.not_le.mpr h), if_pos rfl]

/-- Third row of R6: running on, within V_tol of the figure before. -/
theorem speedUpdate_of_within {c : StationConfig} {v prevV : Nat} {st : SpeedState} (h : c.vStop < v) (hst : st ≠ .stopped)
    (hin : v ≤ prevV + c.vTol ∧ prevV ≤ v + c.vTol) (count : Nat) :
    speedUpdate c v prevV st count = (if min 8 (count + 1) = 8 then .steady else .moving, min 8 (count + 1)) := by
  rw [speedUpdate, if_neg (Nat.not_le.mpr h), if_neg hst, if_pos hin]

/-- Last row of R6: running on, further than V_tol from the figure before. -/
theorem speedUpdate_of_beyond {c : StationConfig} {v prevV : Nat} {st : SpeedState} (h : c.vStop < v) (hst : st ≠ .stopped)
    (hout : ¬ (v ≤ prevV + c.vTol ∧ prevV ≤ v + c.vTol)) (count : Nat) : speedUpdate c v prevV st count = (.moving, 0) := by
  rw [speedUpdate, if_neg (Nat.not_le.mpr h), if_neg hst, if_neg hout]

/-! ### The operations that leave the speed state and the steady count -/

/-- Two states agree on the speed state and the steady count (R6). -/
@[simp] abbrev SameSpeed (s t : State) : Prop := t.btu.speed = s.btu.speed ∧ t.btu.steadyCount = s.btu.steadyCount

/-- Removing the no-shows changes the expect list only, so the speed figure stays too (R45, R47). -/
@[simp] theorem State.advanceExpects_speed (s : State) :
    s.advanceExpects.btu.v = s.btu.v ∧ SameSpeed s s.advanceExpects := by
  simp only [State.advanceExpects]
  split <;> simp

@[simp] theorem State.makeAccount_speed (s : State) (c : StationConfig) (d : Div) : SameSpeed s (s.makeAccount c d) := by
  simp only [State.makeAccount]
  split <;> simp

@[simp] theorem State.refreshChute_speed (s : State) (d : Div) : SameSpeed s (s.refreshChute d) := by
  simp only [State.refreshChute]
  split <;> simp

/-! Arrivals and trailing edges at the entry eye. -/

@[simp] theorem State.join_speed (s : State) (c : StationConfig) (r : SegRec) : SameSpeed s (s.join c r) := by
  simp [State.join]

@[simp] theorem State.dropExpect_speed (s : State) (x : ExpectRec) : SameSpeed s (s.dropExpect x) := ⟨rfl, rfl⟩

@[simp] theorem State.joinAnnounced_speed (s : State) (c : StationConfig) (n : Count) (x : ExpectRec) :
    SameSpeed s (s.joinAnnounced c n x) := by
  simp only [State.joinAnnounced]
  split <;> simp

@[simp] theorem State.openArrival_speed (s : State) (c : StationConfig) (n : Count) : SameSpeed s (s.openArrival c n) := by
  simp only [State.openArrival]
  (repeat' split) <;> simp

@[simp] theorem State.untrackedArrival_speed (s : State) (c : StationConfig) (n : Count) :
    SameSpeed s (s.untrackedArrival c n) := by
  simp only [State.untrackedArrival]
  (repeat' split) <;> simp

@[simp] theorem State.entryArrival_speed (s : State) (c : StationConfig) (n : Count) : SameSpeed s (s.entryArrival c n) := by
  simp only [State.entryArrival]
  (repeat' split) <;> simp

@[simp] theorem State.setGapRef_speed (s : State) (n : Count) : SameSpeed s (s.setGapRef n) := ⟨rfl, rfl⟩

@[simp] theorem State.entryTrailing_speed (s : State) (c : StationConfig) (n : Count) : SameSpeed s (s.entryTrailing c n) := by
  simp only [State.entryTrailing]
  (repeat' split) <;> simp

/-! The glitch filters. -/

@[simp] theorem State.deliverLeading_speed (s : State) (c : StationConfig) (y : Eye) (n : Count) :
    SameSpeed s (s.deliverLeading c y n) := by
  cases y <;> simp [State.deliverLeading]

@[simp] theorem State.deliverTrailing_speed (s : State) (c : StationConfig) (y : Eye) (n : Count) :
    SameSpeed s (s.deliverTrailing c y n) := by
  cases y <;> simp [State.deliverTrailing]

@[simp] theorem State.acceptLeading_speed (s : State) (c : StationConfig) (y : Eye) : SameSpeed s (s.acceptLeading c y) := by
  simp only [State.acceptLeading]
  split <;> simp

@[simp] theorem State.acceptTrailing_speed (s : State) (c : StationConfig) (y : Eye) : SameSpeed s (s.acceptTrailing c y) := by
  simp only [State.acceptTrailing]
  (repeat' split) <;> simp

@[simp] theorem State.edgeVanished_speed (s : State) (c : StationConfig) (y : Eye) : SameSpeed s (s.edgeVanished c y) := by
  cases y <;> simp [State.edgeVanished]

@[simp] theorem State.filterStep_speed (s : State) (c : StationConfig) (y : Eye) (b : Bool) :
    SameSpeed s (s.filterStep c y b) := by
  simp only [State.filterStep]
  (repeat' split) <;> simp

@[simp] theorem State.eyeRawChange_speed (s : State) (y : Eye) (b : Bool) : SameSpeed s (s.eyeRawChange y b) := by
  simp only [State.eyeRawChange]
  (repeat' split) <;> simp

/-! Frames taken by the tracking unit, and status queries. -/

@[simp] theorem State.jamClr_speed (s : State) : SameSpeed s s.jamClr := by
  simp only [State.jamClr]
  split <;> simp

@[simp] theorem State.attachLate_speed (s : State) (c : StationConfig) (r : SegRec) (h : Handover) :
    SameSpeed s (s.attachLate c r h) := by
  simp [State.attachLate]

@[simp] theorem State.acceptHandover_speed (s : State) (c : StationConfig) (src : Source) (h : Handover) :
    SameSpeed s (s.acceptHandover c src h) := by
  simp only [State.acceptHandover]
  (repeat' split) <;> simp

@[simp] theorem State.takeHandover_speed (s : State) (c : StationConfig) (n : Nat) (h : Handover) :
    SameSpeed s (s.takeHandover c n h) := by
  simp only [State.takeHandover]
  (repeat' split) <;> simp

@[simp] theorem State.hearDownstream_speed (s : State) (c : StationConfig) (b : Bool) : SameSpeed s (s.hearDownstream c b) := by
  simp [State.hearDownstream]

@[simp] theorem State.takeSegmentState_speed (s : State) (c : StationConfig) (n v : Nat) (sp : SpeedState) (b : Bool) :
    SameSpeed s (s.takeSegmentState c n v sp b) := by
  simp only [State.takeSegmentState]
  (repeat' split) <;> simp

@[simp] theorem State.zeroGroup_speed (s : State) (n : Nat) : SameSpeed s (s.zeroGroup n) := by
  simp only [State.zeroGroup]
  split <;> simp [State.zeroFlow]

@[simp] theorem State.takeQuery_speed (s : State) (c : StationConfig) (q : Query) : SameSpeed s (s.takeQuery c q) := by
  simp only [State.takeQuery]
  (repeat' split) <;> simp

@[simp] theorem State.screenQuery_speed (s : State) (c : StationConfig) (q : Query) : SameSpeed s (s.screenQuery c q) := by
  simp only [State.screenQuery]
  split <;> simp

/-- A received frame changes the speed state and the steady count only as the block that takes it does. -/
theorem State.receive_speed {take : State → State} (h : ∀ t, SameSpeed t (take t)) (s : State) (c : StationConfig) (f : RxFrame)
    (formed : Bool) : SameSpeed s (s.receive c f formed take) := by
  simp only [State.receive]
  split <;> simp [h]

@[simp] theorem State.statusQuery_speed (s : State) (f : RxFrame) : SameSpeed s (s.statusQuery f) := by
  simp only [State.statusQuery]
  split
  · simp
  split
  · exact State.receive_speed (by simp) s _ f _
  · exact State.receive_speed (by simp) s _ f _

/-! Reads and the scanner line. -/

@[simp] theorem State.takeRace_speed (s : State) (c : StationConfig) (x : Option Race) : SameSpeed s (s.takeRace c x) := by
  simp only [State.takeRace]
  split <;> simp

@[simp] theorem State.identify_speed (s : State) (c : StationConfig) (rc : ReaderConfig) (i : Identity) (r : SegRec)
    (x : Option Race) : SameSpeed s (s.identify c rc i r x) := by
  simp [State.identify]

@[simp] theorem State.singleRead_speed (s : State) (c : StationConfig) (rc : ReaderConfig) (n : Scan) (r : SegRec)
    (x : Option Race) : SameSpeed s (s.singleRead c rc n r x) := by
  simp only [State.singleRead]
  (repeat' split) <;> simp

@[simp] theorem State.associate_speed (s : State) (c : StationConfig) (rc : ReaderConfig) (n : Scan) (x : Option Race) :
    SameSpeed s (s.associate c rc n x) := by
  simp only [State.associate]
  split <;> simp

@[simp] theorem State.receipt_speed (s : State) (c : StationConfig) (held : List Byte) (x : Option Race) :
    SameSpeed s (s.receipt c held x) := by
  simp only [State.receipt]
  (repeat' split) <;> simp

@[simp] theorem State.byteAssembling_speed (s : State) (c : StationConfig) (held : List Byte) (b : Byte) (framing : Bool)
    (x : Option Race) : SameSpeed s (s.byteAssembling c held b framing x) := by
  simp only [State.byteAssembling]
  (repeat' split) <;> simp

/-! The start of the station. -/

@[simp] theorem State.startBtu_speed (s : State) (c : StationConfig) : SameSpeed s (s.startBtu c) := ⟨rfl, rfl⟩

@[simp] theorem State.goValid_speed (s : State) (c : StationConfig) : SameSpeed s (s.goValid c) := by
  simp [State.goValid]

/-! ### The commands other than WINDOW_CLOSE and RESET -/

/-- An outcome that is a next state agrees with a state on the speed state and the steady count. -/
def KeepsSpeed (s : State) (o : Host.Outcome State Fault Refusal) : Prop := ∀ t, o = .next t → SameSpeed s t

@[simp] theorem keepsSpeed_next (s t : State) : KeepsSpeed s (.next t) ↔ SameSpeed s t :=
  ⟨fun h => h t rfl, fun h u hu => by cases hu; exact h⟩

/-! Start-up. -/

theorem execResetRelease_keepsSpeed (s : State) : KeepsSpeed s (execResetRelease s) := by
  simp only [execResetRelease]
  split <;> simp

theorem execConfigurationLoadDone_keepsSpeed (img : List Byte) (s : State) : KeepsSpeed s (execConfigurationLoadDone img s) := by
  simp only [execConfigurationLoadDone]
  (repeat' split) <;> simp [State.goInvalid]

theorem execAlertBlinkTimer_keepsSpeed (s : State) : KeepsSpeed s (execAlertBlinkTimer s) := by
  simp only [execAlertBlinkTimer]
  split <;> simp

/-! The encoder and the eyes. -/

theorem execEncoderTick_keepsSpeed (s : State) : KeepsSpeed s (execEncoderTick s) := by
  simp only [execEncoderTick]
  (repeat' split) <;> simp

theorem execEyeRawChange_keepsSpeed (y : Eye) (b : Bool) (s : State) : KeepsSpeed s (execEyeRawChange y b s) := by
  simp [execEyeRawChange]

theorem execLeadingEdgeAccepted_keepsSpeed (y : Eye) (s : State) : KeepsSpeed s (execLeadingEdgeAccepted y s) := by
  simp only [execLeadingEdgeAccepted]
  split <;> simp

theorem execTrailingEdgeAccepted_keepsSpeed (y : Eye) (s : State) : KeepsSpeed s (execTrailingEdgeAccepted y s) := by
  simp only [execTrailingEdgeAccepted]
  split <;> simp

/-! The points of a record. -/

theorem execLongBagPoint_keepsSpeed (r : RecRef) (s : State) : KeepsSpeed s (execLongBagPoint r s) := by
  simp only [execLongBagPoint]
  (repeat' split) <;> simp

theorem execLateGraceEnd_keepsSpeed (r : RecRef) (s : State) : KeepsSpeed s (execLateGraceEnd r s) := by
  simp only [execLateGraceEnd]
  (repeat' split) <;> simp

theorem execReadDecisionPoint_keepsSpeed (r : RecRef) (s : State) : KeepsSpeed s (execReadDecisionPoint r s) := by
  simp only [execReadDecisionPoint]
  (repeat' split) <;> simp

theorem execCommitPoint_keepsSpeed (d : Div) (r : RecRef) (s : State) : KeepsSpeed s (execCommitPoint d r s) := by
  simp only [execCommitPoint]
  (repeat' split) <;> simp

theorem execOverduePoint_keepsSpeed (r : RecRef) (s : State) : KeepsSpeed s (execOverduePoint r s) := by
  simp only [execOverduePoint]
  split <;> simp

/-! The diverters and the bay inputs. -/

theorem execFire_keepsSpeed (d : Div) (s : State) : KeepsSpeed s (execFire d s) := by
  simp only [execFire]
  (repeat' split) <;> simp

theorem execRelease_keepsSpeed (d : Div) (s : State) : KeepsSpeed s (execRelease d s) := by
  simp only [execRelease]
  (repeat' split) <;> simp

theorem execRecoveryEnd_keepsSpeed (d : Div) (s : State) : KeepsSpeed s (execRecoveryEnd d s) := by
  simp only [execRecoveryEnd]
  (repeat' split) <;> simp

theorem execConfirmWindowEnd_keepsSpeed (d : Div) (s : State) : KeepsSpeed s (execConfirmWindowEnd d s) := by
  simp only [execConfirmWindowEnd]
  (repeat' split) <;> simp

theorem execFullSensorChange_keepsSpeed (d : Div) (b : Bool) (s : State) : KeepsSpeed s (execFullSensorChange d b s) := by
  simp only [execFullSensorChange]
  split <;> simp

theorem execCloseSwitchChange_keepsSpeed (d : Div) (b : Bool) (s : State) : KeepsSpeed s (execCloseSwitchChange d b s) := by
  simp only [execCloseSwitchChange]
  split <;> simp

theorem execChuteClear_keepsSpeed (d : Div) (s : State) : KeepsSpeed s (execChuteClear d s) := by
  simp only [execChuteClear]
  (repeat' split) <;> simp

/-! The scanner line. -/

theorem execScanByte_keepsSpeed (b : Byte) (framing : Bool) (x : Option Race) (s : State) :
    KeepsSpeed s (execScanByte b framing x s) := by
  simp only [execScanByte]
  (repeat' split) <;> simp

theorem execScanGapTimeout_keepsSpeed (s : State) : KeepsSpeed s (execScanGapTimeout s) := by
  simp only [execScanGapTimeout]
  split <;> simp

/-! JAM_CLR and the timers. -/

theorem execJamClr_keepsSpeed (s : State) : KeepsSpeed s (execJamClr s) := by
  simp [execJamClr]

theorem execRefreshTimer_keepsSpeed (s : State) : KeepsSpeed s (execRefreshTimer s) := by
  simp only [execRefreshTimer]
  split <;> simp [State.refresh]

theorem execDownstreamSilence_keepsSpeed (s : State) : KeepsSpeed s (execDownstreamSilence s) := by
  simp only [execDownstreamSilence]
  (repeat' split) <;> simp

theorem execUpstreamSilence_keepsSpeed (src : Source) (s : State) : KeepsSpeed s (execUpstreamSilence src s) := by
  simp only [execUpstreamSilence]
  split <;> simp

theorem execMinuteTimer_keepsSpeed (s : State) : KeepsSpeed s (execMinuteTimer s) := by
  simp only [execMinuteTimer]
  split <;> simp

/-! Received frames. -/

theorem execSegmentState_keepsSpeed (f : RxFrame) (s : State) : KeepsSpeed s (execSegmentState f s) := by
  simp only [execSegmentState]
  (repeat' split) <;> simp [State.receive_speed]

theorem execHandover_keepsSpeed (f : RxFrame) (s : State) : KeepsSpeed s (execHandover f s) := by
  simp only [execHandover]
  (repeat' split) <;> simp [State.receive_speed]

theorem execDivertDone_keepsSpeed (f : RxFrame) (s : State) : KeepsSpeed s (execDivertDone f s) := by
  simp only [execDivertDone]
  (repeat' split) <;> simp [State.receive_speed]

theorem execIdentityNotice_keepsSpeed (f : RxFrame) (s : State) : KeepsSpeed s (execIdentityNotice f s) := by
  simp only [execIdentityNotice]
  (repeat' split) <;> simp [State.receive_speed]

theorem execChuteState_keepsSpeed (f : RxFrame) (s : State) : KeepsSpeed s (execChuteState f s) := by
  simp only [execChuteState]
  (repeat' split) <;> simp [State.receive_speed]

theorem execStrayNotice_keepsSpeed (f : RxFrame) (s : State) : KeepsSpeed s (execStrayNotice f s) := by
  simp only [execStrayNotice]
  split <;> simp [State.receive_speed]

theorem execStatusReply_keepsSpeed (f : RxFrame) (s : State) : KeepsSpeed s (execStatusReply f s) := by
  simp only [execStatusReply]
  split <;> simp [State.receive_speed]

theorem execStatusQuery_keepsSpeed (f : RxFrame) (s : State) : KeepsSpeed s (execStatusQuery f s) := by
  simp [execStatusQuery]

theorem execUnknownKind_keepsSpeed (k : BitVec 3) (f : RxFrame) (s : State) : KeepsSpeed s (execUnknownKind k f s) := by
  simp only [execUnknownKind]
  (repeat' split) <;> simp [State.receive_speed]

theorem execRxMalformed_keepsSpeed (bits : List Bool) (s : State) : KeepsSpeed s (execRxMalformed bits s) := by
  simp only [execRxMalformed]
  (repeat' split) <;> simp

/-! The station's own frames and the line. -/

theorem execFrameStart_keepsSpeed (s : State) : KeepsSpeed s (execFrameStart s) := by
  simp only [execFrameStart]
  (repeat' split) <;> simp

theorem execAttemptEnd_keepsSpeed (bits : List Bool) (s : State) : KeepsSpeed s (execAttemptEnd bits s) := by
  simp only [execAttemptEnd]
  (repeat' split) <;> simp

theorem execHandoverStale_keepsSpeed (s : State) : KeepsSpeed s (execHandoverStale s) := by
  simp only [execHandoverStale]
  (repeat' split) <;> simp

theorem execQuietTimer_keepsSpeed (s : State) : KeepsSpeed s (execQuietTimer s) := by
  simp only [execQuietTimer]
  split <;> simp

theorem execLineFault_keepsSpeed (s : State) : KeepsSpeed s (execLineFault s) := by
  simp only [execLineFault]
  split <;> simp

theorem execLineFaultExit_keepsSpeed (s : State) : KeepsSpeed s (execLineFaultExit s) := by
  simp only [execLineFaultExit]
  (repeat' split) <;> simp

/-- No command but WINDOW_CLOSE and RESET changes the speed state or the steady count (R6). -/
theorem exec_keepsSpeed {i : Instr} (hw : i ≠ .windowClose) (hr : i ≠ .reset) (s : State) : KeepsSpeed s (exec i s) := by
  cases i with
  | reset => exact absurd rfl hr
  | windowClose => exact absurd rfl hw
  | resetRelease => exact execResetRelease_keepsSpeed s
  | configurationLoadDone img => exact execConfigurationLoadDone_keepsSpeed img s
  | alertBlinkTimer => exact execAlertBlinkTimer_keepsSpeed s
  | encoderTick => exact execEncoderTick_keepsSpeed s
  | eyeRawChange y b => exact execEyeRawChange_keepsSpeed y b s
  | leadingEdgeAccepted y => exact execLeadingEdgeAccepted_keepsSpeed y s
  | trailingEdgeAccepted y => exact execTrailingEdgeAccepted_keepsSpeed y s
  | longBagPoint r => exact execLongBagPoint_keepsSpeed r s
  | lateGraceEnd r => exact execLateGraceEnd_keepsSpeed r s
  | readDecisionPoint r => exact execReadDecisionPoint_keepsSpeed r s
  | commitPoint d r => exact execCommitPoint_keepsSpeed d r s
  | overduePoint r => exact execOverduePoint_keepsSpeed r s
  | fire d => exact execFire_keepsSpeed d s
  | release d => exact execRelease_keepsSpeed d s
  | recoveryEnd d => exact execRecoveryEnd_keepsSpeed d s
  | confirmWindowEnd d => exact execConfirmWindowEnd_keepsSpeed d s
  | handoverStale => exact execHandoverStale_keepsSpeed s
  | scanByte b framing x => exact execScanByte_keepsSpeed b framing x s
  | scanGapTimeout => exact execScanGapTimeout_keepsSpeed s
  | fullSensorChange d b => exact execFullSensorChange_keepsSpeed d b s
  | closeSwitchChange d b => exact execCloseSwitchChange_keepsSpeed d b s
  | chuteClear d => exact execChuteClear_keepsSpeed d s
  | jamClr => exact execJamClr_keepsSpeed s
  | refreshTimer => exact execRefreshTimer_keepsSpeed s
  | downstreamSilence => exact execDownstreamSilence_keepsSpeed s
  | upstreamSilence src => exact execUpstreamSilence_keepsSpeed src s
  | minuteTimer => exact execMinuteTimer_keepsSpeed s
  | segmentState f => exact execSegmentState_keepsSpeed f s
  | handover f => exact execHandover_keepsSpeed f s
  | divertDone f => exact execDivertDone_keepsSpeed f s
  | identityNotice f => exact execIdentityNotice_keepsSpeed f s
  | chuteState f => exact execChuteState_keepsSpeed f s
  | strayNotice f => exact execStrayNotice_keepsSpeed f s
  | statusQuery f => exact execStatusQuery_keepsSpeed f s
  | statusReply f => exact execStatusReply_keepsSpeed f s
  | unknownKind k f => exact execUnknownKind_keepsSpeed k f s
  | frameStart => exact execFrameStart_keepsSpeed s
  | attemptEnd bits => exact execAttemptEnd_keepsSpeed bits s
  | quietTimer => exact execQuietTimer_keepsSpeed s
  | lineFault => exact execLineFault_keepsSpeed s
  | lineFaultExit => exact execLineFaultExit_keepsSpeed s
  | rxMalformed bits => exact execRxMalformed_keepsSpeed bits s

/-! ### The window close -/

theorem exec_windowClose {s : State} {c : StationConfig} (h : s.cfg = some c) :
    exec .windowClose s = .next (s.windowClose c) := by
  show execWindowClose s = _
  simp only [execWindowClose, h]

/-- What follows the closing of the window (the withdrawals of R7, the SEGMENT_STATE of R8, the expect list of R45) keeps the speed
figure, the speed state and the steady count that the closing gave. -/
theorem State.windowClose_speed (s : State) (c : StationConfig) :
    (s.windowClose c).btu.v = (s.btu.closeWindow c).v ∧ (s.windowClose c).btu.speed = (s.btu.closeWindow c).speed ∧
      (s.windowClose c).btu.steadyCount = (s.btu.closeWindow c).steadyCount := by
  simp only [State.windowClose]
  (repeat' split) <;> simp

/-- A window close takes the speed state and the steady count from the table of R6, for the figure just formed and the one before. -/
theorem State.windowClose_speedUpdate (s : State) (c : StationConfig) :
    ((s.windowClose c).btu.speed, (s.windowClose c).btu.steadyCount)
      = speedUpdate c (s.windowClose c).btu.v s.btu.v s.btu.speed s.btu.steadyCount := by
  obtain ⟨hv, hspeed, hcount⟩ := s.windowClose_speed c
  rw [hv, hspeed, hcount]
  rfl

/-! ### The statement -/

/-- Settles O11: the rows of R6 read off `speedUpdate`, and every other command's frame. -/
theorem speedStateFollowsItsTable : Obligations.SpeedStateFollowsItsTable := by
  intro c i s hc
  have htable := s.windowClose_speedUpdate c
  refine ⟨⟨s.windowClose c, exec_windowClose hc, ?stopped, ?started, ?within, ?beyond⟩, rfl, rfl,
    fun hw hr => exec_keepsSpeed hw hr s⟩
  case stopped =>
    intro hstop
    rw [speedUpdate_of_le_vStop hstop] at htable
    exact Prod.mk.inj htable
  case started =>
    intro hrun hst
    rw [hst, speedUpdate_of_stopped hrun] at htable
    exact Prod.mk.inj htable
  case within =>
    intro hrun hst hup hdown
    rw [speedUpdate_of_within hrun hst ⟨hup, hdown⟩] at htable
    obtain ⟨hspeed, hcount⟩ := Prod.mk.inj htable
    exact ⟨hcount, hcount ▸ hspeed⟩
  case beyond =>
    intro hrun hst hout
    rw [speedUpdate_of_beyond hrun hst hout] at htable
    exact Prod.mk.inj htable

end Sys2Proof.Machine
end

section
/-! SUPPORT. Segment tracking: what a due trailing edge does in its filter, and what the entry eye's does with no record open. -/

namespace Sys2Proof.Machine

open Sys2Proof

/-! ### The trailing edge in its filter -/

theorem exec_trailingEdgeAccepted {s : State} {c : StationConfig} (h : s.cfg = some c) (y : Eye) :
    exec (.trailingEdgeAccepted y) s = .next (s.acceptTrailing c y) := by
  show execTrailingEdgeAccepted y s = _
  simp only [execTrailingEdgeAccepted, h]

/-- A due trailing edge clears its filter and goes to the eye's owner (R12, R14). -/
theorem State.acceptTrailing_of_not_mute {s : State} {c : StationConfig} {y : Eye} (hst : (s.btu.filter y).st = .clearing)
    (hdue : c.gf ≤ fwd (s.btu.filter y).raw s.btu.e) (hmute : (s.btu.filter y).mute = false) :
    s.acceptTrailing c y
      = (s.setFilter y ⟨.clear, (s.btu.filter y).raw, false⟩).deliverTrailing c y (s.btu.filter y).raw := by
  simp only [State.acceptTrailing, hst, hdue, hmute, and_self, if_true, Bool.false_eq_true, if_false]

/-- The first trailing edge of a filter that started in BLOCKED clears the filter and reaches nothing (R13). -/
theorem State.acceptTrailing_of_mute {s : State} {c : StationConfig} {y : Eye} (hst : (s.btu.filter y).st = .clearing)
    (hdue : c.gf ≤ fwd (s.btu.filter y).raw s.btu.e) (hmute : (s.btu.filter y).mute = true) :
    s.acceptTrailing c y = s.setFilter y ⟨.clear, (s.btu.filter y).raw, false⟩ := by
  simp only [State.acceptTrailing, hst, hdue, hmute, and_self, if_true]

/-! ### The entry eye's trailing edge with no record open -/

theorem State.setGapRef_of_openRec_none {s : State} (h : s.btu.openRec = none) (n : Count) :
    s.setGapRef n
      = s.setBtu { s.btu with gapRef := if s.btu.skipTrailing then .lost else .count n, skipTrailing := false } := by
  simp only [State.setGapRef, h]

/-- With no record open there is nothing to measure: the gap reference alone is set (R24). -/
theorem State.entryTrailing_of_openRec_none {s : State} (h : s.btu.openRec = none) (c : StationConfig) (n : Count) :
    s.entryTrailing c n
      = s.setBtu { s.btu with gapRef := if s.btu.skipTrailing then .lost else .count n, skipTrailing := false } := by
  rw [← State.setGapRef_of_openRec_none h]
  simp only [State.entryTrailing, h]

/-- Settles O18: the edge clears its filter; delivered, it finds no open record and sets the gap reference (R24), and muted
by a start in BLOCKED it is not delivered (R13). -/
theorem trailingEdgeWithoutOpenRecord : Obligations.TrailingEdgeWithoutOpenRecord := by
  intro c s hc hst hdue hopen
  constructor
  case left =>
    intro hmute
    have haccept := State.acceptTrailing_of_not_mute (y := .entry) hst hdue hmute
    have hopen' : (s.setFilter .entry ⟨.clear, s.btu.fEntry.raw, false⟩).btu.openRec = none := by simpa using hopen
    exact ⟨_, exec_trailingEdgeAccepted hc .entry, haccept.trans (State.entryTrailing_of_openRec_none hopen' c _)⟩
  case right =>
    intro hmute
    exact ⟨_, exec_trailingEdgeAccepted hc .entry, State.acceptTrailing_of_mute (y := .entry) hst hdue hmute⟩

end Sys2Proof.Machine
end

section
/-! SUPPORT. Handover and the expect list: which expect record an entry arrival is matched to, and what the matched arrival's
join leaves in the queue and the expect list. -/

namespace Sys2Proof.Machine

open Sys2Proof

/-! ### Candidates and the match -/

/-- A candidate written out: the oldest of the source's records whose whole ticks lie within its tolerance (R46, R48). -/
theorem candidate_eq_find? (xs : List ExpectRec) (src : Source) :
    candidate xs src = xs.find? fun x => x.source == src && decide ((x.drem.tdiv 8).natAbs ≤ x.tol) := rfl

theorem candidate_mem {xs : List ExpectRec} {src : Source} {x : ExpectRec} (h : candidate xs src = some x) : x ∈ xs :=
  List.mem_of_find?_eq_some h

theorem candidate_source {xs : List ExpectRec} {src : Source} {x : ExpectRec} (h : candidate xs src = some x) :
    x.source = src := by
  have hx := List.find?_some h
  simp only [Bool.and_eq_true, beq_iff_eq] at hx
  exact hx.1

/-- One source's candidate stays in the list when the other's leaves it (R49). -/
theorem candidate_mem_erase {xs : List ExpectRec} {src src' : Source} {x y : ExpectRec} (hx : candidate xs src = some x)
    (hy : candidate xs src' = some y) (hne : src ≠ src') : y ∈ xs.erase x := by
  have hyx : y ≠ x := by
    rintro rfl
    exact hne ((candidate_source hx).symm.trans (candidate_source hy))
  exact (List.mem_erase_of_ne hyx).mpr (candidate_mem hy)

section
variable {c : StationConfig} {xs : List ExpectRec} {x y : ExpectRec}

theorem matchArrival_of_only_a (ha : candidate xs .a = some x) (hb : candidate xs .b = none) :
    matchArrival c xs = some x := by
  simp only [matchArrival, ha, hb]

theorem matchArrival_of_only_b (ha : candidate xs .a = none) (hb : candidate xs .b = some y) :
    matchArrival c xs = some y := by
  simp only [matchArrival, ha, hb]

/-- Of two candidates, A's is matched when it is nearer, or as near with A the priority source (R49). -/
theorem matchArrival_of_prefers_a (ha : candidate xs .a = some x) (hb : candidate xs .b = some y)
    (h : x.drem.natAbs < y.drem.natAbs ∨ (x.drem.natAbs = y.drem.natAbs ∧ c.priority = .a)) :
    matchArrival c xs = some x := by
  simp only [matchArrival, ha, hb]
  rcases h with hlt | ⟨heq, hprio⟩
  · rw [if_pos hlt]
  · rw [if_neg (by omega), if_neg (by omega), if_pos hprio]

/-- Of two candidates, B's is matched when it is nearer, or as near with B the priority source (R49). -/
theorem matchArrival_of_prefers_b (ha : candidate xs .a = some x) (hb : candidate xs .b = some y)
    (h : y.drem.natAbs < x.drem.natAbs ∨ (x.drem.natAbs = y.drem.natAbs ∧ c.priority = .b)) :
    matchArrival c xs = some y := by
  simp only [matchArrival, ha, hb]
  rcases h with hlt | ⟨heq, hprio⟩
  · rw [if_neg (by omega), if_pos hlt]
  · rw [if_neg (by omega), if_neg (by omega), if_neg (by simp [hprio])]

end

/-! ### The origins and identities in the queue, and the operations that leave them -/

/-- Where a record came from and the identity it bears (R16). -/
def SegRec.bearing (r : SegRec) : Origin × Option Identity := (r.origin, r.ident)

/-- The origins and identities of the queue's records, oldest first. -/
def State.bearings (s : State) : List (Origin × Option Identity) := s.btu.queue.map SegRec.bearing

@[simp] theorem State.bump_bearings (s : State) (k : Ctr) : (s.bump k).bearings = s.bearings := rfl

@[simp] theorem State.setDiv_bearings (s : State) (d : Div) (x : Diverter) : (s.setDiv d x).bearings = s.bearings := rfl

@[simp] theorem State.queueFrame_bearings (s : State) (f : Frame) : (s.queueFrame f).bearings = s.bearings := by
  simp [State.bearings]

theorem State.mapRec_bearings {f : SegRec → SegRec} (hf : ∀ r, (f r).bearing = r.bearing) (s : State) (ref : RecRef) :
    (s.mapRec ref f).bearings = s.bearings := by
  simp only [State.bearings, State.mapRec_btu, List.map_map]
  refine List.map_congr_left fun r _ => ?_
  simp only [Function.comp_apply]
  split
  · exact hf r
  · rfl

theorem State.updateRec_bearings {f : SegRec → SegRec} (hf : ∀ r, (f r).bearing = r.bearing) (s : State) (ref : RecRef) :
    (s.updateRec ref f).bearings = s.bearings := by
  simp only [State.updateRec]
  split
  · exact s.mapRec_bearings hf ref
  · rfl

@[simp] theorem State.withdraw_bearings (s : State) (d : Div) (k : Ctr) (p : Grant → Bool) :
    (s.withdraw d k p).bearings = s.bearings := by
  have hkeep : ∀ (t : State) (g : Grant),
      ((t.updateRec g.ref fun r => { r with divert := .withdrawn }).bump k).bearings = t.bearings :=
    fun t g => t.updateRec_bearings (f := fun r => { r with divert := .withdrawn }) (fun _ => rfl) g.ref
  rw [State.withdraw, foldl_keeps State.bearings _ hkeep, State.setDiv_bearings]

@[simp] theorem State.tellDestination_bearings (s : State) (c : StationConfig) (ref : RecRef) (dest : Option Nat) :
    (s.tellDestination c ref dest).bearings = s.bearings := by
  simp only [State.tellDestination]
  (repeat' split) <;> simp

@[simp] theorem State.offer_bearings (s : State) (c : StationConfig) (ref : RecRef) (x : Reason) :
    (s.offer c ref x).bearings = s.bearings := by
  have hset : (s.mapRec ref fun q => { q with reason := some x, dest := some c.problem }).bearings = s.bearings :=
    s.mapRec_bearings (f := fun q => { q with reason := some x, dest := some c.problem }) (fun _ => rfl) ref
  simp only [State.offer]
  (repeat' split) <;> simp [hset]

@[simp] theorem State.testPasses_bearings (s : State) (c : StationConfig) (ref : RecRef) :
    (s.testPasses c ref).bearings = s.bearings := by
  have hclamp : (s.mapRec ref fun q => { q with passes := c.maxPasses }).bearings = s.bearings :=
    s.mapRec_bearings (f := fun q => { q with passes := c.maxPasses }) (fun _ => rfl) ref
  simp only [State.testPasses]
  (repeat' split) <;> simp [hclamp]

/-- The youngest record bears what stands last among the bearings. -/
theorem State.getLast?_of_bearings {s : State} {l : List (Origin × Option Identity)} {o : Origin} {i : Option Identity}
    (h : s.bearings = l ++ [(o, i)]) : ∃ r ∈ s.btu.queue.getLast?, r.origin = o ∧ r.ident = i := by
  have hlast : s.btu.queue.getLast?.map SegRec.bearing = some (o, i) := by
    rw [← List.getLast?_map, ← State.bearings, h, List.getLast?_concat]
  obtain ⟨r, hr, hbear⟩ := Option.map_eq_some_iff.mp hlast
  exact ⟨r, hr, congrArg Prod.fst hbear, congrArg Prod.snd hbear⟩

/-! ### The join of a matched arrival -/

@[simp] theorem State.join_bearings (s : State) (c : StationConfig) (r : SegRec) :
    (s.join c r).bearings = s.bearings ++ [r.bearing] := by
  simp [State.join, State.bearings]

@[simp] theorem State.join_expects (s : State) (c : StationConfig) (r : SegRec) :
    (s.join c r).btu.expects = s.btu.expects := by
  simp [State.join]

/-- The matched record leaves the expect list (R50). -/
theorem State.joinAnnounced_expects (s : State) (c : StationConfig) (n : Count) (x : ExpectRec) :
    (s.joinAnnounced c n x).btu.expects = s.btu.expects.erase x := by
  simp only [State.joinAnnounced]
  split <;> simp [State.dropExpect]

/-- The new record stands last, announced and with the identity of its expect record (R50). -/
theorem State.joinAnnounced_bearings (s : State) (c : StationConfig) (n : Count) (x : ExpectRec) :
    (s.joinAnnounced c n x).bearings = s.bearings ++ [(.announced, x.ident)] := by
  have hnew : (announcedRec c s n x).bearing = (.announced, x.ident) := rfl
  have hdrop : (s.dropExpect x).bearings = s.bearings := rfl
  simp only [State.joinAnnounced]
  split <;> simp [hnew, hdrop]

/-! ### The entry eye's leading edge, down to the join -/

theorem exec_leadingEdgeAccepted {s : State} {c : StationConfig} (h : s.cfg = some c) (y : Eye) :
    exec (.leadingEdgeAccepted y) s = .next (s.acceptLeading c y) := by
  show execLeadingEdgeAccepted y s = _
  simp only [execLeadingEdgeAccepted, h]

/-- A due leading edge blocks its filter and goes to the eye's owner (R11, R14). -/
theorem State.acceptLeading_of_due {s : State} {c : StationConfig} {y : Eye} (hst : (s.btu.filter y).st = .blocking)
    (hdue : c.gf ≤ fwd (s.btu.filter y).raw s.btu.e) :
    s.acceptLeading c y
      = (s.setFilter y { s.btu.filter y with st := .blocked }).deliverLeading c y (s.btu.filter y).raw := by
  simp only [State.acceptLeading, hst, hdue, and_self, if_true]

/-- An arrival at a count that no record holds, with room in the queue, opens a record (R19). -/
theorem State.entryArrival_of_new {s : State} {n : Count} (hroom : s.btu.queue.length < 16)
    (hnew : ∀ q ∈ s.btu.queue, q.ein ≠ n) (c : StationConfig) : s.entryArrival c n = s.openArrival c n := by
  have hfind : s.btu.queue.find? (·.ein == n) = none := by
    simpa using hnew
  rw [State.entryArrival, if_neg (show ¬ maxRecords ≤ s.btu.queue.length from Nat.not_le.mpr hroom), hfind]

/-- An arrival that opens a record and has a match joins with the fields of the matched record (R50). -/
theorem State.entryArrival_of_match {s : State} {c : StationConfig} {n : Count} {x : ExpectRec}
    (hroom : s.btu.queue.length < 16) (hnew : ∀ q ∈ s.btu.queue, q.ein ≠ n) (hfeed : c.feedStart = false)
    (hx : matchArrival c s.btu.expects = some x) : s.entryArrival c n = s.joinAnnounced c n x := by
  rw [State.entryArrival_of_new hroom hnew]
  simp [State.openArrival, hfeed, hx]

/-- A due entry edge with a match takes the matched record out of the expect list and its identity into the queue (R49, R50). -/
theorem exec_entryEdge_of_match {s : State} {c : StationConfig} {x : ExpectRec} (hc : s.cfg = some c)
    (hst : s.btu.fEntry.st = .blocking) (hdue : c.gf ≤ fwd s.btu.fEntry.raw s.btu.e) (hfeed : c.feedStart = false)
    (hroom : s.btu.queue.length < 16) (hnew : ∀ q ∈ s.btu.queue, q.ein ≠ s.btu.fEntry.raw)
    (hx : matchArrival c s.btu.expects = some x) :
    ∃ t, exec (.leadingEdgeAccepted .entry) s = .next t ∧ t.btu.expects = s.btu.expects.erase x
      ∧ ∃ r ∈ t.btu.queue.getLast?, r.origin = .announced ∧ r.ident = x.ident := by
  have haccept : s.acceptLeading c .entry
      = (s.setFilter .entry { s.btu.fEntry with st := .blocked }).joinAnnounced c s.btu.fEntry.raw x :=
    (State.acceptLeading_of_due (y := .entry) hst hdue).trans
      (State.entryArrival_of_match (s := s.setFilter .entry { s.btu.fEntry with st := .blocked }) hroom hnew hfeed hx)
  refine ⟨_, (exec_leadingEdgeAccepted hc .entry).trans (congrArg _ haccept), ?_, ?_⟩
  · exact State.joinAnnounced_expects _ c _ x
  · exact State.getLast?_of_bearings (State.joinAnnounced_bearings _ c _ x)

/-- Settles O16: the four rows of R49 give the match, and the join of a matched arrival gives the rest. -/
theorem arrivalIsMatchedByDistance : Obligations.ArrivalIsMatchedByDistance := by
  intro c s hc _ hst hdue hfeed hroom hnew
  simp only [← candidate_eq_find?, Option.mem_def]
  have harrive {x : ExpectRec} (hx : matchArrival c s.btu.expects = some x) :=
    exec_entryEdge_of_match hc hst hdue hfeed hroom hnew hx
  refine ⟨?onlyA, ?onlyB, ?both⟩
  case onlyA =>
    intro x ha hb
    exact harrive (matchArrival_of_only_a ha hb)
  case onlyB =>
    intro y hb ha
    exact harrive (matchArrival_of_only_b ha hb)
  case both =>
    intro x ha y hb
    constructor
    · intro hprefer
      obtain ⟨t, hexec, hexpects, hlast⟩ := harrive (matchArrival_of_prefers_a ha hb hprefer)
      exact ⟨t, hexec, hexpects, hexpects ▸ candidate_mem_erase ha hb (by decide), hlast⟩
    · intro hprefer
      obtain ⟨t, hexec, hexpects, hlast⟩ := harrive (matchArrival_of_prefers_b ha hb hprefer)
      exact ⟨t, hexec, hexpects, hexpects ▸ candidate_mem_erase hb ha (by decide), hlast⟩

end Sys2Proof.Machine
end

section
/-! SUPPORT. The outbound queue as a list: what the queuing of a frame makes of it (10.4), and its order and classes. -/

namespace Sys2Proof.Machine

open Sys2Proof

/-- The queue after a frame is queued (R166, R167, R168). -/
def enqueue (f : Frame) (q : List OutFrame) : List OutFrame :=
  if q.any (·.absorbs f) then (replaceFrame f q).map (·.overtakenBy f)
  else if q.length < maxFrames then (insertFrame (.fresh f) q).map (·.overtakenBy f)
  else if f.kind < highestWaiting q then (insertFrame (.fresh f) (dropYoungest (highestWaiting q) q)).map (·.overtakenBy f)
  else q

/-- Queuing a frame moves of the line controller the queue alone. -/
theorem State.queueFrame_hlc (s : State) (f : Frame) : (s.queueFrame f).hlc = { s.hlc with queue := enqueue f s.hlc.queue } := by
  simp only [State.queueFrame, enqueue]
  (repeat' split) <;> simp [State.joinFrame]

@[simp] theorem State.queueFrame_queue (s : State) (f : Frame) : (s.queueFrame f).hlc.queue = enqueue f s.hlc.queue := by
  rw [State.queueFrame_hlc]

@[simp] theorem State.queueSegmentState_queue (s : State) :
    s.queueSegmentState.hlc.queue = enqueue (.segmentState s.btu.v s.btu.speed s.btu.blockedFlag) s.hlc.queue :=
  State.queueFrame_queue s _

/-! ### Classes -/

theorem Frame.sameClass_symm (f g : Frame) : f.sameClass g = g.sameClass f := by
  cases f <;> cases g <;> simp only [Frame.sameClass]
  exact BEq.comm

theorem Frame.sameClass_trans {f g h : Frame} (hfg : f.sameClass g = true) (hgh : g.sameClass h = true) : f.sameClass h = true := by
  cases f <;> cases g <;> cases h <;> simp_all [Frame.sameClass]

/-- Frames of one class are of one kind (R167). -/
theorem Frame.kind_eq_of_sameClass {f g : Frame} (h : f.sameClass g = true) : f.kind = g.kind := by
  unfold Frame.sameClass at h
  split at h
  case h_4 => cases h
  all_goals rfl

@[simp] theorem OutFrame.overtakenBy_frame (f : Frame) (o : OutFrame) : (o.overtakenBy f).frame = o.frame := by
  unfold OutFrame.overtakenBy; split <;> rfl

@[simp] theorem OutFrame.overtakenBy_sending (f : Frame) (o : OutFrame) : (o.overtakenBy f).sending = o.sending := by
  unfold OutFrame.overtakenBy; split <;> rfl

@[simp] theorem OutFrame.overtakenBy_kind (f : Frame) (o : OutFrame) : (o.overtakenBy f).kind = o.kind := by simp [OutFrame.kind]

/-- A waiting frame is not marked. -/
theorem OutFrame.overtakenBy_of_waiting {o : OutFrame} (h : o.sending = false) (f : Frame) : o.overtakenBy f = o := by
  simp [OutFrame.overtakenBy, h]

theorem OutFrame.absorbs_iff {f : Frame} {o : OutFrame} : o.absorbs f = true ↔ o.sending = false ∧ f.sameClass o.frame = true := by
  simp [OutFrame.absorbs]

@[simp] theorem OutFrame.fresh_frame (f : Frame) : (OutFrame.fresh f).frame = f := rfl

@[simp] theorem OutFrame.fresh_sending (f : Frame) : (OutFrame.fresh f).sending = false := rfl

@[simp] theorem OutFrame.fresh_kind (f : Frame) : (OutFrame.fresh f).kind = f.kind := rfl

/-! ### Members -/

theorem mem_insertFrame {f o : OutFrame} {q : List OutFrame} : o ∈ insertFrame f q ↔ o = f ∨ o ∈ q := by
  induction q with
  | nil => simp [insertFrame]
  | cons x xs ih =>
    simp only [insertFrame]
    split
    · simp only [List.mem_cons, ih]; tauto
    · simp

theorem mem_reinsertFrame {f o : OutFrame} {q : List OutFrame} : o ∈ reinsertFrame f q ↔ o = f ∨ o ∈ q := by
  induction q with
  | nil => simp [reinsertFrame]
  | cons x xs ih =>
    simp only [reinsertFrame]
    split
    · simp only [List.mem_cons, ih]; tauto
    · simp

theorem mem_of_mem_replaceFrame {f : Frame} {o : OutFrame} {q : List OutFrame} (h : o ∈ replaceFrame f q) :
    (o = .fresh f ∧ ∃ p ∈ q, p.absorbs f = true) ∨ o ∈ q := by
  induction q with
  | nil => simp [replaceFrame] at h
  | cons x xs ih =>
    simp only [replaceFrame] at h
    split at h
    · rename_i ha
      rcases List.mem_cons.1 h with rfl | h
      · exact Or.inl ⟨rfl, x, by simp, ha⟩
      · exact Or.inr (by simp [h])
    · rcases List.mem_cons.1 h with rfl | h
      · exact Or.inr (by simp)
      · rcases ih h with ⟨rfl, p, hp, ha⟩ | h
        · exact Or.inl ⟨rfl, p, by simp [hp], ha⟩
        · exact Or.inr (by simp [h])

theorem fresh_mem_replaceFrame {f : Frame} {q : List OutFrame} (h : q.any (·.absorbs f) = true) : .fresh f ∈ replaceFrame f q := by
  induction q with
  | nil => simp at h
  | cons x xs ih =>
    simp only [replaceFrame]
    split
    · simp
    · rename_i hx
      simp only [List.any_cons, hx, Bool.false_or] at h
      exact List.mem_cons_of_mem _ (ih h)

theorem length_insertFrame (f : OutFrame) (q : List OutFrame) : (insertFrame f q).length = q.length + 1 := by
  induction q with
  | nil => rfl
  | cons x xs ih => simp only [insertFrame]; split <;> simp [ih]

theorem length_reinsertFrame (f : OutFrame) (q : List OutFrame) : (reinsertFrame f q).length = q.length + 1 := by
  induction q with
  | nil => rfl
  | cons x xs ih => simp only [reinsertFrame]; split <;> simp [ih]

theorem length_replaceFrame (f : Frame) (q : List OutFrame) : (replaceFrame f q).length = q.length := by
  induction q with
  | nil => rfl
  | cons x xs ih => simp only [replaceFrame]; split <;> simp [ih]

/-- The fold that finds the highest kind, begun at a kind. -/
theorem highestWaiting_fold (q : List OutFrame) (m : Nat) :
    m ≤ q.foldl (fun m o => if o.sending then m else max m o.kind) m
      ∧ (q.foldl (fun m o => if o.sending then m else max m o.kind) m = m
        ∨ ∃ o ∈ q, o.sending = false ∧ o.kind = q.foldl (fun m o => if o.sending then m else max m o.kind) m) := by
  induction q generalizing m with
  | nil => simp
  | cons x xs ih =>
    simp only [List.foldl_cons, List.mem_cons, exists_eq_or_imp]
    by_cases hx : x.sending
    · obtain ⟨h1, h2⟩ := ih m
      simp only [hx, if_true]
      exact ⟨h1, h2.imp id Or.inr⟩
    · obtain ⟨h1, h2⟩ := ih (max m x.kind)
      simp only [hx]
      refine ⟨le_trans (le_max_left ..) h1, ?_⟩
      rcases h2 with h2 | h2
      · rcases le_total m x.kind with h | h
        · right; left; rw [if_neg (by simp), h2]; simp [h]
        · left; rw [if_neg (by simp), h2]; simp [h]
      · exact Or.inr (Or.inr h2)

/-- A frame of a kind above 0 that waits highest is in the queue. -/
theorem exists_highestWaiting {q : List OutFrame} (h : 0 < highestWaiting q) :
    ∃ o ∈ q, o.sending = false ∧ o.kind = highestWaiting q :=
  (highestWaiting_fold q 0).2.resolve_left (by unfold highestWaiting at h; omega)

theorem dropYoungest_sublist (k : Nat) (q : List OutFrame) : (dropYoungest k q).Sublist q := by
  simpa [dropYoungest] using (List.eraseP_sublist (p := fun o : OutFrame => !o.sending && o.kind == k) (l := q.reverse)).reverse

theorem length_dropYoungest {k : Nat} {q : List OutFrame} (h : ∃ o ∈ q, o.sending = false ∧ o.kind = k) :
    (dropYoungest k q).length = q.length - 1 := by
  obtain ⟨o, ho, hs, hk⟩ := h
  rw [dropYoungest, List.length_reverse,
    List.length_eraseP_of_mem (a := o) (by simpa using ho) (by simp [hs, hk]), List.length_reverse]

/-! ### What queuing does -/

/-- The queue keeps within its places (R165). -/
theorem length_enqueue_le (f : Frame) {q : List OutFrame} (h : q.length ≤ 8) : (enqueue f q).length ≤ 8 := by
  unfold enqueue
  split
  · simpa [length_replaceFrame] using h
  · split
    · rename_i hq; simpa [length_insertFrame, maxFrames] using hq
    · split
      · rename_i hk
        rw [List.length_map, length_insertFrame, length_dropYoungest (exists_highestWaiting (by omega))]
        omega
      · exact h

/-- Queuing in a queue with room takes at most one place. -/
theorem length_enqueue_le_succ (f : Frame) (q : List OutFrame) : (enqueue f q).length ≤ q.length + 1 := by
  unfold enqueue
  split
  · simp [length_replaceFrame]
  · split
    · simp [length_insertFrame]
    · split
      · rename_i hk
        rw [List.length_map, length_insertFrame, length_dropYoungest (exists_highestWaiting (by omega))]
        omega
      · omega

/-- In a queue with room a frame that is queued waits there (R166, R167). -/
theorem enqueue_room {f : Frame} {q : List OutFrame} (h : q.length < 8) : .fresh f ∈ enqueue f q := by
  have hf : (OutFrame.fresh f).overtakenBy f = .fresh f := OutFrame.overtakenBy_of_waiting rfl f
  unfold enqueue
  split
  · rename_i ha
    exact List.mem_map.2 ⟨_, fresh_mem_replaceFrame ha, hf⟩
  · rw [if_pos (by simpa [maxFrames] using h)]
    exact List.mem_map.2 ⟨_, mem_insertFrame.2 (Or.inl rfl), hf⟩

/-- A frame found in the queue afterwards is the new one or was there, perhaps now marked as overtaken. -/
theorem mem_of_mem_enqueue {f : Frame} {o : OutFrame} {q : List OutFrame} (h : o ∈ enqueue f q) :
    o = .fresh f ∨ o ∈ q ∨ ∃ p ∈ q, o = p.overtakenBy f := by
  have hf : (OutFrame.fresh f).overtakenBy f = .fresh f := OutFrame.overtakenBy_of_waiting rfl f
  have mapped : ∀ l : List OutFrame, (∀ p ∈ l, p = .fresh f ∨ p ∈ q) → o ∈ l.map (·.overtakenBy f) →
      o = .fresh f ∨ o ∈ q ∨ ∃ p ∈ q, o = p.overtakenBy f := by
    intro l hl ho
    obtain ⟨p, hp, rfl⟩ := List.mem_map.1 ho
    rcases hl p hp with rfl | hq
    · exact Or.inl hf
    · exact Or.inr (Or.inr ⟨p, hq, rfl⟩)
  unfold enqueue at h
  split at h
  · exact mapped _ (fun p hp => (mem_of_mem_replaceFrame hp).imp And.left id) h
  · split at h
    · exact mapped _ (fun p hp => mem_insertFrame.1 hp) h
    · split at h
      · exact mapped _ (fun p hp => (mem_insertFrame.1 hp).imp id fun k => (dropYoungest_sublist _ _).subset k) h
      · exact Or.inr (Or.inl h)

/-- A waiting frame of another class that is found afterwards was there, and a frame of another kind in any case. -/
theorem mem_of_mem_enqueue_of_kind_ne {f : Frame} {o : OutFrame} {q : List OutFrame} (h : o ∈ enqueue f q) (hk : o.kind ≠ f.kind) :
    o ∈ q := by
  rcases mem_of_mem_enqueue h with rfl | hq | ⟨p, hp, rfl⟩
  · exact absurd rfl hk
  · exact hq
  · rw [OutFrame.overtakenBy_kind] at hk
    have : f.sameClass p.frame = false := Bool.eq_false_iff.2 fun e => hk (Frame.kind_eq_of_sameClass e).symm
    simpa [OutFrame.overtakenBy, this] using hp

/-- In a queue with room a waiting frame stays where no frame of its class is queued. -/
theorem mem_enqueue_of_mem {f : Frame} {o : OutFrame} {q : List OutFrame} (h : o ∈ q) (hroom : q.length < 8)
    (hc : f.sameClass o.frame = false) : o ∈ enqueue f q := by
  have ho : o.overtakenBy f = o := by simp [OutFrame.overtakenBy, hc]
  have keeps : o ∈ replaceFrame f q := by
    clear hroom
    induction q with
    | nil => cases h
    | cons x xs ih =>
      simp only [replaceFrame]
      rcases List.mem_cons.1 h with rfl | h
      · rw [if_neg (by simp [OutFrame.absorbs, hc])]; simp
      · split
        · exact List.mem_cons_of_mem _ h
        · exact List.mem_cons_of_mem _ (ih h)
  unfold enqueue
  split
  · exact List.mem_map.2 ⟨o, keeps, ho⟩
  · rw [if_pos (by simpa [maxFrames] using hroom)]
    exact List.mem_map.2 ⟨o, mem_insertFrame.2 (Or.inr h), ho⟩

/-! ### The order of the queue and its classes (R166, R167) -/

/-- The outbound law of a queue. -/
def OutboundGood (q : List OutFrame) : Prop :=
  (∀ o ∈ q.tail, o.sending = false)
    ∧ ((waitingFrames q).Pairwise fun a b => a.kind ≤ b.kind ∧ a.frame.sameClass b.frame = false)
    ∧ ∀ o ∈ q, o.sending = true → (∃ p ∈ waitingFrames q, o.frame.sameClass p.frame = true) → o.overtaken = true

theorem outboundLaw_iff (s : State) : OutboundLaw s ↔ OutboundGood s.hlc.queue := Iff.rfl

/-- Waiting frames in order, no two of one class. -/
def WaitingGood (q : List OutFrame) : Prop :=
  (∀ o ∈ q, o.sending = false) ∧ q.Pairwise fun a b => a.kind ≤ b.kind ∧ a.frame.sameClass b.frame = false

theorem waitingFrames_of_waiting {q : List OutFrame} (h : ∀ o ∈ q, o.sending = false) : waitingFrames q = q := by
  rw [waitingFrames, List.filter_eq_self]; simpa using h

theorem waitingFrames_cons_sending {x : OutFrame} {q : List OutFrame} (h : x.sending = true) (hq : ∀ o ∈ q, o.sending = false) :
    waitingFrames (x :: q) = q := by
  rw [waitingFrames, List.filter_cons_of_neg (by simp [h])]
  exact waitingFrames_of_waiting hq

/-- A queue with no frame in transmission. -/
theorem outboundGood_of_waiting {q : List OutFrame} (hs : ∀ o ∈ q, o.sending = false) : OutboundGood q ↔ WaitingGood q := by
  unfold OutboundGood WaitingGood
  rw [waitingFrames_of_waiting hs]
  constructor
  · rintro ⟨-, h, -⟩; exact ⟨hs, h⟩
  · rintro ⟨-, h⟩
    exact ⟨fun o ho => hs o (List.mem_of_mem_tail ho), h, fun o ho he => by simp [hs o ho] at he⟩

/-- A queue whose head is in transmission. -/
theorem outboundGood_cons_sending {x : OutFrame} {q : List OutFrame} (hx : x.sending = true) :
    OutboundGood (x :: q) ↔ WaitingGood q ∧ ((∃ p ∈ q, x.frame.sameClass p.frame = true) → x.overtaken = true) := by
  unfold OutboundGood WaitingGood
  simp only [List.tail_cons]
  constructor
  · rintro ⟨hs, hp, ho⟩
    rw [waitingFrames_cons_sending hx hs] at hp ho
    exact ⟨⟨hs, hp⟩, ho x (by simp) hx⟩
  · rintro ⟨⟨hs, hp⟩, ho⟩
    rw [waitingFrames_cons_sending hx hs]
    refine ⟨hs, hp, fun o hm he => ?_⟩
    rcases List.mem_cons.1 hm with rfl | hm
    · exact ho
    · simp [hs o hm] at he

/-- Every good queue is of one of the two shapes. -/
theorem OutboundGood.cases {q : List OutFrame} (h : OutboundGood q) :
    WaitingGood q ∨ ∃ x r, q = x :: r ∧ x.sending = true ∧ WaitingGood r
      ∧ ((∃ p ∈ r, x.frame.sameClass p.frame = true) → x.overtaken = true) := by
  cases q with
  | nil => exact Or.inl ⟨by simp, by simp⟩
  | cons x r =>
    by_cases hx : x.sending = true
    · exact Or.inr ⟨x, r, rfl, hx, (outboundGood_cons_sending hx).1 h⟩
    · refine Or.inl ((outboundGood_of_waiting ?_).1 h)
      intro o ho
      rcases List.mem_cons.1 ho with rfl | ho
      · simpa using hx
      · exact h.1 o ho

theorem WaitingGood.sublist {p q : List OutFrame} (h : WaitingGood q) (hs : p.Sublist q) : WaitingGood p :=
  ⟨fun o ho => h.1 o (hs.subset ho), h.2.sublist hs⟩

/-- A frame of no class that waits joins behind its kind and the lower ones (R166). -/
theorem WaitingGood.insertFrame {f : OutFrame} {q : List OutFrame} (h : WaitingGood q) (hf : f.sending = false)
    (hc : ∀ o ∈ q, f.frame.sameClass o.frame = false) : WaitingGood (insertFrame f q) := by
  obtain ⟨hs, hp⟩ := h
  refine ⟨fun o ho => (mem_insertFrame.1 ho).elim (fun e => e ▸ hf) (hs o), ?_⟩
  induction q with
  | nil => simp [Machine.insertFrame]
  | cons x xs ih =>
    obtain ⟨hx, hxs⟩ := List.pairwise_cons.1 hp
    simp only [Machine.insertFrame]
    split
    · rename_i hle
      refine List.pairwise_cons.2 ⟨fun o ho => ?_, ih (fun o ho => hc o (by simp [ho])) (fun o ho => hs o (by simp [ho])) hxs⟩
      rcases mem_insertFrame.1 ho with rfl | ho
      · simp only [hs x (by simp), Bool.false_or, decide_eq_true_eq] at hle
        exact ⟨hle, by rw [Frame.sameClass_symm]; exact hc x (by simp)⟩
      · exact hx o ho
    · rename_i hlt
      simp only [hs x (by simp), Bool.false_or, decide_eq_true_eq, not_le] at hlt
      refine List.pairwise_cons.2 ⟨fun o ho => ⟨?_, hc o ho⟩, hp⟩
      rcases List.mem_cons.1 ho with rfl | ho
      · exact hlt.le
      · exact hlt.le.trans (hx o ho).1

/-- A frame that waits again takes the place of the oldest of its kind (R166). -/
theorem WaitingGood.reinsertFrame {f : OutFrame} {q : List OutFrame} (h : WaitingGood q) (hf : f.sending = false)
    (hc : ∀ o ∈ q, f.frame.sameClass o.frame = false) : WaitingGood (reinsertFrame f q) := by
  obtain ⟨hs, hp⟩ := h
  refine ⟨fun o ho => (mem_reinsertFrame.1 ho).elim (fun e => e ▸ hf) (hs o), ?_⟩
  induction q with
  | nil => simp [Machine.reinsertFrame]
  | cons x xs ih =>
    obtain ⟨hx, hxs⟩ := List.pairwise_cons.1 hp
    simp only [Machine.reinsertFrame]
    split
    · rename_i hlt
      refine List.pairwise_cons.2 ⟨fun o ho => ?_, ih (fun o ho => hc o (by simp [ho])) (fun o ho => hs o (by simp [ho])) hxs⟩
      rcases mem_reinsertFrame.1 ho with rfl | ho
      · exact ⟨hlt.le, by rw [Frame.sameClass_symm]; exact hc x (by simp)⟩
      · exact hx o ho
    · rename_i hle
      refine List.pairwise_cons.2 ⟨fun o ho => ⟨?_, hc o ho⟩, hp⟩
      rcases List.mem_cons.1 ho with rfl | ho
      · exact not_lt.1 hle
      · exact (not_lt.1 hle).trans (hx o ho).1

/-- The newer frame stands at the place of the older one of its class (R167). -/
theorem WaitingGood.replaceFrame {f : Frame} {q : List OutFrame} (h : WaitingGood q) : WaitingGood (replaceFrame f q) := by
  obtain ⟨hs, hp⟩ := h
  refine ⟨fun o ho => (mem_of_mem_replaceFrame ho).elim (fun e => e.1 ▸ rfl) (hs o), ?_⟩
  induction q with
  | nil => simp [Machine.replaceFrame]
  | cons x xs ih =>
    obtain ⟨hx, hxs⟩ := List.pairwise_cons.1 hp
    simp only [Machine.replaceFrame]
    split
    · rename_i ha
      have hfx := (OutFrame.absorbs_iff.1 ha).2
      refine List.pairwise_cons.2 ⟨fun o ho => ⟨?_, ?_⟩, hxs⟩
      · exact (Frame.kind_eq_of_sameClass hfx).le.trans (hx o ho).1
      · refine Bool.eq_false_iff.2 fun e => ?_
        rw [Frame.sameClass_symm] at hfx
        exact Bool.eq_false_iff.1 (hx o ho).2 (Frame.sameClass_trans hfx e)
    · rename_i ha
      refine List.pairwise_cons.2 ⟨fun o ho => ?_, ih (fun o ho => hs o (by simp [ho])) hxs⟩
      rcases mem_of_mem_replaceFrame ho with ⟨rfl, p, hm, hpa⟩ | hm
      · obtain ⟨hkind, hclass⟩ := hx p hm
        have hfp := (OutFrame.absorbs_iff.1 hpa).2
        rw [OutFrame.absorbs_iff, not_and] at ha
        refine ⟨hkind.trans (Frame.kind_eq_of_sameClass hfp).ge, ?_⟩
        rw [Frame.sameClass_symm]
        simpa using ha (hs x (by simp))
      · exact hx o hm

theorem map_overtakenBy_of_waiting {f : Frame} {q : List OutFrame} (h : ∀ o ∈ q, o.sending = false) : q.map (·.overtakenBy f) = q :=
  (List.map_congr_left fun o ho => OutFrame.overtakenBy_of_waiting (h o ho) f).trans (List.map_id' q)

/-- Marking keeps the law once the new frame stands among the waiting ones. -/
theorem outboundGood_mark {f : Frame} {x : OutFrame} {r r' : List OutFrame} (hx : x.sending = true) (hr : WaitingGood r')
    (ho : (∃ p ∈ r, x.frame.sameClass p.frame = true) → x.overtaken = true)
    (hsub : ∀ o ∈ r', o = .fresh f ∨ o ∈ r) : OutboundGood ((x :: r').map (·.overtakenBy f)) := by
  rw [List.map_cons, map_overtakenBy_of_waiting hr.1, outboundGood_cons_sending (by simpa using hx)]
  refine ⟨hr, ?_⟩
  rintro ⟨p, hp, hc⟩
  rw [OutFrame.overtakenBy_frame] at hc
  unfold OutFrame.overtakenBy
  split
  · rfl
  · rename_i hn
    rcases hsub p hp with rfl | hpr
    · rw [Frame.sameClass_symm] at hc
      exact absurd (by simpa [hx] using hc) hn
    · exact ho ⟨p, hpr, hc⟩

/-! The frame in transmission is passed over. -/

theorem replaceFrame_cons_sending {x : OutFrame} (hx : x.sending = true) (f : Frame) (r : List OutFrame) :
    replaceFrame f (x :: r) = x :: replaceFrame f r := by
  rw [replaceFrame, if_neg (by simp [OutFrame.absorbs, hx])]

theorem insertFrame_cons_sending {x : OutFrame} (hx : x.sending = true) (f : OutFrame) (r : List OutFrame) :
    insertFrame f (x :: r) = x :: insertFrame f r := by
  rw [insertFrame, if_pos (by simp [hx])]

theorem dropYoungest_cons_sending {x : OutFrame} (hx : x.sending = true) (k : Nat) (r : List OutFrame) :
    dropYoungest k (x :: r) = x :: dropYoungest k r := by
  simp only [dropYoungest, List.reverse_cons]
  by_cases h : ∃ o ∈ r.reverse, (!o.sending && o.kind == k) = true
  · obtain ⟨o, ho, hk⟩ := h
    rw [List.eraseP_append_left (p := fun o : OutFrame => !o.sending && o.kind == k) hk _ ho]
    simp
  · have hn : ∀ o ∈ r.reverse, ¬ (!o.sending && o.kind == k) = true := fun o ho hk => h ⟨o, ho, hk⟩
    rw [List.eraseP_append_right _ hn, List.eraseP_of_forall_not hn, List.eraseP_cons_of_neg (by simp [hx])]
    simp

/-- Queuing keeps the law (R166, R167, R168). -/
theorem OutboundGood.enqueue {q : List OutFrame} (f : Frame) (h : OutboundGood q) : OutboundGood (enqueue f q) := by
  have noClass : ∀ r : List OutFrame, (∀ o ∈ r, o.sending = false) → q.any (·.absorbs f) = false → (∀ o ∈ r, o ∈ q) →
      ∀ o ∈ r, f.sameClass o.frame = false := by
    intro r hr ha hrq o ho
    have := List.any_eq_false.1 ha o (hrq o ho)
    rw [OutFrame.absorbs_iff, not_and] at this
    simpa using this (hr o ho)
  have hold := h
  rcases h.cases with hw | ⟨x, r, rfl, hx, hw, ho⟩
  · have done : ∀ r' : List OutFrame, WaitingGood r' → OutboundGood (r'.map (·.overtakenBy f)) := by
      intro r' hr'
      rw [map_overtakenBy_of_waiting hr'.1]
      exact (outboundGood_of_waiting hr'.1).2 hr'
    have hd := hw.sublist (dropYoungest_sublist (highestWaiting q) q)
    unfold Machine.enqueue
    split
    · exact done _ hw.replaceFrame
    · rename_i ha
      have ha := Bool.eq_false_iff.2 ha
      split
      · exact done _ (hw.insertFrame rfl (noClass q hw.1 ha fun o ho => ho))
      · split
        · exact done _ (hd.insertFrame rfl (noClass _ hd.1 ha fun o ho => (dropYoungest_sublist _ _).subset ho))
        · exact hold
  · have hd := hw.sublist (dropYoungest_sublist (highestWaiting (x :: r)) r)
    have drop_sub : ∀ o ∈ dropYoungest (highestWaiting (x :: r)) r, o ∈ r := (dropYoungest_sublist _ _).subset
    unfold Machine.enqueue
    split
    · rw [replaceFrame_cons_sending hx]
      exact outboundGood_mark hx hw.replaceFrame ho fun o hm => (mem_of_mem_replaceFrame hm).imp And.left id
    · rename_i ha
      have ha := Bool.eq_false_iff.2 ha
      split
      · rw [insertFrame_cons_sending hx]
        exact outboundGood_mark hx (hw.insertFrame rfl (noClass r hw.1 ha fun o ho => by simp [ho])) ho
          fun o hm => mem_insertFrame.1 hm
      · split
        · rw [dropYoungest_cons_sending hx, insertFrame_cons_sending hx]
          exact outboundGood_mark hx (hd.insertFrame rfl (noClass _ hd.1 ha fun o hm => by simp [drop_sub o hm])) ho
            fun o hm => (mem_insertFrame.1 hm).imp id (drop_sub o)
        · exact hold

end Sys2Proof.Machine
end

section
/-! SUPPORT. What the shared operations make of the parts they write: removal, segment clear, joining, the flag and the permit. -/

namespace Sys2Proof.Machine

open Sys2Proof

/-! ### Bumps and frames leave everything else -/

@[simp] theorem State.bumpN_stu_lengths (s : State) (c : Ctr) (n : Nat) :
    (s.bumpN c n).stu.counters.length = s.stu.counters.length ∧ (s.bumpN c n).stu.events.length = s.stu.events.length := by
  induction n with
  | zero => exact ⟨rfl, rfl⟩
  | succ n ih => simpa [State.bumpN] using ih

@[simp] theorem State.queueSegmentState_stu_lengths (s : State) :
    s.queueSegmentState.stu.counters.length = s.stu.counters.length ∧ s.queueSegmentState.stu.events.length = s.stu.events.length :=
  State.queueFrame_stu_lengths s _

@[simp] theorem State.evalBlocked_stu_lengths (s : State) (c : StationConfig) :
    (s.evalBlocked c).stu.counters.length = s.stu.counters.length ∧ (s.evalBlocked c).stu.events.length = s.stu.events.length := by
  unfold State.evalBlocked; split <;> simp

/-- Evaluating the flag leaves the outbound queue or queues one frame (R29). -/
theorem State.evalBlocked_queue (s : State) (c : StationConfig) :
    (s.evalBlocked c).hlc.queue = s.hlc.queue ∨ ∃ f, (s.evalBlocked c).hlc.queue = enqueue f s.hlc.queue := by
  unfold State.evalBlocked
  split
  · exact Or.inl rfl
  · exact Or.inr ⟨_, State.queueSegmentState_queue _⟩

/-- After the evaluation the flag is the one of R29 for itself. -/
theorem State.evalBlocked_flagged (s : State) (c : StationConfig) :
    (s.evalBlocked c).btu.blockedFlag
      = flagOf c (s.evalBlocked c).btu.queue.length (s.evalBlocked c).btu.down (s.evalBlocked c).btu.blockedFlag := by
  rw [State.evalBlocked_blockedFlag]
  simp only [State.evalBlocked_btu_frame]
  unfold flagOf
  split_ifs <;> rfl

/-! ### Diverters -/

@[simp] theorem State.setDiv_get_same (s : State) (d : Div) (x : Diverter) : (s.setDiv d x).dvs.get d = x := by simp

theorem State.setDiv_get (s : State) (d e : Div) (x : Diverter) :
    (s.setDiv d x).dvs.get e = if e = d then x else s.dvs.get e := by simp [Dvs.get_put]

@[simp] theorem State.forgetRec_get_same (s : State) (d : Div) (ref : RecRef) (own : Bool) :
    (s.forgetRec d ref own).dvs.get d = (s.dvs.get d).forget ref own := by simp [State.forgetRec]

theorem State.forgetRec_get (s : State) (d e : Div) (ref : RecRef) (own : Bool) :
    (s.forgetRec d ref own).dvs.get e = if e = d then (s.dvs.get d).forget ref own else s.dvs.get e := by
  simp [State.forgetRec, Dvs.get_put]

@[simp] theorem State.forgetRec_stu_lengths (s : State) (d : Div) (ref : RecRef) (own : Bool) :
    (s.forgetRec d ref own).stu.counters.length = s.stu.counters.length
      ∧ (s.forgetRec d ref own).stu.events.length = s.stu.events.length := by simp [State.forgetRec]

@[simp] theorem Diverter.forget_fields (x : Diverter) (ref : RecRef) (own : Bool) :
    (x.forget ref own).eng = x.eng ∧ (x.forget ref own).account = x.account ∧ (x.forget ref own).bay = x.bay
      ∧ (x.forget ref own).grants = x.grants.filter (·.ref != ref) ∧ (x.forget ref own).confirms = x.confirms.filter (·.ref != ref)
      ∧ (x.forget ref own).last.isSome = x.last.isSome := by simp [Diverter.forget]

@[simp] theorem Diverter.cleared_fields (x : Diverter) :
    x.cleared.eng = x.eng ∧ x.cleared.account = x.account ∧ x.cleared.bay = x.bay ∧ x.cleared.grants = [] ∧ x.cleared.confirms = []
      ∧ x.cleared.last.isSome = x.last.isSome := by simp [Diverter.cleared]

/-! ### Removal (R28) -/

theorem State.findRec_none {s : State} {ref : RecRef} : s.findRec ref = none ↔ ∀ q ∈ s.btu.queue, q.ref ≠ ref := by
  simp [State.findRec]

theorem State.findRec_some {s : State} {ref : RecRef} {r : SegRec} (h : s.findRec ref = some r) : r ∈ s.btu.queue ∧ r.ref = ref :=
  ⟨List.mem_of_find?_eq_some h, by simpa using List.find?_some h⟩

theorem State.remove_of_findRec_none {s : State} {ref : RecRef} (h : s.findRec ref = none) (c : StationConfig) (cause : Cause) :
    s.remove c ref cause = s := by simp [State.remove, h]

/-- What a removal makes of the parts it writes. -/
theorem State.remove_fields {s : State} {ref : RecRef} {r : SegRec} (h : s.findRec ref = some r) (c : StationConfig) (cause : Cause) :
    (s.remove c ref cause).btu.queue = s.btu.queue.eraseP (·.ref == ref)
      ∧ (s.remove c ref cause).btu.flow = s.btu.flow.count cause
      ∧ (s.remove c ref cause).btu.openRec = closeOpen ref s.btu.openRec
      ∧ (s.remove c ref cause).btu.blockedFlag
        = flagOf c (s.btu.queue.eraseP (·.ref == ref)).length s.btu.down s.btu.blockedFlag
      ∧ (s.remove c ref cause).idt = { s.idt with entries := releaseEntry cause r.entry s.idt.entries }
      ∧ ∀ d, (s.remove c ref cause).dvs.get d = (s.dvs.get d).forget ref (cause == .confirmed d) := by
  simp only [State.remove, h]
  refine ⟨by simp, by simp, by simp, by rw [State.evalBlocked_blockedFlag]; simp, by simp, fun d => ?_⟩
  simp only [State.evalBlocked_frame, State.forgetRec_get]
  cases d <;> simp

/-- A removal takes the record out, where it is. -/
@[simp] theorem State.remove_queue (s : State) (c : StationConfig) (ref : RecRef) (cause : Cause) :
    (s.remove c ref cause).btu.queue = s.btu.queue.eraseP (·.ref == ref) := by
  cases h : s.findRec ref with
  | none =>
    rw [State.remove_of_findRec_none h, List.eraseP_of_forall_not]
    simpa using State.findRec_none.1 h
  | some r => exact (State.remove_fields h c cause).1

@[simp] theorem State.remove_stu_lengths (s : State) (c : StationConfig) (ref : RecRef) (cause : Cause) :
    (s.remove c ref cause).stu.counters.length = s.stu.counters.length
      ∧ (s.remove c ref cause).stu.events.length = s.stu.events.length := by
  unfold State.remove; split <;> simp

theorem State.remove_outbound (s : State) (c : StationConfig) (ref : RecRef) (cause : Cause) :
    (s.remove c ref cause).hlc.queue = s.hlc.queue ∨ ∃ f, (s.remove c ref cause).hlc.queue = enqueue f s.hlc.queue := by
  unfold State.remove
  split
  · exact Or.inl rfl
  · refine (State.evalBlocked_queue _ c).imp (fun h => h.trans ?_) (fun ⟨f, h⟩ => ⟨f, h.trans ?_⟩) <;> simp

/-! ### The segment clear (R34) -/

theorem State.segmentClear_fields (s : State) (c : StationConfig) :
    (s.segmentClear c).btu.queue = [] ∧ (s.segmentClear c).btu.expects = [] ∧ (s.segmentClear c).btu.openRec = none
      ∧ (s.segmentClear c).btu.flow = { s.btu.flow with cleared := s.btu.flow.cleared + BitVec.ofNat 32 s.btu.queue.length }
      ∧ (s.segmentClear c).btu.blockedFlag = flagOf c 0 s.btu.down s.btu.blockedFlag
      ∧ (s.segmentClear c).idt
        = { s.idt with entries := s.btu.queue.foldl (fun es (r : SegRec) => releaseEntry .cleared r.entry es) s.idt.entries }
      ∧ ∀ d, (s.segmentClear c).dvs.get d = (s.dvs.get d).cleared := by
  simp only [State.segmentClear]
  refine ⟨by simp, by simp, by simp, by simp, by rw [State.evalBlocked_blockedFlag]; simp, by simp, fun d => ?_⟩
  cases d <;> simp [Dvs.get]

@[simp] theorem State.segmentClear_stu_lengths (s : State) (c : StationConfig) :
    (s.segmentClear c).stu.counters.length = s.stu.counters.length ∧ (s.segmentClear c).stu.events.length = s.stu.events.length := by
  simp [State.segmentClear]

theorem State.segmentClear_outbound (s : State) (c : StationConfig) :
    (s.segmentClear c).hlc.queue = s.hlc.queue ∨ ∃ f, (s.segmentClear c).hlc.queue = enqueue f s.hlc.queue := by
  refine (State.evalBlocked_queue _ c).imp (fun h => h.trans ?_) (fun ⟨f, h⟩ => ⟨f, h.trans ?_⟩) <;> simp

/-! ### Joining (R19) -/

theorem State.join_fields (s : State) (c : StationConfig) (r : SegRec) :
    (s.join c r).btu.queue = s.btu.queue ++ [r] ∧ (s.join c r).btu.openRec = some ⟨r.ref, false⟩
      ∧ (s.join c r).btu.flow = { s.btu.flow with entered := s.btu.flow.entered + 1 }
      ∧ (s.join c r).btu.expects = s.btu.expects
      ∧ (s.join c r).btu.blockedFlag = flagOf c (s.btu.queue.length + 1) s.btu.down s.btu.blockedFlag := by
  simp only [State.join]
  refine ⟨by simp, by simp, by simp, by simp, by rw [State.evalBlocked_blockedFlag]; simp⟩

@[simp] theorem State.join_stu_lengths (s : State) (c : StationConfig) (r : SegRec) :
    (s.join c r).stu.counters.length = s.stu.counters.length ∧ (s.join c r).stu.events.length = s.stu.events.length := by
  simp [State.join]

theorem State.join_outbound (s : State) (c : StationConfig) (r : SegRec) :
    (s.join c r).hlc.queue = s.hlc.queue ∨ ∃ f, (s.join c r).hlc.queue = enqueue f s.hlc.queue := by
  refine (State.evalBlocked_queue _ c).imp (fun h => h.trans ?_) (fun ⟨f, h⟩ => ⟨f, h.trans ?_⟩) <;> simp

/-! ### The permit (R31) -/

@[simp] theorem State.evalPermit_stu_lengths (s : State) (c : StationConfig) :
    (s.evalPermit c).stu.counters.length = s.stu.counters.length ∧ (s.evalPermit c).stu.events.length = s.stu.events.length := by
  simp [State.evalPermit]

theorem State.evalPermit_outbound (s : State) (c : StationConfig) :
    (s.evalPermit c).hlc.queue = s.hlc.queue ∨ ∃ f, (s.evalPermit c).hlc.queue = enqueue f s.hlc.queue := by
  refine (State.evalBlocked_queue _ c).imp (fun h => h.trans ?_) (fun ⟨f, h⟩ => ⟨f, h.trans ?_⟩) <;> simp

/-! ### Records -/

@[simp] theorem State.mapRec_queue_length (s : State) (ref : RecRef) (f : SegRec → SegRec) :
    (s.mapRec ref f).btu.queue.length = s.btu.queue.length := by simp

end Sys2Proof.Machine
end

section
/-! SUPPORT. What a step can do to the station, said once: every command but the start of the station, RESET and ENCODER_TICK is a
sequence of the edits below, and the laws that every step keeps are laws that every edit keeps. -/

namespace Sys2Proof.Machine

open Sys2Proof

/-! ### The laws of one record and of one announcement -/

/-- The first half of R145 and the problem chute of a reason, for one record. -/
def SegRec.DestGood (c : StationConfig) (r : SegRec) : Prop :=
  (r.dest.isSome ↔ r.ident.isSome ∨ r.reason.isSome) ∧ (r.reason.isSome → r.dest = some c.problem)

/-- R128 and R129 for one record. -/
def SegRec.PassGood (c : StationConfig) (r : SegRec) : Prop :=
  r.passes ≤ c.maxPasses ∧ (r.passes = c.maxPasses → ∃ x, r.reason = some x ∧ x.soft = false)

/-- R41 for one announcement. -/
def ExpectRec.DestGood (x : ExpectRec) : Prop := x.dest.isSome ↔ x.ident.isSome ∨ x.reason.isSome

/-! ### What an edit inside one part keeps -/

/-- A change of the tracking unit that moves no record, no announcement, no flow counter but the untracked one, neither the flag nor
the permit nor what they follow; an entry edge that is pending was pending before or begins at the present E (R11). -/
structure BtuKeeps (a b : Btu) : Prop where
  queue : b.queue = a.queue
  expects : b.expects = a.expects
  flow : b.flow = { a.flow with untracked := b.flow.untracked }
  down : (b.down.heard, b.down.lastBlocked, b.down.silent) = (a.down.heard, a.down.lastBlocked, a.down.silent)
  blockedFlag : b.blockedFlag = a.blockedFlag
  permit : b.permit = a.permit
  e : b.e = a.e
  history : a.history.length = 8 → b.history.length = 8
  entryEdge : b.fEntry.st = .blocking → (a.fEntry.st = .blocking ∧ b.fEntry.raw = a.fEntry.raw) ∨ b.fEntry.raw = a.e

/-- A change of a record that keeps its name and its entry, and what the laws ask of the record. -/
structure RecKeeps (c : Option StationConfig) (q r : SegRec) : Prop where
  pass : ∀ k ∈ c, 1 ≤ k.maxPasses → q.DestGood k → q.PassGood k → r.PassGood k
  entry : r.entry = q.entry
  read : q.entry ≠ none → q.readStatus = .read → r.readStatus = .read
  ident : q.entry ≠ none → q.ident.isSome → r.ident.isSome

/-- A change of a diverter that keeps what the laws ask of it. -/
structure DivKeeps (c : Option StationConfig) (x y : Diverter) : Prop where
  grants : x.grants.length ≤ 3 → y.grants.length ≤ 3
  confirms : x.confirms.length ≤ 2 → y.confirms.length ≤ 2
  fill : (∀ a, x.account = some a → a.fill ≤ 4095) → ∀ a, y.account = some a → a.fill ≤ 4095
  derived : (∀ a, x.account = some a → a.state = a.derive) → ∀ a, y.account = some a → a.state = a.derive
  fired : (x.eng ≠ .idle → x.last.isSome) → y.eng ≠ .idle → y.last.isSome
  atRest : c = none → x.grants = [] ∧ x.eng = .idle → y.grants = [] ∧ y.eng = .idle
  noAccount : c = none → x.account = none → y.account = none

/-- A change of the line controller that keeps what the laws ask of it. -/
structure HlcKeeps (s : State) (h : Hlc) : Prop where
  outbound : OutboundLaw s → OutboundLaw (s.setHlc h)
  line : LineLaw s → LineLaw (s.setHlc h)
  objection : ObjectionLaw s → ObjectionLaw (s.setHlc h)
  length : s.hlc.queue.length ≤ 8 → h.queue.length ≤ 8
  tally : s.hlc.tally ≤ 3 → h.tally ≤ 3

/-- An entry that an identification has put in ON_SEGMENT for the record named, and its tag number; the record refers to it once the
write is made (R72, R89). -/
structure Claim where
  entry : Nat
  ref : RecRef
  tag : Nat

/-- The tags of the entries. -/
def tagAt (es : List (Option IdtEntry)) (i : Nat) : Option Nat := (entryAt es i).map IdtEntry.tag

/-! ### The edits -/

/-- One edit of a station, with the entry that an identification under way has claimed. -/
inductive Edit : Option Claim × State → Option Claim × State → Prop
  | pending (k) (s : State) (l : List Instr) : Edit (k, s) (k, { s with pending := l })
  | pins (k) (s : State) (p : Pins) : Edit (k, s) (k, { s with pins := p })
  | cfl (k) (s : State) (f : Cfl) (h : ({ s with cfl := f } : State).cfg = s.cfg) : Edit (k, s) (k, { s with cfl := f })
  | rdu (k) (s : State) (u : Rdu) : Edit (k, s) (k, { s with rdu := u })
  | stu (k) (s : State) (u : Stu) (hc : u.counters.length = s.stu.counters.length) (he : u.events.length = s.stu.events.length) :
      Edit (k, s) (k, { s with stu := u })
  | view (k) (s : State) (v : List ViewEntry) (h : v.length = s.rrv.view.length) : Edit (k, s) (k, s.setView v)
  | idt (k) (s : State) (p : Nat) (m : Option Nat) (h : 16 ≤ s.idt.pointer ∧ s.idt.pointer ≤ 127 → 16 ≤ p ∧ p ≤ 127) :
      Edit (k, s) (k, { s with idt := { s.idt with pointer := p, minuteMs := m } })
  /-- entries keep their tags and their being on the segment -/
  | entries (k) (s : State) (es : List (Option IdtEntry)) (hl : es.length = s.idt.entries.length)
      (ht : ∀ i, tagAt es i = tagAt s.idt.entries i)
      (hs : ∀ i, inState es i .onSegment = inState s.idt.entries i .onSegment) : Edit (k, s) (k, s.setEntries es)
  /-- an entry that is not on the segment is rewritten -/
  | rewrite (s : State) (es : List (Option IdtEntry)) (hl : es.length = s.idt.entries.length)
      (ht : TagLaw s → TagLaw (s.setEntries es))
      (hs : ∀ i, inState es i .onSegment = inState s.idt.entries i .onSegment) : Edit (none, s) (none, s.setEntries es)
  /-- an identification claims an entry for a record that refers to none -/
  | claim (s : State) (es : List (Option IdtEntry)) (k : Claim) (hl : es.length = s.idt.entries.length)
      (ht : TagLaw s → TagLaw (s.setEntries es))
      (hk : k.entry < es.length → tagAt es k.entry = some k.tag)
      (hs : ∀ i, i ≠ k.entry → inState es i .onSegment = inState s.idt.entries i .onSegment)
      (hnew : inState s.idt.entries k.entry .onSegment = false)
      (hseg : s.idt.entries.length = 128 → inState es k.entry .onSegment = true)
      (hrec : SlotLaw s → ∀ q ∈ s.btu.queue, q.ref = k.ref → q.readStatus = .read → q.ident = none) :
      Edit (none, s) (some k, s.setEntries es)
  /-- the record takes the claimed entry -/
  | adopt (s : State) (k : Claim) (f : SegRec → SegRec) (q : SegRec) (hq : s.findRec k.ref = some q)
      (hf : ∀ r, (f r).ref = r.ref)
      (hd : ∀ c ∈ s.cfg, ∀ r ∈ s.btu.queue, r.ref = k.ref → r.DestGood c → (f r).DestGood c)
      (hp : ∀ c ∈ s.cfg, 1 ≤ c.maxPasses → q.DestGood c → q.PassGood c → (f q).PassGood c)
      (he : (f q).entry = some k.entry ∧ (f q).readStatus = .read ∧ (f q).ident.isSome) :
      Edit (some k, s) (none, s.mapRec k.ref f)
  /-- the identification is undone -/
  | undo (s : State) (k : Claim) (es : List (Option IdtEntry)) (hl : es.length = s.idt.entries.length)
      (ht : (k.entry < s.idt.entries.length → tagAt s.idt.entries k.entry = some k.tag) → ∀ i, tagAt es i = tagAt s.idt.entries i)
      (hs : ∀ i, i ≠ k.entry → inState es i .onSegment = inState s.idt.entries i .onSegment)
      (hout : inState es k.entry .onSegment = false) : Edit (some k, s) (none, s.setEntries es)
  | btu (k) (s : State) (b : Btu) (h : BtuKeeps s.btu b) : Edit (k, s) (k, s.setBtu b)
  | expects (k) (s : State) (xs : List ExpectRec) (hl : s.btu.expects.length ≤ 8 → xs.length ≤ 8)
      (hd : (∀ x ∈ s.btu.expects, x.DestGood) → ∀ x ∈ xs, x.DestGood) :
      Edit (k, s) (k, s.setBtu { s.btu with expects := xs })
  | zeroFlow (k) (s : State) : Edit (k, s) (k, s.zeroFlow)
  | mapRec (k) (s : State) (ref : RecRef) (f : SegRec → SegRec) (hf : ∀ r, (f r).ref = r.ref)
      (hd : ∀ c ∈ s.cfg, ∀ r ∈ s.btu.queue, r.ref = ref → r.DestGood c → (f r).DestGood c)
      (hr : SlotLaw s → ∀ q, s.findRec ref = some q → RecKeeps s.cfg q (f q)) : Edit (k, s) (k, s.mapRec ref f)
  | diverter (k) (s : State) (d : Div) (x : Diverter) (h : DivKeeps s.cfg (s.dvs.get d) x) : Edit (k, s) (k, s.setDiv d x)
  | hlc (k) (s : State) (h : Hlc) (hh : HlcKeeps s h) : Edit (k, s) (k, s.setHlc h)
  /-- an arrival joins at the young end: the pending edge is accepted, and its expect record leaves (R19, R50) -/
  | join (k) (s : State) (c : StationConfig) (f : Filter) (xs : List ExpectRec) (r : SegRec) (hc : s.cfg = some c)
      (hst : s.btu.fEntry.st = .blocking) (hf : f.st ≠ .blocking) (hein : r.ein = s.btu.fEntry.raw)
      (hroom : s.btu.queue.length < 16) (hnew : ∀ q ∈ s.btu.queue, q.ein ≠ r.ein) (hslot : r.slot = freeSlot s.btu.queue)
      (hxs : ∀ x ∈ xs, x ∈ s.btu.expects) (hlen : xs.length ≤ s.btu.expects.length)
      (hd : (∀ x ∈ s.btu.expects, x.DestGood) → r.DestGood c) (hp : 1 ≤ c.maxPasses → r.PassGood c) (he : r.entry = none) :
      Edit (k, s) (k, (s.setBtu { s.btu with fEntry := f, expects := xs }).join c r)
  | remove (k) (s : State) (c : StationConfig) (ref : RecRef) (cause : Cause) (hc : s.cfg = some c) :
      Edit (k, s) (k, s.remove c ref cause)
  | clear (k) (s : State) (c : StationConfig) (hc : s.cfg = some c) : Edit (k, s) (k, s.segmentClear c)
  | permit (k) (s : State) (c : StationConfig) (d : Downstream) (hc : s.cfg = some c) :
      Edit (k, s) (k, (s.setBtu { s.btu with down := d }).evalPermit c)

end Sys2Proof.Machine
end

section
/-! SUPPORT. Every edit keeps the sizes. -/

namespace Sys2Proof.Machine

open Sys2Proof

theorem length_enqueued_le {q r : List OutFrame} (h : r = q ∨ ∃ f, r = enqueue f q) (hq : q.length ≤ 8) : r.length ≤ 8 := by
  rcases h with rfl | ⟨f, rfl⟩
  · exact hq
  · exact length_enqueue_le f hq

theorem length_releaseEntry (cause : Cause) (i : Option Nat) (es : List (Option IdtEntry)) :
    (releaseEntry cause i es).length = es.length := by
  cases i <;> simp [releaseEntry]

theorem length_releaseAll (cause : Cause) (q : List SegRec) (es : List (Option IdtEntry)) :
    (q.foldl (fun es (r : SegRec) => releaseEntry cause r.entry es) es).length = es.length := by
  induction q generalizing es with
  | nil => rfl
  | cons r q ih => rw [List.foldl_cons, ih, length_releaseEntry]

/-- What the sizes ask of a diverter. -/
def Diverter.Sized (x : Diverter) : Prop :=
  x.grants.length ≤ 3 ∧ x.confirms.length ≤ 2 ∧ ∀ a, x.account = some a → a.fill ≤ 4095

theorem Diverter.Sized.forget {x : Diverter} (h : x.Sized) (ref : RecRef) (own : Bool) : (x.forget ref own).Sized := by
  obtain ⟨hg, hc, ha⟩ := h
  simp only [Diverter.Sized, Diverter.forget_fields]
  exact ⟨(List.length_filter_le _ _).trans hg, (List.length_filter_le _ _).trans hc, ha⟩

/-- Every edit keeps the sizes. -/
theorem Edit.sizeLaw {a b : Option Claim × State} (h : Edit a b) (hs : SizeLaw a.2) : SizeLaw b.2 := by
  obtain ⟨hc, he, hh, hi, hv, hq, hx, ho, ht, hp, hp', hd⟩ := hs
  have hd' : ∀ d, (a.2.dvs.get d).Sized := hd
  cases h with
  | pending k s l => exact ⟨hc, he, hh, hi, hv, hq, hx, ho, ht, hp, hp', hd⟩
  | pins k s p => exact ⟨hc, he, hh, hi, hv, hq, hx, ho, ht, hp, hp', hd⟩
  | cfl k s f h => exact ⟨hc, he, hh, hi, hv, hq, hx, ho, ht, hp, hp', hd⟩
  | rdu k s u => exact ⟨hc, he, hh, hi, hv, hq, hx, ho, ht, hp, hp', hd⟩
  | stu k s u huc hue => exact ⟨huc.trans hc, hue.trans he, hh, hi, hv, hq, hx, ho, ht, hp, hp', hd⟩
  | view k s v h => exact ⟨hc, he, hh, hi, h.trans hv, hq, hx, ho, ht, hp, hp', hd⟩
  | idt k s p m h => exact ⟨hc, he, hh, hi, hv, hq, hx, ho, ht, (h ⟨hp, hp'⟩).1, (h ⟨hp, hp'⟩).2, hd⟩
  | entries k s es hl _ _ => exact ⟨hc, he, hh, hl.trans hi, hv, hq, hx, ho, ht, hp, hp', hd⟩
  | rewrite s es hl _ _ => exact ⟨hc, he, hh, hl.trans hi, hv, hq, hx, ho, ht, hp, hp', hd⟩
  | claim s es k hl _ _ _ _ _ _ => exact ⟨hc, he, hh, hl.trans hi, hv, hq, hx, ho, ht, hp, hp', hd⟩
  | undo s k es hl _ _ _ => exact ⟨hc, he, hh, hl.trans hi, hv, hq, hx, ho, ht, hp, hp', hd⟩
  | adopt s k f q _ _ _ _ _ => exact ⟨hc, he, hh, hi, hv, by simpa using hq, hx, ho, ht, hp, hp', hd⟩
  | mapRec k s ref f _ _ _ => exact ⟨hc, he, hh, hi, hv, by simpa using hq, hx, ho, ht, hp, hp', hd⟩
  | btu k s b h =>
    exact ⟨hc, he, h.history hh, hi, hv, by simpa [h.queue] using hq, by simpa [h.expects] using hx, ho, ht, hp, hp', hd⟩
  | expects k s xs hl _ => exact ⟨hc, he, hh, hi, hv, hq, hl hx, ho, ht, hp, hp', hd⟩
  | zeroFlow k s => exact ⟨hc, he, hh, hi, hv, hq, hx, ho, ht, hp, hp', hd⟩
  | hlc k s h hh' => exact ⟨hc, he, hh, hi, hv, hq, hx, hh'.length ho, hh'.tally ht, hp, hp', hd⟩
  | diverter k s d x h =>
    refine ⟨hc, he, hh, hi, hv, hq, hx, ho, ht, hp, hp', fun e => ?_⟩
    obtain ⟨hg, hcf, ha⟩ := hd d
    rw [State.setDiv_get]
    split
    · exact ⟨h.grants hg, h.confirms hcf, h.fill ha⟩
    · exact hd e
  | join k s c f xs r hc' hst hf hein hroom hnew hslot hxs hlen hd₂ hp₂ he₂ =>
    obtain ⟨hjq, -, -, hje, -⟩ := (s.setBtu { s.btu with fEntry := f, expects := xs }).join_fields c r
    exact ⟨by simpa using hc, by simpa using he, by simpa [State.join] using hh, by simpa using hi, by simpa using hv,
      by rw [hjq]; simpa using hroom, by rw [hje]; exact hlen.trans hx, length_enqueued_le (State.join_outbound _ c r) ho,
      by simpa using ht, by simpa using hp, by simpa using hp', by simpa using hd⟩
  | remove k s c ref cause hc' =>
    cases hf : s.findRec ref with
    | none => rw [State.remove_of_findRec_none hf]; exact ⟨hc, he, hh, hi, hv, hq, hx, ho, ht, hp, hp', hd⟩
    | some r =>
      obtain ⟨hrq, -, -, -, hre, hrd⟩ := State.remove_fields hf c cause
      exact ⟨by simpa using hc, by simpa using he, by simpa using hh, by simpa [hre, length_releaseEntry] using hi, by simpa using hv,
        by rw [hrq]; exact (List.eraseP_sublist.length_le).trans hq, by simpa using hx,
        length_enqueued_le (s.remove_outbound c ref cause) ho, by simpa using ht, by simpa [hre] using hp, by simpa [hre] using hp',
        fun d => by rw [hrd]; exact (hd' d).forget ref _⟩
  | clear k s c hc' =>
    obtain ⟨hrq, hrx, -, -, -, hre, hrd⟩ := s.segmentClear_fields c
    refine ⟨by simpa using hc, by simpa using he, by simpa using hh, by simpa [hre, length_releaseAll] using hi, by simpa using hv,
        by simp [hrq], by simp [hrx], length_enqueued_le (s.segmentClear_outbound c) ho, by simpa using ht, by simpa [hre] using hp,
        by simpa [hre] using hp', fun d => ?_⟩
    rw [hrd]
    simpa using (hd d).2.2
  | permit k s c d hc' =>
    exact ⟨by simpa using hc, by simpa using he, by simpa using hh, by simpa using hi, by simpa using hv, by simpa using hq,
      by simpa using hx, length_enqueued_le (State.evalPermit_outbound _ c) ho, by simpa using ht, by simpa using hp,
      by simpa using hp', by simpa using hd⟩

end Sys2Proof.Machine
end

section
/-! SUPPORT. Every edit keeps the flow balance and the blocked flag. -/

namespace Sys2Proof.Machine

open Sys2Proof

/-! ### The flow counters (R35) -/

/-- The equation of R35 for a number of records. -/
def Flow.Balanced (f : Flow) (n : Nat) : Prop :=
  f.entered = f.exited + (f.diverted0 + f.diverted1) + f.swept + f.cleared + BitVec.ofNat 32 n

theorem flowBalance_iff (s : State) : FlowBalance s ↔ s.btu.flow.Balanced s.btu.queue.length := Iff.rfl

theorem Flow.Balanced.count {f : Flow} {n : Nat} (h : f.Balanced (n + 1)) (cause : Cause) : (f.count cause).Balanced n := by
  unfold Flow.Balanced at h ⊢
  rw [BitVec.ofNat_add] at h
  rcases cause with _ | _ | d | _ | _ <;> (try cases d) <;> simp only [Flow.count, h] <;> abel

theorem Flow.Balanced.enter {f : Flow} {n : Nat} (h : f.Balanced n) : ({ f with entered := f.entered + 1 } : Flow).Balanced (n + 1) := by
  unfold Flow.Balanced at h ⊢
  rw [BitVec.ofNat_add]
  simp only [h]
  abel

theorem Flow.Balanced.clear {f : Flow} {n : Nat} (h : f.Balanced n) :
    ({ f with cleared := f.cleared + BitVec.ofNat 32 n } : Flow).Balanced 0 := by
  unfold Flow.Balanced at h ⊢
  simp only [h]
  abel_nf

theorem Flow.Balanced.untracked {f g : Flow} {n : Nat} (h : f.Balanced n) (hg : g = { f with untracked := g.untracked }) :
    g.Balanced n := by
  rw [hg]; exact h

/-- Every edit keeps the flow balance. -/
theorem Edit.flowBalance {a b : Option Claim × State} (h : Edit a b) (hs : FlowBalance a.2) : FlowBalance b.2 := by
  rw [flowBalance_iff] at *
  cases h with
  | pending | pins | cfl | rdu | stu | view | idt | entries | rewrite | claim | undo | expects | diverter | hlc => exact hs
  | adopt s k f q _ _ _ _ _ => simpa using hs
  | mapRec k s ref f _ _ _ => simpa using hs
  | btu k s b h => rw [State.setBtu_btu, h.queue]; exact hs.untracked h.flow
  | zeroFlow k s => simp [State.zeroFlow, Flow.Balanced, Flow.reset]
  | join k s c f xs r hc' hst hf hein hroom hnew hslot hxs hlen hd₂ hp₂ he₂ =>
    obtain ⟨hq, -, hflow, -⟩ := (s.setBtu { s.btu with fEntry := f, expects := xs }).join_fields c r
    rw [hq, hflow, List.length_append]
    exact Flow.Balanced.enter hs
  | remove k s c ref cause hc' =>
    cases hf : s.findRec ref with
    | none => rw [State.remove_of_findRec_none hf]; exact hs
    | some r =>
      obtain ⟨hq, hflow, -⟩ := State.remove_fields hf c cause
      obtain ⟨hmem, href⟩ := State.findRec_some hf
      have hlen : (s.btu.queue.eraseP (·.ref == ref)).length + 1 = s.btu.queue.length := by
        rw [List.length_eraseP_of_mem hmem (by simp [href])]
        exact Nat.sub_add_cancel (List.length_pos_of_mem hmem)
      rw [hq, hflow]
      exact Flow.Balanced.count (by rw [hlen]; exact hs) cause
  | clear k s c hc' =>
    obtain ⟨hq, -, -, hflow, -⟩ := s.segmentClear_fields c
    rw [hq, hflow]
    exact hs.clear
  | permit k s c d hc' => simpa using hs

/-! ### The blocked flag (R29) -/

/-- The flag follows what of the downstream state it is evaluated from. -/
theorem flagOf_congr (c : StationConfig) (n : Nat) {d e : Downstream} (was : Bool)
    (h : (e.heard, e.lastBlocked, e.silent) = (d.heard, d.lastBlocked, d.silent)) : flagOf c n e was = flagOf c n d was := by
  obtain ⟨h1, h2, h3⟩ := by simpa using h
  simp only [flagOf, h1, h2, h3]

/-- A configured station whose flag has just been evaluated keeps the law. -/
theorem flagLaw_evalBlocked {s : State} {c : StationConfig} (hc : s.cfg = some c) : FlagLaw (s.evalBlocked c) := by
  intro k hk
  simp only [State.evalBlocked_frame, hc, Option.some.injEq] at hk
  subst hk
  exact s.evalBlocked_flagged c

/-- Every edit keeps the flag law. -/
theorem Edit.flagLaw {a b : Option Claim × State} (h : Edit a b) (hs : FlagLaw a.2) : FlagLaw b.2 := by
  cases h with
  | pending | pins | rdu | stu | view | idt | entries | rewrite | claim | undo | expects | diverter | hlc | zeroFlow => exact hs
  | cfl k s f h => intro c hc; exact hs c (h ▸ hc)
  | adopt s k f q _ _ _ _ _ => simpa [FlagLaw] using hs
  | mapRec k s ref f _ _ _ => simpa [FlagLaw] using hs
  | btu k s b h =>
    intro c hc
    rw [State.setBtu_btu, h.queue, h.blockedFlag, flagOf_congr c _ _ h.down]
    exact hs c hc
  | join k s c f xs r hc' hst hf hein hroom hnew hslot hxs hlen hd₂ hp₂ he₂ => exact flagLaw_evalBlocked hc'
  | remove k s c ref cause hc' =>
    cases hf : s.findRec ref with
    | none => rw [State.remove_of_findRec_none hf]; exact hs
    | some r => simp only [State.remove, hf]; exact flagLaw_evalBlocked (by simpa using hc')
  | clear k s c hc' => exact flagLaw_evalBlocked (by simpa [State.cfg] using hc')
  | permit k s c d hc' => exact flagLaw_evalBlocked hc'

end Sys2Proof.Machine
end

section
/-! SUPPORT. Every edit keeps the slot law and the order of the queue. -/

namespace Sys2Proof.Machine

open Sys2Proof

/-! ### The names of the records -/

/-- Changing records under their names keeps the names. -/
theorem map_ref_mapRec {f : SegRec → SegRec} (hf : ∀ r, (f r).ref = r.ref) (q : List SegRec) (ref : RecRef) :
    (q.map fun r => if r.ref = ref then f r else r).map SegRec.ref = q.map SegRec.ref := by
  rw [List.map_map]
  refine List.map_congr_left fun r _ => ?_
  simp only [Function.comp_apply]
  split
  · exact hf r
  · rfl

theorem State.mapRec_refs {f : SegRec → SegRec} (hf : ∀ r, (f r).ref = r.ref) (s : State) (ref : RecRef) :
    (s.mapRec ref f).btu.queue.map SegRec.ref = s.btu.queue.map SegRec.ref := map_ref_mapRec hf s.btu.queue ref

/-- R15 of a list of names. -/
def SlotsGood (rs : List RecRef) : Prop :=
  (rs.map RecRef.slot).Nodup ∧ (∀ r ∈ rs, r.slot < 16) ∧ (rs.map RecRef.ein).Nodup

theorem slotLaw_iff (s : State) : SlotLaw s ↔ SlotsGood (s.btu.queue.map SegRec.ref) := by
  simp [SlotLaw, SlotsGood, SegRec.ref, Function.comp_def]

theorem SlotsGood.sublist {p q : List RecRef} (h : SlotsGood q) (hs : p.Sublist q) : SlotsGood p :=
  ⟨h.1.sublist (hs.map _), fun r hr => h.2.1 r (hs.subset hr), h.2.2.sublist (hs.map _)⟩

/-- Records with one name are one record. -/
theorem SlotLaw.ref_inj {s : State} (h : SlotLaw s) {q r : SegRec} (hq : q ∈ s.btu.queue) (hr : r ∈ s.btu.queue)
    (e : q.ref = r.ref) : q = r :=
  List.inj_on_of_nodup_map h.1 hq hr (congrArg RecRef.slot e)

/-- The record in the queue is the one that its name finds. -/
theorem SlotLaw.findRec_eq {s : State} (h : SlotLaw s) {q : SegRec} (hq : q ∈ s.btu.queue) : s.findRec q.ref = some q := by
  cases hf : s.findRec q.ref with
  | none => exact absurd rfl (State.findRec_none.1 hf q hq)
  | some r =>
    obtain ⟨hr, e⟩ := State.findRec_some hf
    rw [h.ref_inj hr hq e]

/-- While a place is free, the slot given to an arrival is a free one (R15). -/
theorem freeSlot_free {q : List SegRec} (h : q.length < 16) : freeSlot q < 16 ∧ ∀ r ∈ q, r.slot ≠ freeSlot q := by
  have hsome : ((List.range maxRecords).find? fun i => !q.any (·.slot == i)).isSome := by
    rw [List.find?_isSome]
    by_contra hn
    push Not at hn
    have hsub : List.range 16 ⊆ q.map SegRec.slot := by
      intro i hi
      have := hn i hi
      simpa using this
    have := (List.subperm_of_subset List.nodup_range hsub).length_le
    simp at this
    omega
  obtain ⟨i, hi⟩ := Option.isSome_iff_exists.1 hsome
  have hmem := List.mem_of_find?_eq_some hi
  have hfree := List.find?_some hi
  unfold freeSlot
  rw [hi]
  refine ⟨by simpa [maxRecords] using hmem, fun r hr e => ?_⟩
  simp only [Bool.not_eq_eq_eq_not, Bool.not_true, List.any_eq_false, beq_iff_eq] at hfree
  exact hfree r hr e

/-- Every edit keeps the slot law. -/
theorem Edit.slotLaw {a b : Option Claim × State} (h : Edit a b) (hs : SlotLaw a.2) : SlotLaw b.2 := by
  rw [slotLaw_iff] at *
  cases h with
  | pending | pins | cfl | rdu | stu | view | idt | entries | rewrite | claim | undo | expects | diverter | hlc | zeroFlow => exact hs
  | adopt s k f q _ hf _ _ _ => rw [State.mapRec_refs hf]; exact hs
  | mapRec k s ref f hf _ _ => rw [State.mapRec_refs hf]; exact hs
  | btu k s b h => rw [State.setBtu_btu, h.queue]; exact hs
  | join k s c f xs r hc' hst hf hein hroom hnew hslot hxs hlen hd₂ hp₂ he₂ =>
    obtain ⟨hq, -⟩ := (s.setBtu { s.btu with fEntry := f, expects := xs }).join_fields c r
    obtain ⟨hlt, hfree⟩ := freeSlot_free hroom
    obtain ⟨h1, h2, h3⟩ := hs
    rw [hq]
    refine ⟨?_, ?_, ?_⟩
    · simp only [List.map_append, List.map_cons, List.map_nil]
      refine List.nodup_append.2 ⟨h1, by simp, ?_⟩
      simp only [List.map_map, List.mem_map, Function.comp_apply, List.mem_singleton]
      rintro _ ⟨x, hx, rfl⟩ _ rfl e
      exact hfree x hx (e.trans hslot)
    · intro x hx
      simp only [List.map_append, List.map_cons, List.map_nil, List.mem_append, List.mem_singleton] at hx
      rcases hx with hx | rfl
      · exact h2 x hx
      · exact lt_of_eq_of_lt hslot hlt
    · simp only [List.map_append, List.map_cons, List.map_nil]
      refine List.nodup_append.2 ⟨h3, by simp, ?_⟩
      simp only [List.map_map, List.mem_map, Function.comp_apply, List.mem_singleton]
      rintro _ ⟨x, hx, rfl⟩ _ rfl e
      exact hnew x hx e
  | remove k s c ref cause hc' => rw [State.remove_queue]; exact hs.sublist (List.eraseP_sublist.map _)
  | clear k s c hc' => rw [(s.segmentClear_fields c).1]; simp [SlotsGood]
  | permit k s c d hc' => simpa using hs

/-! ### The order of the queue (R15, R11, R19) -/

/-- The order of names by their distance from E. -/
def OrderGood (e : Count) (rs : List RecRef) : Prop := (rs.map fun r => fwd r.ein e).Pairwise (· > ·)

/-- An entry edge that is pending lies no further back than any record. -/
def EdgeGood (f : Filter) (e : Count) (rs : List RecRef) : Prop := f.st = .blocking → ∀ r ∈ rs, fwd f.raw e ≤ fwd r.ein e

theorem orderLaw_iff (s : State) :
    OrderLaw s ↔ OrderGood s.btu.e (s.btu.queue.map SegRec.ref) ∧ EdgeGood s.btu.fEntry s.btu.e (s.btu.queue.map SegRec.ref) := by
  have hp : s.position = fun r => fwd r.ein s.btu.e := rfl
  simp [OrderLaw, OrderGood, EdgeGood, SegRec.ref, Function.comp_def, hp]

@[simp] theorem fwd_self (e : Count) : fwd e e = 0 := by simp [fwd]

theorem fwd_inj {a b e : Count} (h : fwd a e = fwd b e) : a = b := by
  unfold fwd at h
  bv_omega

theorem OrderGood.sublist {e : Count} {p q : List RecRef} (h : OrderGood e q) (hs : p.Sublist q) : OrderGood e p :=
  List.Pairwise.sublist (hs.map _) h

theorem EdgeGood.sublist {f : Filter} {e : Count} {p q : List RecRef} (h : EdgeGood f e q) (hs : p.Sublist q) : EdgeGood f e p :=
  fun hf r hr => h hf r (hs.subset hr)

/-- Every edit keeps the order of the queue. -/
theorem Edit.orderLaw {a b : Option Claim × State} (h : Edit a b) (hs : OrderLaw a.2) : OrderLaw b.2 := by
  rw [orderLaw_iff] at *
  obtain ⟨ho, he⟩ := hs
  cases h with
  | pending | pins | cfl | rdu | stu | view | idt | entries | rewrite | claim | undo | expects | diverter | hlc | zeroFlow =>
    exact ⟨ho, he⟩
  | adopt s k f q _ hf _ _ _ => rw [State.mapRec_refs hf]; exact ⟨ho, he⟩
  | mapRec k s ref f hf _ _ => rw [State.mapRec_refs hf]; exact ⟨ho, he⟩
  | btu k s b h =>
    rw [State.setBtu_btu, h.queue, h.e]
    refine ⟨ho, fun hst r hr => ?_⟩
    rcases h.entryEdge hst with ⟨hst', hraw⟩ | hraw
    · rw [hraw]; exact he hst' r hr
    · rw [hraw, fwd_self]; exact Nat.zero_le _
  | join k s c f xs r hc' hst hf hein hroom hnew hslot hxs hlen hd₂ hp₂ he₂ =>
    obtain ⟨hq, -⟩ := (s.setBtu { s.btu with fEntry := f, expects := xs }).join_fields c r
    rw [hq]
    simp only [State.join, State.evalBlocked_btu_frame, State.setBtu_btu, List.map_append, List.map_cons, List.map_nil]
    refine ⟨?_, fun hst' => absurd hst' hf⟩
    simp only [OrderGood, List.map_append, List.map_cons, List.map_nil]
    refine List.pairwise_append.2 ⟨ho, List.pairwise_singleton _ _, ?_⟩
    simp only [List.map_map, List.mem_map, Function.comp_apply, List.mem_singleton]
    rintro _ ⟨x, hx, rfl⟩ _ rfl
    refine lt_of_le_of_ne ?_ fun e => hnew x hx (fwd_inj e).symm
    have := he hst x.ref (List.mem_map_of_mem hx)
    rwa [← hein] at this
  | remove k s c ref cause hc' =>
    simp only [State.remove_queue, State.remove_btu_frame]
    exact ⟨ho.sublist (List.eraseP_sublist.map _), he.sublist (List.eraseP_sublist.map _)⟩
  | clear k s c hc' => rw [(s.segmentClear_fields c).1]; simp [OrderGood, EdgeGood]
  | permit k s c d hc' => simpa using ⟨ho, he⟩

end Sys2Proof.Machine
end

section
/-! SUPPORT. Every edit keeps the destination law and the passes law. -/

namespace Sys2Proof.Machine

open Sys2Proof

/-- A record of the changed queue is the record named, changed, or another one as it was. -/
theorem mem_mapRec {s : State} {ref : RecRef} {f : SegRec → SegRec} {r : SegRec} (h : r ∈ (s.mapRec ref f).btu.queue) :
    (∃ q ∈ s.btu.queue, q.ref = ref ∧ r = f q) ∨ (r ∈ s.btu.queue ∧ r.ref ≠ ref) := by
  simp only [State.mapRec_btu, List.mem_map] at h
  obtain ⟨q, hq, rfl⟩ := h
  split
  · exact Or.inl ⟨q, hq, ‹_›, rfl⟩
  · exact Or.inr ⟨hq, ‹_›⟩

theorem destinationLaw_iff (s : State) : DestinationLaw s ↔ (∀ x ∈ s.btu.expects, x.DestGood) ∧ (s.cfg = none → s.btu.queue = [])
    ∧ ∀ c, s.cfg = some c → ∀ r ∈ s.btu.queue, r.DestGood c := Iff.rfl

/-- A configured station whose announcements and records are good. -/
theorem destinationLaw_of_cfg {s : State} {c : StationConfig} (hc : s.cfg = some c) (hx : ∀ x ∈ s.btu.expects, x.DestGood)
    (hr : ∀ r ∈ s.btu.queue, r.DestGood c) : DestinationLaw s := by
  refine ⟨hx, fun h => ?_, fun k hk => ?_⟩
  · rw [hc] at h; cases h
  · rw [hc] at hk; cases hk; exact hr

/-- Every edit keeps the destination law. -/
theorem Edit.destinationLaw {a b : Option Claim × State} (h : Edit a b) (hs : DestinationLaw a.2) : DestinationLaw b.2 := by
  have hold := hs
  rw [destinationLaw_iff] at hs
  obtain ⟨hx, hn, hr⟩ := hs
  have mapped : ∀ (s : State) (ref : RecRef) (f : SegRec → SegRec), (∀ x ∈ s.btu.expects, x.DestGood) →
      (s.cfg = none → s.btu.queue = []) → (∀ c, s.cfg = some c → ∀ r ∈ s.btu.queue, r.DestGood c) →
      (∀ c ∈ s.cfg, ∀ r ∈ s.btu.queue, r.ref = ref → r.DestGood c → (f r).DestGood c) → DestinationLaw (s.mapRec ref f) := by
    intro s ref f hx hn hr hd
    refine ⟨hx, fun hc => by simp [hn hc], fun c hc r hm => ?_⟩
    rcases mem_mapRec hm with ⟨q, hq, hqr, rfl⟩ | ⟨hq, -⟩
    · exact hd c hc q hq hqr (hr c hc q hq)
    · exact hr c hc r hq
  cases h with
  | pending | pins | rdu | stu | view | idt | entries | rewrite | claim | undo | diverter | hlc | zeroFlow => exact hold
  | cfl k s f h => exact ⟨hx, fun hc => hn (h ▸ hc), fun c hc => hr c (h ▸ hc)⟩
  | adopt s k f q _ hf hd _ _ => exact mapped s _ f hx hn hr hd
  | mapRec k s ref f hf hd _ => exact mapped s _ f hx hn hr hd
  | btu k s b h =>
    refine ⟨?_, ?_, ?_⟩
    · rw [State.setBtu_btu, h.expects]; exact hx
    · rw [State.setBtu_btu, h.queue]; exact hn
    · rw [State.setBtu_btu, h.queue]; exact hr
  | expects k s xs _ hd => exact ⟨hd hx, hn, hr⟩
  | join k s c f xs r hc' hst hf hein hroom hnew hslot hxs hlen hd₂ hp₂ he₂ =>
    obtain ⟨hq, -, -, hje, -⟩ := (s.setBtu { s.btu with fEntry := f, expects := xs }).join_fields c r
    refine destinationLaw_of_cfg (c := c) (by simpa using hc') (by rw [hje]; exact fun x hm => hx x (hxs x hm)) ?_
    rw [hq]
    intro q hm
    rcases List.mem_append.1 hm with hm | hm
    · exact hr c hc' q hm
    · rw [List.mem_singleton.1 hm]; exact hd₂ hx
  | remove k s c ref cause hc' =>
    refine destinationLaw_of_cfg (c := c) (by simpa using hc') (by simpa using hx) ?_
    rw [State.remove_queue]
    exact fun r hm => hr c hc' r (List.mem_of_mem_eraseP hm)
  | clear k s c hc' =>
    obtain ⟨hq, hcx, -⟩ := s.segmentClear_fields c
    exact destinationLaw_of_cfg (c := c) (by simpa using hc') (by simp [hcx]) (by simp [hq])
  | permit k s c d hc' =>
    exact destinationLaw_of_cfg (c := c) (by simpa using hc') (by simpa using hx) (by simpa using hr c hc')

theorem passesLaw_iff (s : State) : PassesLaw s ↔ ∀ c, s.cfg = some c → 1 ≤ c.maxPasses ∧ ∀ r ∈ s.btu.queue, r.PassGood c := Iff.rfl

/-- Every edit keeps the passes law. -/
theorem Edit.passesLaw {a b : Option Claim × State} (h : Edit a b) (hslots : SlotLaw a.2) (hdest : DestinationLaw a.2)
    (hs : PassesLaw a.2) : PassesLaw b.2 := by
  rw [passesLaw_iff] at *
  have mapped : ∀ (s : State) (ref : RecRef) (f : SegRec → SegRec), SlotLaw s → DestinationLaw s → PassesLaw s →
      (∀ q, s.findRec ref = some q → ∀ c ∈ s.cfg, 1 ≤ c.maxPasses → q.DestGood c → q.PassGood c → (f q).PassGood c) →
      PassesLaw (s.mapRec ref f) := by
    intro s ref f hslots hdest hs hp c hc
    obtain ⟨hmax, hr⟩ := hs c hc
    refine ⟨hmax, fun r hm => ?_⟩
    rcases mem_mapRec hm with ⟨q, hq, rfl, rfl⟩ | ⟨hq, -⟩
    · exact hp q (hslots.findRec_eq hq) c hc hmax (hdest.2.2 c hc q hq) (hr q hq)
    · exact hr r hq
  have kept : ∀ (s t : State) (c : StationConfig), PassesLaw s → s.cfg = some c → t.cfg = some c →
      (1 ≤ c.maxPasses → ∀ r ∈ t.btu.queue, r ∈ s.btu.queue ∨ r.PassGood c) → PassesLaw t := by
    intro s t c hs hc ht hsub k hk
    rw [ht] at hk
    cases hk
    obtain ⟨hmax, hr⟩ := hs c hc
    exact ⟨hmax, fun r hm => (hsub hmax r hm).elim (hr r) id⟩
  cases h with
  | pending | pins | rdu | stu | view | idt | entries | rewrite | claim | undo | diverter | hlc | zeroFlow | expects => exact hs
  | cfl k s f h => exact fun c hc => hs c (h ▸ hc)
  | adopt s k f q hq hf hd hp _ =>
    refine mapped s _ f hslots hdest hs fun q' hq' => ?_
    rw [hq] at hq'
    cases hq'
    exact hp
  | mapRec k s ref f hf hd hr => exact mapped s _ f hslots hdest hs fun q hq => (hr hslots q hq).pass
  | btu k s b h => rw [State.setBtu_btu, h.queue]; exact hs
  | join k s c f xs r hc' hst hf hein hroom hnew hslot hxs hlen hd₂ hp₂ he₂ =>
    refine kept s _ c hs hc' (by simpa using hc') fun hmax q hm => ?_
    rw [(State.join_fields _ c r).1] at hm
    rcases List.mem_append.1 hm with hm | hm
    · exact Or.inl hm
    · rw [List.mem_singleton.1 hm]; exact Or.inr (hp₂ hmax)
  | remove k s c ref cause hc' =>
    refine kept s _ c hs hc' (by simpa using hc') fun _ q hm => ?_
    rw [State.remove_queue] at hm
    exact Or.inl (List.mem_of_mem_eraseP hm)
  | clear k s c hc' =>
    exact kept s _ c hs hc' (by simpa using hc') fun _ q hm => by rw [(s.segmentClear_fields c).1] at hm; cases hm
  | permit k s c d hc' => exact kept s _ c hs hc' (by simpa using hc') fun _ q hm => Or.inl (by simpa using hm)

end Sys2Proof.Machine
end

section
/-! SUPPORT. Every edit keeps the tag law and the reference law, the claim of an identification under way allowed for. -/

namespace Sys2Proof.Machine

open Sys2Proof

/-! ### Entries -/

theorem entryAt_modify (es : List (Option IdtEntry)) (i j : Nat) (f : Option IdtEntry → Option IdtEntry) (hf : f none = none) :
    entryAt (es.modify i f) j = if i = j then f (entryAt es j) else entryAt es j := by
  simp only [entryAt, List.getD_eq_getElem?_getD, List.getElem?_modify]
  cases h : es[j]? <;> by_cases e : i = j <;> simp [e, hf]

theorem entryAt_set {es : List (Option IdtEntry)} {i : Nat} (h : i < es.length) (j : Nat) (x : Option IdtEntry) :
    entryAt (es.set i x) j = if i = j then x else entryAt es j := by
  simp only [entryAt, List.getD_eq_getElem?_getD, List.getElem?_set]
  by_cases e : i = j
  · subst e; simp [h]
  · simp [e]

/-- A leaving record takes its entry off the segment, and no other entry (R28, R90). -/
theorem inState_releaseEntry (cause : Cause) (o : Option Nat) (es : List (Option IdtEntry)) (i : Nat) :
    inState (releaseEntry cause o es) i .onSegment = (inState es i .onSegment && decide (o ≠ some i)) := by
  cases o with
  | none => simp [releaseEntry]
  | some j =>
    simp only [releaseEntry, inState, entryAt_modify es j i (moveEntry cause.entryState) rfl]
    by_cases e : j = i
    · subst e
      cases entryAt es j <;> cases cause <;> simp [moveEntry, Cause.entryState]
    · simp [e]

@[simp] theorem tagAt_releaseEntry (cause : Cause) (o : Option Nat) (es : List (Option IdtEntry)) (i : Nat) :
    tagAt (releaseEntry cause o es) i = tagAt es i := by
  cases o with
  | none => rfl
  | some j =>
    simp only [releaseEntry, tagAt, entryAt_modify es j i (moveEntry cause.entryState) rfl]
    split
    · cases entryAt es i <;> rfl
    · rfl

theorem inState_releaseAll (cause : Cause) (q : List SegRec) (es : List (Option IdtEntry)) (i : Nat) :
    inState (q.foldl (fun es (r : SegRec) => releaseEntry cause r.entry es) es) i .onSegment
      = (inState es i .onSegment && decide (∀ r ∈ q, r.entry ≠ some i)) := by
  induction q generalizing es with
  | nil => simp
  | cons r q ih =>
    rw [List.foldl_cons, ih, inState_releaseEntry]
    by_cases h : r.entry = some i <;> simp [h]

theorem tagAt_releaseAll (cause : Cause) (q : List SegRec) (es : List (Option IdtEntry)) (i : Nat) :
    tagAt (q.foldl (fun es (r : SegRec) => releaseEntry cause r.entry es) es) i = tagAt es i := by
  induction q generalizing es with
  | nil => rfl
  | cons r q ih => rw [List.foldl_cons, ih, tagAt_releaseEntry]

/-! ### Tags (R78) -/

/-- No two entries share a tag number. -/
def TagsGood (es : List (Option IdtEntry)) : Prop := ∀ i j t, tagAt es i = some t → tagAt es j = some t → i = j

theorem tagLaw_iff (s : State) : TagLaw s ↔ TagsGood s.idt.entries := by
  constructor
  · intro h i j t hi hj
    obtain ⟨x, hx, rfl⟩ := Option.map_eq_some_iff.1 hi
    obtain ⟨y, hy, hyx⟩ := Option.map_eq_some_iff.1 hj
    exact h i j x y hx hy hyx.symm
  · intro h i j x y hi hj e
    exact h i j x.tag (by simp [tagAt, hi]) (by simp [tagAt, hj, e])

theorem TagsGood.congr {es es' : List (Option IdtEntry)} (h : TagsGood es) (e : ∀ i, tagAt es' i = tagAt es i) : TagsGood es' :=
  fun i j t hi hj => h i j t (e i ▸ hi) (e j ▸ hj)

/-- The tag law, and the claimed entry holds the claim's tag. -/
def TagInv (a : Option Claim × State) : Prop :=
  TagLaw a.2 ∧ ∀ k ∈ a.1, k.entry < a.2.idt.entries.length → tagAt a.2.idt.entries k.entry = some k.tag

theorem TagInv.congr {k : Option Claim} {s t : State} (h : TagInv (k, s))
    (hl : t.idt.entries.length = s.idt.entries.length) (e : ∀ i, tagAt t.idt.entries i = tagAt s.idt.entries i) : TagInv (k, t) :=
  ⟨(tagLaw_iff t).2 (((tagLaw_iff s).1 h.1).congr e), fun c hc hlt => (e c.entry).trans (h.2 c hc (lt_of_lt_of_eq hlt hl))⟩

/-- Every edit keeps the tag law. -/
theorem Edit.tagInv {a b : Option Claim × State} (h : Edit a b) (hs : TagInv a) : TagInv b := by
  cases h with
  | pending | pins | cfl | rdu | stu | view | diverter | hlc | zeroFlow | expects | mapRec | btu | idt => exact hs
  | entries k s es hl ht _ => exact hs.congr hl ht
  | rewrite s es _ ht _ => exact ⟨ht hs.1, by simp⟩
  | claim s es k _ ht hk _ _ _ _ =>
    refine ⟨ht hs.1, fun c hc => ?_⟩
    obtain rfl : k = c := by simpa using hc
    exact hk
  | undo s k es hl ht _ _ =>
    obtain ⟨htag, -⟩ := hs.congr (t := s.setEntries es) hl (ht (hs.2 k rfl))
    exact ⟨htag, by simp⟩
  | adopt s k f q _ _ _ _ _ => exact ⟨hs.1, by simp⟩
  | join => exact hs.congr (by simp) (by simp)
  | remove k s c ref cause hc' =>
    cases hf : s.findRec ref with
    | none => rw [State.remove_of_findRec_none hf]; exact hs
    | some r =>
      obtain ⟨-, -, -, -, hidt, -⟩ := State.remove_fields hf c cause
      exact hs.congr (by rw [hidt]; exact length_releaseEntry _ _ _) fun i => by rw [hidt]; exact tagAt_releaseEntry _ _ _ _
  | clear k s c hc' =>
    obtain ⟨-, -, -, -, -, hidt, -⟩ := s.segmentClear_fields c
    exact hs.congr (by rw [hidt]; exact length_releaseAll _ _ _) fun i => by rw [hidt]; exact tagAt_releaseAll _ _ _ _
  | permit => exact hs.congr (by simp) (by simp)

/-! ### References (R80) -/

/-- Two records do not refer to one entry. -/
def Apart (a b : SegRec) : Prop := a.entry = none ∨ a.entry ≠ b.entry

theorem Apart.symm {a b : SegRec} (h : Apart a b) : Apart b a := by
  unfold Apart at *
  rcases h with h | h
  · by_cases e : b.entry = none
    · exact Or.inl e
    · exact Or.inr (by rw [h]; exact e)
  · exact Or.inr (Ne.symm h)

/-- What R80 asks of an entry table and the records, with the entry that is claimed for a record. -/
structure RefGood (k : Option Claim) (es : List (Option IdtEntry)) (q : List SegRec) : Prop where
  referred : ∀ i, inState es i .onSegment = true → (∃ r ∈ q, r.entry = some i) ∨ ∃ c ∈ k, c.entry = i
  apart : q.Pairwise Apart
  onSegment : ∀ r ∈ q, ∀ i, r.entry = some i → inState es i .onSegment = true
  identified : ∀ r ∈ q, r.entry ≠ none → r.readStatus = .read ∧ r.ident.isSome
  claimed : ∀ c ∈ k, inState es c.entry .onSegment = true ∧ (∀ r ∈ q, r.entry ≠ some c.entry) ∧ ∀ r ∈ q, r.ref = c.ref → r.entry = none

theorem referenceLaw_iff (s : State) : ReferenceLaw s ↔ RefGood none s.idt.entries s.btu.queue := by
  constructor
  · rintro ⟨h1, h2, h3⟩
    refine ⟨fun i hi => Or.inl (h1 i hi), h2, fun r hr i hi => (h3 r hr i hi).1, fun r hr hn => ?_, by simp⟩
    obtain ⟨i, hi⟩ := Option.ne_none_iff_exists'.1 hn
    exact (h3 r hr i hi).2
  · rintro ⟨h1, h2, h3, h4, -⟩
    exact ⟨fun i hi => (h1 i hi).resolve_right (by simp), h2, fun r hr i hi => ⟨h3 r hr i hi, h4 r hr (by simp [hi])⟩⟩

/-- The reference law with the claimed entry. -/
def RefInv (a : Option Claim × State) : Prop := RefGood a.1 a.2.idt.entries a.2.btu.queue

theorem RefGood.entries {k : Option Claim} {es es' : List (Option IdtEntry)} {q : List SegRec} (h : RefGood k es q)
    (e : ∀ i, inState es' i .onSegment = inState es i .onSegment) : RefGood k es' q where
  referred i hi := h.referred i (e i ▸ hi)
  apart := h.apart
  onSegment r hr i hi := (e i).trans (h.onSegment r hr i hi)
  identified := h.identified
  claimed c hc := ⟨(e _).trans (h.claimed c hc).1, (h.claimed c hc).2⟩

/-- Distinct records of a queue in which each is alone in its slot do not refer to one entry. -/
theorem RefGood.entry_ne {k : Option Claim} {es : List (Option IdtEntry)} {q : List SegRec} (h : RefGood k es q) {a b : SegRec}
    (ha : a ∈ q) (hb : b ∈ q) (hab : a ≠ b) {i : Nat} (hi : a.entry = some i) : b.entry ≠ some i := by
  have : Std.Symm Apart := ⟨fun _ _ => Apart.symm⟩
  have := h.apart.forall ha hb hab
  rcases this with e | e
  · rw [hi] at e; cases e
  · rw [hi] at e; exact fun w => e w.symm

/-- Every edit keeps the reference law. -/
theorem Edit.refInv {a b : Option Claim × State} (h : Edit a b) (hsize : SizeLaw a.2) (hslots : SlotLaw a.2) (hs : RefInv a) :
    RefInv b := by
  unfold RefInv at *
  cases h with
  | pending | pins | cfl | rdu | stu | view | diverter | hlc | zeroFlow | expects | idt => exact hs
  | btu k s b h => rw [State.setBtu_btu, State.setBtu_idt, h.queue]; exact hs
  | entries k s es _ _ he => exact hs.entries he
  | rewrite s es _ _ he => exact hs.entries he
  | claim s es k _ _ _ he hnew hseg hrec =>
    have none_refers : ∀ r ∈ s.btu.queue, r.entry ≠ some k.entry := fun r hr hi => by
      have := hs.onSegment r hr _ hi
      rw [hnew] at this
      cases this
    refine ⟨fun i hi => ?_, hs.apart, fun r hr i hi => ?_, hs.identified, fun c hc => ?_⟩
    · by_cases e : i = k.entry
      · exact Or.inr ⟨k, rfl, e.symm⟩
      · exact Or.inl ((hs.referred i ((he i e).symm.trans hi)).resolve_right (by simp))
    · exact (he i fun e => none_refers r hr (e ▸ hi)).trans (hs.onSegment r hr i hi)
    · obtain rfl : k = c := by simpa using hc
      refine ⟨hseg hsize.2.2.2.1, none_refers, fun r hr href => ?_⟩
      by_contra hn
      obtain ⟨hread, hid⟩ := hs.identified r hr hn
      rw [hrec hslots r hr href hread] at hid
      cases hid
  | undo s k es _ _ he hout =>
    have hk := hs.claimed k rfl
    refine ⟨fun i hi => ?_, hs.apart, fun r hr i hi => ?_, hs.identified, by simp⟩
    · have e : i ≠ k.entry := fun e => by rw [e] at hi; exact Bool.false_ne_true (hout.symm.trans hi)
      refine Or.inl ((hs.referred i ((he i e).symm.trans hi)).resolve_right ?_)
      rintro ⟨c, hc, hci⟩
      obtain rfl : k = c := by simpa using hc
      exact e hci.symm
    · exact (he i fun e => hk.2.1 r hr (e ▸ hi)).trans (hs.onSegment r hr i hi)
  | adopt s k f q hq hf _ _ hadopt =>
    obtain ⟨hk, hkne, hknone⟩ := hs.claimed k rfl
    obtain ⟨hqm, hqr⟩ := State.findRec_some hq
    obtain ⟨hent, hread, hid⟩ := hadopt
    have unique : ∀ r ∈ s.btu.queue, r.ref = k.ref → r = q := fun r hr e => hslots.ref_inj hr hqm (e.trans hqr.symm)
    have hfq : f q ∈ (s.mapRec k.ref f).btu.queue := by
      simp only [State.mapRec_btu, List.mem_map]
      exact ⟨q, hqm, by simp [hqr]⟩
    refine ⟨fun i hi => Or.inl ?_, ?_, fun r hr i hi => ?_, fun r hr hn => ?_, by simp⟩
    · rcases hs.referred i hi with ⟨r, hr, hri⟩ | ⟨c, hc, hci⟩
      · refine ⟨r, ?_, hri⟩
        have hne : r.ref ≠ k.ref := fun e => by rw [hknone r hr e] at hri; cases hri
        simp only [State.mapRec_btu, List.mem_map]
        exact ⟨r, hr, by simp [hne]⟩
      · obtain rfl : k = c := by simpa using hc
        exact ⟨f q, hfq, by rw [hent, hci]⟩
    · simp only [State.mapRec_btu]
      rw [List.pairwise_map]
      have hnodup : s.btu.queue.Pairwise fun a b => a.slot ≠ b.slot := List.pairwise_map.1 hslots.1
      refine (hs.apart.and hnodup).imp_of_mem fun {x y} hx hy h => ?_
      obtain ⟨hap, hslot⟩ := h
      by_cases ex : x.ref = k.ref <;> by_cases ey : y.ref = k.ref
      · exact absurd (congrArg RecRef.slot (ex.trans ey.symm)) hslot
      · simp only [ex, ey, if_true, if_false]
        rw [unique x hx ex]
        exact Or.inr (by rw [hent]; exact fun e => hkne y hy e.symm)
      · simp only [ex, ey, if_true, if_false]
        rw [unique y hy ey]
        exact Or.inr (by rw [hent]; exact hkne x hx)
      · simpa only [ex, ey, if_false] using hap
    · rcases mem_mapRec hr with ⟨x, hx, hxr, rfl⟩ | ⟨hx, -⟩
      · rw [unique x hx hxr, hent] at hi
        cases hi
        exact hk
      · exact hs.onSegment r hx i hi
    · rcases mem_mapRec hr with ⟨x, hx, hxr, rfl⟩ | ⟨hx, -⟩
      · rw [unique x hx hxr]; exact ⟨hread, hid⟩
      · exact hs.identified r hx hn
  | mapRec k s ref f hf _ hkeep =>
    have keeps : ∀ r ∈ s.btu.queue, r.ref = ref → RecKeeps s.cfg r (f r) := fun r hr e =>
      hkeep hslots r (e ▸ hslots.findRec_eq hr)
    have entry_eq : ∀ r ∈ s.btu.queue, (if r.ref = ref then f r else r).entry = r.entry := fun r hr => by
      split
      · exact (keeps r hr ‹_›).entry
      · rfl
    refine ⟨fun i hi => (hs.referred i hi).imp ?_ id, ?_, fun r hr i hi => ?_, fun r hr hn => ?_, fun c hc => ?_⟩
    · rintro ⟨r, hr, hri⟩
      exact ⟨_, List.mem_map_of_mem hr, (entry_eq r hr).trans hri⟩
    · simp only [State.mapRec_btu]
      rw [List.pairwise_map]
      refine hs.apart.imp_of_mem fun {x y} hx hy h => ?_
      unfold Apart
      rw [entry_eq x hx, entry_eq y hy]
      exact h
    · rcases mem_mapRec hr with ⟨x, hx, hxr, rfl⟩ | ⟨hx, -⟩
      · exact hs.onSegment x hx i ((keeps x hx hxr).entry.symm.trans hi)
      · exact hs.onSegment r hx i hi
    · rcases mem_mapRec hr with ⟨x, hx, hxr, rfl⟩ | ⟨hx, -⟩
      · have hk := keeps x hx hxr
        rw [hk.entry] at hn
        obtain ⟨h1, h2⟩ := hs.identified x hx hn
        exact ⟨hk.read hn h1, hk.ident hn h2⟩
      · exact hs.identified r hx hn
    · obtain ⟨h1, h2, h3⟩ := hs.claimed c hc
      refine ⟨h1, fun r hr => ?_, fun r hr href => ?_⟩
      · rcases mem_mapRec hr with ⟨x, hx, hxr, rfl⟩ | ⟨hx, -⟩
        · rw [(keeps x hx hxr).entry]; exact h2 x hx
        · exact h2 r hx
      · rcases mem_mapRec hr with ⟨x, hx, hxr, rfl⟩ | ⟨hx, -⟩
        · rw [(keeps x hx hxr).entry]; exact h3 x hx ((hf x).symm.trans href)
        · exact h3 r hx href
  | join k s c f xs r hc' hst hf hein hroom hnew hslot hxs hlen hd₂ hp₂ hent =>
    simp only [(State.join_fields _ c r).1, State.join_frame, State.setBtu_btu, State.setBtu_idt]
    refine ⟨fun i hi => (hs.referred i hi).imp (fun ⟨x, hx, hxi⟩ => ⟨x, by simp [hx], hxi⟩) id, ?_, fun x hx i hi => ?_,
      fun x hx hn => ?_, fun k' hk' => ?_⟩
    · refine List.pairwise_append.2 ⟨hs.apart, List.pairwise_singleton _ _, fun x hx y hy => ?_⟩
      rw [List.mem_singleton.1 hy]
      exact Apart.symm (Or.inl hent)
    · rcases List.mem_append.1 hx with hx | hx
      · exact hs.onSegment x hx i hi
      · rw [List.mem_singleton.1 hx, hent] at hi; cases hi
    · rcases List.mem_append.1 hx with hx | hx
      · exact hs.identified x hx hn
      · rw [List.mem_singleton.1 hx] at hn; exact absurd hent hn
    · obtain ⟨h1, h2, h3⟩ := hs.claimed k' hk'
      refine ⟨h1, fun x hx => ?_, fun x hx href => ?_⟩
      · rcases List.mem_append.1 hx with hx | hx
        · exact h2 x hx
        · rw [List.mem_singleton.1 hx, hent]; simp
      · rcases List.mem_append.1 hx with hx | hx
        · exact h3 x hx href
        · rw [List.mem_singleton.1 hx]; exact hent
  | remove k s c ref cause hc' =>
    cases hfind : s.findRec ref with
    | none => rw [State.remove_of_findRec_none hfind]; exact hs
    | some r =>
      obtain ⟨hq, -, -, -, hidt, -⟩ := State.remove_fields hfind c cause
      obtain ⟨hrm, hrr⟩ := State.findRec_some hfind
      simp only [hq, hidt]
      have sub : ∀ x ∈ s.btu.queue.eraseP (·.ref == ref), x ∈ s.btu.queue := fun x hx => List.mem_of_mem_eraseP hx
      have ne : ∀ x ∈ s.btu.queue.eraseP (·.ref == ref), x ≠ r := by
        obtain ⟨y, l₁, l₂, hl₁, hy, heq, herase⟩ := List.exists_of_eraseP (p := fun x : SegRec => x.ref == ref) hrm (by simp [hrr])
        have hyr : y = r := hslots.ref_inj (heq ▸ by simp) hrm (by rw [hrr]; simpa using hy)
        rw [herase]
        rintro x hx rfl
        have hnd := hslots.1
        rw [heq, hyr, List.map_append, List.map_cons, List.nodup_middle] at hnd
        exact (List.nodup_cons.1 hnd).1 (by rw [← List.map_append]; exact List.mem_map_of_mem hx)
      have off : ∀ x ∈ s.btu.queue.eraseP (·.ref == ref), ∀ i, x.entry = some i → r.entry ≠ some i := fun x hx i hi =>
        hs.entry_ne (sub x hx) hrm (ne x hx) hi
      refine ⟨fun i hi => ?_, hs.apart.sublist List.eraseP_sublist, fun x hx i hi => ?_, fun x hx => hs.identified x (sub x hx),
        fun k' hk' => ?_⟩
      · simp only [inState_releaseEntry, Bool.and_eq_true, decide_eq_true_eq] at hi
        refine (hs.referred i hi.1).imp ?_ id
        rintro ⟨x, hx, hxi⟩
        refine ⟨x, (List.mem_eraseP_of_neg (p := fun x : SegRec => x.ref == ref) ?_).2 hx, hxi⟩
        intro hxr
        rw [hslots.ref_inj hx hrm ((by simpa using hxr : x.ref = ref).trans hrr.symm)] at hxi
        exact hi.2 hxi
      · simp only [inState_releaseEntry, Bool.and_eq_true, decide_eq_true_eq]
        exact ⟨hs.onSegment x (sub x hx) i hi, off x hx i hi⟩
      · obtain ⟨h1, h2, h3⟩ := hs.claimed k' hk'
        simp only [inState_releaseEntry, Bool.and_eq_true, decide_eq_true_eq]
        exact ⟨⟨h1, h2 r hrm⟩, fun x hx => h2 x (sub x hx), fun x hx => h3 x (sub x hx)⟩
  | clear k s c hc' =>
    obtain ⟨hq, -, -, -, -, hidt, -⟩ := s.segmentClear_fields c
    simp only [hq, hidt]
    refine ⟨fun i hi => ?_, List.Pairwise.nil, by simp, by simp, fun k' hk' => ?_⟩
    · simp only [inState_releaseAll, Bool.and_eq_true, decide_eq_true_eq] at hi
      refine Or.inr ((hs.referred i hi.1).resolve_left ?_)
      rintro ⟨r, hr, hri⟩
      exact hi.2 r hr hri
    · obtain ⟨h1, h2, -⟩ := hs.claimed k' hk'
      refine ⟨?_, by simp, by simp⟩
      simp only [inState_releaseAll, Bool.and_eq_true, decide_eq_true_eq]
      exact ⟨h1, h2⟩
  | permit k s c d hc' => simpa using hs

end Sys2Proof.Machine
end

section
/-! SUPPORT. Every edit keeps the laws of the line, of the diverters, of the station before VALID and of the outbound queue. -/

namespace Sys2Proof.Machine

open Sys2Proof

/-! ### The line (R162, R164, R165) -/

/-- The line law speaks of the configuration and of three fields of the line controller. -/
theorem LineLaw.congr {s t : State} (h : LineLaw s) (hc : t.cfg = s.cfg) (hl : t.hlc.line = s.hlc.line)
    (hq : t.hlc.quietMs = s.hlc.quietMs) (hd : t.hlc.dup = s.hlc.dup) : LineLaw t := by
  unfold LineLaw at *
  rwa [hc, hl, hq, hd]

/-- Every edit keeps the line law. -/
theorem Edit.lineLaw {a b : Option Claim × State} (h : Edit a b) (hs : LineLaw a.2) : LineLaw b.2 := by
  cases h with
  | pending | pins | rdu | stu | view | idt | entries | rewrite | claim | adopt | undo | btu | expects | zeroFlow | mapRec | diverter =>
    exact hs
  | cfl k s f h => exact hs.congr h rfl rfl rfl
  | hlc k s h hh => exact hh.line hs
  | join | remove | clear | permit => exact hs.congr (by simp) (by simp) (by simp) (by simp)

/-- The objection law speaks of two fields of the line controller. -/
theorem ObjectionLaw.congr {s t : State} (h : ObjectionLaw s) (hl : t.hlc.line = s.hlc.line)
    (ho : t.hlc.objection = s.hlc.objection) : ObjectionLaw t := by
  unfold ObjectionLaw at *
  rwa [hl, ho]

/-- Every edit keeps the objection law. -/
theorem Edit.objectionLaw {a b : Option Claim × State} (h : Edit a b) (hs : ObjectionLaw a.2) : ObjectionLaw b.2 := by
  cases h with
  | pending | pins | cfl | rdu | stu | view | idt | entries | rewrite | claim | adopt | undo | btu | expects | zeroFlow | mapRec
  | diverter => exact hs
  | hlc k s h hh => exact hh.objection hs
  | join | remove | clear | permit => exact hs.congr (by simp) (by simp)

/-! ### The outbound queue (R166, R167) -/

theorem OutboundGood.enqueued {q r : List OutFrame} (h : OutboundGood q) (e : r = q ∨ ∃ f, r = Machine.enqueue f q) :
    OutboundGood r := by
  rcases e with rfl | ⟨f, rfl⟩
  · exact h
  · exact h.enqueue f

/-- Every edit keeps the outbound law. -/
theorem Edit.outboundLaw {a b : Option Claim × State} (h : Edit a b) (hs : OutboundLaw a.2) : OutboundLaw b.2 := by
  cases h with
  | pending | pins | cfl | rdu | stu | view | idt | entries | rewrite | claim | adopt | undo | btu | expects | zeroFlow | mapRec
  | diverter => exact hs
  | hlc k s h hh => exact hh.outbound hs
  | join k s c f xs r => exact OutboundGood.enqueued hs (State.join_outbound _ c r)
  | remove k s c ref cause => exact OutboundGood.enqueued hs (State.remove_outbound s c ref cause)
  | clear k s c => exact OutboundGood.enqueued hs (State.segmentClear_outbound s c)
  | permit k s c d => exact OutboundGood.enqueued hs (State.evalPermit_outbound _ c)

/-! ### The diverters (R112, R119, R131, R133, R137) -/

/-- What the laws of the diverters ask of one. -/
def Diverter.Lawful (c : Option StationConfig) (x : Diverter) : Prop :=
  (∀ a, x.account = some a → a.state = a.derive) ∧ (x.eng ≠ .idle → x.last.isSome) ∧ (c = none → x.grants = [] ∧ x.eng = .idle)

theorem divertLaw_iff (s : State) : DivertLaw s ↔ ∀ d, (s.dvs.get d).Lawful s.cfg := by
  constructor
  · rintro ⟨ha, he⟩ d
    exact ⟨ha d, (he d).1, (he d).2⟩
  · intro h
    exact ⟨fun d => (h d).1, fun d => (h d).2⟩

theorem Diverter.Lawful.forget {c : Option StationConfig} {x : Diverter} (h : x.Lawful c) (ref : RecRef) (own : Bool) :
    (x.forget ref own).Lawful c := by
  obtain ⟨ha, he, hn⟩ := h
  simp only [Diverter.Lawful, Diverter.forget_fields]
  exact ⟨ha, he, fun hc => ⟨by simp [(hn hc).1], (hn hc).2⟩⟩

theorem Diverter.Lawful.cleared {c : Option StationConfig} {x : Diverter} (h : x.Lawful c) : x.cleared.Lawful c := by
  obtain ⟨ha, he, hn⟩ := h
  simp only [Diverter.Lawful, Diverter.cleared_fields]
  exact ⟨ha, he, fun hc => ⟨trivial, (hn hc).2⟩⟩

/-- Every edit keeps the divert law. -/
theorem Edit.divertLaw {a b : Option Claim × State} (h : Edit a b) (hs : DivertLaw a.2) : DivertLaw b.2 := by
  rw [divertLaw_iff] at *
  cases h with
  | pending | pins | rdu | stu | view | idt | entries | rewrite | claim | adopt | undo | btu | expects | zeroFlow | mapRec | hlc =>
    exact hs
  | cfl k s f h => intro d; rw [h]; exact hs d
  | diverter k s d x h =>
    intro e
    rw [State.setDiv_get, State.setDiv_cfg]
    obtain ⟨ha, he, hn⟩ := hs d
    split
    · exact ⟨h.derived ha, h.fired he, fun hc => h.atRest hc (hn hc)⟩
    · exact hs e
  | join | permit => simpa using hs
  | remove k s c ref cause hc' =>
    cases hf : s.findRec ref with
    | none => rw [State.remove_of_findRec_none hf]; exact hs
    | some r =>
      obtain ⟨-, -, -, -, -, hd⟩ := State.remove_fields hf c cause
      have hcfg : (s.remove c ref cause).cfg = s.cfg := by simp
      intro d
      rw [hd, hcfg]
      exact (hs d).forget ref _
  | clear k s c hc' =>
    obtain ⟨-, -, -, -, -, -, hd⟩ := s.segmentClear_fields c
    have hcfg : (s.segmentClear c).cfg = s.cfg := by simp
    intro d
    rw [hd, hcfg]
    exact (hs d).cleared

/-- Every edit keeps the start law. -/
theorem Edit.startLaw {a b : Option Claim × State} (h : Edit a b) (hs : StartLaw a.2) : StartLaw b.2 := by
  have configured : ∀ (s t : State) (c : StationConfig), s.cfg = some c → t.cfg = s.cfg → StartLaw t := by
    intro s t c hc ht hn
    rw [ht, hc] at hn
    cases hn
  cases h with
  | pending | pins | rdu | stu | view | idt | entries | rewrite | claim | adopt | undo | expects | zeroFlow | mapRec | hlc =>
    exact hs
  | cfl k s f h => intro hc; exact hs (h ▸ hc)
  | btu k s b h => intro hc; rw [State.setBtu_btu, h.permit]; exact hs hc
  | diverter k s d x h =>
    intro hc
    refine ⟨(hs hc).1, fun e => ?_⟩
    rw [State.setDiv_get]
    split
    · exact h.noAccount hc ((hs hc).2 d)
    · exact (hs hc).2 e
  | join k s c f xs r hc' => exact configured s _ c hc' (by simp)
  | remove k s c ref cause hc' => exact configured s _ c hc' (by simp)
  | clear k s c hc' => exact configured s _ c hc' (by simp)
  | permit k s c d hc' => exact configured s _ c hc' (by simp)

end Sys2Proof.Machine
end

section
/-! SUPPORT. The operations as sequences of edits: counters, frames, records, diverters and accounts. -/

namespace Sys2Proof.Machine

open Sys2Proof

/-- From s to t by edits, whatever entry is claimed meanwhile. -/
def Edits (s t : State) : Prop := ∀ k, Relation.ReflTransGen Edit (k, s) (k, t)

theorem Edits.refl (s : State) : Edits s s := fun _ => .refl

theorem Edits.trans {s t u : State} (h : Edits s t) (h' : Edits t u) : Edits s u := fun k => (h k).trans (h' k)

theorem Edits.tail {s t u : State} (h : Edits s t) (h' : ∀ k, Edit (k, t) (k, u)) : Edits s u := fun k => (h k).tail (h' k)

/-- No edit changes the configuration. -/
theorem Edit.cfg {a b : Option Claim × State} (h : Edit a b) : b.2.cfg = a.2.cfg := by
  cases h with
  | cfl k s f h => exact h
  | join | remove | clear | permit => simp
  | pending | pins | rdu | stu | view | idt | entries | rewrite | claim | adopt | undo | btu | expects | zeroFlow | mapRec | diverter
  | hlc => rfl

theorem Edits.cfg {s t : State} (h : Edits s t) : t.cfg = s.cfg := by
  have keeps : ∀ {a b : Option Claim × State}, Relation.ReflTransGen Edit a b → b.2.cfg = a.2.cfg := by
    intro a b h
    induction h with
    | refl => rfl
    | tail _ h ih => exact h.cfg.trans ih
  exact keeps (h none)

/-- A law that every edit keeps holds after edits. -/
theorem Edits.keeps {P : Option Claim × State → Prop} (hP : ∀ a b, Edit a b → P a → P b) {a b : Option Claim × State}
    (h : Relation.ReflTransGen Edit a b) (ha : P a) : P b := by
  induction h with
  | refl => exact ha
  | tail _ h ih => exact hP _ _ h ih

section
variable {s t : State} {c : StationConfig}

theorem Edits.foldl {α : Type} (g : State → α → State) (hg : ∀ t a, Edits s t → Edits s (g t a)) (l : List α) :
    ∀ t, Edits s t → Edits s (l.foldl g t) := by
  induction l with
  | nil => exact fun t h => h
  | cons a l ih => exact fun t h => ih _ (hg t a h)

/-! ### Parts that no law speaks of -/

theorem Edits.bump (h : Edits s t) (k : Ctr) : Edits s (t.bump k) := h.tail fun _ => .stu _ _ _ (by simp) rfl

theorem Edits.raiseEv (h : Edits s t) (e : Ev) : Edits s (t.raiseEv e) := h.tail fun _ => .stu _ _ _ rfl (by simp)

theorem Edits.bumpN (h : Edits s t) (k : Ctr) (n : Nat) : Edits s (t.bumpN k n) := by
  induction n with
  | zero => exact h
  | succ n ih => exact ih.bump k

theorem Edits.clearEvents (h : Edits s t) (m : Byte) : Edits s (t.clearEvents m) := h.tail fun _ => .stu _ _ _ rfl (by simp)

theorem Edits.setAsm (h : Edits s t) (a : Assembler) (g : Option Nat) : Edits s (t.setAsm a g) := h.tail fun _ => .rdu _ _ _

theorem Edits.setPins (h : Edits s t) (p : Pins) : Edits s { t with pins := p } := h.tail fun _ => .pins _ _ _

theorem Edits.setView (h : Edits s t) {v : List ViewEntry} (hv : v.length = t.rrv.view.length) : Edits s (t.setView v) :=
  h.tail fun _ => .view _ _ _ hv

theorem Edits.writeView (h : Edits s t) (n : Nat) (e : ViewEntry) : Edits s (t.writeView n e) := h.setView (by simp)

theorem Edits.writeOwnView (h : Edits s t) (c : StationConfig) (a : Account) : Edits s (t.writeOwnView c a) := h.writeView _ _

theorem Edits.setBtu (h : Edits s t) {b : Btu} (hb : BtuKeeps t.btu b) : Edits s (t.setBtu b) := h.tail fun _ => .btu _ _ _ hb

theorem Edits.setHlc (h : Edits s t) {x : Hlc} (hx : HlcKeeps t x) : Edits s (t.setHlc x) := h.tail fun _ => .hlc _ _ _ hx

theorem Edits.setDiv (h : Edits s t) {d : Div} {x : Diverter} (hx : DivKeeps s.cfg (t.dvs.get d) x) : Edits s (t.setDiv d x) :=
  h.tail fun _ => .diverter _ _ _ _ (h.cfg ▸ hx)

/-! ### Frames -/

/-- A change of the line controller under which the line state, the timer, the mark and the objection stay. -/
theorem HlcKeeps.of_queue {s : State} {h : Hlc} (hl : h.line = s.hlc.line) (hq : h.quietMs.isSome = s.hlc.quietMs.isSome)
    (hd : h.dup = s.hlc.dup) (ho : h.objection = s.hlc.objection) (hlaw : OutboundGood s.hlc.queue → OutboundGood h.queue)
    (hlen : s.hlc.queue.length ≤ 8 → h.queue.length ≤ 8) (ht : s.hlc.tally ≤ 3 → h.tally ≤ 3) : HlcKeeps s h where
  outbound := hlaw
  line hs := by
    obtain ⟨h1, h2, h3, h4⟩ := hs
    refine ⟨?_, ?_, ?_, ?_⟩ <;> simp only [State.setHlc_hlc, State.setHlc_cfg, hl, hq, hd] <;> assumption
  objection hs := by
    unfold ObjectionLaw at *
    simp only [State.setHlc_hlc, hl, ho]
    exact hs
  length := hlen
  tally := ht

/-- Queuing a frame is a change of the outbound queue and of counters. -/
theorem State.queueFrame_eq (s : State) (f : Frame) :
    s.queueFrame f = { s.setHlc { s.hlc with queue := enqueue f s.hlc.queue } with stu := (s.queueFrame f).stu } := by
  simp only [State.queueFrame, enqueue]
  (repeat' split) <;> rfl

theorem Edits.queueFrame (h : Edits s t) (f : Frame) : Edits s (t.queueFrame f) := by
  rw [State.queueFrame_eq]
  have hh : Edits s (t.setHlc { t.hlc with queue := enqueue f t.hlc.queue }) :=
    h.setHlc (.of_queue rfl rfl rfl rfl (OutboundGood.enqueue f) (length_enqueue_le f) id)
  exact hh.tail fun _ => .stu _ _ _ (State.queueFrame_stu_lengths t f).1 (State.queueFrame_stu_lengths t f).2

/-- A change of fields of the tracking unit that no law speaks of. -/
theorem BtuKeeps.of_eq {a b : Btu} (hq : b.queue = a.queue) (hx : b.expects = a.expects) (hf : b.flow = a.flow) (hd : b.down = a.down)
    (hb : b.blockedFlag = a.blockedFlag) (hp : b.permit = a.permit) (he : b.e = a.e) (hh : b.history = a.history)
    (hs : b.fEntry = a.fEntry) : BtuKeeps a b where
  queue := hq
  expects := hx
  flow := by rw [hf]
  down := by rw [hd]
  blockedFlag := hb
  permit := hp
  e := he
  history h := by rw [hh]; exact h
  entryEdge := fun h => Or.inl ⟨hs ▸ h, by rw [hs]⟩

theorem Edits.queueSegmentState (h : Edits s t) : Edits s t.queueSegmentState :=
  (h.queueFrame _).setBtu (.of_eq rfl rfl rfl rfl rfl rfl rfl rfl rfl)

/-! ### Records -/

theorem Edits.mapRec (h : Edits s t) {ref : RecRef} {f : SegRec → SegRec} (hf : ∀ r, (f r).ref = r.ref)
    (hd : ∀ k ∈ s.cfg, ∀ r ∈ t.btu.queue, r.ref = ref → r.DestGood k → (f r).DestGood k)
    (hr : SlotLaw t → ∀ q, t.findRec ref = some q → RecKeeps s.cfg q (f q)) : Edits s (t.mapRec ref f) :=
  h.tail fun _ => .mapRec _ _ _ _ hf (h.cfg ▸ hd) (h.cfg ▸ hr)

/-- A change of a record's fields that no law speaks of. -/
def Plain (f : SegRec → SegRec) : Prop :=
  ∀ r, (f r).ref = r.ref ∧ (f r).ident = r.ident ∧ (f r).entry = r.entry ∧ (f r).dest = r.dest ∧ (f r).reason = r.reason
    ∧ (f r).passes = r.passes ∧ (f r).readStatus = r.readStatus

theorem Plain.recKeeps {f : SegRec → SegRec} (hf : Plain f) (k : Option StationConfig) (q : SegRec) : RecKeeps k q (f q) := by
  obtain ⟨-, hi, he, -, hr, hp, hs⟩ := hf q
  exact ⟨fun c _ _ _ h => by unfold SegRec.PassGood; rwa [hp, hr], he, fun _ h => hs.trans h, fun _ h => hi.symm ▸ h⟩

theorem Edits.mapPlain (h : Edits s t) {f : SegRec → SegRec} (hf : Plain f) (ref : RecRef) : Edits s (t.mapRec ref f) :=
  h.mapRec (fun r => (hf r).1)
    (fun k _ r _ _ hr => by
      obtain ⟨-, hi, -, hd, hn, -, -⟩ := hf r
      unfold SegRec.DestGood
      rw [hi, hd, hn]
      exact hr)
    fun _ q _ => hf.recKeeps _ q

theorem Edits.updatePlain (h : Edits s t) {f : SegRec → SegRec} (hf : Plain f) (ref : RecRef) : Edits s (t.updateRec ref f) := by
  unfold State.updateRec
  split
  · exact h.mapPlain hf ref
  · exact h.bump _

theorem Edits.takePoint (h : Edits s t) (p : Point) (ref : RecRef) : Edits s (t.takePoint p ref) :=
  h.mapPlain (f := fun r => { r with awaiting := r.awaiting.erase p }) (fun _ => ⟨rfl, rfl, rfl, rfl, rfl, rfl, rfl⟩) ref

/-! ### Diverters and grants (R117) -/

/-- A change of a diverter under which its lists only shrink and its account stays. -/
theorem DivKeeps.of_lists {k : Option StationConfig} {x y : Diverter} (hg : y.grants.length ≤ x.grants.length)
    (hc : y.confirms.length ≤ x.confirms.length) (ha : y.account = x.account) (he : y.eng = x.eng)
    (hl : x.last.isSome → y.last.isSome) : DivKeeps k x y where
  grants h := hg.trans h
  confirms h := hc.trans h
  fill h := ha ▸ h
  derived h := ha ▸ h
  fired h hn := hl (h (he ▸ hn))
  atRest _ h := ⟨List.length_eq_zero_iff.1 (by simpa [h.1] using hg), he.trans h.2⟩
  noAccount _ h := ha.trans h

theorem Edits.withdraw (h : Edits s t) (d : Div) (k : Ctr) (p : Grant → Bool) : Edits s (t.withdraw d k p) := by
  unfold State.withdraw
  refine Edits.foldl _ (fun u g hu => (hu.updatePlain ?_ g.ref).bump k) _ _ ?_
  · exact fun _ => ⟨rfl, rfl, rfl, rfl, rfl, rfl, rfl⟩
  · exact h.setDiv (.of_lists (List.length_filter_le _ _) le_rfl rfl rfl id)

theorem Edits.withdrawBoth (h : Edits s t) (k : Ctr) (p : Grant → Bool) : Edits s (t.withdrawBoth k p) :=
  (h.withdraw .d0 k p).withdraw .d1 k p

theorem Edits.tellDestination (h : Edits s t) (c : StationConfig) (ref : RecRef) (dest : Option Nat) :
    Edits s (t.tellDestination c ref dest) := by
  have one : ∀ (d : Div) (u : State), Edits s u →
      Edits s (if (c.diverter d).any (fun v => some v.chute != dest) then u.withdraw d .withdrawnDestination (·.ref == ref) else u) := by
    intro d u hu
    split
    · exact hu.withdraw _ _ _
    · exact hu
  exact one .d1 _ (one .d0 _ h)

/-! ### Reasons (R145, R146) -/

theorem offerTakes_of_hard {held : Option Reason} {x y : Reason} (h : held = some x) (hx : x.soft = false) :
    offerTakes held y = false := by simp [offerTakes, h, hx]

/-- A record with a reason and the problem chute is good for R145. -/
theorem SegRec.destGood_of_reason {k : StationConfig} {r : SegRec} {x : Reason} (hr : r.reason = some x) (hd : r.dest = some k.problem) :
    r.DestGood k := by simp [SegRec.DestGood, hr, hd]

/-- A reason that takes at the record found keeps what the laws ask of records. -/
theorem Edits.takeReason (h : Edits s t) (hc : s.cfg = some c) {ref : RecRef} {q : SegRec} {x : Reason} (hq : t.findRec ref = some q)
    (ht : offerTakes q.reason x = true) :
    Edits s (t.mapRec ref fun r => { r with reason := some x, dest := some c.problem }) := by
  refine h.mapRec (fun _ => rfl) (fun k hk r _ _ _ => ?_) (fun _ r hr => ⟨fun k _ _ _ hp => ⟨hp.1, fun e => ?_⟩, rfl, fun _ h => h, fun _ h => h⟩)
  · rw [hc] at hk
    cases hk
    exact SegRec.destGood_of_reason rfl rfl
  · obtain ⟨y, hy, hsoft⟩ := hp.2 e
    obtain rfl : q = r := Option.some.inj (hq.symm.trans hr)
    rw [offerTakes_of_hard hy hsoft] at ht
    cases ht

theorem Edits.offer (h : Edits s t) (hc : s.cfg = some c) (ref : RecRef) (x : Reason) : Edits s (t.offer c ref x) := by
  unfold State.offer
  split
  · exact h.bump _
  · rename_i q hq
    split
    · rename_i ht
      exact (((h.takeReason hc hq ht).bump _).tellDestination c ref _).queueFrame _
    · exact h.bump _

/-! ### Leaving the queue -/

theorem Edits.remove (h : Edits s t) (hc : s.cfg = some c) (ref : RecRef) (cause : Cause) : Edits s (t.remove c ref cause) :=
  h.tail fun _ => .remove _ _ _ _ _ (h.cfg.trans hc)

theorem Edits.segmentClear (h : Edits s t) (hc : s.cfg = some c) : Edits s (t.segmentClear c) :=
  h.tail fun _ => .clear _ _ _ (h.cfg.trans hc)

theorem Edits.removeOverdue (h : Edits s t) (hc : s.cfg = some c) (r : SegRec) : Edits s (t.removeOverdue c r) :=
  (((h.remove hc _ _).bump _).raiseEv _).queueFrame _

theorem Edits.settleOverdue (hc : s.cfg = some c) (n : Nat) : ∀ {t : State}, Edits s t → Edits s (t.settleOverdue c n) := by
  induction n with
  | zero => exact fun h => h
  | succ n ih =>
    intro t h
    unfold State.settleOverdue
    split
    · exact h
    · exact ih (h.removeOverdue hc _)

theorem Edits.settle (h : Edits s t) (hc : s.cfg = some c) : Edits s (t.settle c) := Edits.settleOverdue hc _ h

/-! ### Accounts (R133, R137 to R140) -/

/-- At a configured station an account may be given whose fill is held and whose state is derived. -/
theorem DivKeeps.of_account {k : Option StationConfig} (hk : k ≠ none) {x : Diverter} {a : Account}
    (hf : (∀ a, x.account = some a → a.fill ≤ 4095) → a.fill ≤ 4095)
    (hd : (∀ a, x.account = some a → a.state = a.derive) → a.state = a.derive) : DivKeeps k x { x with account := some a } where
  grants h := h
  confirms h := h
  fill h b hb := by cases hb; exact hf h
  derived h b hb := by cases hb; exact hd h
  fired h := h
  atRest hn := absurd hn hk
  noAccount hn := absurd hn hk

theorem Edits.setBay (h : Edits s t) (d : Div) (b : Bay) : Edits s (t.setBay d b) := h.setDiv (.of_lists le_rfl le_rfl rfl rfl id)

theorem Edits.sendChuteState (h : Edits s t) (hc : s.cfg = some c) {d : Div} {a : Account} (ha : (t.dvs.get d).account = some a) :
    Edits s (t.sendChuteState d a) :=
  (h.setDiv (.of_account (a := { a with lastSent := a.state }) (by simp [hc]) (fun hf => hf a ha) fun hd => hd a ha)).queueFrame _

@[simp] theorem State.chuteTurned_account (s : State) (d e : Div) (was now : ChuteState) :
    ((s.chuteTurned d was now).dvs.get e).account = (s.dvs.get e).account := by
  unfold State.chuteTurned
  cases now <;> dsimp only <;> split <;> simp [Dvs.get_put] <;> split <;> simp_all

theorem Edits.chuteTurned (h : Edits s t) (d : Div) (was now : ChuteState) : Edits s (t.chuteTurned d was now) := by
  have h' : Edits s (if was.grantable && !now.grantable then t.withdraw d .withdrawnChute (fun _ => true) else t) := by
    split
    · exact h.withdraw _ _ _
    · exact h
  unfold State.chuteTurned
  cases now with
  | full => exact h'.bump _
  | closed => exact h'.bump _
  | isOpen | nearFull | unknown => exact h'

theorem Edits.changeAccount (h : Edits s t) (hc : s.cfg = some c) (d : Div) {f : Account → Account}
    (hf : ∀ a, a.fill ≤ 4095 → (f a).fill ≤ 4095) : Edits s (t.changeAccount c d f) := by
  unfold State.changeAccount
  split
  · exact h
  · rename_i old hold
    generalize ha : ({ f old with state := (f old).derive } : Account) = a
    have hset : Edits s (t.setAccount d a) := by
      refine h.setDiv (.of_account (by simp [hc]) (fun hx => ?_) fun _ => ?_) <;> subst ha
      · exact hf _ (hx old hold)
      · rfl
    have hacc : ((t.setAccount d a).dvs.get d).account = some a := by simp
    have turned : ∀ u, Edits s u → (u.dvs.get d).account = some a →
        Edits s (if a.state = old.state then u else u.chuteTurned d old.state a.state)
          ∧ ((if a.state = old.state then u else u.chuteTurned d old.state a.state).dvs.get d).account = some a := by
      intro u hu hua
      split
      · exact ⟨hu, hua⟩
      · exact ⟨hu.chuteTurned _ _ _, by simpa using hua⟩
    have viewed : ∀ u, Edits s u → (u.dvs.get d).account = some a →
        Edits s (if a.state = old.state ∧ a.fill = old.fill then u else u.writeOwnView c a)
          ∧ ((if a.state = old.state ∧ a.fill = old.fill then u else u.writeOwnView c a).dvs.get d).account = some a := by
      intro u hu hua
      split
      · exact ⟨hu, hua⟩
      · exact ⟨hu.writeOwnView c a, by simpa using hua⟩
    obtain ⟨h₁, ha₁⟩ := turned _ hset hacc
    obtain ⟨h₂, ha₂⟩ := viewed _ h₁ ha₁
    dsimp only
    split
    · exact h₂
    · exact h₂.sendChuteState hc ha₂

theorem Edits.fillRise (h : Edits s t) (hc : s.cfg = some c) (d : Div) (n : Nat) : Edits s (t.fillRise c d n) := by
  have h' := h.changeAccount hc d (f := fun a => { a with fill := min maxFill (a.fill + n) }) fun a _ => min_le_left _ _
  unfold State.fillRise
  dsimp only
  split
  · exact (h'.bump _).raiseEv _
  · exact h'

theorem Edits.makeAccount (h : Edits s t) (hc : s.cfg = some c) (d : Div) : Edits s (t.makeAccount c d) := by
  unfold State.makeAccount
  split
  · exact h
  · refine Edits.sendChuteState ?_ hc (by simp)
    refine Edits.writeOwnView ?_ c _
    exact (h.setBay d _).setDiv (.of_account (by simp [hc]) (fun _ => Nat.zero_le _) fun _ => rfl)

theorem Edits.refreshChute (h : Edits s t) (hc : s.cfg = some c) (d : Div) : Edits s (t.refreshChute d) := by
  unfold State.refreshChute
  split
  · exact h
  · exact h.sendChuteState hc ‹_›

theorem Edits.setFullPin (h : Edits s t) (d : Div) (b : Bool) : Edits s (t.setFullPin d b) := by
  cases d <;> exact h.setPins _

theorem Edits.setClosePin (h : Edits s t) (d : Div) (b : Bool) : Edits s (t.setClosePin d b) := by
  cases d <;> exact h.setPins _

theorem Edits.raiseClrPin (h : Edits s t) (d : Div) : Edits s (t.raiseClrPin d) := by
  cases d <;> exact h.setPins _

/-! ### Routing -/

theorem Edits.countDecode (h : Edits s t) (d : Decode) : Edits s (t.countDecode d) := by
  cases d with
  | noCabin | unavailable => exact (h.bump _).raiseEv _
  | primary | overflow | primaryFull => exact h.bump _

theorem Edits.countSailing (h : Edits s t) (sl : Sailing) : Edits s (t.countSailing sl) := by
  cases sl with
  | refused => exact (h.bump _).raiseEv _
  | a | b | noSailing => exact h.bump _

theorem Edits.takeChuteState (h : Edits s t) (c : StationConfig) (n : Nat) (r : ChuteReport) : Edits s (t.takeChuteState c n r) := by
  unfold State.takeChuteState
  dsimp only
  split
  · exact (h.bump _).raiseEv _
  · split
    · split
      · exact (((h.writeView _ _).bump _).raiseEv _).bump _
      · exact (h.writeView _ _).bump _
    · split
      · exact ((h.writeView _ _).bump _).raiseEv _
      · exact h.writeView _ _

theorem Edits.ageView (h : Edits s t) (c : StationConfig) : Edits s (t.ageView c) := by
  have h' : Edits s ((t.setView (t.rrv.view.mapIdx fun i e => if c.ownChute (chuteAt i) then e else e.older)).bumpN .viewExpired
      (expiring c t.rrv.view)) := (h.setView (by simp)).bumpN _ _
  unfold State.ageView
  dsimp only
  split
  · exact h'
  · exact h'.raiseEv _

end

end Sys2Proof.Machine
end

section
/-! SUPPORT. The operations as sequences of edits: divert scheduling, handover, tracking and the belt. -/

namespace Sys2Proof.Machine

open Sys2Proof

section
variable {s t : State} {c : StationConfig}

/-! ### Divert scheduling -/

theorem plain_divert (x : DivertStatus) : Plain fun q => { q with divert := x } := fun _ => ⟨rfl, rfl, rfl, rfl, rfl, rfl, rfl⟩

theorem plain_closeBehind (b : Bool) : Plain fun q => { q with closeBehind := b } := fun _ => ⟨rfl, rfl, rfl, rfl, rfl, rfl, rfl⟩

/-- A grant is refused at the latest by a full list (R115). -/
theorem grants_lt_of_refusal_none {v : DiverterConfig} {x : Diverter} {sp : SpeedState} {r : SegRec} {p : Plan}
    (h : refusal c v x sp r p = none) : x.grants.length < 3 := by
  by_contra hn
  have hfull : maxGrants ≤ x.grants.length := by simpa [maxGrants] using hn
  unfold refusal at h
  split_ifs at h

theorem Edits.decideGrant (h : Edits s t) (hc : s.cfg = some c) (d : Div) (v : DiverterConfig) (r : SegRec) :
    Edits s (t.decideGrant c d v r) := by
  unfold State.decideGrant
  dsimp only
  split
  · exact (h.mapPlain (plain_divert .withdrawn) _).bump _
  · rename_i hn
    have hlt := grants_lt_of_refusal_none hn
    have hm := h.mapPlain (plain_divert .granted) r.ref
    refine Edits.bump (Edits.setDiv hm ?_) _
    refine ⟨fun _ => ?_, fun h => h, fun h => h, fun h => h, fun h => h, fun hn => ?_, fun _ h => h⟩
    · simpa using hlt
    · rw [hc] at hn; cases hn

theorem Edits.endMissed (h : Edits s t) (d : Div) (e : Confirm) : Edits s (t.endMissed d e) := by
  have h' : Edits s (t.setDiv d { t.dvs.get d with confirms := (t.dvs.get d).confirms.erase e }) :=
    h.setDiv (.of_lists le_rfl List.length_erase_le rfl rfl id)
  exact ((h'.updatePlain (plain_divert .missed) _).bump _).raiseEv _

theorem Edits.endWaiting (h : Edits s t) (d : Div) : Edits s (t.endWaiting d) :=
  Edits.foldl _ (fun _ e hu => hu.endMissed d e) _ _ h

theorem Edits.unmark (h : Edits s t) (d : Div) : Edits s (t.unmark d) := by
  unfold State.unmark
  split
  · exact h
  · split
    · exact h
    · exact h.mapPlain (plain_closeBehind false) _

theorem Edits.markBehind (h : Edits s t) (d : Div) (v : DiverterConfig) (ref : RecRef) : Edits s (t.markBehind d v ref) := by
  unfold State.markBehind
  split
  · exact h
  · split
    · have hm := h.mapPlain (plain_closeBehind true)
      refine Edits.bump (Edits.setDiv (hm _) ?_) _
      exact .of_lists le_rfl le_rfl rfl rfl (by simp)
    · exact h

/-- The diverter that a fire leaves (R120, R123). -/
def Diverter.fired (x : Diverter) (v : DiverterConfig) (g : Grant) : Diverter :=
  { x with
    grants := x.grants.erase g
    eng := .engaged
    last := some ⟨g.fire, g.release, g.freeFrom, some g.ref, false, none⟩
    confirms := x.confirms ++ [⟨g.ref, g.fire, ahead g.fire v.window, false⟩] }

theorem DivKeeps.of_fired {k : Option StationConfig} (hk : k ≠ none) {x : Diverter} {confirms : List Confirm}
    (hlen : x.confirms.length ≤ 2 → confirms.length ≤ 1) (v : DiverterConfig) (g : Grant) :
    DivKeeps k x ({ x with confirms := confirms }.fired v g) where
  grants h := List.length_erase_le.trans h
  confirms h := by simpa [Diverter.fired] using hlen h
  fill h := h
  derived h := h
  fired _ _ := rfl
  atRest hn := absurd hn hk
  noAccount _ h := h

/-- The marking of a record as MISSED and its counts, which do not see the diverters. -/
def State.countMissed (e : Confirm) (s : State) : State :=
  ((((s.updateRec e.ref fun q => { q with divert := .missed }).bump .missedDivert).raiseEv .missedDivert).bump .confirmOverrun).raiseEv
    .confirmOverrun

theorem State.countMissed_setDiv (s : State) (e : Confirm) (d : Div) (x : Diverter) :
    (s.setDiv d x).countMissed e = (s.countMissed e).setDiv d x := by
  have hf : (s.setDiv d x).findRec e.ref = s.findRec e.ref := rfl
  unfold State.countMissed State.updateRec
  rw [hf]
  split <;> rfl

theorem State.setDiv_setDiv (s : State) (d : Div) (x y : Diverter) : (s.setDiv d x).setDiv d y = s.setDiv d y := by
  simp [State.setDiv]

/-- The confirm list is short enough for the new entry once room is made. -/
theorem Edits.engageRoom (h : Edits s t) (hc : s.cfg = some c) (d : Div) (v : DiverterConfig) (g : Grant) :
    Edits s ((t.makeRoom d).engage d v g) := by
  have fire : ∀ (u : State) (x : Diverter), Edits s u → DivKeeps s.cfg (u.dvs.get d) x →
      Edits s ((((u.setDiv d x).mapRec g.ref fun q => { q with divert := .fired })).bump .fire) := fun u x hu hx =>
    ((hu.setDiv hx).mapPlain (plain_divert .fired) _).bump _
  unfold State.makeRoom
  split
  · rename_i hn
    exact fire t _ h (.of_fired (by simp [hc]) (confirms := (t.dvs.get d).confirms) (by simp [hn]) v g)
  · rename_i e rest hl
    split
    · have hx : DivKeeps s.cfg (t.dvs.get d) (({ t.dvs.get d with confirms := (t.dvs.get d).confirms.erase e }).fired v g) :=
        .of_fired (by simp [hc]) (by simp [hl]) v g
      have eq : ((t.endMissed d e).bump .confirmOverrun).raiseEv .confirmOverrun
          = (t.countMissed e).setDiv d { t.dvs.get d with confirms := (t.dvs.get d).confirms.erase e } :=
        State.countMissed_setDiv t e d _
      have hm : Edits s (t.countMissed e) :=
        ((((h.updatePlain (plain_divert .missed) _).bump _).raiseEv
          _).bump _).raiseEv _
      have hget : (t.countMissed e).dvs.get d = t.dvs.get d := by simp [State.countMissed]
      rw [eq]
      unfold State.engage
      dsimp only
      rw [State.setDiv_get_same, State.setDiv_setDiv]
      exact fire _ _ hm (hget ▸ hx)
    · rename_i hlt
      refine fire t _ h (.of_fired (by simp [hc]) (confirms := (t.dvs.get d).confirms) (fun _ => ?_) v g)
      simp only [maxConfirms, not_le] at hlt
      rw [hl]
      omega

theorem Edits.queueDivertDone (h : Edits s t) (n : Nat) (r : SegRec) (b : Bool) : Edits s (t.queueDivertDone n r b) := h.queueFrame _

theorem Edits.confirm (h : Edits s t) (hc : s.cfg = some c) (d : Div) (v : DiverterConfig) (e : Confirm) (r : SegRec) :
    Edits s (t.confirm c d v e r) := by
  have h' := h.setDiv (d := d) (x := { t.dvs.get d with
      confirms := (t.dvs.get d).confirms.erase e
      last := (t.dvs.get d).last.map fun l => if l.fired = some e.ref then { l with confirmed := true } else l })
    (.of_lists le_rfl List.length_erase_le rfl rfl (by simp))
  exact (((h'.remove hc _ _).fillRise hc d _).queueDivertDone _ _ _).settle hc

theorem Edits.sweep (h : Edits s t) (hc : s.cfg = some c) (d : Div) (v : DiverterConfig) (r : SegRec) : Edits s (t.sweep c d v r) := by
  have h' := h.setDiv (d := d) (x := { t.dvs.get d with last := (t.dvs.get d).last.map fun l => { l with closeBehind := none } })
    (.of_lists le_rfl le_rfl rfl rfl (by simp))
  exact ((((((h'.remove hc _ _).fillRise hc d _).queueDivertDone _ _ _).queueFrame _).bump _).raiseEv _).settle hc

theorem Edits.confirmEdge (h : Edits s t) (hc : s.cfg = some c) (d : Div) (n : Count) : Edits s (t.confirmEdge c d n) := by
  have hu : Edits s ((t.bump .unexpectedChuteEdge).raiseEv .chuteEdge) := (h.bump _).raiseEv _
  unfold State.confirmEdge
  dsimp only
  split
  · exact hu
  · split
    · split
      · exact (h.confirm hc _ _ _ _).endWaiting d
      · exact hu
    · split
      · exact (h.sweep hc _ _ _).endWaiting d
      · exact hu.endWaiting d

/-! ### Handover -/

theorem Edits.mapUpstream (h : Edits s t) (src : Source) (f : Upstream → Upstream) : Edits s (t.mapUpstream src f) := by
  cases src <;> exact h.setBtu (.of_eq rfl rfl rfl rfl rfl rfl rfl rfl rfl)

theorem Edits.setExpects (h : Edits s t) {xs : List ExpectRec} (hl : t.btu.expects.length ≤ 8 → xs.length ≤ 8)
    (hd : (∀ x ∈ t.btu.expects, x.DestGood) → ∀ x ∈ xs, x.DestGood) : Edits s (t.setBtu { t.btu with expects := xs }) :=
  h.tail fun _ => .expects _ _ _ hl hd

theorem Edits.advanceExpects (h : Edits s t) : Edits s t.advanceExpects := by
  have h' : Edits s (t.setBtu { t.btu with
      expects := (t.btu.expects.map fun x => x.advance (t.btu.upstream x.source).vsrc).filter fun x => !x.noShow }) := by
    refine h.setExpects (fun hl => (List.length_filter_le _ _).trans (by simpa using hl)) fun hd x hx => ?_
    obtain ⟨y, hy, rfl⟩ := List.mem_map.1 (List.mem_of_mem_filter hx)
    exact hd y hy
  unfold State.advanceExpects
  dsimp only
  split
  · exact h'.bumpN _ _
  · exact (h'.bumpN _ _).raiseEv _

theorem Edits.dropExpect (h : Edits s t) (x : ExpectRec) : Edits s (t.dropExpect x) :=
  h.setExpects (fun hl => List.length_erase_le.trans hl) fun hd _ hy => hd _ (List.mem_of_mem_erase hy)

/-- The maximum is set only at a record that is above it, which no good one is (R129). -/
theorem Edits.clampPasses (h : Edits s t) (hc : s.cfg = some c) {ref : RecRef} {q : SegRec} (hq : t.findRec ref = some q)
    (hlt : c.maxPasses < q.passes) : Edits s (t.mapRec ref fun r => { r with passes := c.maxPasses }) := by
  refine h.mapRec (fun _ => rfl) (fun k _ r _ _ hr => hr) fun _ r hr => ⟨fun k hk _ _ hp => ?_, rfl, fun _ h => h, fun _ h => h⟩
  rw [hc] at hk
  cases hk
  obtain rfl : q = r := Option.some.inj (hq.symm.trans hr)
  exact absurd hp.1 (not_le.2 hlt)

theorem Edits.testPasses (h : Edits s t) (hc : s.cfg = some c) (ref : RecRef) : Edits s (t.testPasses c ref) := by
  unfold State.testPasses
  split
  · exact h
  · rename_i q hq
    split
    · refine Edits.offer ?_ hc _ _
      split
      · exact (h.clampPasses hc hq ‹_›).bump _
      · exact h
    · exact h

/-- A HANDOVER gives a destination exactly with an identity or a reason (R41). -/
def Handover.Destined (h : Handover) : Prop := h.dest ≠ 0 ↔ h.ident.isSome ∨ h.reason.isSome

theorem Edits.attachLate (h : Edits s t) (hc : s.cfg = some c) (r : SegRec) {f : Handover} (hf : f.Destined) :
    Edits s (t.attachLate c r f) := by
  have ident_dest : ∀ {i}, f.ident = some i → f.dest ≠ 0 := fun hi => hf.2 (Or.inl (by simp [hi]))
  have hupd : Edits s (t.updateRec r.ref (SegRec.attach f)) := by
    unfold State.updateRec
    split
    · refine h.mapRec (fun q => ?_) (fun k hk q _ _ hq => ?_) fun _ q hq => ⟨fun k _ _ _ hp => ?_, ?_, fun _ hr => ?_, fun _ hi => ?_⟩
      · unfold SegRec.attach; split <;> rfl
      · unfold SegRec.attach
        split
        · exact hq
        · rename_i i hi
          obtain ⟨hq1, hq2⟩ := hq
          by_cases hr : q.reason.isSome
          · have hd := hq2 hr
            simp [SegRec.DestGood, hr, hd]
          · simp [SegRec.DestGood, hr, ident_dest hi]
      · unfold SegRec.attach SegRec.PassGood; split <;> exact hp
      · unfold SegRec.attach; split <;> rfl
      · unfold SegRec.attach; split <;> exact hr
      · unfold SegRec.attach
        split
        · exact hi
        · rfl
    · exact h.bump _
  exact ((hupd.bump _).tellDestination c _ _).testPasses hc _

theorem Edits.acceptHandover (h : Edits s t) (hc : s.cfg = some c) (src : Source) {f : Handover} (hf : f.Destined) :
    Edits s (t.acceptHandover c src f) := by
  have hm := h.mapUpstream src fun u => u.hearHandover f.v
  unfold State.acceptHandover
  dsimp only
  split
  · exact hm.attachLate hc _ hf
  · split
    · rename_i hlt
      refine hm.setExpects (fun _ => ?_) fun hd x hx => ?_
      · simpa [maxExpects] using hlt
      · rcases List.mem_append.1 hx with hx | hx
        · exact hd x hx
        · rw [List.mem_singleton.1 hx]
          have := hf
          unfold Handover.Destined at this
          simp only [ExpectRec.DestGood, expectOf]
          rw [← this]
          by_cases e : f.dest = 0 <;> simp [e]
    · exact (hm.bump _).raiseEv _

theorem Edits.takeHandover (h : Edits s t) (hc : s.cfg = some c) (n : Nat) {f : Handover} (hf : f.Destined) :
    Edits s (t.takeHandover c n f) := by
  unfold State.takeHandover
  split
  · exact h.bump _
  · split
    · exact (h.bump _).raiseEv _
    · exact h.acceptHandover hc _ hf

theorem Edits.queueHandover (h : Edits s t) (c : StationConfig) (f : Handover) (x : Count) : Edits s (t.queueHandover c f x) := by
  unfold State.queueHandover
  split
  · exact h
  · exact h.queueFrame _

end

end Sys2Proof.Machine
end

section
/-! SUPPORT. The operations as sequences of edits: tracking and the belt. -/

namespace Sys2Proof.Machine

open Sys2Proof

/-! ### Changing a record that has just joined -/

theorem State.queueFrame_setBtu (s : State) (f : Frame) (b : Btu) : (s.setBtu b).queueFrame f = (s.queueFrame f).setBtu b := by
  simp only [State.queueFrame, apply_ite (State.setBtu b)]
  rfl

theorem State.queueSegmentState_setQueue (s : State) (q : List SegRec) :
    (s.setQueue q).queueSegmentState = s.queueSegmentState.setQueue q := by
  simp only [State.queueSegmentState, State.setQueue, State.queueFrame_setBtu, State.setBtu_btu]
  simp [State.setBtu]

theorem State.evalBlocked_setQueue (s : State) (c : StationConfig) {q : List SegRec} (h : q.length = s.btu.queue.length) :
    (s.setQueue q).evalBlocked c = (s.evalBlocked c).setQueue q := by
  have hb : (s.setQueue q).blockedNow c = s.blockedNow c := by simp [State.blockedNow_eq, h]
  unfold State.evalBlocked
  rw [hb]
  by_cases e : s.blockedNow c = s.btu.blockedFlag
  · rw [if_pos e, if_pos (by simpa using e)]
  · rw [if_neg e, if_neg (by simpa using e)]
    exact State.queueSegmentState_setQueue (s.setBtu { s.btu with blockedFlag := s.blockedNow c }) q

/-- A change of a record under its name that has just joined is as if it had joined so. -/
theorem State.mapRec_join (s : State) (c : StationConfig) {r : SegRec} {f : SegRec → SegRec} (hnew : ∀ q ∈ s.btu.queue, q.ref ≠ r.ref)
    (hf : (f r).ref = r.ref) : (s.join c r).mapRec r.ref f = s.join c (f r) := by
  have hq : (s.join c r).btu.queue.map (fun q => if q.ref = r.ref then f q else q) = s.btu.queue ++ [f r] := by
    rw [(State.join_fields s c r).1, List.map_append]
    congr 1
    · exact (List.map_congr_left fun q hq => if_neg (hnew q hq)).trans (List.map_id' _)
    · simp
  unfold State.mapRec
  rw [hq]
  unfold State.join
  rw [← State.evalBlocked_setQueue _ _ (by simp)]
  simp only [hf]
  rfl

theorem State.findRec_join (s : State) (c : StationConfig) {r : SegRec} (hnew : ∀ q ∈ s.btu.queue, q.ref ≠ r.ref) :
    (s.join c r).findRec r.ref = some r := by
  unfold State.findRec
  rw [(State.join_fields s c r).1, List.find?_append]
  have : s.btu.queue.find? (fun q => q.ref == r.ref) = none := by simpa using hnew
  simp [this]

theorem State.mapRec_mapRec (s : State) (ref : RecRef) {f g : SegRec → SegRec} (hf : ∀ r, (f r).ref = r.ref) :
    (s.mapRec ref f).mapRec ref g = s.mapRec ref fun r => g (f r) := by
  unfold State.mapRec
  simp only [State.setQueue, State.setBtu]
  congr 2
  rw [List.map_map]
  refine List.map_congr_left fun r _ => ?_
  simp only [Function.comp_apply]
  by_cases e : r.ref = ref
  · rw [if_pos e, if_pos ((hf r).trans e), if_pos e]
  · rw [if_neg e, if_neg e, if_neg e]

theorem State.findRec_mapRec (s : State) {ref : RecRef} {f : SegRec → SegRec} (hf : ∀ r, (f r).ref = r.ref) {q : SegRec}
    (hq : s.findRec ref = some q) : (s.mapRec ref f).findRec ref = some (f q) := by
  unfold State.findRec at *
  simp only [State.mapRec_btu, List.find?_map]
  have hp : ((fun r : SegRec => r.ref == ref) ∘ fun r => if r.ref = ref then f r else r) = fun r : SegRec => r.ref == ref := by
    funext r
    simp only [Function.comp_apply]
    split
    · rw [hf r]
    · rfl
  have hqr : q.ref = ref := by simpa using List.find?_some hq
  rw [hp, hq]
  simp [hqr]

section
variable {s t : State} {c : StationConfig}

/-! ### Entry arrivals -/

/-- An arrival that joins with its accepted edge, an expect record perhaps leaving. -/
theorem Edits.join (h : Edits s t) (hc : s.cfg = some c) {f : Filter} {xs : List ExpectRec} {r : SegRec}
    (hst : t.btu.fEntry.st = .blocking) (hf : f.st ≠ .blocking) (hein : r.ein = t.btu.fEntry.raw) (hroom : t.btu.queue.length < 16)
    (hnew : ∀ q ∈ t.btu.queue, q.ein ≠ r.ein) (hslot : r.slot = freeSlot t.btu.queue) (hxs : xs.Sublist t.btu.expects)
    (hd : (∀ x ∈ t.btu.expects, x.DestGood) → r.DestGood c) (hp : 1 ≤ c.maxPasses → r.PassGood c) (he : r.entry = none) :
    Edits s ((t.setBtu { t.btu with fEntry := f, expects := xs }).join c r) :=
  h.tail fun _ => .join _ _ _ _ _ _ (h.cfg.trans hc) hst hf hein hroom hnew hslot (fun _ hx => hxs.subset hx) hxs.length_le hd hp he

/-- A record whose passes do not exceed the maximum and that LAP_LIMIT does not take carries a reason that is not soft. -/
theorem SegRec.passGood_of_not_takes {r : SegRec} (hle : r.passes ≤ c.maxPasses) (h : offerTakes r.reason .lapLimit = false) :
    r.PassGood c := by
  refine ⟨hle, fun _ => ?_⟩
  cases hr : r.reason with
  | none => simp [offerTakes, hr] at h
  | some x => exact ⟨x, rfl, by simpa [offerTakes, hr, Reason.hard, Reason.cls] using h⟩

/-- A change that the passes rules make of a record (R128, R129). -/
def PassEdit (c : StationConfig) (g : SegRec → SegRec) : Prop :=
  ∀ q, (g q).ref = q.ref ∧ (g q).entry = q.entry ∧ (g q).readStatus = q.readStatus ∧ (g q).ident = q.ident
    ∧ (q.DestGood c → (g q).DestGood c)

theorem passEdit_passes (c : StationConfig) (n : Nat) : PassEdit c fun q => { q with passes := n } :=
  fun _ => ⟨rfl, rfl, rfl, rfl, fun h => h⟩

theorem passEdit_lapLimit (c : StationConfig) : PassEdit c fun q => { q with reason := some .lapLimit, dest := some c.problem } :=
  fun _ => ⟨rfl, rfl, rfl, rfl, fun _ => SegRec.destGood_of_reason rfl rfl⟩

theorem PassEdit.comp {f g : SegRec → SegRec} (hg : PassEdit c g) (hf : PassEdit c f) : PassEdit c fun q => g (f q) := fun q => by
  obtain ⟨f1, f2, f3, f4, f5⟩ := hf q
  obtain ⟨g1, g2, g3, g4, g5⟩ := hg (f q)
  exact ⟨g1.trans f1, g2.trans f2, g3.trans f3, g4.trans f4, fun h => g5 (f5 h)⟩

/-- The passes rules are at work on a record, whose passes may have reached the maximum without LAP_LIMIT: the station is reached
once the record is good again. -/
def Passing (s u : State) (c : StationConfig) (r : SegRec) : Prop :=
  u.findRec r.ref = some r ∧ ∀ g, PassEdit c g → (1 ≤ c.maxPasses → (g r).PassGood c) → Edits s (u.mapRec r.ref g)

theorem State.mapRec_id (s : State) (ref : RecRef) : s.mapRec ref (fun q => q) = s := by
  simp [State.mapRec, State.setQueue, State.setBtu]

theorem Passing.edits {u : State} {r : SegRec} (h : Passing s u c r) (hr : 1 ≤ c.maxPasses → r.PassGood c) : Edits s u := by
  have := h.2 (fun q => q) (fun _ => ⟨rfl, rfl, rfl, rfl, fun h => h⟩) hr
  rwa [State.mapRec_id] at this

theorem Passing.bump {u : State} {r : SegRec} (h : Passing s u c r) (k : Ctr) : Passing s (u.bump k) c r :=
  ⟨h.1, fun g hg hr => (h.2 g hg hr).bump k⟩

theorem Passing.mapRec {u : State} {r : SegRec} (h : Passing s u c r) {f : SegRec → SegRec} (hf : PassEdit c f) :
    Passing s (u.mapRec r.ref f) c (f r) := by
  have hfr : ∀ q, (f q).ref = q.ref := fun q => (hf q).1
  refine ⟨?_, fun g hg hr => ?_⟩
  · rw [hfr]
    exact State.findRec_mapRec u hfr h.1
  · rw [hfr, State.mapRec_mapRec u r.ref hfr]
    exact h.2 _ (hg.comp hf) hr

/-- LAP_LIMIT offered to a record at the maximum makes it good, or it is (R128, R129). -/
theorem Passing.offer {u : State} {r : SegRec} (h : Passing s u c r) (hle : r.passes ≤ c.maxPasses) :
    Edits s (u.offer c r.ref .lapLimit) := by
  unfold State.offer
  rw [h.1]
  dsimp only
  split
  · have hm := h.2 _ (passEdit_lapLimit c) fun _ => ⟨hle, fun _ => ⟨.lapLimit, rfl, rfl⟩⟩
    exact ((hm.bump _).tellDestination c _ _).queueFrame _
  · exact (h.edits fun _ => SegRec.passGood_of_not_takes hle (Bool.eq_false_iff.2 ‹_›)).bump _

theorem Passing.testPasses {u : State} {r : SegRec} (h : Passing s u c r) : Edits s (u.testPasses c r.ref) := by
  unfold State.testPasses
  rw [h.1]
  dsimp only
  split
  · rename_i hmax
    split
    · exact ((h.mapRec (passEdit_passes c c.maxPasses)).bump _).offer le_rfl
    · exact h.offer (not_lt.1 ‹_›)
  · rename_i hlt
    exact h.edits fun _ => ⟨(not_le.1 hlt).le, fun e => absurd e.ge hlt⟩

/-- An arrival that joins is reached once its record is good. -/
theorem Edits.joinPassing (h : Edits s t) (hc : s.cfg = some c) {f : Filter} {xs : List ExpectRec} {r : SegRec}
    (hst : t.btu.fEntry.st = .blocking) (hf : f.st ≠ .blocking) (hein : r.ein = t.btu.fEntry.raw) (hroom : t.btu.queue.length < 16)
    (hnew : ∀ q ∈ t.btu.queue, q.ein ≠ r.ein) (hslot : r.slot = freeSlot t.btu.queue) (hxs : xs.Sublist t.btu.expects)
    (hd : (∀ x ∈ t.btu.expects, x.DestGood) → r.DestGood c) (he : r.entry = none) :
    Passing s ((t.setBtu { t.btu with fEntry := f, expects := xs }).join c r) c r := by
  have hfresh : ∀ q ∈ t.btu.queue, q.ref ≠ r.ref := fun q hq e => hnew q hq (congrArg RecRef.ein e)
  refine ⟨State.findRec_join _ c hfresh, fun g hg hr => ?_⟩
  obtain ⟨hgr, hge, -, -, hgd⟩ := hg r
  have hgs : (g r).slot = r.slot := congrArg RecRef.slot hgr
  have hgn : (g r).ein = r.ein := congrArg RecRef.ein hgr
  rw [State.mapRec_join (t.setBtu { t.btu with fEntry := f, expects := xs }) c hfresh hgr]
  exact h.join hc hst hf (hgn.trans hein) hroom (fun q hq => hgn ▸ hnew q hq) (hgs.trans hslot) hxs (fun hx => hgd (hd hx)) hr
    (hge.trans he)

/-- A record of a station reached may be changed so. -/
theorem Edits.passing (h : Edits s t) (hc : s.cfg = some c) {r : SegRec} (hr : t.findRec r.ref = some r) : Passing s t c r := by
  refine ⟨hr, fun g hg hp => h.mapRec (fun q => (hg q).1) (fun k hk q _ _ hq => ?_) fun _ q hq => ?_⟩
  · rw [hc] at hk
    cases hk
    exact (hg q).2.2.2.2 hq
  · obtain rfl : r = q := Option.some.inj (hr.symm.trans hq)
    obtain ⟨-, he, hread, hid, -⟩ := hg r
    refine ⟨fun k hk hmax _ _ => ?_, he, fun _ e => hread.trans e, fun _ e => hid.symm ▸ e⟩
    rw [hc] at hk
    cases hk
    exact hp hmax

/-- A fresh record is good in every way. -/
theorem freshRec_destGood (c : StationConfig) (s : State) (n : Count) (o : Origin) : (freshRec c s n o).DestGood c := by
  simp [SegRec.DestGood, freshRec]

theorem freshRec_passGood (s : State) (n : Count) (o : Origin) (h : 1 ≤ c.maxPasses) : (freshRec c s n o).PassGood c :=
  ⟨Nat.zero_le _, fun e => absurd (e ▸ h : 1 ≤ (freshRec c s n o).passes) (by simp [freshRec])⟩

theorem announcedRec_destGood (s : State) (n : Count) {x : ExpectRec} (h : x.DestGood) : (announcedRec c s n x).DestGood c := by
  unfold ExpectRec.DestGood at h
  unfold SegRec.DestGood announcedRec
  by_cases hr : x.reason.isSome
  · simp [hr]
  · simp [hr, h]

theorem mem_of_matchArrival {xs : List ExpectRec} {x : ExpectRec} (h : matchArrival c xs = some x) : x ∈ xs := by
  have mem : ∀ src y, candidate xs src = some y → y ∈ xs := fun src y hy => List.mem_of_find?_eq_some hy
  unfold matchArrival at h
  split at h
  · rename_i a b ha hb
    split_ifs at h <;> cases h
    · exact mem _ _ ha
    · exact mem _ _ hb
    · exact mem _ _ ha
    · exact mem _ _ hb
  · rename_i a ha hb
    cases h
    exact mem _ _ ha
  · rename_i b ha hb
    cases h
    exact mem _ _ hb
  · cases h

/-- The arrival with its accepted edge opens a record (R19, R50, R51). -/
theorem Edits.openArrival (h : Edits s t) (hc : s.cfg = some c) {f : Filter} (hst : t.btu.fEntry.st = .blocking) (hf : f.st ≠ .blocking)
    (hroom : t.btu.queue.length < 16) (hnew : ∀ q ∈ t.btu.queue, q.ein ≠ t.btu.fEntry.raw) :
    Edits s ((t.setFilter .entry f).openArrival c t.btu.fEntry.raw) := by
  have fresh : ∀ o, Edits s ((t.setFilter .entry f).join c (freshRec c (t.setFilter .entry f) t.btu.fEntry.raw o)) := fun o =>
    h.join hc (f := f) (xs := t.btu.expects) hst hf rfl hroom hnew rfl (List.Sublist.refl _)
      (fun _ => freshRec_destGood _ _ _ _) (freshRec_passGood _ _ _) rfl
  unfold State.openArrival
  split
  · exact fresh _
  · split
    · rename_i x hx
      unfold State.joinAnnounced
      have hmem : x ∈ t.btu.expects := mem_of_matchArrival hx
      have hj := h.joinPassing hc (f := f) (xs := t.btu.expects.erase x)
        (r := announcedRec c (t.setFilter .entry f) t.btu.fEntry.raw x) hst hf rfl hroom hnew rfl List.erase_sublist
        (fun hg => announcedRec_destGood _ _ (hg x hmem)) rfl
      dsimp only
      split
      · exact (hj.bump _).testPasses
      · exact hj.testPasses
    · exact (fresh _).bump _

theorem Edits.gapSet (h : Edits s t) (c : StationConfig) (ref : RecRef) (n : Nat) : Edits s (t.gapSet c ref n) := by
  unfold State.gapSet
  split
  · exact h.withdrawBoth _ _
  · exact h

theorem plain_back (g : Nat) : Plain fun q => { q with back := some g } := fun _ => ⟨rfl, rfl, rfl, rfl, rfl, rfl, rfl⟩

theorem Edits.backGapUntracked (h : Edits s t) (c : StationConfig) (n : Count) : Edits s (t.backGapUntracked c n) := by
  unfold State.backGapUntracked
  split
  · split
    · exact (h.mapPlain (plain_back _) _).gapSet c _ _
    · exact h
  · exact h

theorem Edits.untrackedArrival (h : Edits s t) (c : StationConfig) (n : Count) : Edits s (t.untrackedArrival c n) := by
  have hd : Edits s (if c.feedStart then t else match matchArrival c t.btu.expects with | some x => t.dropExpect x | none => t) := by
    split
    · exact h
    · split
      · exact h.dropExpect _
      · exact h
  have hg := hd.backGapUntracked c n
  unfold State.untrackedArrival
  dsimp only
  refine Edits.raiseEv (Edits.setBtu hg ?_) _
  exact ⟨rfl, rfl, rfl, rfl, rfl, rfl, rfl, fun h => h, fun h => Or.inl ⟨h, rfl⟩⟩

/-- A filter takes a value in which no entry edge is pending but one that was, or one at the present E. -/
theorem Edits.setFilter (h : Edits s t) (eye : Eye) (f : Filter)
    (hf : eye = .entry → f.st = .blocking → (t.btu.fEntry.st = .blocking ∧ f.raw = t.btu.fEntry.raw) ∨ f.raw = t.btu.e) :
    Edits s (t.setFilter eye f) := by
  refine h.setBtu ?_
  rcases eye with _ | _ | d
  · exact ⟨rfl, rfl, rfl, rfl, rfl, rfl, rfl, fun h => h, hf rfl⟩
  · exact .of_eq rfl rfl rfl rfl rfl rfl rfl rfl rfl
  · cases d <;> exact .of_eq rfl rfl rfl rfl rfl rfl rfl rfl rfl

/-- An entry edge that is accepted goes to its arrival (R19, R20). -/
theorem Edits.entryArrival (h : Edits s t) (hc : s.cfg = some c) {f : Filter} (hst : t.btu.fEntry.st = .blocking) (hf : f.st ≠ .blocking) :
    Edits s ((t.setFilter .entry f).entryArrival c t.btu.fEntry.raw) := by
  have hs : Edits s (t.setFilter .entry f) := h.setFilter _ _ fun _ e => absurd e hf
  unfold State.entryArrival
  split
  · exact hs.untrackedArrival c _
  · rename_i hroom
    split
    · refine Edits.bump (Edits.setBtu hs ?_) _
      exact .of_eq rfl rfl rfl rfl rfl rfl rfl rfl rfl
    · rename_i hnone
      refine h.openArrival hc hst hf (by simpa [maxRecords, State.setFilter, Btu.setFilter] using hroom) ?_
      simpa [State.setFilter, Btu.setFilter] using hnone

/-! ### Entry trailing edges and the long-bag point -/

theorem Edits.setGapRef (h : Edits s t) (n : Count) : Edits s (t.setGapRef n) :=
  h.setBtu (.of_eq rfl rfl rfl rfl rfl rfl rfl rfl rfl)

theorem Edits.measure (h : Edits s t) (hc : s.cfg = some c) (r : SegRec) (n : Count) : Edits s (t.measure c r n) := by
  have hm := h.mapPlain (f := fun q => { q with len := some (max 1 (min longBag (fwd r.ein n))) })
    (fun _ => ⟨rfl, rfl, rfl, rfl, rfl, rfl, rfl⟩) r.ref
  unfold State.measure
  dsimp only
  split
  · exact h
  · split
    · exact hm.offer hc _ _
    · exact hm

theorem Edits.setGaps (h : Edits s t) (c : StationConfig) (r : SegRec) : Edits s (t.setGaps c r) := by
  unfold State.setGaps
  split
  · exact h
  · rename_i g _
    have hm := h.mapPlain (f := fun q => { q with front := some g, tight := q.tight || decide (g < c.gMin) })
      (fun _ => ⟨rfl, rfl, rfl, rfl, rfl, rfl, rfl⟩) r.ref
    have ht : ∀ u, Edits s u → Edits s (if g < c.gMin then u.bump .tightEntry else u) := fun u hu => by
      split
      · exact hu.bump _
      · exact hu
    dsimp only
    split
    · exact ht _ hm
    · split
      · exact ((ht _ hm).mapPlain (plain_back _) _).gapSet c _ _
      · exact ht _ hm

theorem Edits.entryTrailing (h : Edits s t) (hc : s.cfg = some c) (n : Count) : Edits s (t.entryTrailing c n) := by
  unfold State.entryTrailing
  split
  · exact h.setGapRef n
  · split
    · exact h.setGapRef n
    · split
      · exact (h.measure hc _ _).setGapRef n
      · exact ((h.measure hc _ _).setGaps c _).setGapRef n

theorem Edits.makeLong (h : Edits s t) (hc : s.cfg = some c) (ref : RecRef) : Edits s (t.makeLong c ref) :=
  (h.mapPlain (f := fun q => { q with len := some longBag, longBag := true }) (fun _ => ⟨rfl, rfl, rfl, rfl, rfl, rfl, rfl⟩) ref).offer hc _ _

theorem Edits.longBagReturn (h : Edits s t) (hc : s.cfg = some c) : Edits s (t.longBagReturn c) := by
  unfold State.longBagReturn
  split
  · exact h
  · split
    · exact h.makeLong hc _
    · exact h

/-! ### Exit -/

/-- The head of the queue is the record that its name finds. -/
theorem State.findRec_head {s : State} {r : SegRec} {rest : List SegRec} (h : s.btu.queue = r :: rest) : s.findRec r.ref = some r := by
  simp [State.findRec, h]

theorem Edits.passesRule (h : Edits s t) (hc : s.cfg = some c) {r : SegRec} (hr : t.findRec r.ref = some r) :
    Edits s (t.passesRule c r) := by
  unfold State.passesRule
  split
  · have hp := ((h.passing hc hr).mapRec (passEdit_passes c (min c.maxPasses (r.passes + 1)))).bump .passCounted
    dsimp only
    split
    · exact ((hp.offer (min_le_left _ _)).bump _).raiseEv _
    · exact hp.edits fun _ => ⟨min_le_left _ _, fun e => absurd e ‹_›⟩
  · exact h

theorem Edits.exitMatch (h : Edits s t) (hc : s.cfg = some c) {r : SegRec} (hr : t.findRec r.ref = some r) (n : Count) :
    Edits s (t.exitMatch c r n) := (((h.passesRule hc hr).queueHandover c _ _).remove hc _ _).settle hc

theorem Edits.exitUnexpected (h : Edits s t) (c : StationConfig) (n : Count) : Edits s (t.exitUnexpected c n) :=
  (((h.bump _).raiseEv _).queueHandover c _ _).queueFrame _

theorem Edits.exitEdge (h : Edits s t) (hc : s.cfg = some c) (n : Count) : Edits s (t.exitEdge c n) := by
  unfold State.exitEdge
  split
  · exact h.exitUnexpected c n
  · split
    · exact h.exitMatch hc (State.findRec_head ‹_›) n
    · exact h.exitUnexpected c n

theorem Edits.overduePoint (h : Edits s t) (hc : s.cfg = some c) (ref : RecRef) : Edits s (t.overduePoint c ref) := by
  unfold State.overduePoint
  split
  · exact h
  · exact (h.takePoint _ _).settle hc

/-- The downstream state changes and the permit and the flag with it (R30, R31). -/
theorem Edits.setDown (h : Edits s t) (hc : s.cfg = some c) (d : Downstream) :
    Edits s ((t.setBtu { t.btu with down := d }).evalPermit c) := h.tail fun _ => .permit _ _ _ _ (h.cfg.trans hc)

theorem Edits.jamClr (h : Edits s t) : Edits s t.jamClr := by
  have hp : Edits s t.raiseJamPin := h.setPins _
  unfold State.jamClr
  split
  · exact hp
  · rename_i k hk
    refine Edits.segmentClear (Edits.setBtu hp ?_) (h.cfg.symm.trans hk)
    exact .of_eq rfl rfl rfl rfl rfl rfl rfl rfl rfl

/-! ### The belt -/

theorem Edits.windowClose (h : Edits s t) (c : StationConfig) : Edits s (t.windowClose c) := by
  have h₁ : Edits s (t.setBtu (t.btu.closeWindow c)) :=
    h.setBtu ⟨rfl, rfl, rfl, rfl, rfl, rfl, rfl, fun hl => by simp [Btu.closeWindow, hl], fun h => Or.inl ⟨h, rfl⟩⟩
  have when : ∀ (p : Prop) [Decidable p] (u w : State), Edits s u → Edits s w → Edits s (if p then w else u) := fun p _ u w hu hw => by
    split <;> assumption
  unfold State.windowClose
  dsimp only
  refine Edits.advanceExpects (when _ _ _ (when _ _ _ (when _ _ _ h₁ (h₁.raiseEv _)) ?_) ?_)
  · exact (when _ _ _ h₁ (h₁.raiseEv _)).withdrawBoth _ _
  · refine Edits.queueSegmentState (when _ _ _ (when _ _ _ h₁ (h₁.raiseEv _)) ?_)
    exact (when _ _ _ h₁ (h₁.raiseEv _)).withdrawBoth _ _

theorem Edits.acceptLeading (h : Edits s t) (hc : s.cfg = some c) (eye : Eye) : Edits s (t.acceptLeading c eye) := by
  unfold State.acceptLeading
  dsimp only
  split
  · rename_i hst
    rcases eye with _ | _ | d
    · exact h.entryArrival hc hst.1 (by simp)
    · exact (h.setFilter .exit _ fun e => by cases e).exitEdge hc _
    · exact (h.setFilter (.confirm d) _ fun e => by cases e).confirmEdge hc _ _
  · exact h

theorem Edits.acceptTrailing (h : Edits s t) (hc : s.cfg = some c) (eye : Eye) : Edits s (t.acceptTrailing c eye) := by
  unfold State.acceptTrailing
  dsimp only
  split
  · have hs : Edits s (t.setFilter eye { t.btu.filter eye with st := .clear, mute := false }) := h.setFilter _ _ (by simp)
    split
    · exact hs
    · rcases eye with _ | _ | d
      · exact hs.entryTrailing hc _
      · exact hs
      · exact hs
  · exact h

theorem Edits.edgeVanished (h : Edits s t) (hc : s.cfg = some c) (eye : Eye) : Edits s (t.edgeVanished c eye) := by
  rcases eye with _ | _ | d
  · exact h
  · exact h.settle hc
  · exact h.endWaiting d

theorem Edits.filterStep (h : Edits s t) (hc : s.cfg = some c) (eye : Eye) (b : Bool) : Edits s (t.filterStep c eye b) := by
  have at_e : ∀ f : Filter, f.raw = t.btu.e → Edits s (t.setFilter eye f) := fun f hf => h.setFilter _ _ fun _ _ => Or.inr hf
  have off : ∀ f : Filter, f.st ≠ .blocking → Edits s (t.setFilter eye f) := fun f hf => h.setFilter _ _ fun _ e => absurd e hf
  unfold State.filterStep
  dsimp only
  split
  · split
    · exact (at_e _ rfl).acceptLeading hc eye
    · exact at_e _ rfl
  · exact (off _ (by simp)).edgeVanished hc eye
  · split
    · exact (at_e _ rfl).acceptTrailing hc eye
    · exact at_e _ rfl
  · split
    · exact (off _ (by simp)).longBagReturn hc
    · exact off _ (by simp)
  · exact h
  · exact h
  · exact h
  · exact h

theorem Edits.eyeRawChange (h : Edits s t) (eye : Eye) (b : Bool) : Edits s (t.eyeRawChange eye b) := by
  have hp : Edits s (t.setEyePin eye b) := h.setPins _
  unfold State.eyeRawChange
  split
  · exact h
  · dsimp only
    split
    · exact hp
    · rename_i k hk
      exact hp.filterStep (hp.cfg.symm.trans hk) eye b

end

end Sys2Proof.Machine
end

section
/-! SUPPORT. The identity table and the reads as sequences of edits: an identification claims an entry, and its write adopts or
undoes it (R72, R89). -/

namespace Sys2Proof.Machine

open Sys2Proof

/-! ### Entries found and written -/

theorem entryAt_eq (es : List (Option IdtEntry)) (i : Nat) : entryAt es i = (es[i]?).join := by
  simp only [entryAt, List.getD_eq_getElem?_getD]
  cases es[i]? <;> rfl

/-- The place found holds an entry that meets the test. -/
theorem entry_of_findIdx? {es : List (Option IdtEntry)} {p : IdtEntry → Bool} {i : Nat} (h : es.findIdx? (fun o => o.any p) = some i) :
    ∃ e, entryAt es i = some e ∧ p e = true := by
  obtain ⟨hi, hp, -⟩ := List.findIdx?_eq_some_iff_getElem.1 h
  obtain ⟨e, he, hpe⟩ := (Option.any_eq_true _ _).1 hp
  exact ⟨e, by simp [entryAt_eq, List.getElem?_eq_getElem hi, he], hpe⟩

/-- Where nothing is found no entry meets the test. -/
theorem not_of_findIdx?_none {es : List (Option IdtEntry)} {p : IdtEntry → Bool} (h : es.findIdx? (fun o => o.any p) = none) {i : Nat}
    {e : IdtEntry} (he : entryAt es i = some e) : p e = false := by
  rw [entryAt_eq] at he
  have hmem : some e ∈ es := List.mem_of_getElem? (Option.join_eq_some_iff.1 he)
  simpa using List.findIdx?_eq_none_iff.1 h _ hmem

theorem probe_some {es : List (Option IdtEntry)} {tag sailing i : Nat} (h : probe es tag sailing = some i) :
    ∃ e, entryAt es i = some e ∧ e.matchedBy tag sailing = true := entry_of_findIdx? h

theorem tag_of_matchedBy {e : IdtEntry} {tag sailing : Nat} (h : e.matchedBy tag sailing = true) : e.tag = tag := by
  simp only [IdtEntry.matchedBy, Bool.and_eq_true, beq_iff_eq] at h
  exact h.1

theorem tagTest_some {es : List (Option IdtEntry)} {tag i : Nat} (h : tagTest es tag = some i) : tagAt es i = some tag := by
  obtain ⟨e, he, ht⟩ := entry_of_findIdx? h
  simp [tagAt, he, beq_iff_eq.1 ht]

theorem tagTest_none {es : List (Option IdtEntry)} {tag : Nat} (h : tagTest es tag = none) (i : Nat) : tagAt es i ≠ some tag := by
  intro ht
  obtain ⟨e, he, hte⟩ := Option.map_eq_some_iff.1 ht
  have := not_of_findIdx?_none h he
  simp [hte] at this

/-- An entry written whole, in its place or nowhere. -/
theorem entryAt_set_cases (es : List (Option IdtEntry)) (i : Nat) (x : Option IdtEntry) (j : Nat) :
    entryAt (es.set i x) j = entryAt es j ∨ (i = j ∧ j < es.length ∧ entryAt (es.set i x) j = x) := by
  by_cases h : i < es.length
  · by_cases e : i = j
    · subst e
      exact Or.inr ⟨rfl, h, by simp [entryAt_set h]⟩
    · exact Or.inl (by simp [entryAt_set h, e])
  · rw [List.set_eq_of_length_le (not_lt.1 h)]
    exact Or.inl rfl

/-- Writing an entry whose tag number no other entry has keeps the tags apart. -/
theorem TagsGood.set {es : List (Option IdtEntry)} (h : TagsGood es) {i : Nat} {x : IdtEntry}
    (hx : ∀ j, j ≠ i → tagAt es j ≠ some x.tag) : TagsGood (es.set i (some x)) := by
  have tag_at : ∀ j t, tagAt (es.set i (some x)) j = some t → tagAt es j = some t ∨ (j = i ∧ t = x.tag) := by
    intro j t hj
    unfold tagAt at hj
    rcases entryAt_set_cases es i (some x) j with e | ⟨rfl, -, e⟩
    · rw [e] at hj; exact Or.inl hj
    · rw [e] at hj; exact Or.inr ⟨rfl, by simpa using hj.symm⟩
  intro j k t hj hk
  rcases tag_at j t hj with hj' | ⟨hji, htx⟩ <;> rcases tag_at k t hk with hk' | ⟨hki, hkx⟩
  · exact h j k t hj' hk'
  · by_contra hne
    exact hx j (hki ▸ hne) (hkx ▸ hj')
  · by_contra hne
    exact hx k (fun e => hne (hji.trans e.symm)) (htx ▸ hk')
  · exact hji.trans hki.symm

/-- The tag of the entry found is the only one of its number. -/
theorem TagsGood.only {es : List (Option IdtEntry)} (h : TagsGood es) {i : Nat} {t : Nat} (hi : tagAt es i = some t) :
    ∀ j, j ≠ i → tagAt es j ≠ some t := fun j hne hj => hne (h j i t hj hi)

/-- An entry in its place is within the table. -/
theorem lt_of_entryAt {es : List (Option IdtEntry)} {i : Nat} {e : IdtEntry} (h : entryAt es i = some e) : i < es.length := by
  rw [entryAt_eq] at h
  by_contra hn
  simp [List.getElem?_eq_none (not_lt.1 hn)] at h

theorem inState_eq_false_of_ne {es : List (Option IdtEntry)} {i : Nat} {e : IdtEntry} {st : EntryState} (h : entryAt es i = some e)
    (hs : e.state ≠ st) : inState es i st = false := by simp [inState, h, hs]

section
variable {s t : State} {c : StationConfig}

/-! ### Entries that keep their tag and their place on or off the segment -/

theorem Edits.setEntries (h : Edits s t) {es : List (Option IdtEntry)} (hl : es.length = t.idt.entries.length)
    (ht : ∀ i, tagAt es i = tagAt t.idt.entries i)
    (hs : ∀ i, inState es i .onSegment = inState t.idt.entries i .onSegment) : Edits s (t.setEntries es) :=
  h.tail fun _ => .entries _ _ _ hl ht hs

theorem Edits.modifyEntry (h : Edits s t) (i : Nat) {f : IdtEntry → IdtEntry} (ht : ∀ e, (f e).tag = e.tag)
    (hs : ∀ e, ((f e).state == .onSegment) = (e.state == .onSegment)) : Edits s (t.modifyEntry i f) := by
  refine h.setEntries (by simp) (fun j => ?_) fun j => ?_
  · simp only [tagAt, entryAt_modify t.idt.entries i j (Option.map f) rfl]
    split
    · cases entryAt t.idt.entries j <;> simp [ht]
    · rfl
  · simp only [inState, entryAt_modify t.idt.entries i j (Option.map f) rfl]
    split
    · cases entryAt t.idt.entries j <;> simp [hs]
    · rfl

theorem Edits.restartAge (h : Edits s t) (i : Nat) : Edits s (t.restartAge i) := h.modifyEntry i (fun _ => rfl) fun _ => rfl

theorem Edits.setEntryDest (h : Edits s t) (i d : Nat) : Edits s (t.setEntryDest i d) := h.modifyEntry i (fun _ => rfl) fun _ => rfl

theorem Edits.ageEntries (h : Edits s t) : Edits s t.ageEntries := by
  have hat : ∀ i, entryAt (t.idt.entries.map (Option.map fun e => { e with age := min 63 (e.age + 1) })) i
      = (entryAt t.idt.entries i).map fun e => { e with age := min 63 (e.age + 1) } := fun i => by
    simp only [entryAt_eq, List.getElem?_map]
    cases t.idt.entries[i]? <;> simp
  refine h.setEntries (by simp) (fun i => ?_) fun i => ?_
  · simp only [tagAt, hat]
    cases entryAt t.idt.entries i <;> rfl
  · simp only [inState, hat]
    cases entryAt t.idt.entries i <;> rfl

theorem Edits.countReuse (h : Edits s t) (i : Nat) : Edits s (t.countReuse i) := by
  unfold State.countReuse
  split
  · exact h.bump _
  · exact h

/-! ### Edits of the table between identifications -/

/-- From s, with nothing claimed, to t with an entry claimed or none. -/
def Reaches (s : State) (k : Option Claim) (t : State) : Prop := Relation.ReflTransGen Edit (none, s) (k, t)

theorem Edits.reaches (h : Edits s t) : Reaches s none t := h none

theorem Reaches.edits {k : Option Claim} {u : State} (h : Reaches s k t) (h' : Edits t u) : Reaches s k u := h.trans (h' k)

theorem Reaches.tail {k k' : Option Claim} {u : State} (h : Reaches s k t) (h' : Edit (k, t) (k', u)) : Reaches s k' u :=
  Relation.ReflTransGen.tail h h'

theorem Reaches.cfg {k : Option Claim} (h : Reaches s k t) : t.cfg = s.cfg := by
  have keeps : ∀ {a b : Option Claim × State}, Relation.ReflTransGen Edit a b → b.2.cfg = a.2.cfg := by
    intro a b h
    induction h with
    | refl => rfl
    | tail _ h ih => exact h.cfg.trans ih
  exact keeps h

theorem Reaches.refl (s : State) : Reaches s none s := Relation.ReflTransGen.refl

/-- An entry off the segment is written whole and stays off it. -/
theorem Reaches.writeEntry (h : Reaches s none t) {i : Nat} {x : IdtEntry} (hout : inState t.idt.entries i .onSegment = false)
    (hx : x.state ≠ .onSegment) (ht : TagsGood t.idt.entries → ∀ j, j ≠ i → tagAt t.idt.entries j ≠ some x.tag) :
    Reaches s none (t.writeEntry i x) := by
  refine h.tail (.rewrite t _ (by simp) (fun hl => ?_) fun j => ?_)
  · rw [tagLaw_iff] at *
    exact hl.set (ht hl)
  · unfold inState
    rcases entryAt_set_cases t.idt.entries i (some x) j with e | ⟨rfl, -, e⟩
    · rw [e]
    · rw [e]
      unfold inState at hout
      rw [hout]
      simp [hx]

theorem Reaches.storeNotice (h : Reaches s none t) {i : Nat} (id : Identity) (d : Nat) (hout : inState t.idt.entries i .onSegment = false)
    (ht : TagsGood t.idt.entries → ∀ j, j ≠ i → tagAt t.idt.entries j ≠ some id.tag) : Reaches s none (t.storeNotice i id d) :=
  (h.writeEntry (x := noticeEntry id d .manual) hout (by simp [noticeEntry]) ht).edits ((Edits.refl _).bump _)

/-- The oldest held entry is not on the segment (R96). -/
theorem oldestHeld_off {es : List (Option IdtEntry)} {n : Nat} {p : Nat × Nat} (h : oldestHeld es n = some p) :
    inState es p.1 .onSegment = false := by
  induction n generalizing p with
  | zero => cases h
  | succ n ih =>
    unfold oldestHeld at h
    split at h
    · exact ih h
    · rename_i e he
      split at h
      · exact ih h
      · rename_i hs
        split at h
        · cases h; exact inState_eq_false_of_ne he hs
        · rename_i p' hp'
          split at h
          · cases h; exact inState_eq_false_of_ne he hs
          · cases h; exact ih hp'

theorem Reaches.missedNotice (h : Reaches s none t) (id : Identity) (d : Nat) : Reaches s none (t.missedNotice id d) := by
  have bumped : ∀ k, Reaches s none (t.bump k) := fun k => h.edits ((Edits.refl t).bump k)
  unfold State.missedNotice
  dsimp only
  split
  · rename_i i hi
    split
    · exact bumped _
    · rename_i hout
      exact (bumped .tagClash).storeNotice id d (Bool.eq_false_iff.2 hout) fun hg => hg.only (tagTest_some hi)
  · rename_i hnone
    split
    · rename_i i hi
      have hn : entryAt t.idt.entries i = none := by simpa using List.find?_some hi
      exact h.storeNotice id d (by simp [inState, hn]) fun _ j _ => tagTest_none hnone j
    · split
      · rename_i p hp
        have hr : Reaches s none (t.countReuse p.1) := h.edits ((Edits.refl t).countReuse _)
        have he : (t.countReuse p.1).idt = t.idt := by simp
        exact hr.storeNotice id d (by rw [he]; exact oldestHeld_off hp) fun _ j _ => by rw [he]; exact tagTest_none hnone j
      · exact h.edits (((Edits.refl t).bump _).raiseEv _)

/-- The notice gives the record an identity and a destination and takes its reason (R95). -/
theorem Edits.applyNotice (h : Edits s t) (c : StationConfig) (ref : RecRef) (id : Identity) (d : Nat) :
    Edits s (t.applyNotice c ref id d) := by
  have hm : Edits s (t.mapRec ref fun q => { q with ident := some id, dest := some d, reason := none, passes := 0 }) := by
    refine h.mapRec (fun _ => rfl) (fun k _ r _ _ _ => by simp [SegRec.DestGood]) fun _ q _ =>
      ⟨fun k _ hmax _ _ => ⟨Nat.zero_le _, fun e => ?_⟩, rfl, fun _ h => h, fun _ _ => rfl⟩
    exact absurd (lt_of_lt_of_eq hmax e.symm) (lt_irrefl 0)
  unfold State.applyNotice
  split
  · exact h.bump _
  · dsimp only
    split
    · exact (hm.tellDestination c _ _).bump _
    · exact hm.tellDestination c _ _

theorem Edits.noticeOnSegment (h : Edits s t) (c : StationConfig) {i : Nat} {id : Identity} {e : IdtEntry} (d : Nat)
    (he : entryAt t.idt.entries i = some e) (ht : e.tag = id.tag) (hs : e.state = .onSegment) :
    Edits s (t.noticeOnSegment c i id d) := by
  have hw : Edits s (t.writeEntry i (noticeEntry id d .onSegment)) := by
    refine h.setEntries (by simp) (fun j => ?_) fun j => ?_ <;>
      rcases entryAt_set_cases t.idt.entries i (some (noticeEntry id d .onSegment)) j with e' | ⟨rfl, -, e'⟩
    · rw [tagAt, e', tagAt]
    · rw [tagAt, e', tagAt, he]; exact congrArg some ht.symm
    · rw [inState, e', inState]
    · rw [inState, e', inState, he]; simp [noticeEntry, hs]
  unfold State.noticeOnSegment
  dsimp only
  split
  · exact hw.bump _
  · exact (hw.bump _).applyNotice c _ _ _

theorem Reaches.takeNotice (h : Reaches s none t) (c : StationConfig) (id : Identity) (d : Nat) :
    Reaches s none (t.takeNotice c id d) := by
  unfold State.takeNotice
  split
  · exact h.missedNotice id d
  · rename_i i hi
    obtain ⟨e, he, hm⟩ := probe_some hi
    have htag := tag_of_matchedBy hm
    split
    · rename_i hs
      exact h.edits ((Edits.refl t).noticeOnSegment c d he htag (by simpa [inState, he] using hs))
    · rename_i hs
      exact h.storeNotice id d (Bool.eq_false_iff.2 hs) fun hg => hg.only (by simp [tagAt, he, htag])

/-- An entry goes from one place off the segment to another. -/
theorem Reaches.modifyOff (h : Reaches s none t) {i : Nat} {e : IdtEntry} {f : IdtEntry → IdtEntry} (he : entryAt t.idt.entries i = some e)
    (hs : e.state ≠ .onSegment) (ht : ∀ e, (f e).tag = e.tag) (hf : (f e).state ≠ .onSegment) : Reaches s none (t.modifyEntry i f) := by
  have hat := entryAt_modify t.idt.entries i (f := Option.map f) (hf := rfl)
  refine h.tail (.rewrite t _ (by simp) (fun hl => ?_) fun j => ?_)
  · rw [tagLaw_iff] at *
    refine hl.congr fun j => ?_
    simp only [State.setEntries_idt, tagAt, hat]
    split
    · cases entryAt t.idt.entries j <;> simp [ht]
    · rfl
  · simp only [inState, hat]
    split
    · rename_i e'
      subst e'
      simp [he, hs, hf]
    · rfl

theorem Edits.countElsewhere (h : Edits s t) (e : IdtEntry) (n : Nat) : Edits s (t.countElsewhere e n) := by
  unfold State.countElsewhere
  split
  · exact h
  · exact h.bump _

theorem entryAt_restartAge {i : Nat} {e : IdtEntry} (he : entryAt t.idt.entries i = some e) :
    entryAt (t.restartAge i).idt.entries i = some { e with age := 0 } := by
  have := entryAt_modify t.idt.entries i i (Option.map fun e : IdtEntry => { e with age := 0 }) rfl
  simp [State.restartAge, this, he]

theorem Reaches.retire (h : Reaches s none t) (hc : s.cfg = some c) (id : Identity) (n : Nat) : Reaches s none (t.retire c id n) := by
  have hcfg := h.cfg.trans hc
  unfold State.retire
  split
  · exact h.edits ((Edits.refl t).bump _)
  · rename_i i hi
    obtain ⟨e, he, -⟩ := probe_some hi
    rw [he]
    have ha : Edits t (t.restartAge i) := (Edits.refl t).restartAge i
    have moved : e.state ≠ .onSegment → Reaches s none
        ((((t.restartAge i).modifyEntry i fun x => { x with state := .diverted }).bump .divertDoneHit).countElsewhere e n) := fun hs =>
      ((h.edits ha).modifyOff (f := fun x => { x with state := .diverted }) (entryAt_restartAge he) hs (fun _ => rfl) (by simp)).edits (((Edits.refl _).bump _).countElsewhere e n)
    dsimp only
    split
    · exact moved (by simp [*])
    · exact moved (by simp [*])
    · exact h.edits ((ha.bump _).countElsewhere e n)
    · split
      · exact h.edits ((ha.bump _).raiseEv _)
      · exact h.edits (((ha.bump _).raiseEv _).offer hcfg _ _)

theorem Reaches.takeDivertDone (h : Reaches s none t) (hc : s.cfg = some c) (d : DivertDone) : Reaches s none (t.takeDivertDone c d) := by
  unfold State.takeDivertDone
  split
  · split
    · exact h
    · split
      · exact h.edits ((Edits.refl t).bump _)
      · exact h.retire hc _ _
  · exact h

/-! ### The identity table's part of an identification (R72, R85 to R88) -/

/-- The claim that an answer makes for a record. -/
def IdtAnswer.claim (a : IdtAnswer) (ref : RecRef) (id : Identity) : Option Claim := a.entry.map fun i => ⟨i, ref, id.tag⟩

/-- An entry off the segment is claimed. -/
theorem Reaches.claimEntry (h : Reaches s none t) {i : Nat} {ref : RecRef} {id : Identity} {es : List (Option IdtEntry)}
    (hl : es.length = t.idt.entries.length) (ht : TagsGood t.idt.entries → TagsGood es)
    (hrest : ∀ j, j ≠ i → entryAt es j = entryAt t.idt.entries j) (hnew : inState t.idt.entries i .onSegment = false)
    (hi : t.idt.entries.length = 128 → i < 128)
    (hx : i < es.length → ∃ x, entryAt es i = some x ∧ x.tag = id.tag ∧ x.state = .onSegment)
    (hrec : SlotLaw t → ∀ q ∈ t.btu.queue, q.ref = ref → q.readStatus = .read → q.ident = none) :
    Reaches s (some ⟨i, ref, id.tag⟩) (t.setEntries es) := by
  refine h.tail (.claim t es ⟨i, ref, id.tag⟩ hl (fun hl => ?_) (fun hlt => ?_) (fun j hj => ?_) hnew (fun h128 => ?_) hrec)
  · rw [tagLaw_iff] at *
    exact ht hl
  · obtain ⟨x, hx, htag, -⟩ := hx hlt
    simp [tagAt, hx, htag]
  · simp [inState, hrest j hj]
  · obtain ⟨x, hx, -, hst⟩ := hx (by rw [hl, h128]; exact hi h128)
    simp [inState, hx, hst]

theorem Reaches.makeEntry (h : Reaches s none t) {i : Nat} {ref : RecRef} {id : Identity} (hnew : inState t.idt.entries i .onSegment = false)
    (hi : t.idt.entries.length = 128 → i < 128) (ht : TagsGood t.idt.entries → ∀ j, j ≠ i → tagAt t.idt.entries j ≠ some id.tag)
    (hrec : SlotLaw t → ∀ q ∈ t.btu.queue, q.ref = ref → q.readStatus = .read → q.ident = none) :
    Reaches s ((t.makeEntry i id).2.claim ref id) (t.makeEntry i id).1 := by
  have hr : Reaches s none (t.countReuse i) := h.edits ((Edits.refl t).countReuse i)
  have hidt : (t.countReuse i).idt = t.idt := by simp
  have hbtu : (t.countReuse i).btu = t.btu := by simp
  have hw : Reaches s (some ⟨i, ref, id.tag⟩) ((t.countReuse i).writeEntry i (newEntry id)) := by
    refine hr.claimEntry (by simp) ?_ (fun j hj => ?_) (by rw [hidt]; exact hnew) (by rw [hidt]; exact hi) (fun hlt => ?_) ?_
    · rw [hidt]
      exact fun hg => hg.set (ht hg)
    · rcases entryAt_set_cases (t.countReuse i).idt.entries i (some (newEntry id)) j with e | ⟨rfl, -, -⟩
      · exact e
      · exact absurd rfl hj
    · exact ⟨newEntry id, by rw [entryAt_set (by simpa using hlt)]; simp, rfl, rfl⟩
    · intro hsl q hq
      rw [slotLaw_iff, hbtu] at hsl
      rw [hbtu] at hq
      exact hrec ((slotLaw_iff t).2 hsl) q hq
  exact hw.edits ((Edits.refl _).bump _)

/-- The rotating allocation takes an entry of the table that is not on the segment (R82). -/
theorem rotating_some {a p i : Nat} {es : List (Option IdtEntry)} (h : rotating a p es = some i) :
    16 ≤ i ∧ i < 128 ∧ inState es i .onSegment = false := by
  have hmem := List.mem_of_find?_eq_some h
  have hr := List.find?_some h
  simp only [rotation, List.mem_map, List.mem_range] at hmem
  obtain ⟨k, -, rfl⟩ := hmem
  have := Nat.mod_lt (p + 96 - k) (by omega : 112 > 0)
  refine ⟨by omega, by omega, ?_⟩
  unfold inState
  cases he : entryAt es (16 + (p + 96 - k) % 112) with
  | none => rfl
  | some e =>
    rw [he] at hr
    cases hst : e.state <;> simp [reusable, hst] at hr ⊢

theorem Reaches.missedRead (h : Reaches s none t) {ref : RecRef} (c : StationConfig) (id : Identity)
    (hrec : SlotLaw t → ∀ q ∈ t.btu.queue, q.ref = ref → q.readStatus = .read → q.ident = none) :
    Reaches s ((t.missedRead c id).2.claim ref id) (t.missedRead c id).1 := by
  unfold State.missedRead
  split
  · rename_i i hi
    split
    · exact h.edits ((Edits.refl t).bump _)
    · rename_i hs
      have htag := tagTest_some hi
      refine Reaches.makeEntry (h.edits ((Edits.refl t).bump .tagClash)) (Bool.eq_false_iff.2 hs) (fun h128 => ?_)
        (fun hg => hg.only htag) hrec
      obtain ⟨e, he, -⟩ := Option.map_eq_some_iff.1 htag
      exact h128 ▸ lt_of_entryAt he
  · rename_i hnone
    split
    · exact h.edits (((Edits.refl t).bump _).raiseEv _)
    · rename_i i hi
      obtain ⟨hlo, hlt, hs⟩ := rotating_some hi
      have hp : Edits t { t with idt := { t.idt with pointer := pointerAfter i } } :=
        (Edits.refl t).tail fun _ => .idt _ _ _ t.idt.minuteMs fun _ => by unfold pointerAfter; split <;> omega
      exact Reaches.makeEntry (h.edits hp) hs (fun _ => hlt) (fun _ j _ => tagTest_none hnone j) hrec

/-- A hit moves to the segment. -/
theorem Reaches.claimHit (h : Reaches s none t) {i : Nat} {e : IdtEntry} {ref : RecRef} {id : Identity} (k : Ctr)
    (he : entryAt t.idt.entries i = some e) (htag : e.tag = id.tag) (hs : e.state ≠ .onSegment)
    (hrec : SlotLaw t → ∀ q ∈ t.btu.queue, q.ref = ref → q.readStatus = .read → q.ident = none) :
    Reaches s (some ⟨i, ref, id.tag⟩) (((t.restartAge i).modifyEntry i fun x => { x with state := .onSegment }).bump k) := by
  have ha := h.edits ((Edits.refl t).restartAge i)
  have he' := entryAt_restartAge (t := t) he
  generalize hu : t.restartAge i = u at *
  have hub : u.btu = t.btu := by rw [← hu]; simp
  have hat := entryAt_modify u.idt.entries i (f := Option.map fun x : IdtEntry => { x with state := .onSegment }) (hf := rfl)
  have hm : Reaches s (some ⟨i, ref, id.tag⟩) (u.modifyEntry i fun x => { x with state := .onSegment }) := by
    refine ha.claimEntry (by simp) (fun hg => hg.congr fun j => ?_) (fun j hj => ?_) (inState_eq_false_of_ne he' hs)
      (fun h128 => h128 ▸ lt_of_entryAt he') (fun _ => ⟨{ e with age := 0, state := .onSegment }, ?_, htag, rfl⟩) ?_
    · simp only [tagAt, hat]
      split
      · cases entryAt u.idt.entries j <;> rfl
      · rfl
    · rw [hat, if_neg (Ne.symm hj)]
    · rw [hat, if_pos rfl, he']; rfl
    · intro hsl q hq
      rw [slotLaw_iff, hub] at hsl
      rw [hub] at hq
      exact hrec ((slotLaw_iff t).2 hsl) q hq
  exact hm.edits ((Edits.refl _).bump _)

theorem Reaches.readIdt (h : Reaches s none t) (hc : s.cfg = some c) {ref : RecRef} (id : Identity)
    (hrec : SlotLaw t → ∀ q ∈ t.btu.queue, q.ref = ref → q.readStatus = .read → q.ident = none) :
    Reaches s ((t.readIdt c id).2.claim ref id) (t.readIdt c id).1 := by
  have hcfg := h.cfg.trans hc
  unfold State.readIdt
  split
  · exact h.missedRead c id hrec
  · rename_i i hi
    obtain ⟨e, he, hm⟩ := probe_some hi
    have htag := tag_of_matchedBy hm
    have ha : Edits t (t.restartAge i) := (Edits.refl t).restartAge i
    rw [he]
    dsimp only
    split
    · exact h.claimHit .returning he htag (by simp [*]) hrec
    · exact h.claimHit .manualHit he htag (by simp [*]) hrec
    · exact h.edits ((ha.bump _).raiseEv _)
    · split
      · exact h.edits ((ha.bump _).raiseEv _)
      · exact h.edits (((ha.bump _).raiseEv _).offer hcfg _ _)

end

end Sys2Proof.Machine
end

section
/-! SUPPORT. The reads, the desk, the queries and the line as sequences of edits. -/

namespace Sys2Proof.Machine

open Sys2Proof

/-! ### What an identification finds and writes (R72, R73) -/

/-- What is true of everything that steps 1 to 3 of R72 find. -/
structure Finding.Sound (f : Finding) : Prop where
  /-- without a reason there is a chute -/
  chute : f.reason = none → f.chute.isSome
  /-- a refused read finds a reason and no entry -/
  refused : f.refused = true → f.reason.isSome ∧ f.answer.entry = none

theorem Decode.chute_isSome {d : Decode} (h : d.reason = none) : d.chute.isSome := by
  cases d with
  | noCabin | unavailable => cases h
  | primary | overflow | primaryFull => rfl

theorem State.findEntry_sound (s : State) (c : StationConfig) (sl : Sailing) (id : Identity) : (s.findEntry c sl id).2.Sound := by
  unfold State.findEntry
  dsimp only
  split
  · exact ⟨fun h => (by cases h), fun h => (by cases h)⟩
  · exact ⟨fun _ => rfl, fun h => (by cases h)⟩
  · exact ⟨Decode.chute_isSome, fun h => (by cases h)⟩
  · exact ⟨Decode.chute_isSome, fun h => (by cases h)⟩
  · exact ⟨Decode.chute_isSome, fun h => (by cases h)⟩

theorem State.find_sound (s : State) (c : StationConfig) (rc : ReaderConfig) (id : Identity) : (s.find c rc id).2.Sound := by
  unfold State.find
  dsimp only
  split
  · exact ⟨fun h => (by cases h), fun _ => ⟨rfl, rfl⟩⟩
  · exact State.findEntry_sound _ _ _ _

/-- A reason found leaves the record with a reason. -/
theorem Finding.finalReason_isSome {f : Finding} (h : f.reason.isSome) (r : SegRec) : (f.finalReason r).isSome := by
  obtain ⟨x, hx⟩ := Option.isSome_iff_exists.1 h
  unfold Finding.finalReason
  rw [hx]
  dsimp only
  split
  · rfl
  · rename_i hn
    cases hh : f.heldAfter r with
    | none => simp [offerTakes, hh] at hn
    | some y => rfl

/-- What the identification writes is good for R145. -/
theorem Finding.Sound.write_destGood {f : Finding} (hf : f.Sound) (c : StationConfig) (r : SegRec) : (f.write c r).DestGood c := by
  unfold SegRec.DestGood Finding.write Finding.finalDest
  by_cases hr : (f.finalReason r).isSome
  · simp [hr]
  · have hn : f.reason = none := by
      by_contra h
      exact hr (Finding.finalReason_isSome (Option.isSome_iff_ne_none.2 h) r)
    have hnr : f.refused = false := by
      by_contra h
      have := (hf.refused (by simpa using h)).1
      rw [hn] at this
      cases this
    simp [hr, hnr, hf.chute hn]

/-- A hard reason held at the maximum stays (R129). -/
theorem Finding.write_passGood {f : Finding} {c : StationConfig} (hmax : 1 ≤ c.maxPasses) {r : SegRec} (hr : r.PassGood c) :
    (f.write c r).PassGood c := by
  obtain ⟨hle, hx⟩ := hr
  unfold Finding.write
  by_cases hm : f.answer.isManual
  · refine ⟨by simp [hm], fun e => ?_⟩
    simp only [hm, if_true] at e
    omega
  · refine ⟨by simpa [hm] using hle, fun e => ?_⟩
    obtain ⟨x, hrx, hsoft⟩ := hx (by simpa [hm] using e)
    have hheld : f.heldAfter r = some x := by simp [Finding.heldAfter, hm, hrx, hsoft]
    refine ⟨x, ?_, hsoft⟩
    unfold Finding.finalReason
    cases f.reason with
    | none => exact hheld
    | some y =>
      dsimp only
      rw [offerTakes_of_hard hheld hsoft]
      exact hheld

theorem Finding.Sound.not_refused {f : Finding} (hf : f.Sound) {i : Nat} (h : f.answer.entry = some i) : f.refused = false := by
  by_contra hr
  have := (hf.refused (by simpa using hr)).2
  rw [this] at h
  cases h

section
variable {s t : State} {c : StationConfig}

/-- The write without an entry of its own. -/
theorem Edits.write (h : Edits s t) (hc : s.cfg = some c) {f : Finding} (hf : f.Sound) (hn : f.answer.entry = none) (ref : RecRef) :
    Edits s (t.mapRec ref (f.write c)) := by
  refine h.mapRec (fun _ => rfl) (fun k hk r _ _ _ => ?_) fun _ q _ => ⟨fun k hk hmax _ hp => ?_, ?_, fun _ _ => rfl, fun _ hi => ?_⟩
  · rw [hc] at hk
    cases hk
    exact hf.write_destGood c r
  · rw [hc] at hk
    cases hk
    exact Finding.write_passGood hmax hp
  · simp [Finding.write, hn]
  · simp only [Finding.write]
    split
    · exact hi
    · rfl

theorem Edits.writeEntryDest (h : Edits s t) (f : Finding) (d : Option Nat) : Edits s (t.writeEntryDest f d) := by
  unfold State.writeEntryDest
  split
  · exact h
  · exact h.setEntryDest _ _

theorem Edits.reportWrite (h : Edits s t) (c : StationConfig) (f : Finding) (r : SegRec) : Edits s (t.reportWrite c f r) := by
  have hcl : Edits s (if r.reason.isSome && (f.heldAfter r).isNone then t.bump .strayCleared else t) := by
    split
    · exact h.bump _
    · exact h
  unfold State.reportWrite
  dsimp only
  split
  · exact hcl
  · split
    · exact (hcl.bump _).queueFrame _
    · exact hcl.bump _

/-- An entry that the read moved was one of its tag number off the segment (R87, R89). -/
def Finding.Restorable (f : Finding) : Prop :=
  ∀ i, f.answer.entry = some i → f.answer = .made i ∨ ∃ e, f.old = some e ∧ e.tag = f.id.tag ∧ e.state ≠ .onSegment

/-- The claimed entry is taken off the segment when the write is discarded (R89). -/
theorem Reaches.undoRead {f : Finding} {ref : RecRef} (h : Reaches s (f.answer.claim ref f.id) t)
    (hold : f.Restorable) : Reaches s none (t.undoRead f.answer f.old) := by
  have restored : ∀ i e, f.old = some e → e.tag = f.id.tag → e.state ≠ .onSegment → Reaches s (some ⟨i, ref, f.id.tag⟩) t →
      Reaches s none (t.setEntries (t.idt.entries.set i (f.old.map fun e => { e with age := 0 }))) := by
    intro i e he htag hst hr
    rw [he]
    have hcases := entryAt_set_cases t.idt.entries i (some { e with age := 0 })
    refine hr.tail (.undo t ⟨i, ref, f.id.tag⟩ _ (by simp) (fun htc j => ?_) (fun j hj => ?_) ?_)
    · rcases hcases j with e' | ⟨rfl, hlt, e'⟩
      · simp only [tagAt, Option.map_some, e']
      · rw [htc hlt, tagAt, Option.map_some, e']
        simp [htag]
    · rcases hcases j with e' | ⟨rfl, -, -⟩
      · simp only [inState, Option.map_some, e']
      · exact absurd rfl hj
    · have hlt_or : i < t.idt.entries.length ∨ ¬ i < t.idt.entries.length := Decidable.em _
      rcases hlt_or with hlt | hlt
      · rw [inState, Option.map_some, entryAt_set hlt, if_pos rfl]
        simp [hst]
      · rw [List.set_eq_of_length_le (not_lt.1 hlt), inState, entryAt_eq, List.getElem?_eq_none (not_lt.1 hlt)]
        rfl
  cases ha : f.answer with
  | made i =>
    rw [ha] at h
    have hat := entryAt_modify t.idt.entries i (f := Option.map fun x : IdtEntry => { x with state := .onLoop, age := 0 }) (hf := rfl)
    refine h.tail (.undo t ⟨i, ref, f.id.tag⟩ _ (by simp) (fun _ j => ?_) (fun j hj => ?_) ?_)
    · simp only [tagAt, hat]
      split
      · cases entryAt t.idt.entries j <;> rfl
      · rfl
    · simp only [inState, hat, if_neg (Ne.symm hj)]
    · simp only [inState, hat, if_pos]
      cases entryAt t.idt.entries i <;> simp
  | returning i =>
    rw [ha] at h
    obtain ⟨e, he, htag, hst⟩ := (hold i (by rw [ha]; rfl)).resolve_left (by rw [ha]; simp)
    exact restored i e he htag hst h
  | manual i d =>
    rw [ha] at h
    obtain ⟨e, he, htag, hst⟩ := (hold i (by rw [ha]; rfl)).resolve_left (by rw [ha]; simp)
    exact restored i e he htag hst h
  | noEntry => rw [ha] at h; exact h
  | duplicate => rw [ha] at h; exact h

/-- The entry that a read moved was one of its tag, off the segment. -/
theorem State.readIdt_old {i : Nat} (id : Identity) (h : (t.readIdt c id).2.entry = some i) :
    (t.readIdt c id).2 = .made i
      ∨ ∃ e, entryAt t.idt.entries i = some e ∧ e.tag = id.tag ∧ e.state ≠ .onSegment := by
  have missed : (t.missedRead c id).2.entry = some i → (t.missedRead c id).2 = .made i := by
    unfold State.missedRead
    split
    · split
      · intro hm; cases hm
      · intro hm; cases hm; rfl
    · split
      · intro hm; cases hm
      · intro hm; cases hm; rfl
  unfold State.readIdt at h ⊢
  split at h
  · exact Or.inl (missed h)
  · rename_i j hj
    obtain ⟨e, he, hm⟩ := probe_some hj
    rw [he] at h ⊢
    have htag := tag_of_matchedBy hm
    dsimp only at h ⊢
    cases hs : e.state <;> rw [hs] at h <;> dsimp only at h ⊢
    · split at h <;> cases h
    · cases h; exact Or.inr ⟨e, he, htag, by simp [hs]⟩
    · cases h
    · cases h; exact Or.inr ⟨e, he, htag, by simp [hs]⟩

/-- Steps 1 to 3 of R72 claim the entry that they answer. -/
theorem Reaches.find (h : Reaches s none t) (hc : s.cfg = some c) (rc : ReaderConfig) {ref : RecRef} (id : Identity)
    (hrec : SlotLaw t → ∀ q ∈ t.btu.queue, q.ref = ref → q.readStatus = .read → q.ident = none) :
    Reaches s ((t.find c rc id).2.answer.claim ref (t.find c rc id).2.id) (t.find c rc id).1 := by
  have hsail := h.edits ((Edits.refl t).countSailing (sailingCheck rc id.sailing))
  have hbtu : (t.countSailing (sailingCheck rc id.sailing)).btu = t.btu := by simp
  unfold State.find
  dsimp only
  split
  · exact hsail
  · have hread := hsail.readIdt hc (ref := ref) id (by
      intro hsl q hq
      rw [slotLaw_iff, hbtu] at hsl
      rw [hbtu] at hq
      exact hrec ((slotLaw_iff t).2 hsl) q hq)
    unfold State.findEntry
    dsimp only
    split
    · rename_i ha; rw [ha] at hread; rw [ha]; exact hread
    · rename_i ha; rw [ha] at hread; rw [ha]; exact hread
    · rename_i ha; rw [ha] at hread; rw [ha]; exact hread.edits ((Edits.refl _).countDecode _)
    · rename_i ha; rw [ha] at hread; rw [ha]; exact hread.edits ((Edits.refl _).countDecode _)
    · rename_i ha; rw [ha] at hread; rw [ha]; exact hread.edits ((Edits.refl _).countDecode _)

theorem State.findEntry_restorable (t : State) (c : StationConfig) (sl : Sailing) (id : Identity) :
    (t.findEntry c sl id).2.Restorable := by
  have answer : (t.findEntry c sl id).2.answer = (t.readIdt c id).2 ∧ (t.findEntry c sl id).2.id = id
      ∧ (t.findEntry c sl id).2.old = (t.readIdt c id).2.entry.bind fun i => entryAt t.idt.entries i := by
    unfold State.findEntry
    dsimp only
    split <;> exact ⟨rfl, rfl, rfl⟩
  obtain ⟨ha, hid, ho⟩ := answer
  intro i hi
  rw [ha] at hi ⊢
  rw [hid, ho, hi]
  exact State.readIdt_old id hi

theorem State.find_restorable (t : State) (c : StationConfig) (rc : ReaderConfig) (id : Identity) : (t.find c rc id).2.Restorable := by
  unfold State.find
  dsimp only
  split
  · intro i hi; cases hi
  · exact State.findEntry_restorable _ _ _ _

/-- Step 4 of R72: the record adopts the claimed entry, or the claim is undone (R73, R89). -/
theorem Reaches.writeFinding {f : Finding} {r : SegRec} (h : Reaches s (f.answer.claim r.ref f.id) t) (hc : s.cfg = some c) (hf : f.Sound)
    (hold : f.Restorable) : Reaches s none (t.writeFinding c f r) := by
  have hcfg := h.cfg.trans hc
  unfold State.writeFinding
  split
  · exact (h.edits (((Edits.refl t).bump _).writeEntryDest f _)).undoRead hold
  · rename_i q hq
    have hw : Reaches s none (t.mapRec r.ref (f.write c)) := by
      cases ha : f.answer.entry with
      | none =>
        have hk : f.answer.claim r.ref f.id = none := by simp [IdtAnswer.claim, ha]
        rw [hk] at h
        exact h.edits ((Edits.refl t).write hcfg hf ha _)
      | some i =>
        have hk : f.answer.claim r.ref f.id = some ⟨i, r.ref, f.id.tag⟩ := by simp [IdtAnswer.claim, ha]
        rw [hk] at h
        refine h.tail (.adopt t ⟨i, r.ref, f.id.tag⟩ (f.write c) q hq (fun _ => rfl) (fun k hk x _ _ _ => ?_) (fun k hk hmax _ hp => ?_)
          ⟨?_, rfl, ?_⟩)
        · rw [hcfg] at hk
          cases hk
          exact hf.write_destGood c x
        · rw [hcfg] at hk
          cases hk
          exact Finding.write_passGood hmax hp
        · simp [Finding.write, ha]
        · simp [Finding.write, hf.not_refused ha]
    exact hw.edits (((((Edits.refl _).bump _).tellDestination c _ _).reportWrite c f q).writeEntryDest f _)

/-! ### Queries -/

theorem Edits.zeroGroup (h : Edits s t) (n : Nat) : Edits s (t.zeroGroup n) := by
  unfold State.zeroGroup
  split
  · exact h.tail fun _ => .zeroFlow _ _
  · exact h.tail fun _ => .stu _ _ _ (by simp) rfl

theorem Edits.takeQuery (h : Edits s t) (hc : s.cfg = some c) (q : Query) : Edits s (t.takeQuery c q) := by
  have hq := (h.bump .queryTaken).queueFrame (.statusReply ((t.bump .queryTaken).reply c q))
  have hz : Edits s (if q.zero then ((t.bump .queryTaken).queueFrame (.statusReply ((t.bump .queryTaken).reply c q))).zeroGroup q.group
      else (t.bump .queryTaken).queueFrame (.statusReply ((t.bump .queryTaken).reply c q))) := by
    split
    · exact hq.zeroGroup _
    · exact hq
  unfold State.takeQuery
  dsimp only
  split
  · exact (hz.clearEvents _).segmentClear hc
  · exact hz.clearEvents _

theorem Edits.screenQuery (h : Edits s t) (hc : s.cfg = some c) (q : Query) : Edits s (t.screenQuery c q) := by
  unfold State.screenQuery
  split
  · exact h.takeQuery hc q
  · exact h.bump _

/-! ### Reception -/

/-- A change of the line controller that leaves the outbound queue and the tally. -/
theorem HlcKeeps.of_line {h : Hlc} (hq : h.queue = s.hlc.queue) (ht : h.tally ≤ s.hlc.tally) (hl : LineLaw s → LineLaw (s.setHlc h))
    (ho : ObjectionLaw s → ObjectionLaw (s.setHlc h)) : HlcKeeps s h where
  outbound hs := by rw [outboundLaw_iff] at *; simpa [hq] using hs
  line := hl
  objection := ho
  length hs := hq ▸ hs
  tally hs := ht.trans hs

theorem Edits.setObjection (h : Edits s t) {o : Objection} (ho : o ≠ .none → t.hlc.line = .active) : Edits s (t.setObjection o) :=
  h.setHlc (.of_line rfl le_rfl (fun hl => hl) fun _ => ho)

theorem Edits.rxFault (h : Edits s t) (o : Objection) : Edits s (t.rxFault o) := by
  refine Edits.raiseEv (Edits.bump (h.setObjection fun hn => ?_) _) _
  by_contra hl
  exact hn (if_neg hl)

theorem Edits.duplicateFound (h : Edits s t) (hc : s.cfg = some c) : Edits s t.duplicateFound := by
  refine Edits.bump (Edits.setHlc h ?_) _
  refine .of_line rfl le_rfl (fun _ => ?_) fun _ hn => (hn rfl).elim
  have : t.cfg ≠ none := by rw [h.cfg, hc]; simp
  exact ⟨by simpa using this, by simp, fun _ => Or.inl rfl, fun _ => rfl⟩

theorem Reaches.receive {f : RxFrame} {formed : Bool} {take : State → State} (hc : s.cfg = some c)
    (ht : ∀ u, Edits s u → Reaches s none (take u)) : Reaches s none (s.receive c f formed take) := by
  have hr := Edits.refl s
  unfold State.receive
  split
  · exact hr.reaches
  · exact (hr.rxFault _).reaches
  · exact (hr.setObjection fun h => absurd rfl h).reaches
  · exact (hr.duplicateFound hc).reaches
  · exact ht _ (hr.setObjection fun h => absurd rfl h)

theorem Edits.receive {f : RxFrame} {formed : Bool} {take : State → State} (hc : s.cfg = some c)
    (ht : ∀ u, Edits s u → Edits s (take u)) : Edits s (s.receive c f formed take) := by
  have hr := Edits.refl s
  unfold State.receive
  split
  · exact hr
  · exact hr.rxFault _
  · exact hr.setObjection fun h => absurd rfl h
  · exact hr.duplicateFound hc
  · exact ht _ (hr.setObjection fun h => absurd rfl h)

theorem Edits.statusQuery (s : State) (f : RxFrame) : Edits s (s.statusQuery f) := by
  unfold State.statusQuery
  split
  · exact .refl s
  · rename_i k hk
    split
    · exact Edits.receive hk fun _ h => h
    · exact Edits.receive hk fun _ h => (h.bump _).screenQuery hk _

/-! ### Races and reads (R65 to R73, R89) -/

theorem Edits.takeRace (h : Edits s t) (hc : s.cfg = some c) (x : Option Race) : Edits s (t.takeRace c x) := by
  unfold State.takeRace
  split
  · exact h
  · exact h.acceptLeading hc _
  · exact h.overduePoint hc _
  · exact h.acceptLeading hc _
  · exact h.eyeRawChange _ _
  · exact h.jamClr
  · exact h.trans (Edits.statusQuery _ _)

theorem Reaches.identify (h : Reaches s none t) (hc : s.cfg = some c) (rc : ReaderConfig) (id : Identity) {r : SegRec} (x : Option Race)
    (hrec : SlotLaw t → ∀ q ∈ t.btu.queue, q.ref = r.ref → q.readStatus = .read → q.ident = none) :
    Reaches s none (t.identify c rc id r x) := by
  have hfind := h.find hc rc id hrec
  have hcfg := hfind.cfg.trans hc
  exact (hfind.edits ((Edits.refl _).takeRace hcfg x)).writeFinding hc (State.find_sound _ _ _ _) (State.find_restorable _ _ _ _)

theorem plain_ambiguous (b : Bool) : Plain fun q => { q with ambiguous := b } := fun _ => ⟨rfl, rfl, rfl, rfl, rfl, rfl, rfl⟩

theorem Edits.ambiguousRead (h : Edits s t) (hc : s.cfg = some c) (rs : List SegRec) : Edits s (t.ambiguousRead c rs) := by
  refine Edits.foldl _ (fun u r hu => ?_) _ _ ((h.bump _).raiseEv _)
  unfold State.ambiguousCandidate
  split
  · exact hu
  · exact (hu.updatePlain (plain_ambiguous true) _).offer hc _ _

/-- The read status of a record that is not READ, or of one that becomes it. -/
theorem Edits.setReadStatus (h : Edits s t) {ref : RecRef} {x : ReadStatus}
    (hx : x = .read ∨ (SlotLaw t → ∀ q, t.findRec ref = some q → q.readStatus ≠ .read)) :
    Edits s (t.updateRec ref fun q => { q with readStatus := x }) := by
  unfold State.updateRec
  split
  · refine h.mapRec (fun _ => rfl) (fun _ _ _ _ _ hr => hr) fun hsl q hq => ⟨fun _ _ _ _ hp => hp, rfl, fun _ hr => ?_, fun _ hi => hi⟩
    rcases hx with rfl | hx
    · rfl
    · exact absurd hr (hx hsl q hq)
  · exact h.bump _

theorem Edits.failedRead (h : Edits s t) (hc : s.cfg = some c) {r : SegRec} (x : Reason)
    (hr : SlotLaw t → ∀ q, t.findRec r.ref = some q → q.readStatus ≠ .read) : Edits s (t.failedRead c r x) := by
  have hu := h.setReadStatus (x := .noRead) (Or.inr hr)
  unfold State.failedRead
  dsimp only
  split
  · exact hu.offer hc _ _
  · exact hu

theorem Edits.conflict (h : Edits s t) (hc : s.cfg = some c) (r : SegRec) : Edits s (t.conflict c r) :=
  (((h.setReadStatus (x := .read) (Or.inl rfl)).bump _).raiseEv _).offer hc _ _

theorem Reaches.singleRead (h : Reaches s none t) (hc : s.cfg = some c) (rc : ReaderConfig) (k : Scan) {r : SegRec} (x : Option Race)
    (hr : r ∈ t.btu.queue) : Reaches s none (t.singleRead c rc k r x) := by
  have hcfg := h.cfg.trans hc
  have the_one : ∀ q, SlotLaw t → t.findRec r.ref = some q → q = r := fun q hsl hq =>
    Option.some.inj (hq.symm.trans (hsl.findRec_eq hr))
  have bumped : ∀ k, Reaches s none (t.bump k) := fun k => h.edits ((Edits.refl t).bump k)
  unfold State.singleRead
  split
  · split
    · exact bumped _
    · rename_i hdouble
      split
      · exact h.edits ((Edits.refl t).conflict hcfg r)
      · rename_i hdiff
        refine h.identify hc rc _ x fun hsl q hq href hread => ?_
        obtain rfl := hsl.ref_inj hq hr href
        cases hid : q.ident with
        | none => rfl
        | some i => simp [hread, hid] at hdouble hdiff; rw [hdouble] at hdiff; cases hdiff
  · split
    · exact h
    · exact h.edits ((Edits.refl t).failedRead hcfg _ fun hsl q hq => the_one q hsl hq ▸ ‹_›)
  · split
    · exact bumped _
    · refine h.edits (Edits.failedRead ((Edits.refl t).bump .noRead) hcfg _ fun hsl q hq => ?_)
      exact the_one q hsl hq ▸ ‹_›

theorem Reaches.associate (h : Reaches s none t) (hc : s.cfg = some c) (rc : ReaderConfig) (k : Scan) (x : Option Race) :
    Reaches s none (t.associate c rc k x) := by
  unfold State.associate
  split
  · exact h.edits (((Edits.refl t).bump _).raiseEv _)
  · rename_i r hr
    have hm : r ∈ candidates rc t := by rw [hr]; simp
    exact h.singleRead hc rc k x (List.mem_of_mem_filter hm)
  · exact h.edits ((Edits.refl t).ambiguousRead (h.cfg.trans hc) _)

/-! ### The desk and the assembler -/

theorem Edits.deskRefuse (h : Edits s t) (k : Ctr) : Edits s (t.deskRefuse k) := (h.bump _).raiseEv _

theorem Reaches.deskAccept (h : Reaches s none t) (c : StationConfig) (id : Identity) (d : Nat) : Reaches s none (t.deskAccept c id d) := by
  have hq := h.edits (((Edits.refl t).bump .deskAccepted).queueFrame (.identityNotice id d))
  unfold State.deskAccept
  dsimp only
  split
  · exact hq.takeNotice c id d
  · exact hq

theorem Reaches.deskRecord (h : Reaches s none t) (c : StationConfig) (rc : ReaderConfig) (b : Bool) (id : Identity) :
    Reaches s none (t.deskRecord c rc b id) := by
  have refused : ∀ k, Reaches s none (t.deskRefuse k) := fun k => h.edits ((Edits.refl t).deskRefuse k)
  unfold State.deskRecord
  split
  · exact refused _
  · split
    · exact refused _
    · split
      · exact refused _
      · exact refused _
      · exact h.deskAccept c _ _
      · exact h.deskAccept c _ _
      · exact h.deskAccept c _ _

theorem Edits.scanAbandon (h : Edits s t) : Edits s t.scanAbandon := (h.bump _).raiseEv _

theorem Reaches.receipt (h : Reaches s none t) (hc : s.cfg = some c) (held : List Byte) (x : Option Race) :
    Reaches s none (t.receipt c held x) := by
  have bumped : ∀ {u}, Reaches s none u → ∀ k, Reaches s none (u.bump k) := fun hu k => hu.edits ((Edits.refl _).bump k)
  have hb : Reaches s none (if recordValid held then t else t.bump .badCheck) := by
    split
    · exact h
    · exact bumped h _
  unfold State.receipt
  split
  · split
    · exact h.associate hc _ _ x
    · exact bumped h _
  · dsimp only
    split
    · split
      · exact hb.associate hc _ _ x
      · exact bumped hb _
    · split
      · exact hb.deskRecord c _ _ _
      · exact bumped hb _

theorem Edits.byteIdle (h : Edits s t) (b : Byte) (f : Bool) : Edits s (t.byteIdle b f) := by
  unfold State.byteIdle
  split
  · exact h.setAsm _ _
  · split
    · exact h
    · exact h.scanAbandon.setAsm _ _

theorem Reaches.byteAssembling (h : Reaches s none t) (hc : s.cfg = some c) (held : List Byte) (b : Byte) (f : Bool) (x : Option Race) :
    Reaches s none (t.byteAssembling c held b f x) := by
  have abandoned : ∀ a g, Reaches s none (t.scanAbandon.setAsm a g) := fun a g => h.edits ((Edits.refl t).scanAbandon.setAsm a g)
  unfold State.byteAssembling
  split
  · exact abandoned _ _
  · split
    · exact h.edits ((Edits.refl t).setAsm _ _)
    · exact (h.edits ((Edits.refl t).setAsm _ _)).receipt hc held x
    · split
      · exact abandoned _ _
      · exact abandoned _ _

theorem Edits.byteDiscarding (h : Edits s t) (b : Byte) (f : Bool) : Edits s (t.byteDiscarding b f) := by
  unfold State.byteDiscarding
  split
  · exact h.setAsm _ _
  · exact h.setAsm _ _

end

end Sys2Proof.Machine
end

section
/-! SUPPORT. Every command but RESET, the start of the station and ENCODER_TICK is a sequence of edits, and so is one idle millisecond. -/

namespace Sys2Proof.Machine

open Sys2Proof

section
variable {s t : State} {c : StationConfig}

/-! ### The station's own frames (R155 to R161) -/

/-- The frames behind the head of a good queue, and what the head's mark says of them. -/
theorem OutboundGood.behind {f : OutFrame} {rest : List OutFrame} (h : OutboundGood (f :: rest)) :
    WaitingGood rest ∧ (f.sending = true → f.overtaken = false → ∀ p ∈ rest, f.frame.sameClass p.frame = false) := by
  rcases h.cases with hw | ⟨x, r, hx, hsend, hw, ho⟩
  · refine ⟨hw.sublist (List.sublist_cons_self _ _), fun hs => ?_⟩
    rw [hw.1 f (by simp)] at hs
    cases hs
  · cases hx
    refine ⟨hw, fun _ hn p hp => Bool.eq_false_iff.2 fun e => ?_⟩
    rw [ho ⟨p, hp, e⟩] at hn
    cases hn

theorem OutboundGood.of_waitingGood {q : List OutFrame} (h : WaitingGood q) : OutboundGood q := (outboundGood_of_waiting h.1).2 h

/-- The outbound queue and the tally change, the line does not. -/
theorem Edits.setQueueTally (h : Edits s t) {q : List OutFrame} {n : Nat} (hq : OutboundGood t.hlc.queue → OutboundGood q)
    (hl : t.hlc.queue.length ≤ 8 → q.length ≤ 8) (hn : t.hlc.tally ≤ 3 → n ≤ 3) :
    Edits s (t.setHlc { t.hlc with queue := q, tally := n }) := h.setHlc (.of_queue rfl rfl rfl rfl hq hl hn)

theorem Edits.setOutbound (h : Edits s t) {q : List OutFrame} (hq : OutboundGood t.hlc.queue → OutboundGood q)
    (hl : t.hlc.queue.length ≤ 8 → q.length ≤ 8) : Edits s (t.setOutbound q) := h.setQueueTally (n := t.hlc.tally) hq hl id

/-- An ACTIVE station has a configuration, no running timer and no duplicate. -/
theorem LineLaw.of_active (h : LineLaw s) (ha : s.hlc.line = .active) : s.cfg ≠ none ∧ s.hlc.quietMs = none ∧ s.hlc.dup = false := by
  obtain ⟨h1, h2, h3, -⟩ := h
  rw [ha] at h1 h2 h3
  refine ⟨fun e => by simpa using h1.2 e, ?_, ?_⟩
  · simpa using h2
  · simpa using h3

theorem Edits.enterQuiet (h : Edits s t) : Edits s t.enterQuiet := by
  unfold State.enterQuiet
  split
  · rename_i ha
    refine Edits.bump (Edits.setHlc h ?_) _
    refine .of_line rfl le_rfl (fun hl => ?_) fun _ hn => (hn rfl).elim
    obtain ⟨hc, -, hd⟩ := hl.of_active ha.1
    exact ⟨by simpa using hc, by simp, fun e => by simp [hd] at e, by simp⟩
  · exact h

section
variable {f : OutFrame} {rest : List OutFrame}

theorem Edits.supersede (h : Edits s t) (hq : t.hlc.queue = f :: rest) : Edits s (t.supersede rest) :=
  (h.setOutbound (fun hg => .of_waitingGood (hq ▸ hg).behind.1) fun hl => by rw [hq, List.length_cons] at hl; omega).bump _

theorem Edits.dropFailed (h : Edits s t) (hq : t.hlc.queue = f :: rest) : Edits s (t.dropFailed rest) :=
  (((h.setQueueTally (fun hg => .of_waitingGood (hq ▸ hg).behind.1) (fun hl => by rw [hq, List.length_cons] at hl; omega)
    fun _ => min_le_left _ _).bump _).raiseEv _).enterQuiet

/-- A frame that was not overtaken waits again (R166). -/
theorem Edits.waitAgain (h : Edits s t) (hq : t.hlc.queue = f :: rest) (hs : f.sending = true) (ho : f.overtaken = false) (b : Bool) :
    Edits s (t.waitAgain f rest b) := by
  refine h.setOutbound (fun hg => ?_) fun hl => ?_
  · obtain ⟨hw, hclass⟩ := (hq ▸ hg).behind
    exact .of_waitingGood (hw.reinsertFrame rfl (hclass hs ho))
  · rw [length_reinsertFrame]
    rwa [hq, List.length_cons] at hl

theorem Edits.attemptFailed (h : Edits s t) (hq : t.hlc.queue = f :: rest) (hs : f.sending = true) : Edits s (t.attemptFailed f rest) := by
  unfold State.attemptFailed
  split
  · exact h.supersede hq
  · split
    · exact h.dropFailed hq
    · exact h.waitAgain hq hs (Bool.eq_false_iff.2 ‹_›) _

theorem Edits.attemptLost (h : Edits s t) (hq : t.hlc.queue = f :: rest) (hs : f.sending = true) : Edits s (t.attemptLost f rest) := by
  unfold State.attemptLost
  split
  · exact (h.bump _).supersede hq
  · exact (h.bump _).waitAgain hq hs (Bool.eq_false_iff.2 ‹_›) _

theorem Edits.collide (h : Edits s t) : Edits s t.collide := by
  refine Edits.raiseEv (Edits.bump (h.setObjection fun hn => ?_) _) _
  by_contra hl
  exact hn (if_neg hl)

theorem Edits.endAttempt (h : Edits s t) (hq : t.hlc.queue = f :: rest) (hs : f.sending = true) (o : AttemptOutcome) :
    Edits s (t.endAttempt f rest o) := by
  cases o with
  | sent =>
    exact (h.setQueueTally (fun hg => .of_waitingGood (hq ▸ hg).behind.1) (fun hl => by rw [hq, List.length_cons] at hl; omega)
      fun _ => Nat.zero_le _).bump _
  | lost => exact h.attemptLost hq hs
  | collision => exact h.collide.attemptFailed (by simpa [State.collide] using hq) hs
  | objected => exact (h.bump _).attemptFailed hq hs

/-- The first waiting frame goes into transmission (R155). -/
theorem Edits.startFrame (h : Edits s t) (hq : t.hlc.queue = f :: rest) (hw : t.hlc.transmitting = false) :
    Edits s (t.setHlc { t.hlc with queue := { f with sending := true, overtaken := false } :: rest, objection := .none }) := by
  refine h.setHlc ⟨fun hg => ?_, fun hl => hl, fun _ hn => (hn rfl).elim, fun hl => ?_, fun ht => ht⟩
  · rw [outboundLaw_iff] at *
    have hall : ∀ o ∈ f :: rest, o.sending = false := by simpa [Hlc.transmitting, hq] using hw
    rw [hq, outboundGood_of_waiting hall] at hg
    refine (outboundGood_cons_sending rfl).2 ⟨hg.sublist (List.sublist_cons_self _ _), ?_⟩
    rintro ⟨p, hp, hclass⟩
    have := ((List.pairwise_cons.1 hg.2).1 p hp).2
    rw [this] at hclass
    cases hclass
  · rwa [hq] at hl

end

/-! ### Line states, stale handovers and the refresh (R162, R163, R169, R172) -/

theorem Edits.becomeActive (h : Edits s t) {q : Option Nat} {n : Nat} (hq : q = none ∨ q = t.hlc.quietMs) (hn : n ≤ t.hlc.tally)
    (hc : LineLaw t → t.cfg ≠ none ∧ t.hlc.dup = false ∧ (q = t.hlc.quietMs → t.hlc.quietMs = none)) :
    Edits s (t.setHlc { t.hlc with line := .active, quietMs := q, tally := n }) := by
  refine h.setHlc (.of_line rfl hn (fun hl => ?_) fun _ _ => rfl)
  obtain ⟨hcfg, hd, hm⟩ := hc hl
  have hqn : q = none := hq.elim id fun e => e.trans (hm e)
  exact ⟨by simpa using hcfg, by simp [hqn], fun e => by simp [hd] at e, by simp⟩

theorem WaitingGood.eraseP {q : List OutFrame} (h : WaitingGood q) (p : OutFrame → Bool) : WaitingGood (q.eraseP p) :=
  h.sublist List.eraseP_sublist

/-- Taking a waiting frame out keeps the law. -/
theorem OutboundGood.eraseP {q : List OutFrame} (h : OutboundGood q) {p : OutFrame → Bool} (hp : ∀ o, p o = true → o.sending = false) :
    OutboundGood (q.eraseP p) := by
  rcases h.cases with hw | ⟨x, r, rfl, hx, hw, ho⟩
  · exact .of_waitingGood (hw.eraseP p)
  · have hpx : ¬ p x = true := fun e => by rw [hp x e] at hx; cases hx
    rw [List.eraseP_cons_of_neg hpx, outboundGood_cons_sending hx]
    exact ⟨hw.eraseP p, fun ⟨o, hm, hclass⟩ => ho ⟨o, List.mem_of_mem_eraseP hm, hclass⟩⟩

theorem Edits.refresh (h : Edits s t) (hc : s.cfg = some c) : Edits s (t.refresh c) := by
  have h₁ : Edits s (t.setHlc { t.hlc with refreshMs := some 0 }) := h.setHlc (.of_queue rfl rfl rfl rfl id id id)
  exact ((h₁.queueSegmentState.ageView c).refreshChute hc .d0).refreshChute hc .d1

/-! ### One idle millisecond -/

theorem later_isSome (t : Option Nat) : (later t).isSome = t.isSome := by cases t <;> rfl

theorem Edits.sampleBay (h : Edits s t) (d : Div) : Edits s (t.sampleBay d) := by
  unfold State.sampleBay
  split
  · exact h
  · exact h.setBay _ _

theorem Edits.sampleInputs (h : Edits s t) : Edits s t.sampleInputs := by
  unfold State.sampleInputs
  split
  · exact h
  · exact ((h.sampleBay .d0).sampleBay .d1).setBtu (.of_eq rfl rfl rfl rfl rfl rfl rfl rfl rfl)

theorem Edits.advanceTimers (h : Edits s t) : Edits s t.advanceTimers := by
  have h₁ : Edits s (t.setBtu t.advanceTimers.btu) :=
    h.setBtu ⟨rfl, rfl, rfl, rfl, rfl, rfl, rfl, fun h => h, fun h => Or.inl ⟨h, rfl⟩⟩
  have h₂ := h₁.tail (u := { t.setBtu t.advanceTimers.btu with rdu := t.advanceTimers.rdu }) fun _ => .rdu _ _ _
  have h₃ := h₂.tail (u := { t.setBtu t.advanceTimers.btu with rdu := t.advanceTimers.rdu, idt := t.advanceTimers.idt })
    fun _ => .idt _ _ t.idt.pointer (later t.idt.minuteMs) fun h => h
  have h₄ := h₃.setHlc (x := t.advanceTimers.hlc) (.of_queue rfl (later_isSome _) rfl rfl id id id)
  exact h₄.tail fun _ => .cfl _ _ t.advanceTimers.cfl rfl

theorem Edits.idle (s : State) : Edits s s.idle :=
  ((Edits.refl s).advanceTimers.sampleInputs).tail fun _ => .pending _ _ _

/-! ### The commands -/

theorem Edits.takeSegmentState (h : Edits s t) (hc : s.cfg = some c) (sender v : Nat) (sp : SpeedState) (blocked : Bool) :
    Edits s (t.takeSegmentState c sender v sp blocked) := by
  have heard : ∀ u, Edits s u → Edits s (if sender ≠ 0 ∧ sender = c.down then u.hearDownstream c blocked else u) := fun u hu => by
    split
    · exact hu.setDown hc _
    · exact hu
  unfold State.takeSegmentState
  cases sourceOf c sender with
  | none => exact heard _ h
  | some src => exact heard _ (h.mapUpstream src _)

theorem Edits.goInvalid (h : Edits s t) (hl : t.cfl.load = .loading) (r : BadReason) : Edits s (t.goInvalid r) :=
  h.tail fun _ => .cfl _ _ { t.cfl with load := .invalid r, reading := false, blinkPhase := 0, blinkMs := 0 }
    (by simp [State.cfg, hl])

theorem Edits.countSkipped (h : Edits s t) (n : Nat) : Edits s (t.countSkipped n) := by
  unfold State.countSkipped
  dsimp only
  split
  · exact (h.bumpN _ _).raiseEv _
  · exact h.bumpN _ _

theorem readHandover_destined {p : List Byte} {f : Handover} (h : readHandover p = some f) : f.Destined := by
  unfold readHandover at h
  split at h
  · simp only [Option.bind_eq_bind, Option.bind_eq_some_iff] at h
    obtain ⟨i, -, r, -, o, -, hw⟩ := h
    split at hw
    · rename_i hwf
      cases hw
      simp only [Handover.wellFormed, Bool.and_eq_true, beq_iff_eq] at hwf
      have hd := hwf.2
      unfold Handover.Destined
      rw [← bne_iff_ne, hd, Bool.or_eq_true]
    · cases hw
  · cases h

/-- The commands that are not sequences of edits: they change the configuration, or the count E under the records. -/
def plainCommand : Instr → Bool
  | .reset => false
  | .configurationLoadDone _ => false
  | .encoderTick => false
  | _ => true

theorem Reaches.exec {i : Instr} (hi : plainCommand i = true) (h : exec i s = .next t) : Reaches s none t := by
  have hr := Edits.refl s
  cases i with
  | reset | configurationLoadDone | encoderTick => cases hi
  | resetRelease =>
    simp only [Machine.exec, execResetRelease] at h
    split at h <;> cases h
    · exact hr.reaches
    · exact (hr.tail fun _ => .cfl _ _ { s.cfl with resetN := true, reading := true } rfl).reaches
  | alertBlinkTimer =>
    simp only [Machine.exec, execAlertBlinkTimer] at h
    split at h <;> cases h
    · rename_i r hl
      exact (hr.tail fun _ => .cfl _ _ { s.cfl with blinkPhase := nextPhase r s.cfl.blinkPhase, blinkMs := 0 } rfl).reaches
    · exact hr.reaches
    · exact hr.reaches
  | windowClose =>
    simp only [Machine.exec, execWindowClose] at h
    split at h <;> cases h
    · exact hr.reaches
    · exact (hr.windowClose _).reaches
  | eyeRawChange eye b => cases h; exact (hr.eyeRawChange eye b).reaches
  | leadingEdgeAccepted eye =>
    simp only [Machine.exec, execLeadingEdgeAccepted] at h
    split at h <;> cases h
    · exact hr.reaches
    · exact (hr.acceptLeading ‹_› eye).reaches
  | trailingEdgeAccepted eye =>
    simp only [Machine.exec, execTrailingEdgeAccepted] at h
    split at h <;> cases h
    · exact hr.reaches
    · exact (hr.acceptTrailing ‹_› eye).reaches
  | longBagPoint ref =>
    simp only [Machine.exec, execLongBagPoint] at h
    split at h
    · cases h; exact hr.reaches
    · split at h
      · cases h; exact hr.reaches
      · cases h
        split
        · exact ((hr.takePoint _ _).makeLong ‹_› _).reaches
        · exact (hr.takePoint _ _).reaches
  | lateGraceEnd ref =>
    simp only [Machine.exec, execLateGraceEnd] at h
    split at h
    · cases h; exact hr.reaches
    · split at h
      · cases h; exact hr.reaches
      · cases h
        split
        · exact (((hr.takePoint _ _).offer ‹_› _ _).bump _).reaches
        · exact (hr.takePoint _ _).reaches
  | readDecisionPoint ref =>
    simp only [Machine.exec, execReadDecisionPoint] at h
    split at h
    · cases h; exact hr.reaches
    · rename_i c hc
      split at h
      · cases h; exact hr.reaches
      · rename_i r hrec
        have ht := hr.takePoint .readDecision ref
        split at h <;> cases h
        · rename_i hst
          have hfind : s.findRec ref = some r := by
            unfold State.recAt at hrec
            split at hrec
            · cases hrec
            · split at hrec <;> cases hrec
              assumption
          have hm : Edits s ((s.takePoint .readDecision ref).mapRec ref fun q => { q with readStatus := .noRead }) := by
            refine ht.mapRec (fun _ => rfl) (fun _ _ _ _ _ hd => hd) fun _ q hq => ⟨fun _ _ _ _ hp => hp, rfl, fun _ hread => ?_, fun _ hid => hid⟩
            have hq' := State.findRec_mapRec s (f := fun q => { q with awaiting := q.awaiting.erase .readDecision }) (fun _ => rfl) hfind
            have hqq := Option.some.inj (hq'.symm.trans hq)
            rw [← hqq] at hread
            exact absurd (hst.symm.trans hread) (by simp)
          have ho : Edits s (if r.ident.isNone then
              (((s.takePoint .readDecision ref).mapRec ref fun q => { q with readStatus := .noRead }).bump .noReadDecision).offer c ref .noRead
            else ((s.takePoint .readDecision ref).mapRec ref fun q => { q with readStatus := .noRead }).bump .noReadDecision) := by
            split
            · exact (hm.bump _).offer hc _ _
            · exact hm.bump _
          split
          · exact (ho.bump _).reaches
          · exact ho.reaches
        · exact ht.reaches
  | commitPoint d ref =>
    simp only [Machine.exec, execCommitPoint] at h
    split at h
    · cases h; exact hr.reaches
    · split at h <;> cases h
      · split
        · exact ((hr.takePoint _ _).decideGrant ‹_› _ _ _).reaches
        · exact (hr.takePoint _ _).reaches
      · exact hr.reaches
  | overduePoint ref =>
    simp only [Machine.exec, execOverduePoint] at h
    split at h <;> cases h
    · exact hr.reaches
    · exact (hr.overduePoint ‹_› ref).reaches
  | fire d =>
    simp only [Machine.exec, execFire] at h
    split at h
    · cases h; exact hr.reaches
    · split at h
      · split at h <;> cases h
        · exact (((hr.unmark d).engageRoom ‹_› d _ _).markBehind d _ _).reaches
        · exact hr.reaches
      · cases h; exact hr.reaches
  | release d =>
    simp only [Machine.exec, execRelease] at h
    split at h
    · cases h; exact hr.reaches
    · rename_i l hl
      split at h <;> cases h
      · rename_i heng
        refine Edits.reaches (Edits.setDiv hr ?_)
        refine ⟨fun h => h, fun h => h, fun h => h, fun h => h, fun _ _ => by simp [hl], fun _ h => ?_, fun _ h => h⟩
        rw [heng.1] at h
        exact absurd h.2 (by simp)
      · exact hr.reaches
  | recoveryEnd d =>
    simp only [Machine.exec, execRecoveryEnd] at h
    split at h
    · cases h; exact hr.reaches
    · rename_i l hl
      split at h <;> cases h
      · refine Edits.reaches (Edits.setDiv hr ?_)
        exact ⟨fun h => h, fun h => h, fun h => h, fun h => h, fun _ _ => by simp [hl], fun _ h => ⟨h.1, rfl⟩, fun _ h => h⟩
      · exact hr.reaches
  | confirmWindowEnd d =>
    simp only [Machine.exec, execConfirmWindowEnd] at h
    split at h
    · cases h; exact hr.reaches
    · split at h <;> cases h
      · refine Edits.reaches (Edits.setDiv hr ?_)
        exact .of_lists le_rfl (by simp) rfl rfl id
      · exact (hr.endMissed d _).reaches
  | handoverStale =>
    simp only [Machine.exec, execHandoverStale] at h
    split at h
    · cases h; exact hr.reaches
    · split at h <;> cases h
      · refine ((Edits.setOutbound hr (fun hg => hg.eraseP fun o ho => ?_) fun hl => ?_).bump _).raiseEv _ |>.reaches
        · simp only [staleFrame, Bool.and_eq_true, Bool.not_eq_true'] at ho
          exact ho.1
        · exact (List.eraseP_sublist.length_le).trans hl
      · exact hr.reaches
  | scanByte b f x =>
    simp only [Machine.exec, execScanByte] at h
    split at h
    · cases h; exact hr.reaches
    · split at h <;> cases h
      · exact (hr.byteIdle b f).reaches
      · exact (Reaches.refl s).byteAssembling ‹_› _ _ _ x
      · exact (hr.byteDiscarding b f).reaches
  | scanGapTimeout =>
    simp only [Machine.exec, execScanGapTimeout] at h
    split at h <;> cases h
    · exact hr.reaches
    · exact (hr.scanAbandon.setAsm _ _).reaches
    · exact (hr.setAsm _ _).reaches
  | fullSensorChange d b =>
    simp only [Machine.exec, execFullSensorChange] at h
    split at h <;> cases h
    · exact (hr.setFullPin d b).reaches
    · exact (((hr.setFullPin d b).setBay d _).changeAccount ‹_› d (f := fun a => { a with fullSensor := b }) fun _ h => h).reaches
  | closeSwitchChange d b =>
    simp only [Machine.exec, execCloseSwitchChange] at h
    split at h <;> cases h
    · exact (hr.setClosePin d b).reaches
    · exact (((hr.setClosePin d b).setBay d _).changeAccount ‹_› d (f := fun a => { a with closeSwitch := b }) fun _ h => h).reaches
  | chuteClear d =>
    simp only [Machine.exec, execChuteClear] at h
    split at h
    · cases h; exact (hr.raiseClrPin d).reaches
    · split at h <;> cases h
      · exact ((((hr.raiseClrPin d).setBay d _).changeAccount ‹_› d fun _ _ => Nat.zero_le _).bump _).reaches
      · exact (hr.raiseClrPin d).reaches
  | jamClr => cases h; exact hr.jamClr.reaches
  | refreshTimer =>
    simp only [Machine.exec, execRefreshTimer] at h
    split at h <;> cases h
    · exact hr.reaches
    · exact (hr.refresh ‹_›).reaches
  | downstreamSilence =>
    simp only [Machine.exec, execDownstreamSilence] at h
    split at h
    · cases h; exact hr.reaches
    · split at h <;> cases h
      · exact ((hr.raiseEv .downstreamSilent).setDown ‹_› { s.btu.down with timer := none, silent := true }).reaches
      · exact hr.reaches
  | upstreamSilence src =>
    simp only [Machine.exec, execUpstreamSilence] at h
    split at h <;> cases h
    · exact ((hr.mapUpstream src _).raiseEv _).reaches
    · exact hr.reaches
  | minuteTimer =>
    simp only [Machine.exec, execMinuteTimer] at h
    split at h <;> cases h
    · exact hr.reaches
    · exact (hr.ageEntries.tail fun _ => .idt _ _ s.ageEntries.idt.pointer (some 0) fun h => h).reaches
  | segmentState f =>
    simp only [Machine.exec, execSegmentState] at h
    split at h
    · cases h; exact hr.reaches
    · rename_i c hc
      split at h <;> cases h
      · exact (Edits.receive hc fun _ h => h).reaches
      · exact (Edits.receive hc fun u hu => (hu.bump _).takeSegmentState hc _ _ _ _).reaches
  | handover f =>
    simp only [Machine.exec, execHandover] at h
    split at h
    · cases h; exact hr.reaches
    · rename_i c hc
      split at h <;> cases h
      · exact (Edits.receive hc fun _ h => h).reaches
      · exact (Edits.receive hc fun u hu => (hu.bump _).takeHandover hc _ (readHandover_destined ‹_›)).reaches
  | divertDone f =>
    simp only [Machine.exec, execDivertDone] at h
    split at h
    · cases h; exact hr.reaches
    · rename_i c hc
      split at h <;> cases h
      · exact (Edits.receive hc fun _ h => h).reaches
      · exact Reaches.receive hc fun u hu => (hu.bump _).reaches.takeDivertDone hc _
  | identityNotice f =>
    simp only [Machine.exec, execIdentityNotice] at h
    split at h
    · cases h; exact hr.reaches
    · rename_i c hc
      split at h <;> cases h
      · exact (Edits.receive hc fun _ h => h).reaches
      · refine Reaches.receive hc fun u hu => ?_
        split
        · exact (hu.bump _).reaches.takeNotice _ _ _
        · exact (hu.bump _).reaches
  | chuteState f =>
    simp only [Machine.exec, execChuteState] at h
    split at h
    · cases h; exact hr.reaches
    · rename_i c hc
      split at h <;> cases h
      · exact (Edits.receive hc fun _ h => h).reaches
      · exact (Edits.receive hc fun u hu => (hu.bump _).takeChuteState _ _ _).reaches
  | strayNotice f =>
    simp only [Machine.exec, execStrayNotice] at h
    split at h <;> cases h
    · exact hr.reaches
    · exact (Edits.receive ‹_› fun _ h => h).reaches
  | statusQuery f => cases h; exact (Edits.statusQuery s f).reaches
  | statusReply f =>
    simp only [Machine.exec, execStatusReply] at h
    split at h <;> cases h
    · exact hr.reaches
    · exact (Edits.receive ‹_› fun _ h => h).reaches
  | unknownKind code f =>
    simp only [Machine.exec, execUnknownKind] at h
    split at h
    · cases h; exact hr.reaches
    · rename_i c hc
      have hrec : Edits s (s.receive c f true id) := Edits.receive hc fun _ h => h
      have hcount : Edits s (s.receive c f true id).countUnknown := (hrec.bump _).raiseEv _
      split at h <;> cases h
      · exact hcount.reaches
      · exact hcount.reaches
      · exact hrec.reaches
      · exact hrec.reaches
      · exact hrec.reaches
  | frameStart =>
    simp only [Machine.exec, execFrameStart] at h
    split at h
    · cases h; exact hr.reaches
    · split at h <;> cases h
      · rename_i hw
        exact (hr.startFrame ‹_› hw.2).reaches
      · exact hr.reaches
  | attemptEnd read =>
    simp only [Machine.exec, execAttemptEnd] at h
    split at h
    · cases h; exact hr.reaches
    · split at h
      · cases h; exact hr.reaches
      · split at h <;> cases h
        · exact (hr.endAttempt ‹_› ‹_› _).reaches
        · exact hr.reaches
  | quietTimer =>
    simp only [Machine.exec, execQuietTimer] at h
    split at h <;> cases h
    · rename_i hq
      refine (Edits.queueSegmentState (hr.becomeActive (Or.inl rfl) (Nat.zero_le _) fun hl => ?_)).reaches
      obtain ⟨h1, -, h3, -⟩ := hl
      rw [hq] at h1 h3
      exact ⟨fun e => by simpa using h1.2 e, by simpa using h3, fun e => e.symm⟩
    · exact hr.reaches
  | lineFault =>
    simp only [Machine.exec, execLineFault] at h
    split at h <;> cases h
    · rename_i hacts
      refine (Edits.bump (Edits.setHlc hr ?_) _).reaches
      refine .of_line rfl ?_ (fun hl => ?_) fun _ hn => (hn rfl).elim
      · dsimp only
        split <;> omega
      · have hne : s.hlc.line ≠ .offline := fun e => by rw [e] at hacts; cases hacts
        have hcfg : s.cfg ≠ none := fun e => hne (hl.1.2 e)
        exact ⟨by simpa using hcfg, by simp, fun _ => Or.inr rfl, by simp⟩
    · exact hr.reaches
  | lineFaultExit =>
    simp only [Machine.exec, execLineFaultExit] at h
    split at h
    · rename_i hlf
      split at h <;> cases h
      · rename_i hd
        refine Edits.reaches (Edits.setHlc hr ?_)
        refine .of_line rfl le_rfl (fun hl => ?_) fun hob hn => ?_
        · obtain ⟨h1, h2, -, -⟩ := hl
          rw [hlf] at h1 h2
          exact ⟨by simpa using h1, by simpa using h2, fun _ => Or.inl rfl, fun _ => hd⟩
        · have := hob hn
          rw [hlf] at this
          cases this
      · rename_i hd
        refine (Edits.queueSegmentState (hr.becomeActive (q := s.hlc.quietMs) (n := s.hlc.tally) (Or.inr rfl) le_rfl fun hl => ?_)).reaches
        obtain ⟨h1, h2, -, -⟩ := hl
        rw [hlf] at h1 h2
        exact ⟨fun e => by simpa using h1.2 e, by simpa using hd, fun _ => by simpa using h2⟩
    · cases h; exact hr.reaches
  | rxMalformed bits =>
    simp only [Machine.exec, execRxMalformed] at h
    split at h
    · split at h <;> cases h
      · exact hr.reaches
      · exact (hr.rxFault _).reaches
      · exact (hr.rxFault _).reaches
    · cases h; exact hr.reaches

end

end Sys2Proof.Machine
end

section
/-! SUPPORT. The four ways in which a step leads from a state to the next, and the start of the station. -/

namespace Sys2Proof.Machine

open Sys2Proof

section
variable {s t : State} {c : StationConfig}

/-- The station counts a tick, its overspeed mark aside (R1, R4). -/
def State.tick (s : State) : State := s.setBtu { s.btu with e := s.btu.e + 1, winCount := winTick s.btu.winCount }

/-- The station takes a configuration and its blocks start, before the accounts are made (R178). -/
def State.begun (c : StationConfig) (s : State) : State :=
  (State.startBtu c { s with cfl := { s.cfl with load := .valid c, reading := false } }).startTimers

theorem State.cfg_begun (c : StationConfig) (s : State) : (s.begun c).cfg = some c := rfl

/-- A step is a sequence of edits, a tick, a start, or a reset. -/
inductive Move (s : State) : State → Prop
  | edits {t : State} (h : Reaches s none t) : Move s t
  | tick {t : State} (c : StationConfig) (hc : s.cfg = some c) (h : Edits s.tick t) : Move s t
  | start {u t : State} (c : StationConfig) (hn : s.cfg = none) (hmax : 1 ≤ c.maxPasses) (h : Edits (s.begun c) u)
      (h' : Edits (u.evalPermit c) t) : Move s t
  | reset (p : Pins) (l : List Instr) : Move s { State.reset with pins := p, pending := l }

theorem configGood_of_judged {img : List Byte} (h : (judgeImage img).1 = .ok c) : configGood c = true := by
  unfold judgeImage at h
  split at h
  · cases h
  · dsimp only at h
    split at h
    · cases h
    · dsimp only at h
      split at h
      · cases h; assumption
      · cases h

theorem maxPasses_of_configGood (h : configGood c = true) : 1 ≤ c.maxPasses := by
  simp only [configGood, routeGood, Bool.and_eq_true, decide_eq_true_eq] at h
  omega

/-- Other commands that wait make no difference to the move. -/
theorem Move.of_exec {i : Instr} (h : exec i s = .next t) : Move s t := by
  by_cases hp : plainCommand i = true
  · exact .edits (Reaches.exec hp h)
  cases i with
  | reset => cases h; exact .reset _ _
  | encoderTick =>
    simp only [Machine.exec, execEncoderTick] at h
    split at h <;> cases h
    · exact .edits (Reaches.refl s)
    · rename_i c hc
      refine .tick c hc ?_
      split
      · exact (Edits.refl s.tick).raiseEv _
      · exact .refl s.tick
  | configurationLoadDone img =>
    simp only [Machine.exec, execConfigurationLoadDone] at h
    split at h
    · rename_i hload
      have hn : s.cfg = none := by simp [State.cfg, hload.2]
      split at h <;> cases h
      · rename_i c hok
        have h₁ := Edits.refl (s.begun c)
        refine .start c hn (maxPasses_of_configGood (configGood_of_judged hok))
          ((h₁.makeAccount rfl .d0).makeAccount rfl .d1) ?_
        exact ((Edits.refl _).queueSegmentState).countSkipped _
      · exact .edits (((Edits.refl s).goInvalid hload.2 _).countSkipped _).reaches
    · cases h; exact .edits (Reaches.refl s)
  | _ => exact absurd rfl hp

theorem Move.of_step (h : step s = .next t) : Move s t := by
  unfold step at h
  split at h
  · cases h
    exact .edits (Edits.idle s).reaches
  · rename_i i rest _
    have hrest : Edits s { s with pending := rest } := (Edits.refl s).tail fun _ => .pending _ _ _
    cases Move.of_exec h with
    | edits h' => exact .edits ((hrest none).trans h')
    | tick c hc h' =>
      have : Edits s.tick (State.tick { s with pending := rest }) := (Edits.refl s.tick).tail fun _ => .pending _ _ rest
      exact .tick c hc (this.trans h')
    | start c hn hmax h' h'' =>
      have : Edits (s.begun c) (State.begun c { s with pending := rest }) := (Edits.refl (s.begun c)).tail fun _ => .pending _ _ rest
      exact .start c hn hmax (this.trans h') h''
    | reset p l => exact .reset p l

end

end Sys2Proof.Machine
end

section
/-! OBLIGATION PROOF. The laws hold after reset (O60). -/

namespace Sys2Proof.Machine

open Sys2Proof

theorem Dvs.get_reset (d : Div) : Dvs.reset.get d = Diverter.reset := by cases d <;> rfl

theorem entryAt_replicate (n i : Nat) : entryAt (List.replicate n none) i = none := by
  rw [entryAt_eq, List.getElem?_replicate]
  split <;> rfl

theorem sizeLaw_reset : SizeLaw State.reset := by
  refine ⟨by simp [State.reset, Stu.reset, numCtrs], by simp [State.reset, Stu.reset, numEvs], rfl, ?_, ?_, Nat.zero_le _,
    Nat.zero_le _, Nat.zero_le _, Nat.zero_le _, by decide, by decide, fun d => ?_⟩
  · simp [State.reset, Idt.reset]
  · simp [State.reset, Rrv.reset]
  · rw [show State.reset.dvs.get d = Diverter.reset from Dvs.get_reset d]
    exact ⟨Nat.zero_le _, Nat.zero_le _, fun a ha => by cases ha⟩

theorem flowBalance_reset : FlowBalance State.reset := rfl

theorem slotLaw_reset : SlotLaw State.reset := ⟨List.nodup_nil, by simp [State.reset, Btu.reset], List.nodup_nil⟩

theorem orderLaw_reset : OrderLaw State.reset := ⟨List.Pairwise.nil, fun h => by cases h⟩

theorem destinationLaw_reset : DestinationLaw State.reset :=
  ⟨by simp [State.reset, Btu.reset], fun _ => rfl, fun c hc => by cases hc⟩

theorem passesLaw_reset : PassesLaw State.reset := fun c hc => by cases hc

theorem flagLaw_reset : FlagLaw State.reset := fun c hc => by cases hc

theorem tagLaw_reset : TagLaw State.reset := fun i j x y hx _ => by
  rw [show State.reset.idt.entries = List.replicate 128 none from rfl, entryAt_replicate] at hx
  cases hx

theorem referenceLaw_reset : ReferenceLaw State.reset := by
  refine ⟨fun i hi => ?_, List.Pairwise.nil, by simp [State.reset, Btu.reset]⟩
  rw [show State.reset.idt.entries = List.replicate 128 none from rfl, inState, entryAt_replicate] at hi
  cases hi

theorem lineLaw_reset : LineLaw State.reset := by
  refine ⟨⟨fun _ => rfl, fun _ => rfl⟩, ⟨fun h => ?_, fun h => ?_⟩, fun h => ?_, fun h => ?_⟩ <;> cases h

theorem objectionLaw_reset : ObjectionLaw State.reset := fun h => absurd rfl h

theorem divertLaw_reset : DivertLaw State.reset := by
  refine (divertLaw_iff _).2 fun d => ?_
  rw [show State.reset.dvs.get d = Diverter.reset from Dvs.get_reset d]
  exact ⟨fun a ha => by (cases ha), fun h => absurd rfl h, fun _ => ⟨rfl, rfl⟩⟩

theorem startLaw_reset : StartLaw State.reset := fun _ => ⟨rfl, fun d => by
  rw [show State.reset.dvs.get d = Diverter.reset from Dvs.get_reset d]; rfl⟩

theorem outboundLaw_reset : OutboundLaw State.reset :=
  ⟨by simp [State.reset, Hlc.reset], List.Pairwise.nil, by simp [State.reset, Hlc.reset]⟩

/-- Settles O60: each law by its own lemma above. -/
theorem lawsHoldAtReset : Obligations.LawsHoldAtReset :=
  ⟨sizeLaw_reset, flowBalance_reset, slotLaw_reset, destinationLaw_reset, tagLaw_reset, lineLaw_reset, divertLaw_reset,
    outboundLaw_reset, orderLaw_reset, objectionLaw_reset, startLaw_reset, referenceLaw_reset, passesLaw_reset, flagLaw_reset⟩

end Sys2Proof.Machine
end

section
/-! OBLIGATION PROOF. What every step keeps (O52 to O59): each law is kept by the edits, by a tick, by the start and by a reset. -/

namespace Sys2Proof.Machine

open Sys2Proof

section
variable {s t : State} {c : StationConfig}

theorem Edits.evalPermit (h : Edits s t) (hc : s.cfg = some c) : Edits s (t.evalPermit c) := h.setDown hc t.btu.down

/-- A law that the edits keep, and that holds after a tick, a start and a reset, holds after a step. -/
theorem law_of_step {Q : Option Claim × State → Prop} (hQ : ∀ a b, Edit a b → Q a → Q b) (h : step s = .next t) (hs : Q (none, s))
    (htick : Q (none, s.tick)) (hstart : ∀ c, s.cfg = none → 1 ≤ c.maxPasses → Q (none, s.begun c))
    (hreset : ∀ p l, Q (none, { State.reset with pins := p, pending := l })) : Q (none, t) := by
  cases Move.of_step h with
  | edits h => exact Edits.keeps hQ h hs
  | tick c _ h => exact Edits.keeps hQ (h none) htick
  | start c hn hmax h h' =>
    have hc := h.cfg.trans (State.cfg_begun c s)
    exact Edits.keeps hQ (h' none) (Edits.keeps hQ ((h.evalPermit (State.cfg_begun c s)) none) (hstart c hn hmax))
  | reset p l => exact hreset p l

/-! ### The laws at the start of the station -/

theorem startFilter_st_ne_blocking (b : Bool) : (startFilter b).st ≠ .blocking := by cases b <;> simp [startFilter, Filter.reset]

theorem orderLaw_begun (h : OrderLaw s) : OrderLaw (s.begun c) := ⟨h.1, fun e => absurd e (startFilter_st_ne_blocking _)⟩

theorem destinationLaw_begun (h : DestinationLaw s) (hn : s.cfg = none) : DestinationLaw (s.begun c) := by
  obtain ⟨hx, hq, -⟩ := h
  have hq : (s.begun c).btu.queue = [] := hq hn
  exact ⟨hx, fun _ => hq, fun _ _ r hr => by rw [hq] at hr; cases hr⟩

theorem passesLaw_begun (h : DestinationLaw s) (hn : s.cfg = none) (hmax : 1 ≤ c.maxPasses) : PassesLaw (s.begun c) := by
  intro k hk
  cases (State.cfg_begun c s).symm.trans hk
  exact ⟨hmax, fun r hr => by rw [show (s.begun c).btu.queue = [] from h.2.1 hn] at hr; cases hr⟩

/-- Before the start the line is OFFLINE, without a timer and without a duplicate. -/
theorem lineLaw_begun (h : LineLaw s) (hn : s.cfg = none) : LineLaw (s.begun c) := by
  obtain ⟨h1, h2, h3, -⟩ := h
  rw [h1.2 hn] at h2 h3
  refine ⟨⟨fun e => by (cases e), fun e => by (cases e)⟩, ⟨fun e => by (cases e), fun e => ?_⟩, fun e => ?_, fun e => by (cases e)⟩
  · have := h2.2 e
    cases this
  · rcases h3 e with e' | e' <;> cases e'

theorem divertLaw_begun (h : DivertLaw s) : DivertLaw (s.begun c) :=
  (divertLaw_iff _).2 fun d => by
    obtain ⟨ha, he, -⟩ := (divertLaw_iff s).1 h d
    exact ⟨ha, he, fun e => by cases e⟩

/-! ### The order of the queue at a tick (R1, R15) -/

theorem fwd_add_one {a e : Count} (h : fwd a e + 1 < 2 ^ 24) : fwd a (e + 1) = fwd a e + 1 := by
  unfold fwd at *
  bv_omega

theorem orderLaw_tick (h : OrderLaw s) (hr : ∀ r ∈ s.btu.queue, s.position r + 1 < 2 ^ 24) : OrderLaw s.tick := by
  have hp : ∀ r ∈ s.btu.queue, s.tick.position r = s.position r + 1 := fun r hm => fwd_add_one (hr r hm)
  refine ⟨?_, fun hst r hm => ?_⟩
  · have := List.pairwise_map.1 h.1
    exact List.pairwise_map.2 ((this.imp_of_mem fun {a b} ha hb hab => by rw [hp a ha, hp b hb]; exact Nat.succ_lt_succ hab))
  · have hle := h.2 hst r hm
    have hlt := hr r hm
    rw [hp r hm]
    show fwd s.btu.fEntry.raw (s.btu.e + 1) ≤ _
    rw [fwd_add_one (by omega)]
    omega

end

/-! ### The obligations -/

/-- Settles O52: every edit keeps the sizes, and the other moves change none. -/
theorem everyStepKeepsSizes : Obligations.EveryStepKeepsSizes := fun _ _ hs h =>
  law_of_step (Q := fun a => SizeLaw a.2) (fun _ _ => Edit.sizeLaw) h hs hs (fun _ _ _ => hs) fun _ _ => sizeLaw_reset

/-- Settles O53: the flow counters and the queue move together in every edit, and so do the blocked flag and its causes; at the start the
flag is evaluated with the run permit. -/
theorem everyStepKeepsFlowBalance : Obligations.EveryStepKeepsFlowBalance := by
  refine fun s t h => ⟨fun hs => ?_, fun hs => ?_⟩
  · exact law_of_step (Q := fun a => FlowBalance a.2) (fun _ _ => Edit.flowBalance) h hs hs (fun _ _ _ => hs) fun _ _ =>
      flowBalance_reset
  · have keeps : ∀ {u}, Relation.ReflTransGen Edit (none, u) (none, t) → FlagLaw u → FlagLaw t := fun h =>
      Edits.keeps (P := fun a => FlagLaw a.2) (fun _ _ => Edit.flagLaw) h
    cases Move.of_step h with
    | edits h => exact keeps h hs
    | tick c _ h => exact keeps (h none) hs
    | start c _ _ h h' => exact keeps (h' none) (flagLaw_evalBlocked (h.cfg.trans (State.cfg_begun c s)))
    | reset p l => exact flagLaw_reset

/-- Settles O54: an arrival joins behind every record, since it waited no longer than any; a tick moves all alike. -/
theorem everyStepKeepsSlotLaw : Obligations.EveryStepKeepsSlotLaw := by
  refine fun s t h => ⟨fun hs => ?_, fun hs hr => ?_⟩
  · exact law_of_step (Q := fun a => SlotLaw a.2) (fun _ _ => Edit.slotLaw) h hs hs (fun _ _ _ => hs) fun _ _ => slotLaw_reset
  · exact law_of_step (Q := fun a => OrderLaw a.2) (fun _ _ => Edit.orderLaw) h hs (orderLaw_tick hs hr)
      (fun _ _ _ => orderLaw_begun hs) fun _ _ => orderLaw_reset

/-- Settles O55: the passes law is kept together with the slots and the destinations, on which its edits rest. -/
theorem everyStepKeepsDestinationLaw : Obligations.EveryStepKeepsDestinationLaw := by
  refine fun s t h => ⟨fun hs => ?_, fun hsl hd hs => ?_⟩
  · exact law_of_step (Q := fun a => DestinationLaw a.2) (fun _ _ => Edit.destinationLaw) h hs hs
      (fun _ hn _ => destinationLaw_begun hs hn) fun _ _ => destinationLaw_reset
  · have keeps : ∀ a b, Edit a b → SlotLaw a.2 ∧ DestinationLaw a.2 ∧ PassesLaw a.2 → SlotLaw b.2 ∧ DestinationLaw b.2 ∧ PassesLaw b.2 :=
      fun a b h ⟨h1, h2, h3⟩ => ⟨h.slotLaw h1, h.destinationLaw h2, h.passesLaw h1 h2 h3⟩
    exact (law_of_step keeps h ⟨hsl, hd, hs⟩ ⟨hsl, hd, hs⟩ (fun _ hn hmax => ⟨hsl, destinationLaw_begun hd hn, passesLaw_begun hd hn hmax⟩)
      fun _ _ => ⟨slotLaw_reset, destinationLaw_reset, passesLaw_reset⟩).2.2

/-- Settles O56: the tags with the claimed entry's own, the references with the sizes and the slots. -/
theorem everyStepKeepsTagLaw : Obligations.EveryStepKeepsTagLaw := by
  refine fun s t h => ⟨fun hs => ?_, fun hsize hsl hs => ?_⟩
  · exact (law_of_step (Q := TagInv) (fun _ _ => Edit.tagInv) h ⟨hs, by simp⟩ ⟨hs, by simp⟩ (fun _ _ _ => ⟨hs, by simp⟩)
      fun _ _ => ⟨tagLaw_reset, by simp⟩).1
  · have keeps : ∀ a b, Edit a b → SizeLaw a.2 ∧ SlotLaw a.2 ∧ RefInv a → SizeLaw b.2 ∧ SlotLaw b.2 ∧ RefInv b :=
      fun a b h ⟨h1, h2, h3⟩ => ⟨h.sizeLaw h1, h.slotLaw h2, h.refInv h1 h2 h3⟩
    have hr := (referenceLaw_iff s).1 hs
    exact (referenceLaw_iff t).2 (law_of_step keeps h ⟨hsize, hsl, hr⟩ ⟨hsize, hsl, hr⟩ (fun _ _ _ => ⟨hsize, hsl, hr⟩)
      fun _ _ => ⟨sizeLaw_reset, slotLaw_reset, (referenceLaw_iff _).1 referenceLaw_reset⟩).2.2

/-- Settles O57: the start leads from OFFLINE to ACTIVE, where an objection may stand. -/
theorem everyStepKeepsLineLaw : Obligations.EveryStepKeepsLineLaw := by
  refine fun s t h => ⟨fun hs => ?_, fun hs => ?_⟩
  · exact law_of_step (Q := fun a => LineLaw a.2) (fun _ _ => Edit.lineLaw) h hs hs (fun _ hn _ => lineLaw_begun hs hn)
      fun _ _ => lineLaw_reset
  · exact law_of_step (Q := fun a => ObjectionLaw a.2) (fun _ _ => Edit.objectionLaw) h hs hs (fun _ _ _ _ => rfl)
      fun _ _ => objectionLaw_reset

/-- Settles O58: diverters take bags and accounts only at a station with a configuration. -/
theorem everyStepKeepsDivertLaw : Obligations.EveryStepKeepsDivertLaw := by
  refine fun s t h => ⟨fun hs => ?_, fun hs => ?_⟩
  · exact law_of_step (Q := fun a => DivertLaw a.2) (fun _ _ => Edit.divertLaw) h hs hs (fun _ _ _ => divertLaw_begun hs)
      fun _ _ => divertLaw_reset
  · exact law_of_step (Q := fun a => StartLaw a.2) (fun _ _ => Edit.startLaw) h hs hs (fun c _ _ e => by cases e)
      fun _ _ => startLaw_reset

/-- Settles O59: frames join, wait again and leave at their places, whatever moves them. -/
theorem everyStepKeepsOutboundLaw : Obligations.EveryStepKeepsOutboundLaw := fun _ _ hs h =>
  law_of_step (Q := fun a => OutboundLaw a.2) (fun _ _ => Edit.outboundLaw) h hs hs (fun _ _ _ => hs) fun _ _ => outboundLaw_reset

end Sys2Proof.Machine
end

section
/-! SUPPORT. The counters and event bits under the updates that touch neither. -/

namespace Sys2Proof.Machine

open Sys2Proof

theorem SizeLaw.counters {s : State} (h : SizeLaw s) : s.stu.counters.length = 117 := h.1

theorem SizeLaw.events {s : State} (h : SizeLaw s) : s.stu.events.length = 33 := h.2.1

/-- The counters and event bits of two states agree. -/
@[simp] abbrev SameTallies (s t : State) : Prop := (∀ k, t.ctr k = s.ctr k) ∧ ∀ e, t.ev e = s.ev e

theorem sameTallies_of_stu {s t : State} (h : t.stu = s.stu) : SameTallies s t := ⟨State.ctr_congr h, State.ev_congr h⟩

@[simp] theorem State.setOutbound_tallies (s : State) (q : List OutFrame) : SameTallies s (s.setOutbound q) := sameTallies_of_stu rfl
@[simp] theorem State.setBtu_tallies (s : State) (b : Btu) : SameTallies s (s.setBtu b) := sameTallies_of_stu rfl
@[simp] theorem State.setQueue_tallies (s : State) (q : List SegRec) : SameTallies s (s.setQueue q) := sameTallies_of_stu rfl
@[simp] theorem State.setDiv_tallies (s : State) (d : Div) (x : Diverter) : SameTallies s (s.setDiv d x) := sameTallies_of_stu rfl
@[simp] theorem State.setEntries_tallies (s : State) (es : List (Option IdtEntry)) : SameTallies s (s.setEntries es) := sameTallies_of_stu rfl
@[simp] theorem State.setView_tallies (s : State) (v : List ViewEntry) : SameTallies s (s.setView v) := sameTallies_of_stu rfl
@[simp] theorem State.setHlc_tallies (s : State) (h : Hlc) : SameTallies s (s.setHlc h) := sameTallies_of_stu rfl
@[simp] theorem State.setObjection_tallies (s : State) (o : Objection) : SameTallies s (s.setObjection o) := sameTallies_of_stu rfl
@[simp] theorem State.setAsm_tallies (s : State) (a : Assembler) (g : Option Nat) : SameTallies s (s.setAsm a g) := sameTallies_of_stu rfl
@[simp] theorem State.setAccount_tallies (s : State) (d : Div) (a : Account) : SameTallies s (s.setAccount d a) := sameTallies_of_stu rfl
@[simp] theorem State.setBay_tallies (s : State) (d : Div) (b : Bay) : SameTallies s (s.setBay d b) := sameTallies_of_stu rfl
@[simp] theorem State.setFilter_tallies (s : State) (y : Eye) (f : Filter) : SameTallies s (s.setFilter y f) := sameTallies_of_stu rfl
@[simp] theorem State.writeView_tallies (s : State) (n : Nat) (e : ViewEntry) : SameTallies s (s.writeView n e) := sameTallies_of_stu rfl
@[simp] theorem State.writeOwnView_tallies (s : State) (c : StationConfig) (a : Account) : SameTallies s (s.writeOwnView c a) := sameTallies_of_stu rfl
@[simp] theorem State.modifyEntry_tallies (s : State) (i : Nat) (f : IdtEntry → IdtEntry) : SameTallies s (s.modifyEntry i f) := sameTallies_of_stu rfl
@[simp] theorem State.writeEntry_tallies (s : State) (i : Nat) (e : IdtEntry) : SameTallies s (s.writeEntry i e) := sameTallies_of_stu rfl
@[simp] theorem State.mapRec_tallies (s : State) (r : RecRef) (f : SegRec → SegRec) : SameTallies s (s.mapRec r f) := sameTallies_of_stu rfl
@[simp] theorem State.takePoint_tallies (s : State) (p : Point) (r : RecRef) : SameTallies s (s.takePoint p r) := sameTallies_of_stu rfl
@[simp] theorem State.mapUpstream_tallies (s : State) (src : Source) (f : Upstream → Upstream) : SameTallies s (s.mapUpstream src f) := sameTallies_of_stu rfl
@[simp] theorem State.setEyePin_tallies (s : State) (y : Eye) (b : Bool) : SameTallies s (s.setEyePin y b) := sameTallies_of_stu rfl
@[simp] theorem State.setFullPin_tallies (s : State) (d : Div) (b : Bool) : SameTallies s (s.setFullPin d b) := sameTallies_of_stu (by simp)
@[simp] theorem State.setClosePin_tallies (s : State) (d : Div) (b : Bool) : SameTallies s (s.setClosePin d b) := sameTallies_of_stu (by simp)
@[simp] theorem State.raiseClrPin_tallies (s : State) (d : Div) : SameTallies s (s.raiseClrPin d) := sameTallies_of_stu (by simp)
@[simp] theorem State.setGapRef_tallies (s : State) (n : Count) : SameTallies s (s.setGapRef n) := sameTallies_of_stu rfl

end Sys2Proof.Machine
end

section
/-! OBLIGATION PROOF. A step, reset and release, the blink pattern, the encoder and the ends of an engagement (O1, O4, O8, O9, O26). -/

namespace Sys2Proof.Machine

open Sys2Proof

/-- Settles O1: a step on a queue that is not empty is its second equation. -/
theorem stepRunsFrontCommand : Obligations.StepRunsFrontCommand := fun _ _ _ => rfl

/-! ### Reset (R174) -/

theorem ctr_reset (k : Ctr) : State.reset.ctr k = 0 := by
  have hk : k.ctorIdx < numCtrs := Ctr.idx_lt k
  simp [State.ctr, State.reset, Stu.reset, hk]

theorem ev_reset (e : Ev) : State.reset.ev e = false := by
  have he : e.ctorIdx < numEvs := Ev.idx_lt e
  simp [State.ev, State.reset, Stu.reset, he]

/-- Settles O4: RESET takes the power-on values, RESET_RELEASE raises RESET_N and begins the read. -/
theorem resetAndReleaseBeginTheLoad : Obligations.ResetAndReleaseBeginTheLoad := by
  refine fun s => ⟨⟨_, rfl, rfl, rfl, rfl, rfl, rfl, rfl, rfl, ?_⟩, fun h => ⟨_, ?_, rfl, rfl, rfl⟩, fun h => ⟨s, ?_, rfl⟩⟩
  · refine ⟨rfl, rfl, rfl, rfl, rfl, rfl, rfl, rfl, rfl, ?_, rfl, rfl, rfl, rfl, rfl, rfl, rfl, rfl, rfl, rfl, rfl, rfl, rfl, rfl, rfl, ?_,
      rfl, rfl, rfl, rfl, rfl, rfl, rfl, ctr_reset, ev_reset, rfl⟩
    · rintro (_ | _ | _ | _) <;> rfl
    · rintro (_ | _) <;> exact ⟨rfl, rfl, rfl, rfl, rfl, rfl⟩
  · simp [exec, execResetRelease, h]
  · simp [exec, execResetRelease, h]

/-! ### The blink pattern (R178) -/

/-- The next phase, counted round the pattern. -/
theorem nextPhase_eq {r : BadReason} {n : Nat} (h : n ≤ 2 * r.code) : nextPhase r n = (n + 1) % (2 * r.code + 1) := by
  unfold nextPhase
  split
  · rw [Nat.mod_eq_of_lt (by omega)]
  · rw [show n = 2 * r.code by omega, Nat.mod_self]

/-- Settles O8: the output, the period and the next phase of each phase. -/
theorem blinkPatternShowsReasonCode : Obligations.BlinkPatternShowsReasonCode := by
  intro r s hload hphase
  refine ⟨?_, ?_, ⟨_, ?_, rfl⟩⟩
  · simp [State.alert, hload, blinkOn, Bool.beq_eq_decide_eq]
  · unfold blinkPeriod
    split <;> split <;> omega
  · simp only [exec, execAlertBlinkTimer, hload, nextPhase_eq hphase]

/-! ### The encoder (R1, R4) -/

/-- Settles O9: a tick of a configured station, with its overspeed mark. -/
theorem encoderTickCountsOne : Obligations.EncoderTickCountsOne := by
  refine fun s hsize => ⟨fun hn => ⟨s, ?_, rfl⟩, fun c hc => ?_⟩
  · simp only [exec, execEncoderTick, hn]
  have hc : s.cfg = some c := hc
  simp only [exec, execEncoderTick, hc]
  refine ⟨_, rfl, ?_⟩
  by_cases hw : s.btu.winCount = 255
  · simp only [hw, if_true]
    refine ⟨rfl, fun k => by simp, fun e => ?_, by simp [OnlyParts]⟩
    rw [State.raiseEv_ev (by exact hsize.events)]
    simp
  · simp only [hw, if_false]
    exact ⟨rfl, fun k => by simp, fun e => by simp, by simp [OnlyParts]⟩

/-! ### The ends of an engagement (R121) -/

/-- Settles O26: RELEASE and RECOVERY_END at their counts. -/
theorem releaseAndRecoveryEndTheEngagement : Obligations.ReleaseAndRecoveryEndTheEngagement := by
  refine fun d l s hl => ⟨fun heng hdue => ?_, fun heng hdue => ?_⟩
  · refine ⟨s.setDiv d { s.dvs.get d with eng := if l.freeFrom = l.release then .idle else .recovering }, ?_, ?_, rfl, by simp [OnlyParts]⟩
    · rw [exec, execRelease, hl]
      exact if_pos ⟨heng, decide_eq_true hdue⟩
    · simp only [State.divOut, State.setDiv_dvs, Dvs.get_put_same]
      split <;> rfl
  · refine ⟨s.setDiv d { s.dvs.get d with eng := .idle }, ?_, rfl, by simp [OnlyParts]⟩
    rw [exec, execRecoveryEnd, hl]
    exact if_pos ⟨heng, decide_eq_true hdue⟩

end Sys2Proof.Machine
end

section
/-! OBLIGATION PROOF. Every command answers a next state and leaves the waiting commands (O2). -/

namespace Sys2Proof.Machine

open Sys2Proof

/-- The outcome is a next state with the commands that waited. -/
def Answers (s : State) (o : Host.Outcome State Fault Refusal) : Prop := ∃ t, o = .next t ∧ t.pending = s.pending

@[simp] theorem answers_next (s t : State) : Answers s (.next t) ↔ t.pending = s.pending :=
  ⟨fun ⟨_, h, hp⟩ => by cases h; exact hp, fun h => ⟨t, rfl, h⟩⟩

/-- A received frame leaves the waiting commands as the block that takes it does. -/
theorem State.receive_pending {take : State → State} (h : ∀ t, (take t).pending = t.pending) (s : State) (c : StationConfig) (f : RxFrame)
    (formed : Bool) : (s.receive c f formed take).pending = s.pending := by
  unfold State.receive
  split <;> simp [h]

/-- Settles O2: each arm of the dispatch ends in a next state in every branch, and the operations of each branch leave the queue. -/
theorem everyCommandAnswersNext : Obligations.EveryCommandAnswersNext := by
  intro i s
  change Answers s (exec i s)
  cases i with
  | reset => simp [exec, execReset]
  | resetRelease => simp only [exec, execResetRelease]; split <;> simp
  | configurationLoadDone img => simp only [exec, execConfigurationLoadDone]; (repeat' split) <;> simp [State.goInvalid, State.goValid]
  | alertBlinkTimer => simp only [exec, execAlertBlinkTimer]; split <;> simp
  | encoderTick => simp only [exec, execEncoderTick]; (repeat' split) <;> simp
  | windowClose => simp only [exec, execWindowClose]; split <;> simp
  | eyeRawChange eye b => simp [exec, execEyeRawChange]
  | leadingEdgeAccepted eye => simp only [exec, execLeadingEdgeAccepted]; split <;> simp
  | trailingEdgeAccepted eye => simp only [exec, execTrailingEdgeAccepted]; split <;> simp
  | longBagPoint r => simp only [exec, execLongBagPoint]; (repeat' split) <;> simp
  | lateGraceEnd r => simp only [exec, execLateGraceEnd]; (repeat' split) <;> simp
  | readDecisionPoint r => simp only [exec, execReadDecisionPoint]; (repeat' split) <;> simp
  | commitPoint d r => simp only [exec, execCommitPoint]; (repeat' split) <;> simp
  | overduePoint r => simp only [exec, execOverduePoint]; split <;> simp
  | fire d => simp only [exec, execFire]; (repeat' split) <;> simp
  | release d => simp only [exec, execRelease]; (repeat' split) <;> simp
  | recoveryEnd d => simp only [exec, execRecoveryEnd]; (repeat' split) <;> simp
  | confirmWindowEnd d => simp only [exec, execConfirmWindowEnd]; (repeat' split) <;> simp
  | handoverStale => simp only [exec, execHandoverStale]; (repeat' split) <;> simp
  | scanByte b f x => simp only [exec, execScanByte]; (repeat' split) <;> simp
  | scanGapTimeout => simp only [exec, execScanGapTimeout]; split <;> simp
  | fullSensorChange d b => simp only [exec, execFullSensorChange]; split <;> simp
  | closeSwitchChange d b => simp only [exec, execCloseSwitchChange]; split <;> simp
  | chuteClear d => simp only [exec, execChuteClear]; (repeat' split) <;> simp
  | jamClr => simp [exec, execJamClr]
  | refreshTimer => simp only [exec, execRefreshTimer]; split <;> simp
  | downstreamSilence => simp only [exec, execDownstreamSilence]; (repeat' split) <;> simp
  | upstreamSilence src => simp only [exec, execUpstreamSilence]; split <;> simp
  | minuteTimer => simp only [exec, execMinuteTimer]; split <;> simp
  | segmentState f => simp only [exec, execSegmentState]; (repeat' split) <;> simp [State.receive_pending]
  | handover f => simp only [exec, execHandover]; (repeat' split) <;> simp [State.receive_pending]
  | divertDone f => simp only [exec, execDivertDone]; (repeat' split) <;> simp [State.receive_pending]
  | identityNotice f =>
    simp only [exec, execIdentityNotice]
    split
    · simp
    split
    · simp [State.receive_pending]
    · exact (answers_next _ _).2 (State.receive_pending (fun t => by split <;> simp) _ _ _ _)
  | chuteState f => simp only [exec, execChuteState]; (repeat' split) <;> simp [State.receive_pending]
  | strayNotice f => simp only [exec, execStrayNotice]; split <;> simp [State.receive_pending]
  | statusQuery f => simp [exec, execStatusQuery]
  | statusReply f => simp only [exec, execStatusReply]; split <;> simp [State.receive_pending]
  | unknownKind code f => simp only [exec, execUnknownKind]; (repeat' split) <;> simp [State.receive_pending]
  | frameStart => simp only [exec, execFrameStart]; (repeat' split) <;> simp
  | attemptEnd read => simp only [exec, execAttemptEnd]; (repeat' split) <;> simp
  | quietTimer => simp only [exec, execQuietTimer]; split <;> simp
  | lineFault => simp only [exec, execLineFault]; split <;> simp
  | lineFaultExit => simp only [exec, execLineFaultExit]; (repeat' split) <;> simp
  | rxMalformed bits => simp only [exec, execRxMalformed]; (repeat' split) <;> simp

end Sys2Proof.Machine
end

section
/-! SUPPORT. Numbers in bytes, codes and identities: what a reader finds of what an encoder wrote, and what it answers at all. -/

namespace Sys2Proof.Machine

open Sys2Proof

/-! ### Numbers in bytes -/

theorem bytesNat_cons (b : Byte) (bs : List Byte) : bytesNat (b :: bs) = b.toNat * 256 ^ bs.length + bytesNat bs := by
  have shift : ∀ (l : List Byte) (n : Nat), l.foldl (fun n b => 256 * n + b.toNat) n
      = n * 256 ^ l.length + l.foldl (fun n b => 256 * n + b.toNat) 0 := by
    intro l
    induction l with
    | nil => simp
    | cons a l ih => intro n; rw [List.foldl_cons, ih, List.foldl_cons, ih (256 * 0 + _), List.length_cons]; ring
  unfold bytesNat
  rw [List.foldl_cons, shift]
  simp

theorem natBytes_succ (w n : Nat) : natBytes (w + 1) n = BitVec.ofNat 8 (n / 256 ^ w) :: natBytes w n := by
  unfold natBytes
  rw [List.range_succ_eq_map, List.map_cons, List.map_map]
  simp only [Function.comp_def, Nat.add_sub_cancel, Nat.sub_zero]
  congr 1
  refine List.map_congr_left fun i _ => ?_
  rw [show w - (i + 1) = w - 1 - i by omega]

@[simp] theorem length_natBytes (w n : Nat) : (natBytes w n).length = w := by simp [natBytes]

/-- A number that fits is read back. -/
theorem bytesNat_natBytes (w n : Nat) : bytesNat (natBytes w n) = n % 256 ^ w := by
  induction w with
  | zero => simp [natBytes, bytesNat, Nat.mod_one]
  | succ w ih =>
    rw [natBytes_succ, bytesNat_cons, ih, length_natBytes, BitVec.toNat_ofNat, pow_succ 256 w, Nat.mod_mul, Nat.add_comm, Nat.mul_comm]

@[simp] theorem natBytes_one (n : Nat) : natBytes 1 n = [BitVec.ofNat 8 n] := by simp [natBytes]

theorem natBytes_two (n : Nat) : natBytes 2 n = [BitVec.ofNat 8 (n / 256), BitVec.ofNat 8 n] := by
  rw [natBytes_succ, natBytes_one, pow_one]

theorem toNat_ofNat_byte {n : Nat} (h : n < 256) : (BitVec.ofNat 8 n).toNat = n := by
  rw [BitVec.toNat_ofNat, Nat.mod_eq_of_lt h]

/-- A number in two bytes is read back. -/
theorem bytesNat_two {n : Nat} (h : n < 65536) : bytesNat [BitVec.ofNat 8 (n / 256), BitVec.ofNat 8 n] = n := by
  rw [← natBytes_two, bytesNat_natBytes, Nat.mod_eq_of_lt (by simpa using h)]

theorem flagBit_ofNat {n i : Nat} (hi : i < 8) : flagBit (BitVec.ofNat 8 n) i = n.testBit i := by
  rw [flagBit, BitVec.getLsbD_ofNat, decide_eq_true hi, Bool.true_and]

theorem field_lt (n hi lo : Nat) : field n hi lo < 2 ^ (hi + 1 - lo) := Nat.mod_lt _ (by positivity)

/-! ### Codes -/

theorem Reason.ofCode_code (r : Reason) : Reason.ofCode r.code = some r := by cases r <;> rfl

theorem Reason.code_of_ofCode {n : Nat} {r : Reason} (h : Reason.ofCode n = some r) : n = r.code := by
  unfold Reason.ofCode at h
  split at h <;> cases h <;> rfl

theorem Origin.ofCode_code (o : Origin) : Origin.ofCode o.code = some o := by cases o <;> rfl

theorem Origin.code_of_ofCode {n : Nat} {o : Origin} (h : Origin.ofCode n = some o) : n = o.code := by
  unfold Origin.ofCode at h
  split at h <;> cases h <;> rfl

theorem SpeedState.ofCode_code (o : SpeedState) : SpeedState.ofCode o.code = some o := by cases o <;> rfl

theorem SpeedState.code_of_ofCode {n : Nat} {o : SpeedState} (h : SpeedState.ofCode n = some o) : n = o.code := by
  unfold SpeedState.ofCode at h
  split at h <;> cases h <;> rfl

theorem ChuteState.ofCode_code {o : ChuteState} (h : o ≠ .unknown) : ChuteState.ofCode o.code = some o := by
  cases o with
  | unknown => exact absurd rfl h
  | _ => rfl

theorem ChuteState.code_of_ofCode {n : Nat} {o : ChuteState} (h : ChuteState.ofCode n = some o) : n = o.code ∧ o ≠ .unknown := by
  unfold ChuteState.ofCode at h
  split at h <;> cases h <;> exact ⟨rfl, by decide⟩

theorem Reason.code_lt (r : Reason) : r.code < 16 ∧ r.code ≠ 0 := by cases r <;> decide

theorem Origin.code_lt (o : Origin) : o.code < 4 := by cases o <;> decide

/-! ### Identities -/

theorem Identity.inRange_iff (i : Identity) : i.inRange = true ↔ i.tag ≤ 9999999999 ∧ i.sailing ≤ 4095 ∧ i.cabin ≤ 99999 := by
  simp only [Identity.inRange, Bool.and_eq_true, decide_eq_true_eq, and_assoc]
  rfl

@[simp] theorem Identity.length_bytes (i : Identity) : i.bytes.length = 9 := by simp [Identity.bytes]

/-- The fields of an identity that a frame may carry are read back. -/
theorem readIdentity_bytes {i : Identity} (h : i.inRange = true) : readIdentity i.bytes = i := by
  obtain ⟨ht, hs, hc⟩ := i.inRange_iff.1 h
  have htag : i.bytes.take 5 = natBytes 5 i.tag := List.take_left' (length_natBytes _ _)
  have hrest : (i.bytes.drop 5).take 4 = natBytes 4 (i.sailing * 2 ^ 18 + i.cabin) := by
    rw [Identity.bytes, List.drop_left' (length_natBytes _ _), List.take_of_length_le (length_natBytes _ _).le]
  obtain ⟨tag, sailing, cabin⟩ := i
  simp only at ht hs hc
  simp only [readIdentity, htag, hrest, bytesNat_natBytes, field, Identity.mk.injEq]
  norm_num
  omega

/-- An identity or none is read back behind its flag. -/
theorem readOptIdentity_identBytes {o : Option Identity} (h : ∀ i ∈ o, i.inRange = true) :
    readOptIdentity o.isSome (identBytes o) = some o := by
  cases o with
  | none => rfl
  | some i =>
    have hi := h i rfl
    simp [readOptIdentity, identBytes, readIdentity_bytes hi, hi]

/-- What is read behind the flag has its length and is in range. -/
theorem readOptIdentity_eq_some {b : Bool} {rest : List Byte} {o : Option Identity} (h : readOptIdentity b rest = some o) :
    rest.length = (if o = none then 0 else 9) ∧ ∀ i ∈ o, i.inRange = true := by
  unfold readOptIdentity at h
  split_ifs at h with hb hl hr hl' <;> cases h
  · refine ⟨by simpa using hl, fun i hi => ?_⟩
    cases hi
    exact hr
  · exact ⟨by simpa using hl', by simp⟩

theorem length_identBytes (o : Option Identity) : (identBytes o).length = if o = none then 0 else 9 := by
  cases o <;> simp [identBytes]

end Sys2Proof.Machine
end

section
/-! OBLIGATION PROOF. The payloads of the frames read back, and ill-formed ones refused (O50, O51). -/

namespace Sys2Proof.Machine

open Sys2Proof

/-! ### HANDOVER (R41, 10.6) -/

/-- The limits of R41 in the terms of the rule. -/
theorem Handover.wellFormed_iff (h : Handover) : h.wellFormed = true ↔ 1 ≤ h.toStation ∧ h.toStation ≤ 62 ∧ h.dExit ≤ 2047 ∧ h.len ≤ 2047
    ∧ h.v ≤ 1023 ∧ h.dest ≤ 31 ∧ h.passes ≤ 7 ∧ (h.dest ≠ 0 ↔ h.ident.isSome = true ∨ h.reason.isSome = true) := by
  have hdest : ((h.dest != 0) == (h.ident.isSome || h.reason.isSome)) = true
      ↔ (h.dest ≠ 0 ↔ h.ident.isSome = true ∨ h.reason.isSome = true) := by
    rw [beq_iff_eq, Bool.eq_iff_iff, bne_iff_ne, Bool.or_eq_true]
  simp only [Handover.wellFormed, Bool.and_eq_true, hdest, decide_eq_true_eq, bne_iff_ne, and_assoc, ← Nat.one_le_iff_ne_zero, Nat.lt_succ_iff]

/-- A reason that a record may hold is read back, and so is none. -/
theorem readCarriedReason_code {o : Option Reason} (h : ∀ r ∈ o, r.cls ≠ .report) :
    readCarriedReason ((o.map Reason.code).getD 0) = some o := by
  cases o with
  | none => rfl
  | some r => simp [readCarriedReason, r.code_lt.2, Reason.ofCode_code, h r rfl]

theorem readCarriedReason_eq_some {n : Nat} {o : Option Reason} (h : readCarriedReason n = some o) : ∀ r ∈ o, r.cls ≠ .report := by
  unfold readCarriedReason at h
  split at h
  · cases h; simp
  · split at h
    · cases h
    · split at h <;> cases h
      rintro r ⟨⟩
      assumption

theorem code_getD_lt (o : Option Reason) : (o.map Reason.code).getD 0 < 16 := by
  cases o with
  | none => decide
  | some r => exact r.code_lt.1

/-- The first three bytes: flags and station, reason and passes, origin and destination. -/
theorem flags_station {a b : Bool} {n : Nat} (h : n < 64) :
    flagBit (BitVec.ofNat 8 (a.toNat * 128 + b.toNat * 64 + n)) 7 = a
      ∧ flagBit (BitVec.ofNat 8 (a.toNat * 128 + b.toNat * 64 + n)) 6 = b
      ∧ field (BitVec.ofNat 8 (a.toNat * 128 + b.toNat * 64 + n)).toNat 5 0 = n := by
  rw [flagBit_ofNat (by decide), flagBit_ofNat (by decide), toNat_ofNat_byte (by cases a <;> cases b <;> simp <;> omega),
    Nat.testBit_eq_decide_div_mod_eq, Nat.testBit_eq_decide_div_mod_eq, field]
  cases a <;> cases b <;> simp <;> omega

theorem high_low {w m n : Nat} (hw : w ≤ 8) (hm : m < 2 ^ (8 - w)) (hn : n < 2 ^ w) :
    (BitVec.ofNat 8 (m * 2 ^ w + n)).toNat / 2 ^ w = m ∧ (BitVec.ofNat 8 (m * 2 ^ w + n)).toNat % 2 ^ w = n := by
  have hlt : m * 2 ^ w + n < 256 := by
    calc m * 2 ^ w + n < m * 2 ^ w + 2 ^ w := by omega
      _ = (m + 1) * 2 ^ w := by ring
      _ ≤ 2 ^ (8 - w) * 2 ^ w := Nat.mul_le_mul_right _ hm
      _ = 256 := by rw [← pow_add, Nat.sub_add_cancel hw]; rfl
  rw [toNat_ofNat_byte hlt, Nat.mul_comm]
  exact ⟨by rw [Nat.mul_add_div (by positivity), Nat.div_eq_of_lt hn, Nat.add_zero], by rw [Nat.mul_add_mod, Nat.mod_eq_of_lt hn]⟩

theorem Handover.length_payload (h : Handover) : h.payload.length = if h.ident = none then 9 else 18 := by
  simp only [Handover.payload, List.length_append, length_natBytes, length_identBytes]
  split <;> rfl

/-- A HANDOVER within the limits is read back. -/
theorem readHandover_payload {h : Handover} (hwf : h.wellFormed = true) (hr : ∀ r ∈ h.reason, r.cls ≠ .report)
    (hi : ∀ i ∈ h.ident, i.inRange = true) : readHandover h.payload = some h := by
  obtain ⟨h1, h2, h3, h4, h5, h6, h7, -⟩ := h.wellFormed_iff.1 hwf
  obtain ⟨f7, f6, f0⟩ := flags_station (a := h.ident.isSome) (b := h.lateId) (show h.toStation < 64 by omega)
  obtain ⟨hcode, hpasses⟩ : (BitVec.ofNat 8 ((h.reason.map Reason.code).getD 0 * 16 + h.passes)).toNat / 16
        = (h.reason.map Reason.code).getD 0
      ∧ (BitVec.ofNat 8 ((h.reason.map Reason.code).getD 0 * 16 + h.passes)).toNat % 16 = h.passes :=
    high_low (w := 4) (by decide) (code_getD_lt h.reason) (by omega)
  obtain ⟨horigin, hdest⟩ : (BitVec.ofNat 8 (h.origin.code * 64 + h.dest)).toNat / 64 = h.origin.code
      ∧ (BitVec.ofNat 8 (h.origin.code * 64 + h.dest)).toNat % 64 = h.dest :=
    high_low (w := 6) (by decide) h.origin.code_lt (by omega)
  have field_high : ∀ n : Nat, n < 256 → field n 7 4 = n / 16 := fun n hn => by rw [field]; norm_num; omega
  have field_top : ∀ n : Nat, n < 256 → field n 7 6 = n / 64 := fun n hn => by rw [field]; norm_num; omega
  have field_low : ∀ n : Nat, field n 3 0 = n % 16 := fun n => by rw [field]; norm_num
  have field_rest : ∀ n : Nat, field n 5 0 = n % 64 := fun n => by rw [field]; norm_num
  have byte_lt : ∀ b : Byte, b.toNat < 256 := fun b => b.isLt
  simp only [Handover.payload, natBytes_one, natBytes_two, List.cons_append, List.nil_append, readHandover, f7, f6, f0,
    readOptIdentity_identBytes hi, field_high _ (byte_lt _), field_top _ (byte_lt _), field_low, field_rest, hcode, hpasses,
    horigin, hdest, readCarriedReason_code hr, Origin.ofCode_code, Option.bind_eq_bind, Option.bind_some,
    bytesNat_two (show h.v < 65536 by omega), bytesNat_two (show h.dExit < 65536 by omega), bytesNat_two (show h.len < 65536 by omega)]
  exact if_pos hwf

/-- A HANDOVER that is read is within the limits, and its payload has the length of its layout. -/
theorem readHandover_eq_some {p : List Byte} {m : Handover} (h : readHandover p = some m) :
    p.length = (if m.ident = none then 9 else 18) ∧ m.wellFormed = true ∧ (∀ r ∈ m.reason, r.cls ≠ .report)
      ∧ ∀ i ∈ m.ident, i.inRange = true := by
  unfold readHandover at h
  split at h
  · simp only [Option.bind_eq_bind, Option.bind_eq_some_iff] at h
    obtain ⟨i, hident, r, hreason, o, -, hwf⟩ := h
    split at hwf <;> cases hwf
    obtain ⟨hlen, hrange⟩ := readOptIdentity_eq_some hident
    refine ⟨?_, ‹_›, readCarriedReason_eq_some hreason, hrange⟩
    simp only [List.length_cons, hlen]
    split <;> rfl
  · cases h

/-- Settles O50: what is written is read back, and what is read is in range. -/
theorem handoverPayloadRoundTrip : Obligations.HandoverPayloadRoundTrip := by
  refine fun h p m => ⟨fun hwf hr hi => ⟨readHandover_payload hwf hr fun i hm => i.inRange_iff.2 (hi i hm), h.length_payload⟩, ?_, fun hm => ?_⟩
  · exact h.wellFormed_iff
  · obtain ⟨hlen, hwf, hr, hi⟩ := readHandover_eq_some hm
    exact ⟨hlen, hwf, hr, fun i h => i.inRange_iff.1 (hi i h)⟩

/-! ### The other kinds (R170, R91, R93, R105, R150, R180) -/

theorem readSegmentState_payload {v : Nat} (hv : v ≤ 1023) (sp : SpeedState) (b : Bool) :
    readSegmentState (Frame.segmentState v sp b).payload = some (v, sp, b) := by
  have hsp : sp.code < 256 := by cases sp <;> decide
  have hb : b.toNat ≤ 1 := by cases b <;> decide
  simp only [Frame.payload, natBytes_one, natBytes_two, List.cons_append, List.nil_append, readSegmentState, toNat_ofNat_byte hsp,
    toNat_ofNat_byte (show b.toNat < 256 by omega), SpeedState.ofCode_code, bytesNat_two (show v < 65536 by omega), Option.bind_eq_bind,
    Option.bind_some]
  rw [if_pos (by simp [hv, hb])]
  cases b <;> rfl

theorem readSegmentState_eq_some {p : List Byte} {x : Nat × SpeedState × Bool} (h : readSegmentState p = some x) :
    p.length = 4 ∧ x.1 ≤ 1023 ∧ (p.getD 2 0).toNat = x.2.1.code ∧ (p.getD 3 0).toNat = x.2.2.toNat := by
  unfold readSegmentState at h
  split at h
  · rename_i v1 v0 sp bl
    simp only [Option.bind_eq_bind, Option.bind_eq_some_iff] at h
    obtain ⟨speed, hspeed, hx⟩ := h
    split at hx <;> cases hx
    rename_i hr
    simp only [Bool.and_eq_true, decide_eq_true_eq] at hr
    refine ⟨rfl, hr.1, SpeedState.code_of_ofCode hspeed, ?_⟩
    show bl.toNat = (bl.toNat == 1).toNat
    rcases Nat.le_one_iff_eq_zero_or_eq_one.1 hr.2 with e | e <;> rw [e] <;> rfl
  · cases h

theorem readDivertDone_payload {m : DivertDone} (h1 : 1 ≤ m.chute) (h2 : m.chute ≤ 31) (h3 : m.len ≤ 2047)
    (hi : ∀ x ∈ m.ident, x.inRange = true) : readDivertDone m.payload = some m := by
  obtain ⟨f7, f6, -⟩ := flags_station (a := m.ident.isSome) (b := m.swept) (n := 0) (by decide)
  rw [Nat.add_zero] at f7 f6
  simp only [DivertDone.payload, natBytes_one, natBytes_two, List.cons_append, List.nil_append, readDivertDone, f7, f6,
    readOptIdentity_identBytes hi, toNat_ofNat_byte (show m.chute < 256 by omega), bytesNat_two (show m.len < 65536 by omega),
    Option.bind_eq_bind, Option.bind_some]
  exact if_pos (by simp [h2, h3]; omega)

theorem readDivertDone_eq_some {p : List Byte} {x : DivertDone} (h : readDivertDone p = some x) :
    p.length = (if x.ident = none then 4 else 13) ∧ 1 ≤ x.chute ∧ x.chute ≤ 31 ∧ x.len ≤ 2047 ∧ ∀ y ∈ x.ident, y.inRange = true := by
  unfold readDivertDone at h
  split at h
  · simp only [Option.bind_eq_bind, Option.bind_eq_some_iff] at h
    obtain ⟨i, hident, hx⟩ := h
    split at hx <;> cases hx
    rename_i hr
    simp only [Bool.and_eq_true, decide_eq_true_eq, bne_iff_ne] at hr
    obtain ⟨hlen, hrange⟩ := readOptIdentity_eq_some hident
    refine ⟨?_, Nat.one_le_iff_ne_zero.2 hr.1.1, hr.1.2, hr.2, hrange⟩
    simp only [List.length_cons, hlen]
    split <;> rfl
  · cases h

theorem readIdentityNotice_payload {i : Identity} {n : Nat} (hi : i.inRange = true) (h1 : 1 ≤ n) (h2 : n ≤ 31) :
    readIdentityNotice (Frame.identityNotice i n).payload = some (i, n) := by
  have htake : (i.bytes ++ natBytes 1 n).take 9 = i.bytes := List.take_left' i.length_bytes
  have hdrop : (i.bytes ++ natBytes 1 n).drop 9 = natBytes 1 n := List.drop_left' i.length_bytes
  have hn : n % 256 ^ 1 = n := Nat.mod_eq_of_lt (by omega)
  simp only [Frame.payload, readIdentityNotice, htake, hdrop, readIdentity_bytes hi, bytesNat_natBytes, hn, List.length_append,
    Identity.length_bytes, length_natBytes, if_true, hi]
  exact if_pos (by simp [h2]; omega)

theorem readIdentityNotice_eq_some {p : List Byte} {x : Identity × Nat} (h : readIdentityNotice p = some x) :
    p.length = 10 ∧ x.1.inRange = true ∧ 1 ≤ x.2 ∧ x.2 ≤ 31 := by
  unfold readIdentityNotice at h
  split at h
  · dsimp only at h
    split at h <;> cases h
    rename_i hr
    simp only [Bool.and_eq_true, decide_eq_true_eq, bne_iff_ne] at hr
    exact ⟨‹_›, hr.1.1, Nat.one_le_iff_ne_zero.2 hr.1.2, hr.2⟩
  · cases h

theorem readChuteState_payload {r : ChuteReport} (h1 : 1 ≤ r.chute) (h2 : r.chute ≤ 31) (hs : r.state ≠ .unknown) (h3 : r.fill ≤ 4095)
    (h4 : 1 ≤ r.capacity) (h5 : r.capacity ≤ 4095) : readChuteState r.payload = some r := by
  have hcode : r.state.code < 256 := by cases r.state <;> decide
  simp only [ChuteReport.payload, natBytes_one, natBytes_two, List.cons_append, List.nil_append, readChuteState,
    toNat_ofNat_byte (show r.chute < 256 by omega), toNat_ofNat_byte hcode, ChuteState.ofCode_code hs,
    bytesNat_two (show r.fill < 65536 by omega), bytesNat_two (show r.capacity < 65536 by omega), Option.bind_eq_bind, Option.bind_some]
  exact if_pos (by simp [maxFill, h2, h3, h5]; omega)

theorem readChuteState_eq_some {p : List Byte} {x : ChuteReport} (h : readChuteState p = some x) :
    p.length = 6 ∧ 1 ≤ x.chute ∧ x.chute ≤ 31 ∧ x.state ≠ .unknown ∧ (p.getD 1 0).toNat = x.state.code ∧ x.fill ≤ 4095 ∧ 1 ≤ x.capacity
      ∧ x.capacity ≤ 4095 := by
  unfold readChuteState at h
  split at h
  · simp only [Option.bind_eq_bind, Option.bind_eq_some_iff] at h
    obtain ⟨st, hst, hx⟩ := h
    split at hx <;> cases hx
    rename_i hr
    simp only [Bool.and_eq_true, decide_eq_true_eq, bne_iff_ne] at hr
    obtain ⟨⟨⟨⟨hc, hc'⟩, hf⟩, hk⟩, hk'⟩ := hr
    obtain ⟨hcode, hne⟩ := ChuteState.code_of_ofCode hst
    exact ⟨rfl, Nat.one_le_iff_ne_zero.2 hc, hc', hne, hcode, hf, Nat.one_le_iff_ne_zero.2 hk, hk'⟩
  · cases h

theorem readStrayNotice_payload {w : StrayNotice} (h1 : w.passes ≤ 7) (h2 : w.chute ≤ 31) (h3 : w.reason = .swept → w.chute ≠ 0)
    (hi : ∀ x ∈ w.ident, x.inRange = true) : readStrayNotice w.payload = some w := by
  obtain ⟨f7, -, -⟩ := flags_station (a := w.ident.isSome) (b := false) (n := 0) (by decide)
  simp only [Bool.toNat_false, Nat.zero_mul, Nat.add_zero] at f7
  simp only [StrayNotice.payload, natBytes_one, List.cons_append, List.nil_append, readStrayNotice, f7, readOptIdentity_identBytes hi,
    toNat_ofNat_byte (show w.reason.code < 256 by have := w.reason.code_lt; omega), toNat_ofNat_byte (show w.passes < 256 by omega),
    toNat_ofNat_byte (show w.chute < 256 by omega), toNat_ofNat_byte (show w.origin.code < 256 by have := w.origin.code_lt; omega),
    Reason.ofCode_code, Origin.ofCode_code, Option.bind_eq_bind, Option.bind_some]
  refine if_pos ?_
  simp only [Bool.and_eq_true, decide_eq_true_eq, h1, h2, true_and, Bool.not_eq_true', Bool.and_eq_false_iff, beq_eq_false_iff_ne]
  by_cases hsw : w.reason = .swept
  · exact Or.inl (h3 hsw)
  · exact Or.inr hsw

theorem readStrayNotice_eq_some {p : List Byte} {x : StrayNotice} (h : readStrayNotice p = some x) :
    p.length = (if x.ident = none then 5 else 14) ∧ x.passes ≤ 7 ∧ x.chute ≤ 31 ∧ (x.reason = .swept → x.chute ≠ 0)
      ∧ (p.getD 0 0).toNat = x.reason.code ∧ (p.getD 4 0).toNat = x.origin.code ∧ ∀ y ∈ x.ident, y.inRange = true := by
  unfold readStrayNotice at h
  split at h
  · simp only [Option.bind_eq_bind, Option.bind_eq_some_iff] at h
    obtain ⟨i, hident, r, hreason, o, horigin, hx⟩ := h
    split at hx <;> cases hx
    rename_i hr
    simp only [Bool.and_eq_true, decide_eq_true_eq, Bool.not_eq_true', Bool.and_eq_false_iff, beq_eq_false_iff_ne] at hr
    obtain ⟨hlen, hrange⟩ := readOptIdentity_eq_some hident
    refine ⟨?_, hr.1.1, hr.1.2, fun hsw => hr.2.resolve_right (absurd hsw), Reason.code_of_ofCode hreason,
      Origin.code_of_ofCode horigin, hrange⟩
    simp only [List.length_cons, hlen]
    split <;> rfl
  · cases h

theorem readStatusQuery_bytes {q : Query} (h1 : 1 ≤ q.target) (h2 : q.target ≤ 63) (h3 : q.group ≤ 3) (h4 : q.page ≤ 15) :
    readStatusQuery [BitVec.ofNat 8 q.target, BitVec.ofNat 8 (q.group * 64 + q.page * 4 + q.zero.toNat * 2 + q.clear.toNat), q.mask, q.tag]
      = some q := by
  have hz : q.zero.toNat ≤ 1 := by cases q.zero <;> decide
  have hc : q.clear.toNat ≤ 1 := by cases q.clear <;> decide
  have hzero : ∀ b : Bool, decide (b.toNat = 1) = b := by decide
  obtain ⟨target, group, page, zero, clear, mask, tag⟩ := q
  simp only at h1 h2 h3 h4 hz hc
  have f1 : (group * 64 + page * 4 + zero.toNat * 2 + clear.toNat) / 2 ^ 1 % 2 = zero.toNat := by omega
  have f0 : (group * 64 + page * 4 + zero.toNat * 2 + clear.toNat) / 2 ^ 0 % 2 = clear.toNat := by omega
  have fg : field (group * 64 + page * 4 + zero.toNat * 2 + clear.toNat) 7 6 = group := by rw [field]; norm_num; omega
  have fp : field (group * 64 + page * 4 + zero.toNat * 2 + clear.toNat) 5 2 = page := by rw [field]; norm_num; omega
  simp only [readStatusQuery, toNat_ofNat_byte (show target < 256 by omega), flagBit_ofNat (show 1 < 8 by decide),
    flagBit_ofNat (show 0 < 8 by decide), Nat.testBit_eq_decide_div_mod_eq, f1, f0, hzero, fg, fp,
    toNat_ofNat_byte (show group * 64 + page * 4 + zero.toNat * 2 + clear.toNat < 256 by omega)]
  exact if_pos (by simp [h2]; omega)

theorem readStatusQuery_eq_some {p : List Byte} {x : Query} (h : readStatusQuery p = some x) :
    p.length = 4 ∧ 1 ≤ x.target ∧ x.target ≤ 63 ∧ x.group ≤ 3 ∧ x.page ≤ 15 := by
  unfold readStatusQuery at h
  split at h
  · split at h <;> cases h
    rename_i hr
    simp only [Bool.and_eq_true, decide_eq_true_eq, bne_iff_ne] at hr
    exact ⟨rfl, Nat.one_le_iff_ne_zero.2 hr.1, hr.2, Nat.le_of_lt_succ (field_lt _ 7 6), Nat.le_of_lt_succ (field_lt _ 5 2)⟩
  · cases h

/-- Settles O51: kind by kind, each way. -/
theorem otherPayloadsRoundTrip : Obligations.OtherPayloadsRoundTrip := by
  refine fun v sp b m i n r w q p => ⟨fun hv => readSegmentState_payload hv sp b, readDivertDone_payload, readIdentityNotice_payload,
    readChuteState_payload, readStrayNotice_payload, readStatusQuery_bytes, fun _ => readSegmentState_eq_some, fun x hx => ?_,
    fun x hx => ?_, fun _ => readChuteState_eq_some, fun x hx => ?_, fun _ => readStatusQuery_eq_some⟩
  · obtain ⟨hlen, h1, h2, h3, hi⟩ := readDivertDone_eq_some hx
    exact ⟨hlen, h1, h2, h3, fun y hy => y.inRange_iff.1 (hi y hy)⟩
  · obtain ⟨hlen, hi, h1, h2⟩ := readIdentityNotice_eq_some hx
    obtain ⟨ht, hs, hc⟩ := x.1.inRange_iff.1 hi
    exact ⟨hlen, ht, hs, hc, h1, h2⟩
  · obtain ⟨hlen, h1, h2, h3, h4, h5, hi⟩ := readStrayNotice_eq_some hx
    exact ⟨hlen, h1, h2, h3, h4, h5, fun y hy => y.inRange_iff.1 (hi y hy)⟩

end Sys2Proof.Machine
end

section
/-! OBLIGATION PROOF. A frame's bits, read back whole (O49). -/

namespace Sys2Proof.Machine

open Sys2Proof

/-! ### Numbers in bits -/

theorem bitsNat_cons (b : Bool) (bs : List Bool) : bitsNat (b :: bs) = b.toNat * 2 ^ bs.length + bitsNat bs := by
  have shift : ∀ (l : List Bool) (n : Nat), l.foldl (fun n b => 2 * n + b.toNat) n
      = n * 2 ^ l.length + l.foldl (fun n b => 2 * n + b.toNat) 0 := by
    intro l
    induction l with
    | nil => simp
    | cons a l ih => intro n; rw [List.foldl_cons, ih, List.foldl_cons, ih (2 * 0 + _), List.length_cons]; ring
  unfold bitsNat
  rw [List.foldl_cons, shift]
  simp

theorem natBits_succ (w n : Nat) : natBits (w + 1) n = n.testBit w :: natBits w n := by
  unfold natBits
  rw [List.range_succ_eq_map, List.map_cons, List.map_map]
  simp only [Function.comp_def, Nat.add_sub_cancel, Nat.sub_zero]
  congr 1
  refine List.map_congr_left fun i _ => ?_
  rw [show w - (i + 1) = w - 1 - i by omega]

@[simp] theorem length_natBits (w n : Nat) : (natBits w n).length = w := by simp [natBits]

theorem bitsNat_natBits (w n : Nat) : bitsNat (natBits w n) = n % 2 ^ w := by
  induction w with
  | zero => simp [natBits, bitsNat, Nat.mod_one]
  | succ w ih =>
    have hbit : (n.testBit w).toNat = n / 2 ^ w % 2 := by
      rw [Nat.testBit_eq_decide_div_mod_eq]
      rcases Nat.mod_two_eq_zero_or_one (n / 2 ^ w) with e | e <;> simp [e]
    rw [natBits_succ, bitsNat_cons, ih, length_natBits, hbit, pow_succ, Nat.mod_mul, Nat.add_comm, Nat.mul_comm]

/-- The number at a place is the number that the segment at that place spells. -/
theorem numAt_append (pre mid post : List Bool) : numAt (pre ++ mid ++ post) pre.length mid.length = bitsNat mid := by
  unfold numAt
  congr 1
  refine List.ext_getElem (by simp) fun k hk _ => ?_
  have hk : k < mid.length := by simpa using hk
  simp [bitAt, List.getElem?_append, hk]

theorem numAt_natBits {pre post : List Bool} {i w n : Nat} (hi : pre.length = i) (hn : n < 2 ^ w) :
    numAt (pre ++ natBits w n ++ post) i w = n := by
  have := numAt_append pre (natBits w n) post
  rwa [hi, length_natBits, bitsNat_natBits, Nat.mod_eq_of_lt hn] at this

/-! ### Guarded bytes -/

@[simp] theorem length_guarded (b : Byte) : (guarded b).length = 9 := by simp [guarded]

theorem length_flatMap_guarded (bs : List Byte) : (bs.flatMap guarded).length = 9 * bs.length := by
  induction bs with
  | nil => rfl
  | cons b bs ih => rw [List.flatMap_cons, List.length_append, ih, length_guarded, List.length_cons]; ring

/-- Bits with guarded bytes behind the length field. -/
theorem guarded_at {head : List Bool} (hh : head.length = 16) {bs : List Byte} {k : Nat} (hk : k < bs.length) (tail : List Bool) :
    ∃ pre post, head ++ bs.flatMap guarded ++ tail = pre ++ guarded bs[k] ++ post ∧ pre.length = 16 + 9 * k := by
  refine ⟨head ++ (bs.take k).flatMap guarded, (bs.drop (k + 1)).flatMap guarded ++ tail, ?_, ?_⟩
  · have hsplit : bs.flatMap guarded = (bs.take k).flatMap guarded ++ (guarded bs[k] ++ (bs.drop (k + 1)).flatMap guarded) := by
      rw [← List.flatMap_cons, ← List.drop_eq_getElem_cons hk, ← List.flatMap_append, List.take_append_drop]
    simp [hsplit, List.append_assoc]
  · rw [List.length_append, hh, length_flatMap_guarded, List.length_take, Nat.min_eq_left hk.le]

theorem byteAt_guarded {head : List Bool} (hh : head.length = 16) {bs : List Byte} {k : Nat} (hk : k < bs.length) (tail : List Bool) :
    byteAt (head ++ bs.flatMap guarded ++ tail) k = bs[k] := by
  obtain ⟨pre, post, h, hp⟩ := guarded_at hh hk tail
  rw [byteAt, h, guarded, ← List.append_assoc, List.append_assoc _ [_] post, numAt_natBits hp bs[k].isLt]
  exact BitVec.ofNat_toNat _ _

theorem guardGood_guarded {head : List Bool} (hh : head.length = 16) {bs : List Byte} {k : Nat} (hk : k < bs.length) (tail : List Bool) :
    guardGood (head ++ bs.flatMap guarded ++ tail) k = true := by
  rw [guardGood, byteAt_guarded hh hk, beq_iff_eq]
  obtain ⟨pre, post, h, hp⟩ := guarded_at hh hk tail
  rw [h, bitAt, ← hp, List.append_assoc, List.getD_append_right _ _ _ _ (by omega), Nat.add_sub_cancel_left,
    List.getD_append _ _ _ _ (by simp), guarded, List.getD_append_right _ _ _ _ (by simp), length_natBits]
  rfl

/-! ### The frame -/

/-- The start bit, the arbitration field and the length. -/
def frameHead (kind sender n : Nat) : List Bool := false :: natBits 4 kind ++ natBits 6 sender ++ natBits 5 n

/-- The payload with the two check bytes behind it. -/
def checkedBytes (kind sender : Nat) (p : List Byte) : List Byte :=
  p ++ [BitVec.ofNat 8 ((checkOf (coveredBits kind sender p)).toNat / 256), BitVec.ofNat 8 ((checkOf (coveredBits kind sender p)).toNat % 256)]

theorem length_frameHead (kind sender n : Nat) : (frameHead kind sender n).length = 16 := by simp [frameHead]

theorem frameBits_eq (kind sender : Nat) (p : List Byte) :
    frameBits kind sender p = frameHead kind sender p.length ++ (checkedBytes kind sender p).flatMap guarded ++ (slotBits ++ endBits) := by
  simp [frameBits, frameHead, checkedBytes, List.append_assoc]

theorem length_frameBits (kind sender : Nat) (p : List Byte) : (frameBits kind sender p).length = 43 + 9 * p.length := by
  rw [frameBits_eq, List.length_append, List.length_append, length_frameHead, length_flatMap_guarded]
  simp [checkedBytes, slotBits, endBits]
  omega

/-- The slot and the end bits close the frame. -/
theorem frameBits_split (kind sender : Nat) (p : List Byte) :
    ∃ pre, frameBits kind sender p = pre ++ (slotBits ++ endBits) ∧ pre.length = 34 + 9 * p.length := by
  refine ⟨_, frameBits_eq kind sender p, ?_⟩
  have h := length_frameBits kind sender p
  rw [frameBits_eq, List.length_append] at h
  simp [slotBits, endBits] at h ⊢
  omega

theorem numAt_kind {kind : Nat} (sender : Nat) (p : List Byte) (h : kind < 16) : numAt (frameBits kind sender p) 1 4 = kind := by
  have := numAt_natBits (pre := [false]) (post := natBits 6 sender ++ natBits 5 p.length ++ (checkedBytes kind sender p).flatMap guarded
    ++ (slotBits ++ endBits)) rfl (w := 4) h
  simpa [frameBits_eq, frameHead, List.append_assoc] using this

theorem numAt_sender (kind : Nat) {sender : Nat} (p : List Byte) (h : sender < 64) : numAt (frameBits kind sender p) 5 6 = sender := by
  have := numAt_natBits (pre := false :: natBits 4 kind) (post := natBits 5 p.length ++ (checkedBytes kind sender p).flatMap guarded
    ++ (slotBits ++ endBits)) (i := 5) (by simp) (w := 6) h
  simpa [frameBits_eq, frameHead, List.append_assoc] using this

theorem numAt_length (kind sender : Nat) {p : List Byte} (h : p.length < 32) : numAt (frameBits kind sender p) 11 5 = p.length := by
  have := numAt_natBits (pre := false :: natBits 4 kind ++ natBits 6 sender) (post := (checkedBytes kind sender p).flatMap guarded
    ++ (slotBits ++ endBits)) (i := 11) (by simp) (w := 5) h
  simpa [frameBits_eq, frameHead, List.append_assoc] using this

theorem byteAt_frameBits (kind sender : Nat) (p : List Byte) {k : Nat} (hk : k < (checkedBytes kind sender p).length) :
    byteAt (frameBits kind sender p) k = (checkedBytes kind sender p)[k] := by
  rw [frameBits_eq]
  exact byteAt_guarded (length_frameHead _ _ _) hk _

theorem payload_frameBits (kind sender : Nat) (p : List Byte) : (List.range p.length).map (byteAt (frameBits kind sender p)) = p := by
  refine List.ext_getElem (by simp) fun k hk _ => ?_
  have hk : k < p.length := by simpa using hk
  rw [List.getElem_map, List.getElem_range, byteAt_frameBits _ _ _ (by simp [checkedBytes]; omega)]
  simp [checkedBytes, hk]

/-- The receiver finds no fault. -/
theorem judgeWire_frameBits {kind sender : Nat} {p : List Byte} (hk : kind < 16) (h1 : 1 ≤ sender) (h2 : sender ≤ 62) (hp : p.length ≤ 20) :
    judgeWire (frameBits kind sender p) = .good := by
  have hlen : (checkedBytes kind sender p).length = p.length + 2 := by simp [checkedBytes]
  have hguard : (List.range (p.length + 2)).all (guardGood (frameBits kind sender p)) = true := by
    rw [List.all_eq_true]
    intro k hk
    rw [frameBits_eq]
    exact guardGood_guarded (length_frameHead _ _ _) (by rw [hlen]; exact List.mem_range.1 hk) _
  have hcheck : (byteAt (frameBits kind sender p) p.length).toNat * 256 + (byteAt (frameBits kind sender p) (p.length + 1)).toNat
      = (checkOf (coveredBits kind sender p)).toNat := by
    have hc := (checkOf (coveredBits kind sender p)).isLt
    rw [byteAt_frameBits _ _ _ (by omega), byteAt_frameBits _ _ _ (by omega)]
    simp only [checkedBytes, List.getElem_append, Nat.lt_irrefl, dite_false, Nat.sub_self, List.getElem_cons_zero,
      show ¬ p.length + 1 < p.length by omega, Nat.add_sub_cancel_left, List.getElem_cons_succ]
    rw [toNat_ofNat_byte (by omega), toNat_ofNat_byte (by omega)]
    omega
  unfold judgeWire
  simp only [numAt_kind _ _ hk, numAt_sender _ _ (show sender < 64 by omega), numAt_length _ _ (show p.length < 32 by omega), hguard,
    payload_frameBits, hcheck]
  rw [if_neg (by simp only [maxPayload]; omega), if_pos (by simp; omega)]

/-! ### An attempt read back as sent (R157, R158, R161) -/

theorem judgeBody_append (sent rest : List Bool) : judgeBody sent (sent ++ rest) = judgeSlot rest := by
  induction sent with
  | nil => rfl
  | cons b sent ih => simpa [judgeBody] using ih

theorem judgeArbitration_append (n : Nat) (sent rest : List Bool) : judgeArbitration n sent (sent ++ rest) = judgeSlot rest := by
  induction n generalizing sent with
  | zero => exact judgeBody_append sent rest
  | succ n ih =>
    cases sent with
    | nil => rfl
    | cons b sent => simpa [judgeArbitration] using ih sent

/-- A frame read back as it was sent is sent. -/
theorem judgeAttempt_frameBits (kind sender : Nat) (p : List Byte) :
    judgeAttempt (frameBits kind sender p) (frameBits kind sender p) = .sent := by
  obtain ⟨pre, h, hlen⟩ := frameBits_split kind sender p
  have hpre : beforeSlot (pre ++ (slotBits ++ endBits)) = pre := by
    rw [beforeSlot, List.length_append, List.length_append, Nat.add_sub_cancel, List.take_left' rfl]
  cases pre with
  | nil => simp at hlen; omega
  | cons b pre =>
    rw [judgeAttempt, h, hpre, List.cons_append, List.tail_cons, List.tail_cons, judgeArbitration_append]
    rfl

/-- Settles O49: each field from its place, the check from its bytes, the attempt from its equal bits. -/
theorem frameBitsAreReadBackGood : Obligations.FrameBitsAreReadBackGood := by
  intro kind sender p hk h1 h2 hp
  refine ⟨judgeWire_frameBits hk h1 h2 hp, numAt_kind _ _ hk, numAt_sender _ _ (by omega), numAt_length _ _ (by omega),
    payload_frameBits _ _ _, length_frameBits _ _ _, rfl, ?_, judgeAttempt_frameBits _ _ _⟩
  obtain ⟨pre, h, hlen⟩ := frameBits_split kind sender p
  rw [h, List.drop_left' hlen]
  rfl

end Sys2Proof.Machine
end

section
/-! OBLIGATION PROOF. Received frames: faults, void frames, the own number and the untaken kinds (O44, O46). -/

namespace Sys2Proof.Machine

open Sys2Proof

section
variable {s t : State} {c : StationConfig} {f : RxFrame} {formed : Bool} {take : State → State}

/-! ### The judgement of a received frame (R159, R160, R164) -/

theorem reception_of_deaf (h : s.hlc.line.actsOn = false) : reception c s.hlc.line f formed = .deaf := by simp [reception, h]

theorem reception_of_early (h : s.hlc.line.actsOn = true) (hp : 20 < f.payload.length) :
    reception c s.hlc.line f formed = .fault .early := by simp [reception, h, maxPayload, hp]

theorem reception_of_fault (h : s.hlc.line.actsOn = true) (hp : f.payload.length ≤ 20)
    (hf : formed = false ∨ f.sender = 0 ∨ f.sender = 63) : reception c s.hlc.line f formed = .fault .slot := by
  have hbad : (f.sender = 0 || f.sender = 63 || !formed) = true := by
    simp only [Bool.or_eq_true, decide_eq_true_eq, Bool.not_eq_true']
    tauto
  rw [reception, h, if_neg (by decide), if_neg (show ¬ maxPayload < _ from not_lt.2 hp), if_pos hbad]

theorem reception_of_formed (h : s.hlc.line.actsOn = true) (hp : f.payload.length ≤ 20) (h0 : f.sender ≠ 0) (h63 : f.sender ≠ 63) :
    reception c s.hlc.line f true
      = if f.voided then .voided else if f.sender.toNat = c.station then .duplicate else .good := by
  have hgood : ¬ (f.sender = 0 || f.sender = 63 || !true) = true := by simp only [Bool.or_eq_true, decide_eq_true_eq]; tauto
  rw [reception, h, if_neg (by decide), if_neg (show ¬ maxPayload < _ from not_lt.2 hp), if_neg hgood]

/-- A frame received complete and unobjected is handed on. -/
theorem State.receive_good (h : s.hlc.line.actsOn = true) (hp : f.payload.length ≤ 20) (h0 : f.sender ≠ 0) (h63 : f.sender ≠ 63)
    (hv : f.voided = false) (hn : f.sender.toNat ≠ c.station) : s.receive c f true take = take (s.setObjection .none) := by
  rw [State.receive, reception_of_formed h hp h0 h63, hv, if_neg hn]
  rfl

/-! ### What the commands of received frames make of it -/

/-- A command is the reception of a frame: the frame's kind says whether it is well-formed and which block takes it. -/
def Receives (i : Instr) (f : RxFrame) (formed : Bool) (s : State) : Prop :=
  ∀ c, s.cfg = some c → ∃ take, exec i s = .next (s.receive c f formed take)

theorem receives_of_reader {α : Type} {i : Instr} {o : Option α} {take : StationConfig → α → State → State}
    (hn : ∀ c, s.cfg = some c → o = none → exec i s = .next (s.receive c f false id))
    (hx : ∀ c x, s.cfg = some c → o = some x → exec i s = .next (s.receive c f true (take c x))) : Receives i f o.isSome s := by
  intro c hc
  cases ho : o with
  | none => exact ⟨id, hn c hc ho⟩
  | some x => exact ⟨take c x, hx c x hc ho⟩

theorem receives_segmentState (f : RxFrame) (s : State) : Receives (.segmentState f) f (readSegmentState f.payload).isSome s :=
  receives_of_reader (take := fun c p t => (t.bump .frameTaken).takeSegmentState c f.sender.toNat p.1 p.2.1 p.2.2)
    (fun c hc e => by simp only [exec, execSegmentState, hc, e]) fun c x hc e => by simp only [exec, execSegmentState, hc, e]

theorem receives_handover (f : RxFrame) (s : State) : Receives (.handover f) f (readHandover f.payload).isSome s :=
  receives_of_reader (take := fun c h t => (t.bump .frameTaken).takeHandover c f.sender.toNat h)
    (fun c hc e => by simp only [exec, execHandover, hc, e]) fun c x hc e => by simp only [exec, execHandover, hc, e]

theorem receives_divertDone (f : RxFrame) (s : State) : Receives (.divertDone f) f (readDivertDone f.payload).isSome s :=
  receives_of_reader (take := fun c d t => (t.bump .frameTaken).takeDivertDone c d)
    (fun c hc e => by simp only [exec, execDivertDone, hc, e]) fun c x hc e => by simp only [exec, execDivertDone, hc, e]

theorem receives_identityNotice (f : RxFrame) (s : State) : Receives (.identityNotice f) f (readIdentityNotice f.payload).isSome s :=
  receives_of_reader (take := fun c p t => if c.reader then (t.bump .frameTaken).takeNotice c p.1 p.2 else t.bump .frameTaken)
    (fun c hc e => by simp only [exec, execIdentityNotice, hc, e]) fun c x hc e => by simp only [exec, execIdentityNotice, hc, e]

theorem receives_chuteState (f : RxFrame) (s : State) : Receives (.chuteState f) f (readChuteState f.payload).isSome s :=
  receives_of_reader (take := fun c r t => (t.bump .frameTaken).takeChuteState c f.sender.toNat r)
    (fun c hc e => by simp only [exec, execChuteState, hc, e]) fun c x hc e => by simp only [exec, execChuteState, hc, e]

theorem receives_strayNotice (f : RxFrame) (s : State) : Receives (.strayNotice f) f (readStrayNotice f.payload).isSome s :=
  fun c hc => ⟨id, by simp only [exec, execStrayNotice, hc]⟩

theorem receives_statusReply (f : RxFrame) (s : State) : Receives (.statusReply f) f (statusReplyFormed f.payload) s :=
  fun c hc => ⟨id, by simp only [exec, execStatusReply, hc]⟩

theorem receives_statusQuery (f : RxFrame) (s : State) : Receives (.statusQuery f) f (readStatusQuery f.payload).isSome s := by
  intro c hc
  simp only [exec, execStatusQuery, State.statusQuery, hc]
  cases hq : readStatusQuery f.payload with
  | none => exact ⟨id, rfl⟩
  | some q => exact ⟨fun t => (t.bump .frameTaken).screenQuery c q, rfl⟩

/-- An unknown kind is received as well-formed; one that is handed on or comes under the own number is counted. -/
theorem exec_unknownKind (code : BitVec 3) (hc : s.cfg = some c) : exec (.unknownKind code f) s = .next
    (match reception c s.hlc.line f true with
      | .good | .duplicate => (s.receive c f true id).countUnknown
      | .deaf | .fault _ | .voided => s.receive c f true id) := by
  simp only [exec, execUnknownKind, hc]
  cases reception c s.hlc.line f true <;> rfl

/-! ### Frames that no block takes -/

/-- A station that acts on no frames ignores them. -/
theorem Receives.deaf {i : Instr} (h : Receives i f formed s) (hc : s.cfg = some c) (hl : s.hlc.line.actsOn = false) :
    exec i s = .next s := by
  obtain ⟨take, h⟩ := h c hc
  rw [h, State.receive, reception_of_deaf hl]

/-- From s to t a fault has been objected to and counted, and nothing else has changed (R159). -/
def Objected (o : Objection) (s t : State) : Prop :=
  t.hlc = { s.hlc with objection := if s.hlc.line = .active then o else .none } ∧ Counted [.rxMalformed] s t
    ∧ Raised [.rxMalformed] s t ∧ OnlyParts [.hlc, .stu] s t

theorem State.rxFault_objected (hs : SizeLaw s) (o : Objection) : Objected o s (s.rxFault o) := by
  refine ⟨rfl, fun k => ?_, fun e => ?_, by simp [OnlyParts]⟩
  · rw [State.rxFault, State.raiseEv_ctr, State.bump_ctr (by exact hs.counters)]
    simp
  · rw [State.rxFault, State.raiseEv_ev (by exact hs.events)]
    simp

theorem Receives.fault {i : Instr} (h : Receives i f formed s) (hc : s.cfg = some c) (hs : SizeLaw s) {o : Objection}
    (hr : reception c s.hlc.line f formed = .fault o) : ∃ t, exec i s = .next t ∧ Objected o s t := by
  obtain ⟨take, h⟩ := h c hc
  rw [h, State.receive, hr]
  exact ⟨_, rfl, State.rxFault_objected hs o⟩

/-- A void frame is nothing. -/
theorem Receives.voided {i : Instr} (h : Receives i f true s) (hc : s.cfg = some c)
    (hr : reception c s.hlc.line f true = .voided) : ∃ t, exec i s = .next t ∧ t = { s with hlc := { s.hlc with objection := .none } } := by
  obtain ⟨take, h⟩ := h c hc
  rw [h, State.receive, hr]
  exact ⟨_, rfl, rfl⟩

/-- From s to t the own number has been heard (R164). -/
def FoundDuplicate (cs : List Ctr) (es : List Ev) (s t : State) : Prop :=
  t.hlc = { s.hlc with line := .listenOnly, quietMs := none, dup := true, objection := .none } ∧ Counted cs s t ∧ Raised es s t
    ∧ OnlyParts [.hlc, .stu] s t

theorem State.duplicateFound_found (hs : SizeLaw s) : FoundDuplicate [.duplicateStation] [] s s.duplicateFound := by
  refine ⟨rfl, fun k => ?_, fun e => by simp [State.duplicateFound], by simp [OnlyParts]⟩
  rw [State.duplicateFound, State.bump_ctr (by exact hs.counters)]
  simp

theorem Receives.duplicate {i : Instr} (h : Receives i f true s) (hc : s.cfg = some c) (hs : SizeLaw s)
    (hr : reception c s.hlc.line f true = .duplicate) : ∃ t, exec i s = .next t ∧ FoundDuplicate [.duplicateStation] [] s t := by
  obtain ⟨take, h⟩ := h c hc
  rw [h, State.receive, hr]
  exact ⟨_, rfl, State.duplicateFound_found hs⟩

theorem statusReplyFormed_iff {p : List Byte} (hp : p.length ≤ 20) : statusReplyFormed p = true ↔ 4 ≤ p.length := by
  simp [statusReplyFormed, hp]

end

/-- Settles O46: every kind is received alike, its reader alone says what is well-formed. -/
theorem faultyFramesAreObjectedTo : Obligations.FaultyFramesAreObjectedTo := by
  intro c f code bits s hc hs
  refine ⟨fun ha hp => ?_, fun ha hp => ?_, fun ha => ⟨fun hb => ?_, fun hb => ?_⟩, fun hd => ?_⟩
  · have bad : ∀ {i : Instr} {α : Type} {o : Option α}, Receives i f o.isSome s → (o = none ∨ f.sender = 0 ∨ f.sender = 63) →
        ∃ t, exec i s = .next t ∧ Objected .slot s t := fun h hf =>
      h.fault hc hs (reception_of_fault ha hp (hf.imp_left fun e => by rw [e]; rfl))
    refine ⟨bad (receives_segmentState f s), bad (receives_handover f s), bad (receives_divertDone f s), bad (receives_identityNotice f s),
      bad (receives_chuteState f s), bad (receives_strayNotice f s), bad (receives_statusQuery f s), fun hf => ?_, fun hf => ?_⟩
    · refine (receives_statusReply f s).fault hc hs (reception_of_fault ha hp (hf.imp_left fun h4 => ?_))
      rw [← Bool.not_eq_true, statusReplyFormed_iff hp]
      omega
    · have hr := reception_of_fault (c := c) (formed := true) ha hp (Or.inr hf)
      rw [exec_unknownKind code hc, hr, State.receive, hr]
      exact ⟨_, rfl, State.rxFault_objected hs .slot⟩
  · have bad : ∀ {i : Instr} {formed : Bool}, Receives i f formed s → ∃ t, exec i s = .next t ∧ Objected .early s t := fun h =>
      h.fault hc hs (reception_of_early ha hp)
    refine ⟨bad (receives_segmentState f s), bad (receives_handover f s), bad (receives_divertDone f s), bad (receives_identityNotice f s),
      bad (receives_chuteState f s), bad (receives_strayNotice f s), bad (receives_statusQuery f s), bad (receives_statusReply f s), ?_⟩
    have hr := reception_of_early (c := c) (formed := true) ha hp
    rw [exec_unknownKind code hc, hr, State.receive, hr]
    exact ⟨_, rfl, State.rxFault_objected hs .early⟩
  · refine ⟨s.rxFault .slot, by simp only [exec, execRxMalformed, ha, if_true, hb], State.rxFault_objected hs .slot⟩
  · refine ⟨s.rxFault .early, by simp only [exec, execRxMalformed, ha, if_true, hb], State.rxFault_objected hs .early⟩
  · have deaf : ∀ {i : Instr} {formed : Bool}, Receives i f formed s → ∃ t, exec i s = .next t ∧ t = s := fun h =>
      ⟨s, h.deaf hc hd, rfl⟩
    refine ⟨deaf (receives_segmentState f s), deaf (receives_handover f s), deaf (receives_divertDone f s), deaf (receives_identityNotice f s),
      deaf (receives_chuteState f s), deaf (receives_strayNotice f s), deaf (receives_statusQuery f s), deaf (receives_statusReply f s),
      ⟨s, ?_, rfl⟩, ⟨s, ?_, rfl⟩⟩
    · have hr := reception_of_deaf (c := c) (f := f) (formed := true) hd
      rw [exec_unknownKind code hc, hr, State.receive, hr]
    · simp [exec, execRxMalformed, hd]

/-- Settles O44: what is void, untaken or under the own number stops at the reception. -/
theorem untakenKindsAndTheOwnNumber : Obligations.UntakenKindsAndTheOwnNumber := by
  intro c f code s hc ha h0 h63 hp hs
  have hr := reception_of_formed (c := c) ha hp h0 h63
  refine ⟨fun hv hn => ?_, fun hv hn => ?_, fun hv => ?_⟩
  · simp only [hv, Bool.false_eq_true, if_false, hn] at hr
    refine ⟨fun hread => ⟨s.setObjection .none, ?_, rfl⟩, fun h4 => ⟨s.setObjection .none, ?_, rfl⟩, ?_⟩
    · simp only [exec, execStrayNotice, hc, hread, State.receive_good ha hp h0 h63 hv hn, id]
    · simp only [exec, execStatusReply, hc, (statusReplyFormed_iff hp).2 h4, State.receive_good ha hp h0 h63 hv hn, id]
    · rw [exec_unknownKind code hc, hr, State.receive_good ha hp h0 h63 hv hn]
      refine ⟨_, rfl, rfl, fun k => ?_, fun e => ?_, by simp [OnlyParts]⟩
      · rw [id, State.countUnknown, State.raiseEv_ctr, State.bump_ctr (by exact hs.counters)]
        simp
      · rw [id, State.countUnknown, State.raiseEv_ev (by exact hs.events)]
        simp
  · simp only [hv, Bool.false_eq_true, if_false, hn, if_true] at hr
    have dup : ∀ {i : Instr} {formed : Bool}, Receives i f formed s → formed = true →
        ∃ t, exec i s = .next t ∧ FoundDuplicate [.duplicateStation] [] s t := fun h e => by subst e; exact h.duplicate hc hs hr
    refine ⟨dup (receives_segmentState f s), dup (receives_handover f s), dup (receives_divertDone f s), dup (receives_identityNotice f s),
      dup (receives_chuteState f s), dup (receives_strayNotice f s), dup (receives_statusQuery f s),
      fun h4 => dup (receives_statusReply f s) ((statusReplyFormed_iff hp).2 h4), ?_⟩
    rw [exec_unknownKind code hc, hr, State.receive, hr]
    refine ⟨_, rfl, rfl, fun k => ?_, fun e => ?_, by simp [OnlyParts]⟩
    · rw [State.countUnknown, State.raiseEv_ctr, State.bump_ctr (by simpa [State.duplicateFound] using hs.counters), State.duplicateFound,
        State.bump_ctr (by exact hs.counters)]
      simp only [State.setHlc_tallies, List.mem_cons, List.not_mem_nil, or_false]
      split_ifs <;> simp_all
    · rw [State.countUnknown, State.raiseEv_ev (by exact hs.events)]
      simp [State.duplicateFound]
  · simp only [hv, if_true] at hr
    have void : ∀ {i : Instr} {formed : Bool}, Receives i f formed s → formed = true →
        ∃ t, exec i s = .next t ∧ t = { s with hlc := { s.hlc with objection := .none } } := fun h e => by subst e; exact h.voided hc hr
    refine ⟨void (receives_segmentState f s), void (receives_handover f s), void (receives_divertDone f s), void (receives_identityNotice f s),
      void (receives_chuteState f s), void (receives_strayNotice f s), void (receives_statusQuery f s),
      fun h4 => void (receives_statusReply f s) ((statusReplyFormed_iff hp).2 h4), ?_⟩
    rw [exec_unknownKind code hc, hr, State.receive, hr]
    exact ⟨_, rfl, rfl⟩

end Sys2Proof.Machine
end

section
/-! SUPPORT. What a sequence of operations counts and raises, built up operation by operation. -/

namespace Sys2Proof.Machine

open Sys2Proof

section
variable {s t u : State} {cs : List Ctr} {es : List Ev}

/-- From s to t the counters and the event bits listed have moved, and no other; the tables keep their sizes. -/
structure Tallied (cs : List Ctr) (es : List Ev) (s t : State) : Prop where
  counters : t.stu.counters.length = 117
  events : t.stu.events.length = 33
  counted : Counted cs s t
  raised : Raised es s t

/-- The same beside what the queuing of frames moves. -/
structure TalliedBeside (cs : List Ctr) (es : List Ev) (s t : State) : Prop where
  counters : t.stu.counters.length = 117
  events : t.stu.events.length = 33
  counted : CountedBeside cs s t
  raised : RaisedBeside es s t

theorem Tallied.refl (hs : SizeLaw s) : Tallied [] [] s s := ⟨hs.counters, hs.events, fun k => by simp, fun e => by simp⟩

theorem Tallied.same (h : Tallied cs es s t) (e : u.stu = t.stu) : Tallied cs es s u :=
  ⟨e ▸ h.counters, e ▸ h.events, fun k => (State.ctr_congr e k).trans (h.counted k), fun x => (State.ev_congr e x).trans (h.raised x)⟩

theorem ctr_bump_listed (hl : t.stu.counters.length = 117) {a k : Ctr} (h : t.ctr k = if k ∈ cs then satInc (s.ctr k) else s.ctr k)
    (ha : a ∉ cs) : (t.bump a).ctr k = if k ∈ cs ++ [a] then satInc (s.ctr k) else s.ctr k := by
  rw [State.bump_ctr hl, h]
  by_cases e : k = a
  · subst e; simp [ha]
  · simp [e]

theorem Tallied.bump (h : Tallied cs es s t) {a : Ctr} (ha : a ∉ cs) : Tallied (cs ++ [a]) es s (t.bump a) :=
  ⟨by simpa using h.counters, h.events, fun k => ctr_bump_listed h.counters (h.counted k) ha, h.raised⟩

theorem ev_raise_listed (hl : t.stu.events.length = 33) {e x : Ev} (h : t.ev x = (s.ev x || decide (x ∈ es))) :
    (t.raiseEv e).ev x = (s.ev x || decide (x ∈ es ++ [e])) := by
  rw [State.raiseEv_ev hl, h]
  simp [Bool.or_assoc, Bool.decide_or]

theorem Tallied.raise (h : Tallied cs es s t) (e : Ev) : Tallied cs (es ++ [e]) s (t.raiseEv e) :=
  ⟨h.counters, by simpa using h.events, h.counted, fun x => ev_raise_listed h.events (h.raised x)⟩

theorem Tallied.beside (h : Tallied cs es s t) : TalliedBeside cs es s t :=
  ⟨h.counters, h.events, fun k _ => h.counted k, fun e _ => h.raised e⟩

theorem TalliedBeside.refl (hs : SizeLaw s) : TalliedBeside [] [] s s := (Tallied.refl hs).beside

theorem TalliedBeside.same (h : TalliedBeside cs es s t) (e : u.stu = t.stu) : TalliedBeside cs es s u :=
  ⟨e ▸ h.counters, e ▸ h.events, fun k hk => (State.ctr_congr e k).trans (h.counted k hk),
    fun x hx => (State.ev_congr e x).trans (h.raised x hx)⟩

theorem TalliedBeside.bump (h : TalliedBeside cs es s t) {a : Ctr} (ha : a ∉ cs) : TalliedBeside (cs ++ [a]) es s (t.bump a) :=
  ⟨by simpa using h.counters, h.events, fun k hk => ctr_bump_listed h.counters (h.counted k hk) ha, h.raised⟩

theorem TalliedBeside.raise (h : TalliedBeside cs es s t) (e : Ev) : TalliedBeside cs (es ++ [e]) s (t.raiseEv e) :=
  ⟨h.counters, by simpa using h.events, h.counted, fun x hx => ev_raise_listed h.events (h.raised x hx)⟩

theorem TalliedBeside.queueFrame (h : TalliedBeside cs es s t) (f : Frame) : TalliedBeside cs es s (t.queueFrame f) :=
  ⟨by simpa using h.counters, by simpa using h.events, fun k hk => (State.queueFrame_ctr h.counters f hk).trans (h.counted k hk),
    fun e he => (State.queueFrame_ev h.events f he).trans (h.raised e he)⟩

theorem TalliedBeside.queueSegmentState (h : TalliedBeside cs es s t) : TalliedBeside cs es s t.queueSegmentState :=
  (h.queueFrame _).same rfl

theorem TalliedBeside.evalBlocked (h : TalliedBeside cs es s t) (c : StationConfig) : TalliedBeside cs es s (t.evalBlocked c) := by
  unfold State.evalBlocked
  split
  · exact h
  · exact (h.same (u := t.setBtu { t.btu with blockedFlag := t.blockedNow c }) rfl).queueSegmentState

theorem TalliedBeside.evalPermit (h : TalliedBeside cs es s t) (c : StationConfig) : TalliedBeside cs es s (t.evalPermit c) :=
  (h.same (u := t.setBtu { t.btu with permit := t.permitNow c }) rfl).evalBlocked c

end

end Sys2Proof.Machine
end

section
/-! OBLIGATION PROOF. The outbound queue, stale handovers and a received CHUTE_STATE (O29, O30, O43). -/

namespace Sys2Proof.Machine

open Sys2Proof

/-! ### Places in the queue (R166, R167, R168) -/

theorem insertFrame_split (f : OutFrame) (q : List OutFrame) : ∃ n ≤ q.length, insertFrame f q = q.take n ++ f :: q.drop n
    ∧ (∀ o ∈ q.take n, o.sending = true ∨ o.kind ≤ f.kind) ∧ ∀ o ∈ (q.drop n).head?, o.sending = false ∧ f.kind < o.kind := by
  induction q with
  | nil => exact ⟨0, le_rfl, rfl, by simp, by simp⟩
  | cons x xs ih =>
    by_cases hx : (x.sending || x.kind ≤ f.kind) = true
    · obtain ⟨n, hn, he, hbefore, hbehind⟩ := ih
      refine ⟨n + 1, by simpa using hn, by simp [insertFrame, hx, he], ?_, hbehind⟩
      rw [List.take_succ_cons, List.forall_mem_cons]
      exact ⟨by simpa using hx, hbefore⟩
    · refine ⟨0, Nat.zero_le _, by simp [insertFrame, hx], by simp, ?_⟩
      simpa using hx

theorem reinsertFrame_split (f : OutFrame) (q : List OutFrame) : ∃ n ≤ q.length, reinsertFrame f q = q.take n ++ f :: q.drop n
    ∧ (∀ o ∈ q.take n, o.kind < f.kind) ∧ ∀ o ∈ (q.drop n).head?, f.kind ≤ o.kind := by
  induction q with
  | nil => exact ⟨0, le_rfl, rfl, by simp, by simp⟩
  | cons x xs ih =>
    by_cases hx : x.kind < f.kind
    · obtain ⟨n, hn, he, hbefore, hbehind⟩ := ih
      refine ⟨n + 1, by simpa using hn, by simp [reinsertFrame, hx, he], ?_, hbehind⟩
      rw [List.take_succ_cons, List.forall_mem_cons]
      exact ⟨hx, hbefore⟩
    · exact ⟨0, Nat.zero_le _, by simp [reinsertFrame, hx], by simp, by simpa using hx⟩

theorem insertFrame_perm (f : OutFrame) (q : List OutFrame) : (insertFrame f q).Perm (f :: q) := by
  obtain ⟨n, -, h, -⟩ := insertFrame_split f q
  rw [h]
  conv_rhs => rw [← List.take_append_drop n q]
  exact List.perm_middle

/-- The first waiting frame of the class is replaced in its place. -/
theorem replaceFrame_eq_set {f : Frame} {q : List OutFrame} {n : Nat} (hn : n < q.length) (hat : ∀ o ∈ q[n]?, o.absorbs f = true)
    (hbefore : ∀ m < n, ∀ o ∈ q[m]?, o.absorbs f = false) : replaceFrame f q = q.set n (.fresh f) := by
  induction q generalizing n with
  | nil => cases hn
  | cons x xs ih =>
    cases n with
    | zero => rw [replaceFrame, if_pos (hat x rfl), List.set_cons_zero]
    | succ n =>
      rw [replaceFrame, if_neg (by simp [hbefore 0 (Nat.succ_pos n) x rfl]), List.set_cons_succ]
      congr 1
      exact ih (by simpa using hn) hat fun m hm => hbefore (m + 1) (Nat.succ_lt_succ hm)

/-- The youngest waiting frame of a kind is the last one in the order. -/
theorem dropYoungest_eq_eraseIdx {k : Nat} {q : List OutFrame} (h : ∃ o ∈ q, o.sending = false ∧ o.kind = k) :
    ∃ n < q.length, dropYoungest k q = q.eraseIdx n ∧ (∃ o ∈ q[n]?, o.sending = false ∧ o.kind = k)
      ∧ ∀ p ∈ q.drop (n + 1), p.sending = false → p.kind ≠ k := by
  obtain ⟨o, ho, hs, hk⟩ := h
  obtain ⟨a, young, old, hyoung, ha, hq, he⟩ :=
    List.exists_of_eraseP (p := fun o : OutFrame => !o.sending && o.kind == k) (List.mem_reverse.2 ho) (by simp [hs, hk])
  have hq' : q = old.reverse ++ a :: young.reverse := by rw [← List.reverse_reverse q, hq]; simp
  simp only [Bool.and_eq_true, Bool.not_eq_true', beq_iff_eq] at ha
  refine ⟨old.length, by simp [hq'], ?_, ⟨a, by simp [hq'], ha⟩, fun p hp hw => ?_⟩
  · rw [dropYoungest, he, hq', ← List.length_reverse (as := old), List.eraseIdx_append_of_length_le le_rfl]
    simp
  · have hp : p ∈ young := by
      rw [hq', ← List.length_reverse (as := old), ← List.drop_drop, List.drop_left' rfl] at hp
      simpa using hp
    simpa [hw] using hyoung p hp

/-- No waiting frame is of a kind above the highest. -/
theorem kind_le_highestWaiting {q : List OutFrame} {o : OutFrame} (ho : o ∈ q) (hw : o.sending = false) : o.kind ≤ highestWaiting q := by
  have from_any : ∀ m, o.kind ≤ q.foldl (fun m o => if o.sending then m else max m o.kind) m := by
    induction q with
    | nil => cases ho
    | cons x xs ih =>
      intro m
      rw [List.foldl_cons]
      rcases List.mem_cons.1 ho with rfl | hm
      · rw [hw, if_neg (by decide)]
        exact (le_max_right _ _).trans (highestWaiting_fold xs _).1
      · exact ih hm _
  exact from_any 0

/-- A frame of higher kind waits exactly when the highest waiting kind is above. -/
theorem lt_highestWaiting_iff (k : Nat) (q : List OutFrame) : k < highestWaiting q ↔ ∃ o ∈ q, o.sending = false ∧ k < o.kind := by
  constructor
  · intro h
    obtain ⟨o, ho, hs, hk⟩ := exists_highestWaiting (Nat.zero_lt_of_lt h)
    exact ⟨o, ho, hs, hk ▸ h⟩
  · rintro ⟨o, ho, hs, hk⟩
    exact hk.trans_le (kind_le_highestWaiting ho hs)

/-! ### Queuing a frame (O30) -/

section
variable {s : State} {f : Frame}

theorem not_absorbs_iff {o : OutFrame} : o.absorbs f = false ↔ ¬ (o.sending = false ∧ f.sameClass o.frame = true) := by
  rw [← OutFrame.absorbs_iff, Bool.not_eq_true]

theorem State.queueFrame_of_replaced (h : s.hlc.queue.any (·.absorbs f) = true) :
    s.queueFrame f = (s.bump .superseded).joinFrame f (replaceFrame f s.hlc.queue) := if_pos h

theorem State.queueFrame_of_room (h : s.hlc.queue.any (·.absorbs f) = false) (hl : s.hlc.queue.length < 8) :
    s.queueFrame f = s.joinFrame f (insertFrame (.fresh f) s.hlc.queue) := by
  rw [State.queueFrame, if_neg (by simp [h])]
  exact if_pos hl

theorem State.queueFrame_of_full (h : s.hlc.queue.any (·.absorbs f) = false) (hl : ¬ s.hlc.queue.length < 8) :
    s.queueFrame f = if f.kind < highestWaiting s.hlc.queue then
        ((s.bump .droppedFull).raiseEv .dropped).joinFrame f (insertFrame (.fresh f) (dropYoungest (highestWaiting s.hlc.queue) s.hlc.queue))
      else (s.bump .droppedFull).raiseEv .dropped := by
  rw [State.queueFrame, if_neg (by simp [h])]
  exact if_neg hl

theorem Tallied.joinFrame {t : State} {cs : List Ctr} {es : List Ev} (h : Tallied cs es s t) (hf : queuedCtr f ∉ cs) (q : List OutFrame) :
    Tallied (cs ++ [queuedCtr f]) es s (t.joinFrame f q) := by
  have hq : (t.setOutbound (q.map (·.overtakenBy f))).stu = t.stu := rfl
  exact (h.same hq).bump hf

theorem queuedCtr_ne (f : Frame) : queuedCtr f ≠ .superseded ∧ queuedCtr f ≠ .droppedFull := by cases f <;> simp [queuedCtr]

end

/-- Settles O30: the replaced frame, the frame with room, the frame that makes room, and the frame that finds none. -/
theorem frameJoinsTheOutboundQueue : Obligations.FrameJoinsTheOutboundQueue := by
  intro f g s hs hle hg
  have hg : g = fun o => o.overtakenBy f := by
    rw [hg]
    funext o
    simp only [OutFrame.overtakenBy, Bool.and_eq_true]
  have hne := queuedCtr_ne f
  refine ⟨fun n hn hat hbefore => ?_, fun hno => ?_, by simp [OnlyParts], by simp⟩
  · have habs : s.hlc.queue.any (·.absorbs f) = true :=
      List.any_eq_true.2 ⟨s.hlc.queue[n], List.getElem_mem hn, OutFrame.absorbs_iff.2 (hat _ (by simp [hn]))⟩
    rw [State.queueFrame_of_replaced habs, replaceFrame_eq_set hn (fun o ho => OutFrame.absorbs_iff.2 (hat o ho))
      fun m hm o ho => not_absorbs_iff.2 (hbefore m hm o ho)]
    have htally := ((Tallied.refl hs).bump (a := .superseded) (by simp)).joinFrame (f := f) (by simpa using hne.1)
      (s.hlc.queue.set n (.fresh f))
    exact ⟨by rw [hg]; rfl, htally.counted, htally.raised⟩
  · have habs : s.hlc.queue.any (·.absorbs f) = false := List.any_eq_false.2 fun o ho => by simp [not_absorbs_iff.2 (hno o ho)]
    refine ⟨fun hroom => ?_, fun hfull hhigh => ?_, fun hfull hlow => ?_⟩
    · rw [State.queueFrame_of_room habs hroom]
      obtain ⟨n, hn, he, hbefore, hbehind⟩ := insertFrame_split (.fresh f) s.hlc.queue
      have htally := (Tallied.refl hs).joinFrame (f := f) (by simp) (insertFrame (.fresh f) s.hlc.queue)
      refine ⟨⟨n, List.mem_range.2 (Nat.lt_succ_of_le hn), ?_, hbefore, hbehind⟩, htally.counted, htally.raised⟩
      rw [he, hg]
      rfl
    · rw [State.queueFrame_of_full habs (by omega), if_pos ((lt_highestWaiting_iff _ _).2 hhigh)]
      have hpos : 0 < highestWaiting s.hlc.queue := Nat.zero_lt_of_lt ((lt_highestWaiting_iff _ _).2 hhigh)
      obtain ⟨n, hn, he, ⟨o, ho, hw, hk⟩, hyounger⟩ := dropYoungest_eq_eraseIdx (exists_highestWaiting hpos)
      have hmax : ∀ p ∈ s.hlc.queue, p.sending = false → p.kind ≤ o.kind := fun p hp hpw =>
        hk ▸ kind_le_highestWaiting hp hpw
      have htally := (((Tallied.refl hs).bump (a := .droppedFull) (by simp)).raise .dropped).joinFrame (f := f) (by simpa using hne.2)
        (insertFrame (.fresh f) (dropYoungest (highestWaiting s.hlc.queue) s.hlc.queue))
      refine ⟨⟨n, List.mem_range.2 (hfull ▸ hn), ⟨o, ho, hw, ?_, hmax, fun p hp hpw => ?_⟩, ?_⟩, htally.counted, htally.raised⟩
      · exact hk ▸ (lt_highestWaiting_iff _ _).2 hhigh
      · exact lt_of_le_of_ne (hmax p (List.mem_of_mem_drop hp) hpw) fun e => hyounger p hp hpw (e.trans hk)
      · rw [hg, he]
        exact (insertFrame_perm (.fresh f) _).map _
    · have hnot : ¬ f.kind < highestWaiting s.hlc.queue := fun h => by
        obtain ⟨o, ho, hw, hk⟩ := (lt_highestWaiting_iff _ _).1 h
        exact absurd (hlow o ho hw) (not_le.2 hk)
      rw [State.queueFrame_of_full habs (by omega), if_neg hnot]
      have htally := ((Tallied.refl hs).bump (a := .droppedFull) (by simp)).raise .dropped
      exact ⟨rfl, htally.counted, htally.raised⟩

/-! ### Stale handovers (O29) -/

/-- Settles O29: the first stale frame leaves. -/
theorem staleHandoverLeavesTheQueue : Obligations.StaleHandoverLeavesTheQueue := by
  intro c n h x b ov s hc hs
  refine ⟨fun hat hfar hbefore => ?_, fun hnone => ⟨s, ?_, rfl⟩, rfl, rfl⟩
  · obtain ⟨hn, hget⟩ := List.getElem?_eq_some_iff.1 hat
    have hstale : staleFrame c s.btu.e s.hlc.queue[n] = true := by rw [hget]; exact decide_eq_true hfar
    have hidx : s.hlc.queue.findIdx? (staleFrame c s.btu.e) = some n := by
      refine List.findIdx?_eq_some_iff_getElem.2 ⟨hn, hstale, fun m hm => ?_⟩
      simpa using hbefore m hm s.hlc.queue[m] (by simp)
    have hany : s.hlc.queue.any (staleFrame c s.btu.e) = true := List.any_eq_true.2 ⟨_, List.getElem_mem hn, hstale⟩
    have herase : s.hlc.queue.eraseP (staleFrame c s.btu.e) = s.hlc.queue.eraseIdx n := by rw [List.eraseP_eq_eraseIdx, hidx]
    have htally := (((Tallied.refl hs).same (u := s.setOutbound (s.hlc.queue.eraseIdx n)) rfl).bump (a := .droppedStale) (by simp)).raise
      .dropped
    refine ⟨_, ?_, rfl, htally.counted, htally.raised, by simp [OnlyParts]⟩
    simp only [exec, execHandoverStale, hc, hany, if_true, herase]
  · have hany : s.hlc.queue.any (staleFrame c s.btu.e) = false := List.any_eq_false.2 fun o ho => by simp [hnone o ho]
    simp [exec, execHandoverStale, hc, hany]

/-! ### A received CHUTE_STATE (O43) -/

/-- What a CHUTE_STATE of another station's chute counts: another owner before, and another state before. -/
theorem Tallied.takeChuteState {s t : State} {c : StationConfig} {sender : Nat} {m : ChuteReport} {cs : List Ctr} {es : List Ev}
    (h : Tallied cs es s t) (hown : c.ownChute m.chute = false) (ho : .chuteOwnerChange ∉ cs) (hv : .viewChange ∉ cs) :
    Tallied (cs ++ (if (t.rrv.entry m.chute).owner ≠ 0 ∧ (t.rrv.entry m.chute).owner ≠ sender then [.chuteOwnerChange] else [])
        ++ if (t.rrv.entry m.chute).state ≠ m.state then [.viewChange] else [])
      (es ++ if (t.rrv.entry m.chute).owner ≠ 0 ∧ (t.rrv.entry m.chute).owner ≠ sender then [.chuteOwner] else [])
      s (t.takeChuteState c sender m) := by
  have hw : Tallied cs es s (t.writeView m.chute { state := m.state, owner := sender, fill := m.fill, capacity := m.capacity, age := 0 }) :=
    h.same rfl
  rw [State.takeChuteState, if_neg (Bool.eq_false_iff.1 hown)]
  simp only [Bool.and_eq_true, bne_iff_ne]
  split_ifs with h1 h2 h2
  · exact ((hw.bump ho).raise .chuteOwner).bump (by simpa using hv)
  · simpa using (hw.bump ho).raise .chuteOwner
  · simpa using hw.bump hv
  · simpa using hw

theorem State.takeChuteState_view {t : State} {c : StationConfig} {sender : Nat} {m : ChuteReport} (hown : c.ownChute m.chute = false) :
    (t.takeChuteState c sender m).rrv.view = t.rrv.view.set (m.chute - 1) ⟨m.state, sender, m.fill, m.capacity, 0⟩ := by
  rw [State.takeChuteState, if_neg (Bool.eq_false_iff.1 hown)]
  dsimp only
  split_ifs <;> simp

/-- Settles O43: a claim, or the entry with its owner and state compared. -/
theorem chuteStateWritesTheView : Obligations.ChuteStateWritesTheView := by
  intro c f m s hc ha h0 h63 hv hn hs hread
  have hlen : f.payload.length ≤ 20 := by have := (readChuteState_eq_some hread).1; omega
  have hexec : exec (.chuteState f) s = .next (((s.setObjection .none).bump .frameTaken).takeChuteState c f.sender.toNat m) := by
    simp only [exec, execChuteState, hc, hread, State.receive_good ha hlen h0 h63 hv hn]
  have htaken := ((Tallied.refl hs).same (u := s.setObjection .none) rfl).bump (a := .frameTaken) (by simp)
  refine ⟨fun hown => ⟨_, hexec, ?_⟩, fun hown => ⟨_, hexec, ?_⟩⟩
  · have htally := (htaken.bump (a := .chuteClaim) (by simp)).raise .chuteClaim
    simp only [State.takeChuteState, hown, if_true]
    exact ⟨htally.counted, htally.raised, rfl, by simp [OnlyParts]⟩
  · have htally := htaken.takeChuteState (sender := f.sender.toNat) hown (by simp) (by simp)
    refine ⟨State.takeChuteState_view hown, ?_, ?_, ?_, by simp, by simp [OnlyParts]⟩
    · rw [htally.counted]
      simp only [List.mem_append, List.mem_ite_nil_right]
      simp
    · rw [htally.raised]
      simp only [List.mem_append, List.mem_ite_nil_right]
      simp
    · rw [htally.counted]
      simp only [List.mem_append, List.mem_ite_nil_right]
      simp

end Sys2Proof.Machine
end

section
/-! OBLIGATION PROOF. The attempts of own frames and the line states (O47, O48). -/

namespace Sys2Proof.Machine

open Sys2Proof

/-! ### The frames of other kinds (R166) -/

section
variable {f : Frame}

/-- A frame of another kind is not marked. -/
theorem OutFrame.overtakenBy_of_kind_ne {o : OutFrame} (h : o.kind ≠ f.kind) : o.overtakenBy f = o := by
  have hc : f.sameClass o.frame = false := Bool.eq_false_iff.2 fun e => h (Frame.kind_eq_of_sameClass e).symm
  simp [OutFrame.overtakenBy, hc]

theorem filter_map_overtakenBy (f : Frame) (q : List OutFrame) :
    (q.map (·.overtakenBy f)).filter (fun o => o.kind != f.kind) = q.filter fun o => o.kind != f.kind := by
  induction q with
  | nil => rfl
  | cons x xs ih =>
    by_cases hx : x.kind = f.kind
    · simp [hx, ih]
    · simp [hx, ih, OutFrame.overtakenBy_of_kind_ne hx]

theorem filter_insertFrame (f : Frame) (q : List OutFrame) :
    (insertFrame (.fresh f) q).filter (fun o => o.kind != f.kind) = q.filter fun o => o.kind != f.kind := by
  induction q with
  | nil => simp [insertFrame]
  | cons x xs ih =>
    rw [insertFrame]
    split
    · rw [List.filter_cons, List.filter_cons, ih]
    · rw [List.filter_cons_of_neg (by simp)]

theorem filter_replaceFrame (f : Frame) (q : List OutFrame) :
    (replaceFrame f q).filter (fun o => o.kind != f.kind) = q.filter fun o => o.kind != f.kind := by
  induction q with
  | nil => rfl
  | cons x xs ih =>
    rw [replaceFrame]
    split
    · rename_i ha
      have hk : x.kind = f.kind := (Frame.kind_eq_of_sameClass (OutFrame.absorbs_iff.1 ha).2).symm
      rw [List.filter_cons_of_neg (by simp), List.filter_cons_of_neg (by simp [hk])]
    · rw [List.filter_cons, List.filter_cons, ih]

/-- In a queue with room the frames of other kinds stay, in their order. -/
theorem filter_enqueue {q : List OutFrame} (h : q.length < 8) :
    (enqueue f q).filter (fun o => o.kind != f.kind) = q.filter fun o => o.kind != f.kind := by
  unfold enqueue
  split
  · rw [filter_map_overtakenBy, filter_replaceFrame]
  · rw [if_pos (by simpa [maxFrames] using h), filter_map_overtakenBy, filter_insertFrame]

end

/-! ### The line states (R162, R163, R171) -/

section
variable {s : State}

/-- An entry into ACTIVE under new values of the line queues a SEGMENT_STATE and leaves the other frames. -/
theorem State.enterActive {s : State} (hs : SizeLaw s) {h : Hlc} (hq : h.queue = s.hlc.queue) :
    (s.setHlc h).queueSegmentState.hlc = { h with queue := (s.setHlc h).queueSegmentState.hlc.queue }
      ∧ (s.hlc.queue.length < 8 → Queued (.segmentState s.btu.v s.btu.speed s.btu.blockedFlag) (s.setHlc h).queueSegmentState
        ∧ (s.setHlc h).queueSegmentState.hlc.queue.filter (fun o => o.kind != 0) = s.hlc.queue.filter fun o => o.kind != 0)
      ∧ (s.setHlc h).queueSegmentState.btu = { s.btu with reportedV := s.btu.v }
      ∧ CountedBeside [] s (s.setHlc h).queueSegmentState ∧ OnlyParts [.btu, .hlc, .stu] s (s.setHlc h).queueSegmentState := by
  have hqueue : (s.setHlc h).queueSegmentState.hlc.queue = enqueue (.segmentState s.btu.v s.btu.speed s.btu.blockedFlag) s.hlc.queue := by
    rw [State.queueSegmentState_queue]
    simp [hq]
  have htally := ((TalliedBeside.refl hs).same (u := s.setHlc h) rfl).queueSegmentState
  refine ⟨?_, fun hroom => ⟨⟨.fresh _, ?_, rfl, rfl⟩, ?_⟩, ?_, htally.counted, by simp [OnlyParts]⟩
  · exact (State.queueFrame_hlc (s.setHlc h) _).trans (by rw [hqueue]; simp [hq])
  · rw [hqueue]
    exact enqueue_room hroom
  · rw [hqueue]
    exact filter_enqueue (f := .segmentState s.btu.v s.btu.speed s.btu.blockedFlag) hroom
  · simp [State.queueSegmentState]

end

/-- Settles O48: the three commands of the line state in the states where they act. -/
theorem lineStatesChange : Obligations.LineStatesChange := by
  intro s hs
  refine ⟨fun hl => ?_, fun hl => ?_, fun hl hd => ?_, fun hl hd => ?_⟩
  · obtain ⟨hhlc, hframes, hbtu, hcount, honly⟩ := State.enterActive hs (h := { s.hlc with line := .active, quietMs := none, tally := 0 }) rfl
    refine ⟨_, by simp only [exec, execQuietTimer, hl, if_true], ?_, ?_, ?_, hhlc, hframes, hbtu, hcount, honly⟩ <;> rw [hhlc]
  · have hacts : s.hlc.line.actsOn = true := by rcases hl with e | e | e <;> rw [e] <;> rfl
    have htally := ((Tallied.refl hs).same (u := s.setHlc { s.hlc with line := .lineFault, quietMs := none, objection := .none, tally := if s.hlc.line = .quiet then 0 else s.hlc.tally })
      rfl).bump (a := .lineFaultEntered) (by simp)
    exact ⟨_, by simp only [exec, execLineFault, hacts, if_true], rfl, htally.counted, htally.raised, by simp [OnlyParts]⟩
  · refine ⟨s.setHlc { s.hlc with line := .listenOnly }, ?_, rfl⟩
    rw [exec, execLineFaultExit, if_pos hl, if_pos hd]
  · obtain ⟨hhlc, hframes, hbtu, hcount, honly⟩ := State.enterActive hs (h := { s.hlc with line := .active }) rfl
    refine ⟨_, by simp only [exec, execLineFaultExit, hl, hd, if_true, Bool.false_eq_true, if_false], ?_, hhlc, hframes, hbtu, hcount, honly⟩
    rw [hhlc]

/-! ### Attempts (R155, R157, R158, R161) -/

section
variable {s t : State} {f : OutFrame} {rest : List OutFrame} {cs : List Ctr} {es : List Ev}

/-- A frame in the queue is in transmission. -/
theorem transmitting_iff : s.hlc.transmitting = true ↔ ∃ o ∈ s.hlc.queue, o.sending = true := by simp [Hlc.transmitting]

/-- A frame that waits again stands before the frames of its kind and of higher kinds (R166). -/
theorem State.waitAgain_queue (t : State) (f : OutFrame) (rest : List OutFrame) (b : Bool) : ∃ n < rest.length + 1,
    (t.waitAgain f rest b).hlc.queue = rest.take n ++ { f with sending := false, retried := b, overtaken := false } :: rest.drop n
      ∧ (∀ o ∈ rest.take n, o.kind < f.kind) ∧ ∀ o ∈ (rest.drop n).head?, f.kind ≤ o.kind := by
  obtain ⟨n, hn, h, hbefore, hbehind⟩ := reinsertFrame_split { f with sending := false, retried := b, overtaken := false } rest
  exact ⟨n, Nat.lt_succ_of_le hn, h, hbefore, hbehind⟩

theorem Tallied.waitAgain (h : Tallied cs es s t) (b : Bool) : Tallied cs es s (t.waitAgain f rest b) := h.same rfl

theorem Tallied.supersede (h : Tallied cs es s t) (hc : .superseded ∉ cs) : Tallied (cs ++ [.superseded]) es s (t.supersede rest) :=
  (h.same (u := t.setOutbound rest) rfl).bump hc

/-- The line as a third drop leaves it: QUIET, if it was ACTIVE (R161, R162). -/
theorem State.dropFailed_hlc (t : State) (rest : List OutFrame) : (t.dropFailed rest).hlc = { t.hlc with
    queue := rest, tally := min 3 (t.hlc.tally + 1), line := if (t.hlc.line = .active ∧ 2 ≤ t.hlc.tally) then .quiet else t.hlc.line
    quietMs := if (t.hlc.line = .active ∧ 2 ≤ t.hlc.tally) then some 0 else t.hlc.quietMs
    objection := if (t.hlc.line = .active ∧ 2 ≤ t.hlc.tally) then .none else t.hlc.objection } := by
  have hmin : 3 ≤ min 3 (t.hlc.tally + 1) ↔ 2 ≤ t.hlc.tally := by omega
  unfold State.dropFailed State.enterQuiet
  simp only [State.raiseEv_hlc, State.bump_hlc, State.setHlc_hlc, hmin]
  split <;> rfl

theorem Tallied.dropFailed (h : Tallied cs es s t) (hd : .droppedFailed ∉ cs) (hq : .quietEntered ∉ cs) :
    Tallied (if t.hlc.line = .active ∧ 2 ≤ t.hlc.tally then cs ++ [.droppedFailed] ++ [.quietEntered] else cs ++ [.droppedFailed])
      (es ++ [.dropped]) s (t.dropFailed rest) := by
  have hdropped := ((h.same (u := t.setHlc { t.hlc with queue := rest, tally := min 3 (t.hlc.tally + 1) }) rfl).bump hd).raise .dropped
  have hmin : 3 ≤ min 3 (t.hlc.tally + 1) ↔ 2 ≤ t.hlc.tally := by omega
  unfold State.dropFailed State.enterQuiet
  simp only [State.raiseEv_hlc, State.bump_hlc, State.setHlc_hlc, hmin]
  split
  · have hquiet : Tallied (cs ++ [.droppedFailed]) (es ++ [.dropped]) s (State.setHlc { t.hlc with
        line := .quiet, queue := rest, tally := min 3 (t.hlc.tally + 1), quietMs := some 0, objection := .none }
        (((t.setHlc { t.hlc with queue := rest, tally := min 3 (t.hlc.tally + 1) }).bump .droppedFailed).raiseEv .dropped)) :=
      hdropped.same rfl
    exact hquiet.bump (by simpa using hq)
  · exact hdropped

theorem Tallied.collide (h : Tallied cs es s t) (hc : .collision ∉ cs) :
    Tallied (cs ++ [.collision]) (es ++ [.collision]) s t.collide :=
  ((h.same (u := t.setObjection (if t.hlc.line = .active then .slot else .none)) rfl).bump hc).raise _

end

/-- Settles O47: the start of a frame, and the end of an attempt by its outcome. -/
theorem attemptsOfOwnFrames : Obligations.AttemptsOfOwnFrames := by
  intro c f rest read s hc hs hq
  have hs0 := Tallied.refl hs
  refine ⟨fun ha hw => ?_, fun hno => ⟨s, ?_, rfl⟩, fun hw => ⟨s, ?_, rfl⟩, fun hsend => ?_⟩
  · have ht : s.hlc.transmitting = false := by
      rw [Bool.eq_false_iff]
      intro h
      obtain ⟨o, ho, hos⟩ := transmitting_iff.1 h
      rw [hw o ho] at hos
      cases hos
    refine ⟨s.setHlc { s.hlc with queue := { f with sending := true, overtaken := false } :: rest, objection := .none }, ?_, rfl,
      by simp [OnlyParts]⟩
    simp only [exec, execFrameStart, hq]
    exact if_pos ⟨ha, ht⟩
  · have hn : ¬ (s.hlc.line = .active ∧ s.hlc.transmitting = false) := by
      rintro ⟨ha, ht⟩
      refine hno.elim (absurd ha) fun h => ?_
      rw [transmitting_iff.2 h] at ht
      cases ht
    simp only [exec, execFrameStart, hq, if_neg hn]
  · simp [exec, execAttemptEnd, hc, hq, hw]
  have hexec : ∀ o, judgeAttempt (frameBits f.kind c.station f.frame.payload) read = o →
      exec (.attemptEnd read) s = .next (s.endAttempt f rest o) := by
    rintro o rfl
    simp only [exec, execAttemptEnd, hc, hq, hsend, if_true]
    rfl
  have sent : judgeAttempt (frameBits f.kind c.station f.frame.payload) read = .sent → ∃ t, exec (.attemptEnd read) s = .next t
      ∧ t.hlc = { s.hlc with queue := rest, tally := 0 } ∧ Counted [.frameSent] s t ∧ Raised [] s t ∧ OnlyParts [.hlc, .stu] s t := by
    intro ho
    have htally := (hs0.same (u := s.setHlc { s.hlc with queue := rest, tally := 0 }) rfl).bump (a := .frameSent) (by simp)
    exact ⟨_, hexec _ ho, rfl, htally.counted, htally.raised, by simp [OnlyParts]⟩
  refine ⟨fun hread => sent (hread ▸ judgeAttempt_frameBits _ _ _), sent, fun ho => ?_, fun ho => ?_, fun ho => ?_⟩
  · have hlost := hs0.bump (a := .arbitrationLost) (by simp)
    refine ⟨fun hov => ⟨_, hexec _ ho, ?_⟩, fun hov => ⟨_, hexec _ ho, ?_⟩⟩ <;> simp only [State.endAttempt, State.attemptLost, hov]
    · have htally := hlost.supersede (rest := rest) (by simp)
      exact ⟨rfl, htally.counted, htally.raised, by simp [OnlyParts]⟩
    · have htally := hlost.waitAgain (f := f) (rest := rest) f.retried
      exact ⟨State.waitAgain_queue _ _ _ _, rfl, htally.counted, htally.raised, by simp [OnlyParts]⟩
  · have hobj := hs0.bump (a := .ownObjected) (by simp)
    refine ⟨fun hov => ⟨_, hexec _ ho, ?_⟩, fun hov hr => ⟨_, hexec _ ho, ?_⟩, fun hov hr => ⟨_, hexec _ ho, ?_⟩⟩ <;>
      simp only [State.endAttempt, State.attemptFailed, if_true, Bool.false_eq_true, if_false, *]
    · have htally := hobj.supersede (rest := rest) (by simp)
      exact ⟨rfl, htally.counted, htally.raised, by simp [OnlyParts]⟩
    · have htally := hobj.waitAgain (f := f) (rest := rest) true
      exact ⟨State.waitAgain_queue _ _ _ _, rfl, htally.counted, htally.raised, by simp [OnlyParts]⟩
    · have htally := hobj.dropFailed (rest := rest) (by simp) (by simp)
      exact ⟨State.dropFailed_hlc _ _, htally.counted, htally.raised, by simp [OnlyParts]⟩
  · have hcol := hs0.collide (by simp)
    refine ⟨fun hov => ⟨_, hexec _ ho, ?_⟩, fun hov hr => ⟨_, hexec _ ho, ?_⟩, fun hov hr => ⟨_, hexec _ ho, ?_⟩⟩ <;>
      simp only [State.endAttempt, State.attemptFailed, if_true, Bool.false_eq_true, if_false, *]
    · have htally := hcol.supersede (rest := rest) (by simp)
      exact ⟨rfl, htally.counted, htally.raised, by simp [OnlyParts]⟩
    · have htally := hcol.waitAgain (f := f) (rest := rest) true
      exact ⟨State.waitAgain_queue _ _ _ _, rfl, htally.counted, htally.raised, by simp [OnlyParts]⟩
    · have htally := hcol.dropFailed (rest := rest) (by simp) (by simp)
      exact ⟨State.dropFailed_hlc _ _, htally.counted, htally.raised, by simp [OnlyParts]⟩

end Sys2Proof.Machine
end

section
/-! OBLIGATION PROOF. The judgement of an image: the ranges of a VALID one and the reason of an INVALID one (O6, O7). -/

namespace Sys2Proof.Machine

open Sys2Proof

/-! ### The ranges (R177, R38, R98, R100, R111) -/

section
variable {c : StationConfig}

theorem rangeGood_of_routeGood (h : routeGood c = true) {g : Range} (hg : g ∈ c.ranges) : rangeGood c g = true := by
  simp only [routeGood, Bool.and_eq_true, List.all_eq_true] at h
  exact h.2 g hg

theorem sections_of_rolesGood (h : rolesGood c = true) (hr : c.reader = true ∨ c.desk = true) :
    c.readerSection.isSome ∧ c.ranges ≠ [] := by
  rcases hr with hr | hr <;> simpa [rolesGood, hr] using h

/-- The checks of a DIVERTER section hold of either diverter's. -/
theorem diverterGood_of_configGood (h : configGood c = true) {d : Div} {v : DiverterConfig} (hv : v ∈ c.diverter d) :
    diverterGood c v = true := by
  simp only [configGood, Bool.and_eq_true, Option.all_eq_true] at h
  obtain ⟨⟨-, h₀⟩, h₁⟩ := h
  cases d with
  | d0 => exact h₀ v hv
  | d1 => exact h₁ v hv

theorem chutes_of_chutesDiffer (h : chutesDiffer c = true) : ∀ v ∈ c.div0, ∀ w ∈ c.div1, v.chute ≠ w.chute := by
  intro v hv w hw
  simpa [chutesDiffer, Option.mem_def.1 hv, Option.mem_def.1 hw] using h

end

/-- Settles O7: a configuration judged VALID has passed every check, and each check gives its ranges. -/
theorem validImageIsWithinItsRanges : Obligations.ValidImageIsWithinItsRanges := by
  intro image c n h
  have hgood : configGood c = true := configGood_of_judged (by rw [h])
  have hdiv := fun d v => diverterGood_of_configGood (d := d) (v := v) hgood
  simp only [configGood, Bool.and_eq_true, Option.all_eq_true] at hgood
  obtain ⟨⟨⟨⟨⟨⟨⟨⟨hst, hgeo⟩, hsp⟩, hro⟩, hroles⟩, hch⟩, hrd⟩, -⟩, -⟩ := hgood
  have hrange := fun g => rangeGood_of_routeGood (g := g) hro
  simp only [stationGood, geometryGood, speedGood, routeGood, Bool.and_eq_true, decide_eq_true_eq] at hst hgeo hsp hro
  refine ⟨hst, by omega, hsp, hro.1, fun g hg => ?_, sections_of_rolesGood hroles, fun r hr => ?_, fun d v hv => ?_,
    chutes_of_chutesDiffer hch⟩
  · have hg := hrange g hg
    rw [rangeGood, decide_eq_true_eq] at hg
    obtain ⟨-, h₂, h₃, h₄, h₅, h₆, h₇⟩ := hg
    exact ⟨h₃, h₂, h₄, h₅, h₆, h₇⟩
  · have hr := hrd r hr
    simp only [readerGood, decide_eq_true_eq] at hr
    obtain ⟨-, h₂, h₃, h₄, h₅, h₆, h₇, h₈⟩ := hr
    exact ⟨h₇, h₂, h₃, h₄, h₅, h₆, h₈⟩
  · have hv := hdiv d v hv
    simp only [diverterGood, decide_eq_true_eq] at hv
    omega

/-! ### The reason (R175, R176) -/

/-- The used bytes with their places are the places with the bytes they hold. -/
theorem zipIdx_take_eq_map_range {img : List Byte} {n : Nat} (h : n ≤ img.length) :
    (img.take n).zipIdx = (List.range n).map fun k => (img.getD k 0, k) := by
  apply List.ext_getElem
  · simp [h]
  · intro i h₁ h₂
    have hi : i < img.length := by simp at h₁; omega
    simp [hi]

/-- The sum of R175, over the places. -/
theorem imageSum_eq {img : List Byte} (h : usedLength img ≤ img.length) :
    imageSum img = ((((List.range (usedLength img)).filter fun k => k ≠ 5 ∧ k ≠ 6).map fun k => (img.getD k 0).toNat).sum) % 65536 := by
  unfold imageSum
  rw [zipIdx_take_eq_map_range h, List.filter_map, List.map_map]
  refine congrArg (fun l : List Nat => (l.map fun k => (img.getD k 0).toNat).sum % 65536) (List.filter_congr fun k _ => ?_)
  rw [Bool.eq_iff_iff]
  simp

theorem judgeImage_of_header {img : List Byte} {r : BadReason} (h : judgeHeader img = some r) : judgeImage img = (.error r, 0) := by
  unfold judgeImage
  rw [h]

/-- Past the header every reason is BAD_VALUE. -/
theorem reason_of_header_good {img : List Byte} {r : BadReason} {n : Nat} (hh : judgeHeader img = none)
    (h : judgeImage img = (.error r, n)) : r = .badValue := by
  simp only [judgeImage, hh] at h
  split at h
  · cases h; rfl
  · split at h
    · cases h
    · cases h; rfl

section
variable {img : List Byte}

theorem judgeHeader_of_empty (h : ∀ b ∈ img, b = 0xFF) : judgeHeader img = some .noMemory :=
  if_pos (by simpa [List.all_eq_true] using h)

theorem all_eq_false_of_not_forall (h : ¬ ∀ b ∈ img, b = 0xFF) : (img.all (· == 0xFF)) = false := by
  simpa [List.all_eq_false] using h

theorem imageByte_eq_iff (i n : Nat) (hn : n < 256) : imageByte img i = n ↔ img.getD i 0 = BitVec.ofNat 8 n := by
  rw [imageByte, BitVec.toNat_eq, BitVec.toNat_ofNat, Nat.mod_eq_of_lt hn]

/-- The signature and the version (R175). -/
theorem signature_iff : (imageByte img 0 == 0xA5 && imageByte img 1 == 0x3C && imageByte img 2 == 1) = true
    ↔ img.getD 0 0 = 0xA5 ∧ img.getD 1 0 = 0x3C ∧ img.getD 2 0 = 1 := by
  simp only [Bool.and_eq_true, beq_iff_eq, and_assoc]
  rw [imageByte_eq_iff 0 _ (by decide), imageByte_eq_iff 1 _ (by decide), imageByte_eq_iff 2 _ (by decide)]
  rfl

theorem judgeHeader_of_signature (hff : ¬ ∀ b ∈ img, b = 0xFF)
    (h : ¬ (img.getD 0 0 = 0xA5 ∧ img.getD 1 0 = 0x3C ∧ img.getD 2 0 = 1)) : judgeHeader img = some .badSignature := by
  rw [← signature_iff] at h
  simp only [judgeHeader, all_eq_false_of_not_forall hff, Bool.eq_false_of_not_eq_true h]
  rfl

/-- With the signature in place the length and the check decide. -/
theorem judgeHeader_of_good (hlen : img.length = 256) (h : img.getD 0 0 = 0xA5 ∧ img.getD 1 0 = 0x3C ∧ img.getD 2 0 = 1) :
    judgeHeader img = if usedLength img < 8 || 256 < usedLength img then some .badValue
      else if imageWord img 5 != imageSum img then some .badCheck else none := by
  have hff : ¬ ∀ b ∈ img, b = 0xFF := by
    intro hall
    have h0 : img[0]'(by omega) = 0xA5 := by rw [← h.1]; simp [hlen]
    rw [hall _ (List.getElem_mem _)] at h0
    cases h0
  simp only [judgeHeader, all_eq_false_of_not_forall hff, signature_iff.2 h]
  rfl

end

/-! ### The load of an INVALID image (R178) -/

/-- A bump leaves every other counter, whatever the table's size. -/
theorem State.bump_ctr_of_ne (s : State) {a k : Ctr} (h : k ≠ a) : (s.bump a).ctr k = s.ctr k := by
  have hi : ¬ a.ctorIdx = k.ctorIdx := fun e => h (Ctr.idx_inj e.symm)
  simp [State.ctr, hi]

theorem State.bumpN_ctr_of_ne (s : State) {a k : Ctr} (h : k ≠ a) (n : Nat) : (s.bumpN a n).ctr k = s.ctr k := by
  induction n with
  | zero => rfl
  | succ n ih => exact (State.bump_ctr_of_ne _ h).trans ih

@[simp] theorem State.bumpN_events (s : State) (a : Ctr) (n : Nat) : (s.bumpN a n).stu.events = s.stu.events := by
  induction n with
  | zero => rfl
  | succ n ih => exact ih

/-- A count of skipped sections while OFFLINE raises no event bit (R176). -/
theorem State.countSkipped_of_offline {s : State} (h : s.hlc.line = .offline) (n : Nat) :
    s.countSkipped n = s.bumpN .sectionSkipped n := by
  simp [State.countSkipped, h]

/-- Settles O6: the header's steps in their order, then BAD_VALUE, and the load of any of them. -/
theorem invalidLoadNamesTheFirstFailure : Obligations.InvalidLoadNamesTheFirstFailure := by
  intro img r n s hlen
  refine ⟨fun h => judgeImage_of_header (judgeHeader_of_empty h), fun hff h => judgeImage_of_header (judgeHeader_of_signature hff h),
    fun hsig => ?_, fun hr hl hj hoff => ?_⟩
  · have hh := judgeHeader_of_good hlen hsig
    refine ⟨fun hused => judgeImage_of_header ?_, fun hused hsum => judgeImage_of_header ?_, fun hused hsum hj => ?_⟩
    · rw [hh, if_pos (by simp; omega)]
    · rw [← imageSum_eq (by omega)] at hsum
      rw [hh, if_neg (by simp; omega), if_pos (by simpa [imageWord, imageByte] using hsum)]
    · rw [← imageSum_eq (by omega)] at hsum
      exact reason_of_header_good (by rw [hh, if_neg (by simp; omega), if_neg (by simpa [imageWord, imageByte] using hsum)]) hj
  · refine ⟨(s.goInvalid r).bumpN .sectionSkipped n, ?_, ?_, ?_, fun k hk => ?_, ?_⟩
    · simp only [exec, execConfigurationLoadDone, hr, hl, hj, and_self, if_true]
      rw [State.countSkipped_of_offline (by exact hoff)]
    · simp [State.goInvalid]
    · simp [State.goInvalid]
    · exact (State.bumpN_ctr_of_ne _ hk n).trans rfl
    · simp [OnlyParts, State.goInvalid]

end Sys2Proof.Machine
end

section
/-! SUPPORT. What withdrawals make of the records, the grants and the counters (R117). -/

namespace Sys2Proof.Machine

open Sys2Proof

/-! ### Bumps of a saturating counter, by value -/

theorem State.bump_ctr_toNat {s : State} (h : s.stu.counters.length = 117) (a k : Ctr) :
    ((s.bump a).ctr k).toNat = min 65535 ((s.ctr k).toNat + if k = a then 1 else 0) := by
  have := (s.ctr k).isLt
  rw [State.bump_ctr h]
  split
  · exact satInc_toNat _
  · omega

/-! ### Records whose grants are withdrawn -/

/-- A record is WITHDRAWN when one of the grants is its own. -/
def SegRec.withdrawnBy (gs : List Grant) (r : SegRec) : SegRec := if gs.any (·.ref == r.ref) then { r with divert := .withdrawn } else r

section
variable {gs : List Grant} {r : SegRec}

@[simp] theorem SegRec.withdrawnBy_nil (r : SegRec) : r.withdrawnBy [] = r := rfl

@[simp] theorem SegRec.withdrawnBy_slot_ein (gs : List Grant) (r : SegRec) :
    (r.withdrawnBy gs).slot = r.slot ∧ (r.withdrawnBy gs).ein = r.ein ∧ (r.withdrawnBy gs).ref = r.ref := by
  unfold SegRec.withdrawnBy
  split <;> exact ⟨rfl, rfl, rfl⟩

/-- A withdrawal changes the divert status alone. -/
theorem SegRec.withdrawnBy_eq (gs : List Grant) (r : SegRec) : r.withdrawnBy gs = { r with divert := (r.withdrawnBy gs).divert } := by
  unfold SegRec.withdrawnBy
  split <;> rfl

theorem SegRec.withdrawnBy_divert (gs : List Grant) (r : SegRec) :
    (r.withdrawnBy gs).divert = if gs.any (·.ref == r.ref) then .withdrawn else r.divert := by
  unfold SegRec.withdrawnBy
  split <;> rfl

theorem SegRec.withdrawnBy_of_not_mem (h : ∀ g ∈ gs, g.ref ≠ r.ref) : r.withdrawnBy gs = r :=
  if_neg (by simpa using h)

theorem SegRec.withdrawnBy_append (gs hs : List Grant) (r : SegRec) : (r.withdrawnBy gs).withdrawnBy hs = r.withdrawnBy (gs ++ hs) := by
  simp only [SegRec.withdrawnBy, List.any_append]
  by_cases h : gs.any (·.ref == r.ref) = true
  · simp only [h, if_true, Bool.true_or]
    split <;> rfl
  · simp only [h]
    rfl

theorem map_withdrawnBy_nil (q : List SegRec) : q.map (SegRec.withdrawnBy []) = q :=
  (List.map_congr_left fun r _ => r.withdrawnBy_nil).trans (List.map_id' q)

theorem SegRec.withdrawnBy_singleton (g : Grant) (r : SegRec) :
    r.withdrawnBy [g] = if r.ref = g.ref then { r with divert := .withdrawn } else r := by
  by_cases h : r.ref = g.ref
  · simp [SegRec.withdrawnBy, h]
  · simp [SegRec.withdrawnBy, h, Ne.symm h]

end

/-! ### One diverter -/

/-- The withdrawal of each grant of a list in turn. -/
theorem withdrawEach_btu (k : Ctr) (gs : List Grant) (s : State) :
    (gs.foldl (fun t g => (t.updateRec g.ref fun r => { r with divert := .withdrawn }).bump k) s).btu
      = { s.btu with queue := s.btu.queue.map (SegRec.withdrawnBy gs) } := by
  induction gs generalizing s with
  | nil => rw [map_withdrawnBy_nil]; rfl
  | cons g gs ih =>
    rw [List.foldl_cons, ih]
    simp only [State.bump_btu, State.updateRec_btu, List.map_map]
    congr 1
    refine List.map_congr_left fun r _ => ?_
    rw [Function.comp_apply, ← SegRec.withdrawnBy_singleton, SegRec.withdrawnBy_append]
    rfl

/-- A change addressed to a record counts nothing but a late update. -/
theorem State.updateRec_ctr_of_ne (s : State) (ref : RecRef) (f : SegRec → SegRec) {a : Ctr} (h : a ≠ .lateUpdate) :
    (s.updateRec ref f).ctr a = s.ctr a := by
  unfold State.updateRec
  split
  · exact State.ctr_congr rfl a
  · exact State.bump_ctr_of_ne s h

@[simp] theorem State.updateRec_stu_lengths (s : State) (ref : RecRef) (f : SegRec → SegRec) :
    (s.updateRec ref f).stu.counters.length = s.stu.counters.length
      ∧ (s.updateRec ref f).stu.events.length = s.stu.events.length := by
  unfold State.updateRec
  split <;> simp

@[simp] theorem State.withdraw_stu_lengths (s : State) (d : Div) (k : Ctr) (p : Grant → Bool) :
    (s.withdraw d k p).stu.counters.length = s.stu.counters.length ∧ (s.withdraw d k p).stu.events.length = s.stu.events.length := by
  have h := foldl_keeps (fun t : State => (t.stu.counters.length, t.stu.events.length))
    (fun t (g : Grant) => (t.updateRec g.ref fun r => { r with divert := .withdrawn }).bump k) (by intro t a; simp)
    ((s.dvs.get d).grants.filter p) (s.setDiv d { s.dvs.get d with grants := (s.dvs.get d).grants.filter fun g => !p g })
  simpa [State.withdraw] using h

@[simp] theorem State.updateRec_ev (s : State) (ref : RecRef) (f : SegRec → SegRec) (e : Ev) : (s.updateRec ref f).ev e = s.ev e := by
  unfold State.updateRec
  split
  · exact State.ev_congr rfl e
  · rfl

theorem withdrawEach_ctr (k : Ctr) (gs : List Grant) {s : State} (hs : s.stu.counters.length = 117) {a : Ctr} (ha : a ≠ .lateUpdate) :
    ((gs.foldl (fun t g => (t.updateRec g.ref fun r => { r with divert := .withdrawn }).bump k) s).ctr a).toNat
      = min 65535 ((s.ctr a).toNat + if a = k then gs.length else 0) := by
  induction gs generalizing s with
  | nil =>
    have := (s.ctr a).isLt
    simp
    omega
  | cons g gs ih =>
    rw [List.foldl_cons, ih (by simpa using hs), State.bump_ctr_toNat (by simpa using hs), State.updateRec_ctr_of_ne s _ _ ha]
    split
    · rw [List.length_cons]; omega
    · omega

theorem withdrawEach_ev (k : Ctr) (gs : List Grant) (s : State) (e : Ev) :
    (gs.foldl (fun t g => (t.updateRec g.ref fun r => { r with divert := .withdrawn }).bump k) s).ev e = s.ev e :=
  foldl_keeps (fun t : State => t.ev e) _ (by intro t g; simp) gs s

section
variable {s : State}

theorem State.withdraw_btu (s : State) (d : Div) (k : Ctr) (p : Grant → Bool) :
    (s.withdraw d k p).btu = { s.btu with queue := s.btu.queue.map (SegRec.withdrawnBy ((s.dvs.get d).grants.filter p)) } :=
  withdrawEach_btu _ _ _

/-- A withdrawal counts each grant under its cause (R117). -/
theorem State.withdraw_ctr (hs : s.stu.counters.length = 117) (d : Div) (k : Ctr) (p : Grant → Bool) {a : Ctr} (ha : a ≠ .lateUpdate) :
    ((s.withdraw d k p).ctr a).toNat
      = min 65535 ((s.ctr a).toNat + if a = k then ((s.dvs.get d).grants.filter p).length else 0) :=
  withdrawEach_ctr k ((s.dvs.get d).grants.filter p)
    (s := s.setDiv d { s.dvs.get d with grants := (s.dvs.get d).grants.filter fun g => !p g }) hs ha

@[simp] theorem State.withdraw_ev (s : State) (d : Div) (k : Ctr) (p : Grant → Bool) (e : Ev) : (s.withdraw d k p).ev e = s.ev e :=
  withdrawEach_ev _ _ _ e

/-- A saturating counter that rises by nothing keeps its value. -/
theorem ctr_eq_of_toNat {s t : State} {a : Ctr} (h : (t.ctr a).toNat = min 65535 ((s.ctr a).toNat + 0)) : t.ctr a = s.ctr a := by
  have := (s.ctr a).isLt
  exact BitVec.eq_of_toNat_eq (by omega)

/-- Withdrawing where nothing is reached changes nothing. -/
theorem State.withdraw_of_none (d : Div) (k : Ctr) (p : Grant → Bool) (h : ∀ g ∈ (s.dvs.get d).grants, p g = false) :
    s.withdraw d k p = s := by
  have h₁ : (s.dvs.get d).grants.filter p = [] := by simpa using h
  have h₂ : ((s.dvs.get d).grants.filter fun g => !p g) = (s.dvs.get d).grants := by simpa using h
  simp only [State.withdraw, h₁, h₂, List.foldl_nil]
  cases d <;> rfl

/-! ### Both diverters -/

theorem State.withdrawBoth_btu (s : State) (k : Ctr) (p : Grant → Bool) :
    (s.withdrawBoth k p).btu
      = { s.btu with queue := s.btu.queue.map (SegRec.withdrawnBy ((s.dvs.d0.grants ++ s.dvs.d1.grants).filter p)) } := by
  simp only [State.withdrawBoth, State.withdraw_btu, State.withdraw_dvs, List.map_map, List.filter_append]
  congr 1
  exact List.map_congr_left fun r _ => SegRec.withdrawnBy_append _ _ r

theorem State.withdrawBoth_get (s : State) (k : Ctr) (p : Grant → Bool) (d : Div) :
    (s.withdrawBoth k p).dvs.get d = { s.dvs.get d with grants := (s.dvs.get d).grants.filter fun g => !p g } := by
  cases d <;> simp [State.withdrawBoth, Dvs.get, Dvs.put]

theorem State.withdrawBoth_ctr (hs : s.stu.counters.length = 117) (k : Ctr) (p : Grant → Bool) {a : Ctr} (ha : a ≠ .lateUpdate) :
    ((s.withdrawBoth k p).ctr a).toNat
      = min 65535 ((s.ctr a).toNat + if a = k then ((s.dvs.d0.grants ++ s.dvs.d1.grants).filter p).length else 0) := by
  unfold State.withdrawBoth
  rw [State.withdraw_ctr (by simpa using hs) _ _ _ ha, State.withdraw_ctr hs _ _ _ ha]
  simp only [State.withdraw_dvs, List.filter_append, List.length_append]
  split
  · simp only [Dvs.get, Dvs.put]; omega
  · omega

@[simp] theorem State.withdrawBoth_ev (s : State) (k : Ctr) (p : Grant → Bool) (e : Ev) : (s.withdrawBoth k p).ev e = s.ev e := by
  simp [State.withdrawBoth]

end

end Sys2Proof.Machine
end

section
/-! SUPPORT. The change of one record: what tells the diverters of its destination and what an offered reason make of the station
(R117, R145, R146, R149). -/

namespace Sys2Proof.Machine

open Sys2Proof

/-! ### The frames of the statements, composed -/

section
variable {s t u : State} {ps qs : List Part} {refs : List RecRef}

theorem OnlyParts.refl (ps : List Part) (s : State) : OnlyParts ps s s :=
  ⟨rfl, .inr rfl, .inr rfl, .inr rfl, .inr rfl, .inr rfl, .inr rfl, .inr rfl, .inr rfl, .inr rfl⟩

theorem OnlyParts.trans (h : OnlyParts ps s t) (h' : OnlyParts qs t u) : OnlyParts (ps ++ qs) s u := by
  obtain ⟨h0, h1, h2, h3, h4, h5, h6, h7, h8, h9⟩ := h
  obtain ⟨k0, k1, k2, k3, k4, k5, k6, k7, k8, k9⟩ := h'
  have both : ∀ {α : Type} {g : State → α} {p : Part}, (p ∈ ps ∨ g t = g s) → (p ∈ qs ∨ g u = g t) → p ∈ ps ++ qs ∨ g u = g s := by
    intro α g p ha hb
    rcases ha with ha | ha
    · exact .inl (List.mem_append_left _ ha)
    · exact hb.imp (List.mem_append_right _) fun hb => hb.trans ha
  exact ⟨k0.trans h0, both h1 k1, both h2 k2, both h3 k3, both h4 k4, both h5 k5, both h6 k6, both h7 k7, both h8 k8, both h9 k9⟩

theorem OnlyParts.mono (h : OnlyParts ps s t) (hpq : ps ⊆ qs) : OnlyParts qs s t := by
  obtain ⟨h0, h1, h2, h3, h4, h5, h6, h7, h8, h9⟩ := h
  exact ⟨h0, h1.imp_left (hpq ·), h2.imp_left (hpq ·), h3.imp_left (hpq ·), h4.imp_left (hpq ·), h5.imp_left (hpq ·),
    h6.imp_left (hpq ·), h7.imp_left (hpq ·), h8.imp_left (hpq ·), h9.imp_left (hpq ·)⟩

theorem OnlyRecords.refl (refs : List RecRef) (s : State) : OnlyRecords refs s s := ⟨rfl, fun _ h _ => h⟩

theorem OnlyRecords.trans (h : OnlyRecords refs s t) (h' : OnlyRecords refs t u) : OnlyRecords refs s u :=
  ⟨h'.1.trans h.1, fun q hq hn => h'.2 q (h.2 q hq hn) hn⟩

/-- A change of each record that leaves every name, and every record not named. -/
theorem OnlyRecords.of_map {f : SegRec → SegRec} (hq : t.btu.queue = s.btu.queue.map f) (hf : ∀ r, (f r).ref = r.ref)
    (hn : ∀ r ∈ s.btu.queue, r.ref ∉ refs → f r = r) : OnlyRecords refs s t := by
  refine ⟨?_, fun q hm hr => ?_⟩
  · rw [hq, List.map_map]
    exact List.map_congr_left fun r _ => hf r
  · rw [hq]
    exact List.mem_map.2 ⟨q, hm, hn q hm hr⟩

/-- A record is found where the changed queue has it. -/
theorem State.findRec_of_map {f : SegRec → SegRec} (hq : t.btu.queue = s.btu.queue.map f) (hf : ∀ r, (f r).ref = r.ref) (ref : RecRef) :
    t.findRec ref = (s.findRec ref).map f := by
  unfold State.findRec
  rw [hq, List.find?_map]
  congr 2
  funext r
  simp [hf]

theorem State.findRec_congr (h : t.btu.queue = s.btu.queue) (ref : RecRef) : t.findRec ref = s.findRec ref := by
  unfold State.findRec
  rw [h]

theorem State.mapRec_queue (s : State) (ref : RecRef) (f : SegRec → SegRec) :
    (s.mapRec ref f).btu.queue = s.btu.queue.map fun r => if r.ref = ref then f r else r := rfl

/-- From s to t only the records named have changed, the grants, and what counting and queuing frames move. -/
structure Confined (refs : List RecRef) (s t : State) : Prop where
  records : OnlyRecords refs s t
  btu : t.btu = { s.btu with queue := t.btu.queue }
  frames : OnlyFrames s t
  grants : OnlyGrants s t
  parts : OnlyParts [.btu, .dvs, .hlc, .stu] s t

theorem Confined.trans (h : Confined refs s t) (h' : Confined refs t u) : Confined refs s u where
  records := h.records.trans h'.records
  btu := by rw [h'.btu, h.btu]
  frames := by
    have h₁ := h.frames
    have h₂ := h'.frames
    unfold OnlyFrames at *
    rw [h₂, h₁]
  grants d := by rw [h'.grants d, h.grants d]
  parts := (h.parts.trans h'.parts).mono (by decide)

theorem Confined.refl (refs : List RecRef) (s : State) : Confined refs s s :=
  ⟨.refl _ s, rfl, rfl, fun _ => rfl, .refl _ s⟩

/-- A change of the counters and event bits alone. -/
theorem Confined.of_stu (refs : List RecRef) (s : State) (x : Stu) : Confined refs s { s with stu := x } :=
  ⟨⟨rfl, fun _ h _ => h⟩, rfl, rfl, fun _ => rfl, by simp [OnlyParts]⟩

theorem Confined.bump (h : Confined refs s t) (k : Ctr) : Confined refs s (t.bump k) := h.trans (.of_stu _ _ _)

theorem Confined.raise (h : Confined refs s t) (e : Ev) : Confined refs s (t.raiseEv e) := h.trans (.of_stu _ _ _)

theorem Confined.queueFrame (h : Confined refs s t) (f : Frame) : Confined refs s (t.queueFrame f) := by
  refine h.trans ⟨⟨by simp, fun q hq _ => by simpa using hq⟩, by simp, ?_, fun d => by simp, by simp [OnlyParts]⟩
  unfold OnlyFrames
  rw [State.queueFrame_hlc]

/-- A change of one record that keeps its name. -/
theorem Confined.mapRec {ref : RecRef} {f : SegRec → SegRec} (h : Confined refs s t) (hf : ∀ r, (f r).ref = r.ref) (hm : ref ∈ refs) :
    Confined refs s (t.mapRec ref f) := by
  refine h.trans ⟨.of_map (State.mapRec_queue _ _ _) (fun r => ?_) fun r _ hn => ?_, rfl, rfl, fun d => rfl, by simp [OnlyParts]⟩
  · split <;> simp [hf]
  · exact if_neg fun e : r.ref = ref => hn (e ▸ hm)

theorem Confined.takePoint (h : Confined refs s t) (p : Point) {ref : RecRef} (hm : ref ∈ refs) : Confined refs s (t.takePoint p ref) :=
  h.mapRec (fun _ => rfl) hm

/-- A withdrawal of grants of the records named. -/
theorem Confined.withdraw (h : Confined refs s t) (d : Div) (k : Ctr) {p : Grant → Bool}
    (hp : ∀ g ∈ (t.dvs.get d).grants, p g = true → g.ref ∈ refs) : Confined refs s (t.withdraw d k p) := by
  refine h.trans ⟨?_, by rw [State.withdraw_btu], by unfold OnlyFrames; simp, fun e => ?_, by simp [OnlyParts]⟩
  · refine .of_map (by rw [State.withdraw_btu]) (fun r => by simp) fun r _ hn => SegRec.withdrawnBy_of_not_mem fun g hg e => ?_
    rw [List.mem_filter] at hg
    exact hn (e ▸ hp g hg.1 hg.2)
  · rw [State.withdraw_dvs, Dvs.get_put]
    split
    · subst e; rfl
    · rfl

end

/-! ### Telling the diverters of a destination (R117) -/

/-- The destination is none of a diverter's chute. -/
def leavesChute (c : StationConfig) (dest : Option Nat) (d : Div) : Bool := (c.diverter d).any fun v => some v.chute != dest

/-- The grants that a record loses when it is bound for a destination. -/
def State.lostGrants (c : StationConfig) (ref : RecRef) (dest : Option Nat) (s : State) (d : Div) : List Grant :=
  (s.dvs.get d).grants.filter fun g => leavesChute c dest d && g.ref == ref

section
variable {s : State} {c : StationConfig} {ref : RecRef} {dest : Option Nat}

theorem State.tellDestination_eq (s : State) (c : StationConfig) (ref : RecRef) (dest : Option Nat) :
    s.tellDestination c ref dest
      = (s.withdraw .d0 .withdrawnDestination fun g => leavesChute c dest .d0 && g.ref == ref).withdraw .d1 .withdrawnDestination
          fun g => leavesChute c dest .d1 && g.ref == ref := by
  have one : ∀ (d : Div) (t : State), (if (c.diverter d).any (fun v => some v.chute != dest) = true
      then t.withdraw d .withdrawnDestination (·.ref == ref) else t)
        = t.withdraw d .withdrawnDestination fun g => leavesChute c dest d && g.ref == ref := by
    intro d t
    split
    · rename_i h
      simp only [leavesChute, h, Bool.true_and]
    · rename_i h
      exact (State.withdraw_of_none d _ _ fun g _ => by simp [leavesChute, h]).symm
  simp only [State.tellDestination, one]

theorem ref_of_mem_lostGrants {d : Div} {g : Grant} (h : g ∈ s.lostGrants c ref dest d) : g.ref = ref := by
  simp only [State.lostGrants, List.mem_filter, Bool.and_eq_true, beq_iff_eq] at h
  exact h.2.2

theorem State.tellDestination_btu (s : State) (c : StationConfig) (ref : RecRef) (dest : Option Nat) :
    (s.tellDestination c ref dest).btu
      = { s.btu with queue := s.btu.queue.map (SegRec.withdrawnBy (s.lostGrants c ref dest .d0 ++ s.lostGrants c ref dest .d1)) } := by
  simp only [State.tellDestination_eq, State.withdraw_btu, State.withdraw_dvs, List.map_map, State.lostGrants]
  congr 1
  exact List.map_congr_left fun r _ => SegRec.withdrawnBy_append _ _ r

theorem State.tellDestination_grants (s : State) (c : StationConfig) (ref : RecRef) (dest : Option Nat) (d : Div) :
    (s.tellDestination c ref dest).dvs.get d
      = { s.dvs.get d with grants := (s.dvs.get d).grants.filter fun g => !(leavesChute c dest d && g.ref == ref) } := by
  cases d <;> simp [State.tellDestination_eq, Dvs.get, Dvs.put]

theorem State.tellDestination_ctr (hs : s.stu.counters.length = 117) (c : StationConfig) (ref : RecRef) (dest : Option Nat) {a : Ctr}
    (ha : a ≠ .lateUpdate) :
    ((s.tellDestination c ref dest).ctr a).toNat = min 65535 ((s.ctr a).toNat + if a = .withdrawnDestination
      then (s.lostGrants c ref dest .d0).length + (s.lostGrants c ref dest .d1).length else 0) := by
  rw [State.tellDestination_eq, State.withdraw_ctr (by simpa using hs) _ _ _ ha, State.withdraw_ctr hs _ _ _ ha]
  simp only [State.withdraw_dvs, State.lostGrants]
  split
  · simp only [Dvs.get, Dvs.put]; omega
  · omega

theorem State.tellDestination_ctr_of_ne (hs : s.stu.counters.length = 117) (c : StationConfig) (ref : RecRef) (dest : Option Nat)
    {a : Ctr} (ha : a ≠ .lateUpdate) (hw : a ≠ .withdrawnDestination) : (s.tellDestination c ref dest).ctr a = s.ctr a := by
  have h := State.tellDestination_ctr hs c ref dest ha
  rw [if_neg hw] at h
  exact ctr_eq_of_toNat h

@[simp] theorem State.tellDestination_ev (s : State) (c : StationConfig) (ref : RecRef) (dest : Option Nat) (e : Ev) :
    (s.tellDestination c ref dest).ev e = s.ev e := by
  simp [State.tellDestination_eq]

@[simp] theorem State.tellDestination_stu_lengths (s : State) (c : StationConfig) (ref : RecRef) (dest : Option Nat) :
    (s.tellDestination c ref dest).stu.counters.length = s.stu.counters.length
      ∧ (s.tellDestination c ref dest).stu.events.length = s.stu.events.length := by
  simp [State.tellDestination_eq]

theorem Confined.tellDestination {t : State} {refs : List RecRef} (h : Confined refs s t) (c : StationConfig) (dest : Option Nat)
    (hm : ref ∈ refs) : Confined refs s (t.tellDestination c ref dest) := by
  rw [State.tellDestination_eq]
  have named : ∀ (d : Div) (g : Grant), (leavesChute c dest d && g.ref == ref) = true → g.ref ∈ refs := by
    intro d g hg
    simp only [Bool.and_eq_true, beq_iff_eq] at hg
    rwa [hg.2]
  exact (h.withdraw _ _ fun g _ => named _ g).withdraw _ _ fun g _ => named _ g

/-- The record told of, as it is found afterwards. -/
theorem State.findRec_tellDestination (s : State) (c : StationConfig) (ref : RecRef) (dest : Option Nat) (a : RecRef) :
    (s.tellDestination c ref dest).findRec a
      = (s.findRec a).map (SegRec.withdrawnBy (s.lostGrants c ref dest .d0 ++ s.lostGrants c ref dest .d1)) :=
  State.findRec_of_map (by rw [State.tellDestination_btu]) (fun r => (SegRec.withdrawnBy_slot_ein _ r).2.2) a

end

/-! ### An offered reason (R145, R146) -/

/-- A record with a reason that has taken, bound for the problem chute (R145). -/
def SegRec.strayed (c : StationConfig) (x : Reason) (r : SegRec) : SegRec := { r with reason := some x, dest := some c.problem }

/-- What an offer makes of the record's reason and destination (R145, R146). -/
def SegRec.offered (c : StationConfig) (x : Reason) (r : SegRec) : SegRec :=
  if offerTakes r.reason x then r.strayed c x else r

/-- The counter that an offer moves, by the reason held (R146). -/
def offerCtr (held : Option Reason) (x : Reason) : Ctr :=
  if offerTakes held x then (if held.isNone then .straySet else .strayReplaced) else .strayKept

section
variable {s t : State} {c : StationConfig} {ref : RecRef} {r : SegRec} {x : Reason}

theorem offerTakes_of_not_hard (h : x.hard = false) (held : Option Reason) : offerTakes held x = held.isNone := by
  cases held <;> simp [offerTakes, h]

/-- A hard reason takes where no reason or a soft one is held (R146). -/
theorem offerTakes_eq_all_soft (h : x.hard = true) (held : Option Reason) : offerTakes held x = held.all Reason.soft := by
  cases held <;> simp [offerTakes, h]

/-- An offer that takes (R145, R149). -/
theorem State.offer_of_takes (h : s.findRec ref = some r) (ht : offerTakes r.reason x = true) : s.offer c ref x =
    ((((s.mapRec ref (SegRec.strayed c x)).bump (offerCtr r.reason x)).tellDestination c ref
        (some c.problem)).queueFrame (.strayNotice ⟨x, r.ident, r.passes, orZero r.dest, r.origin⟩)) := by
  simp only [State.offer, h, ht, offerCtr, if_true]
  rfl

/-- An offer that the held reason keeps out (R146). -/
theorem State.offer_of_kept (h : s.findRec ref = some r) (ht : offerTakes r.reason x = false) : s.offer c ref x = s.bump .strayKept := by
  simp [State.offer, h, ht]

theorem Confined.offer {refs : List RecRef} (h : Confined refs s t) (c : StationConfig) (x : Reason) (hm : ref ∈ refs) :
    Confined refs s (t.offer c ref x) := by
  cases hf : t.findRec ref with
  | none =>
    simp only [State.offer, hf]
    exact h.bump _
  | some r =>
    cases ht : offerTakes r.reason x with
    | true =>
      rw [State.offer_of_takes hf ht]
      exact (((h.mapRec (f := SegRec.strayed c x) (fun _ => rfl) hm).bump _).tellDestination c _ hm).queueFrame _
    | false =>
      rw [State.offer_of_kept hf ht]
      exact h.bump _

@[simp] theorem State.offer_stu_lengths (s : State) (c : StationConfig) (ref : RecRef) (x : Reason) :
    (s.offer c ref x).stu.counters.length = s.stu.counters.length ∧ (s.offer c ref x).stu.events.length = s.stu.events.length := by
  unfold State.offer
  split
  · simp
  · split <;> simp

/-- An offer that takes changes the record's reason and destination, and withdraws its grants at the diverters of other chutes. -/
theorem State.offer_queue_of_takes (h : s.findRec ref = some r) (ht : offerTakes r.reason x = true) :
    (s.offer c ref x).btu.queue = s.btu.queue.map fun q =>
      (if q.ref = ref then q.strayed c x else q).withdrawnBy
        (s.lostGrants c ref (some c.problem) .d0 ++ s.lostGrants c ref (some c.problem) .d1) := by
  rw [State.offer_of_takes h ht, (State.queueFrame_frame _ _).2.2.2.1, State.tellDestination_btu]
  simp only [State.bump_btu, State.mapRec_btu, List.map_map]
  rfl

theorem SegRec.offered_withdrawnBy_ref (c : StationConfig) (x : Reason) (ref : RecRef) (gs : List Grant) (q : SegRec) :
    ((if q.ref = ref then q.strayed c x else q).withdrawnBy gs).ref = q.ref := by
  rw [(SegRec.withdrawnBy_slot_ein gs _).2.2]
  split <;> rfl

/-- The record after the offer; its divert status follows the grants that it has lost. -/
theorem State.findRec_offer (h : s.findRec ref = some r) (c : StationConfig) (x : Reason) :
    ∃ v, (s.offer c ref x).findRec ref = some { r.offered c x with divert := v } := by
  cases ht : offerTakes r.reason x with
  | true =>
    rw [State.findRec_of_map (State.offer_queue_of_takes h ht) (SegRec.offered_withdrawnBy_ref c x ref _), h, Option.map_some,
      if_pos (State.findRec_some h).2, SegRec.withdrawnBy_eq]
    exact ⟨_, by rw [SegRec.offered, if_pos ht]⟩
  | false =>
    rw [State.offer_of_kept h ht]
    exact ⟨r.divert, h.trans (by simp [SegRec.offered, ht])⟩

theorem State.lostGrants_eq_nil (h : ∀ d, ∀ g ∈ (s.dvs.get d).grants, g.ref ≠ ref) (c : StationConfig) (dest : Option Nat) (d : Div) :
    s.lostGrants c ref dest d = [] := by
  simp only [State.lostGrants, List.filter_eq_nil_iff, Bool.and_eq_true, beq_iff_eq]
  exact fun g hm hc => h d g hm hc.2

/-- Without a grant of its own the record's divert status stays. -/
theorem State.findRec_offer_of_no_grant (h : s.findRec ref = some r) (hg : ∀ d, ∀ g ∈ (s.dvs.get d).grants, g.ref ≠ ref)
    (c : StationConfig) (x : Reason) : (s.offer c ref x).findRec ref = some (r.offered c x) := by
  cases ht : offerTakes r.reason x with
  | true =>
    rw [State.findRec_of_map (State.offer_queue_of_takes h ht) (SegRec.offered_withdrawnBy_ref c x ref _), h, Option.map_some,
      if_pos (State.findRec_some h).2, State.lostGrants_eq_nil hg, State.lostGrants_eq_nil hg]
    simp [SegRec.offered, SegRec.strayed, ht]
  | false =>
    rw [State.offer_of_kept h ht]
    exact h.trans (by simp [SegRec.offered, ht])

/-- A record of another name is found as it was. -/
theorem State.findRec_offer_of_ne {a : RecRef} (ha : a ≠ ref) (s : State) (c : StationConfig) (x : Reason) :
    (s.offer c ref x).findRec a = s.findRec a := by
  cases h : s.findRec ref with
  | none =>
    simp only [State.offer, h]
    rfl
  | some r =>
    cases ht : offerTakes r.reason x with
    | false => rw [State.offer_of_kept h ht]; rfl
    | true =>
      rw [State.findRec_of_map (State.offer_queue_of_takes h ht) (SegRec.offered_withdrawnBy_ref c x ref _)]
      cases hf : s.findRec a with
      | none => rfl
      | some q =>
        have hq : q.ref = a := (State.findRec_some hf).2
        have hne : ¬ q.ref = ref := hq ▸ ha
        rw [Option.map_some, if_neg hne, SegRec.withdrawnBy_of_not_mem]
        intro g hg
        rcases List.mem_append.1 hg with hg | hg
        all_goals rw [ref_of_mem_lostGrants hg]; exact Ne.symm hne

/-- An offer to a record counts once, under its outcome; a grant that it takes counts as withdrawn. -/
theorem State.offer_ctr (hs : s.stu.counters.length = 117) (h : s.findRec ref = some r) (c : StationConfig) (x : Reason) {a : Ctr}
    (ha : a ≠ .lateUpdate) (hw : a ≠ .withdrawnDestination) (hq : a.ofQueue = false) :
    (s.offer c ref x).ctr a = if a = offerCtr r.reason x then satInc (s.ctr a) else s.ctr a := by
  cases ht : offerTakes r.reason x with
  | true =>
    rw [State.offer_of_takes h ht, State.queueFrame_ctr (by simpa using hs) _ hq,
      State.tellDestination_ctr_of_ne (by simpa using hs) _ _ _ ha hw, State.bump_ctr (by exact hs)]
    rfl
  | false =>
    rw [State.offer_of_kept h ht, State.bump_ctr hs]
    simp only [offerCtr, ht]
    rfl

theorem State.offer_ctr_of_ne (hs : s.stu.counters.length = 117) (h : s.findRec ref = some r) (c : StationConfig) (x : Reason) {a : Ctr}
    (ha : a ≠ .lateUpdate) (hw : a ≠ .withdrawnDestination) (hq : a.ofQueue = false) (hst : a ≠ .straySet) (hr : a ≠ .strayReplaced)
    (hk : a ≠ .strayKept) : (s.offer c ref x).ctr a = s.ctr a := by
  rw [State.offer_ctr hs h c x ha hw hq, if_neg]
  unfold offerCtr
  split_ifs <;> assumption

theorem State.offer_ev (hs : s.stu.events.length = 33) (c : StationConfig) (ref : RecRef) (x : Reason) {e : Ev} (he : e ≠ .dropped) :
    (s.offer c ref x).ev e = s.ev e := by
  unfold State.offer
  split
  · rfl
  · split
    · rw [State.queueFrame_ev (by simpa using hs) _ he, State.tellDestination_ev, State.bump_ev]
      rfl
    · rfl

/-! ### The offer in the terms of the statements (R146, R149) -/

theorem StrayCounted.of_same (h : ∀ k, k = .straySet ∨ k = .strayReplaced ∨ k = .strayKept → t.ctr k = s.ctr k) :
    StrayCounted [] s t := by
  have h₁ := (s.ctr .straySet).isLt
  have h₂ := (s.ctr .strayReplaced).isLt
  have h₃ := (s.ctr .strayKept).isLt
  refine ⟨?_, ?_, ?_⟩
  · rw [h _ (.inl rfl)]; simp; omega
  · rw [h _ (.inr (.inl rfl))]; simp; omega
  · rw [h _ (.inr (.inr rfl))]; simp; omega

theorem StrayCounted.trans {u : State} {xs ys : List (Option Reason × Reason)} (h : StrayCounted xs s t) (h' : StrayCounted ys t u) :
    StrayCounted (xs ++ ys) s u := by
  obtain ⟨h₁, h₂, h₃⟩ := h
  obtain ⟨k₁, k₂, k₃⟩ := h'
  refine ⟨?_, ?_, ?_⟩
  · rw [k₁, h₁, List.filter_append, List.length_append]; omega
  · rw [k₂, h₂, List.filter_append, List.length_append]; omega
  · rw [k₃, h₃, List.filter_append, List.length_append]; omega

/-- The counters of R146 are the same in the states compared. -/
theorem StrayCounted.congr {s' t' : State} {xs : List (Option Reason × Reason)} (h : StrayCounted xs s t)
    (hs : ∀ k, k = .straySet ∨ k = .strayReplaced ∨ k = .strayKept → s.ctr k = s'.ctr k)
    (ht : ∀ k, k = .straySet ∨ k = .strayReplaced ∨ k = .strayKept → t'.ctr k = t.ctr k) : StrayCounted xs s' t' := by
  unfold StrayCounted at *
  rw [ht _ (.inl rfl), ht _ (.inr (.inl rfl)), ht _ (.inr (.inr rfl)), ← hs _ (.inl rfl), ← hs _ (.inr (.inl rfl)), ← hs _ (.inr (.inr rfl))]
  exact h

theorem StrayCounted.offer (hs : s.stu.counters.length = 117) (h : s.findRec ref = some r) (c : StationConfig) (x : Reason) :
    StrayCounted [(r.reason, x)] s (s.offer c ref x) := by
  have value : ∀ a : Ctr, a ≠ .lateUpdate → a ≠ .withdrawnDestination → a.ofQueue = false →
      ((s.offer c ref x).ctr a).toNat = min 65535 ((s.ctr a).toNat + if a = offerCtr r.reason x then 1 else 0) := by
    intro a ha hw hq
    have := (s.ctr a).isLt
    rw [State.offer_ctr hs h c x ha hw hq]
    split
    · exact satInc_toNat _
    · omega
  unfold StrayCounted
  rw [value _ (by decide) (by decide) rfl, value _ (by decide) (by decide) rfl, value _ (by decide) (by decide) rfl]
  cases hr : r.reason with
  | none => simp [offerCtr, offerTakes]
  | some y => cases hy : y.soft <;> cases hx : x.hard <;> simp [offerCtr, offerTakes, hy, hx]

theorem strayNoticed_offer (h : s.findRec ref = some r) (c : StationConfig) (x : Reason) : StrayNoticed r x s (s.offer c ref x) := by
  refine ⟨fun ht hroom => ?_, fun ht => ?_⟩
  · rw [← offerTakes_iff] at ht
    rw [State.offer_of_takes h ht]
    exact ⟨.fresh _, by rw [State.queueFrame_queue]; exact enqueue_room (by simpa using hroom), rfl, rfl⟩
  · rw [← offerTakes_iff, Bool.not_eq_true] at ht
    rw [State.offer_of_kept h ht]
    rfl

end

end Sys2Proof.Machine
end

section
/-! OBLIGATION PROOF. The points that a record reaches: the late grace end, the read decision, the long-bag point and the commit
(O21, O22, O23, O24). -/

namespace Sys2Proof.Machine

open Sys2Proof

section
variable {s t : State} {c : StationConfig} {r : SegRec} {p : Point}

/-! ### Taking a point (R18) -/

/-- A record that awaits a point and has reached it takes its event. -/
theorem State.recAt_eq (hslot : SlotLaw s) (hr : r ∈ s.btu.queue) (hp : p ∈ r.awaiting) {n : Nat} (hn : pointPosition c p = some n)
    (hpos : n ≤ fwd r.ein s.btu.e) : s.recAt c p r.ref = some r := by
  simp [State.recAt, hslot.findRec_eq hr, hp, hn, State.position, hpos]

/-- A point that a record does not await is not delivered to it. -/
theorem State.recAt_none (hslot : SlotLaw s) (hr : r ∈ s.btu.queue) (hp : p ∉ r.awaiting) : s.recAt c p r.ref = none := by
  simp [State.recAt, hslot.findRec_eq hr, hp]

/-- A change addressed to a record of the queue, in the terms of the statements. -/
theorem SlotLaw.mapRec_eq (hslot : SlotLaw s) (hr : r ∈ s.btu.queue) (f : SegRec → SegRec) :
    (s.mapRec r.ref f).btu = { s.btu with queue := s.btu.queue.map fun q => if q = r then f q else q } := by
  refine congrArg (fun l : List SegRec => { s.btu with queue := l }) (List.map_congr_left fun q hq => ?_)
  have : q.ref = r.ref ↔ q = r := ⟨hslot.ref_inj hq hr, fun e => e ▸ rfl⟩
  simp only [this]

/-- A record with a point taken. -/
def SegRec.taken (p : Point) (r : SegRec) : SegRec := { r with awaiting := r.awaiting.erase p }

theorem State.findRec_takePoint (hslot : SlotLaw s) (hr : r ∈ s.btu.queue) (p : Point) :
    (s.takePoint p r.ref).findRec r.ref = some (r.taken p) :=
  State.findRec_mapRec s (f := fun q => { q with awaiting := q.awaiting.erase p }) (fun _ => rfl) (hslot.findRec_eq hr)

theorem State.takePoint_parts (s : State) (p : Point) (ref : RecRef) : OnlyParts [.btu] s (s.takePoint p ref) := by
  simp [OnlyParts]

/-! ### The reasons of an offer, in the terms of the statements -/

theorem SegRec.offered_soft {x : Reason} (hx : x.hard = false) (r : SegRec) :
    (r.offered c x).reason = (if r.reason = none then some x else r.reason)
      ∧ (r.offered c x).dest = if r.reason = none then some c.problem else r.dest := by
  simp only [SegRec.offered, offerTakes_of_not_hard hx, Option.isNone_iff_eq_none]
  split <;> exact ⟨rfl, rfl⟩

theorem SegRec.offered_hard {x : Reason} (hx : x.hard = true) (r : SegRec) :
    (r.offered c x).reason = (if r.reason.all Reason.soft then some x else r.reason)
      ∧ (r.offered c x).dest = if r.reason.all Reason.soft then some c.problem else r.dest := by
  simp only [SegRec.offered, offerTakes_eq_all_soft hx]
  split <;> exact ⟨rfl, rfl⟩

/-- What an offer leaves of the record. -/
theorem SegRec.offered_rest (c : StationConfig) (x : Reason) (r : SegRec) :
    r.offered c x = { r with reason := (r.offered c x).reason, dest := (r.offered c x).dest } := by
  unfold SegRec.offered
  split <;> rfl

end

/-! ### The late grace end (R53) -/

/-- Settles O22: the point is taken, BLIND is offered to the unidentified record, and counted. -/
theorem lateGraceEndMakesABlindStray : Obligations.LateGraceEndMakesABlindStray := by
  intro c r s hc hsize hslot hr hp hpos
  have hc : s.cfg = some c := hc
  have hat : s.recAt c .lateGraceEnd r.ref = some r := State.recAt_eq hslot hr hp (n := c.lateGrace + 1) rfl hpos
  simp only [exec, execLateGraceEnd, hc, hat]
  refine ⟨fun hblind => ?_, fun hblind => ?_⟩
  · obtain ⟨horigin, hlate, hident⟩ := hblind
    have hfind := State.findRec_takePoint hslot hr .lateGraceEnd
    obtain ⟨v, hq⟩ := State.findRec_offer hfind c .blind
    obtain ⟨hreason, hdest⟩ := SegRec.offered_soft (c := c) (x := .blind) rfl (r.taken .lateGraceEnd)
    have hconf : Confined [r.ref] s (((s.takePoint .lateGraceEnd r.ref).offer c r.ref .blind).bump .blindStray) :=
      (((Confined.refl [r.ref] s).takePoint _ (List.mem_singleton_self _)).offer c _ (List.mem_singleton_self _)).bump _
    have hlen : (s.takePoint .lateGraceEnd r.ref).stu.counters.length = 117 := hsize.counters
    refine ⟨_, congrArg Host.Outcome.next (if_pos ⟨horigin, hlate, hident⟩), ⟨_, hq, hreason, hdest, ?_⟩, hconf.records, hconf.btu, hconf.frames, hconf.grants,
      ?_, strayNoticed_offer hfind c .blind, ?_, hconf.parts⟩
    · rw [SegRec.offered_rest]
      exact ⟨rfl, hident, rfl, horigin, rfl⟩
    · refine (StrayCounted.offer hlen hfind c .blind).congr (fun k _ => State.ctr_congr rfl k) fun k hk => ?_
      exact State.bump_ctr_of_ne _ (by rcases hk with rfl | rfl | rfl <;> decide)
    · rw [State.bump_ctr (by simpa using hlen), if_pos rfl,
        State.offer_ctr_of_ne hlen hfind c _ (by decide) (by decide) rfl (by decide) (by decide) (by decide)]
      rfl
  · exact ⟨_, congrArg Host.Outcome.next (if_neg hblind), SlotLaw.mapRec_eq hslot hr _, s.takePoint_parts _ _⟩

/-! ### The offer to a record without an identity (R71, R74) -/

/-- A soft reason offered to the record when it has no identity. -/
def State.offerUnidentified (c : StationConfig) (r : SegRec) (x : Reason) (s : State) : State :=
  if r.ident.isNone then s.offer c r.ref x else s

section
variable {s t : State} {c : StationConfig} {r : SegRec} {x : Reason}

theorem Confined.offerUnidentified {refs : List RecRef} (h : Confined refs s t) (c : StationConfig) (x : Reason) (hm : r.ref ∈ refs) :
    Confined refs s (t.offerUnidentified c r x) := by
  unfold State.offerUnidentified
  split
  · exact h.offer c x hm
  · exact h

@[simp] theorem State.offerUnidentified_stu_lengths (s : State) (c : StationConfig) (r : SegRec) (x : Reason) :
    (s.offerUnidentified c r x).stu.counters.length = s.stu.counters.length
      ∧ (s.offerUnidentified c r x).stu.events.length = s.stu.events.length := by
  unfold State.offerUnidentified
  split <;> simp

theorem State.findRec_offerUnidentified (hx : x.hard = false) (h : s.findRec r.ref = some r) (c : StationConfig) :
    ∃ v, (s.offerUnidentified c r x).findRec r.ref = some { r with
      reason := if r.ident = none ∧ r.reason = none then some x else r.reason
      dest := if r.ident = none ∧ r.reason = none then some c.problem else r.dest
      divert := v } := by
  by_cases hident : r.ident = none
  · obtain ⟨v, hq⟩ := State.findRec_offer h c x
    obtain ⟨hreason, hdest⟩ := SegRec.offered_soft (c := c) hx r
    rw [SegRec.offered_rest, hreason, hdest] at hq
    exact ⟨v, by simpa [State.offerUnidentified, hident] using hq⟩
  · exact ⟨r.divert, by simpa [State.offerUnidentified, hident] using h⟩

theorem StrayCounted.offerUnidentified (hs : s.stu.counters.length = 117) (h : s.findRec r.ref = some r) (c : StationConfig) (x : Reason) :
    StrayCounted (if r.ident = none then [(r.reason, x)] else []) s (s.offerUnidentified c r x) := by
  unfold State.offerUnidentified
  cases hident : r.ident with
  | none => exact StrayCounted.offer hs h c x
  | some i => exact .of_same fun k _ => rfl

theorem strayNoticed_offerUnidentified (h : s.findRec r.ref = some r) (c : StationConfig) (x : Reason) (hn : r.ident = none) :
    StrayNoticed r x s (s.offerUnidentified c r x) := by
  rw [State.offerUnidentified, hn]
  exact strayNoticed_offer h c x

theorem State.offerUnidentified_ctr (hs : s.stu.counters.length = 117) (h : s.findRec r.ref = some r) (c : StationConfig) (x : Reason)
    {a : Ctr} (ha : a ≠ .lateUpdate) (hw : a ≠ .withdrawnDestination) (hq : a.ofQueue = false) (hst : a ≠ .straySet)
    (hr : a ≠ .strayReplaced) (hk : a ≠ .strayKept) : (s.offerUnidentified c r x).ctr a = s.ctr a := by
  unfold State.offerUnidentified
  split
  · exact State.offer_ctr_of_ne hs h c x ha hw hq hst hr hk
  · rfl

/-- Nothing is sent where an identity or a reason is held. -/
theorem State.offerUnidentified_hlc (hx : x.hard = false) (h : s.findRec r.ref = some r) (c : StationConfig)
    (hn : r.ident ≠ none ∨ r.reason ≠ none) : (s.offerUnidentified c r x).hlc = s.hlc := by
  unfold State.offerUnidentified
  split
  · rename_i hident
    have hkept : offerTakes r.reason x = false := by
      rw [offerTakes_of_not_hard hx]
      simpa [Option.isNone_iff_eq_none.1 hident, Option.isSome_iff_ne_none] using hn
    rw [State.offer_of_kept h hkept]
    rfl
  · rfl

end

/-! ### The read decision (R74) -/

/-- A record judged unread at its decision point, before any offer (R74). -/
def SegRec.unread (r : SegRec) : SegRec := { r with awaiting := r.awaiting.erase .readDecision, readStatus := .noRead }

/-- The station with the record judged unread, before any offer (R74). -/
def State.judgeUnread (ref : RecRef) (s : State) : State :=
  ((s.takePoint .readDecision ref).mapRec ref fun q => { q with readStatus := .noRead }).bump .noReadDecision

/-- An ambiguity that stays is counted (R74). -/
def State.countUnresolved (b : Bool) (s : State) : State := if b then s.bump .ambiguousUnresolved else s

section
variable {s t : State} {c : StationConfig} {r : SegRec}

theorem Confined.judgeUnread {refs : List RecRef} (h : Confined refs s t) {ref : RecRef} (hm : ref ∈ refs) :
    Confined refs s (t.judgeUnread ref) :=
  ((h.takePoint .readDecision hm).mapRec (f := fun q => { q with readStatus := .noRead }) (fun _ => rfl) hm).bump _

theorem State.findRec_judgeUnread (hslot : SlotLaw s) (hr : r ∈ s.btu.queue) : (s.judgeUnread r.ref).findRec r.ref = some r.unread :=
  State.findRec_mapRec (s.takePoint .readDecision r.ref) (f := fun q => { q with readStatus := .noRead }) (fun _ => rfl)
    (State.findRec_takePoint hslot hr _)

theorem State.judgeUnread_ctr (hs : s.stu.counters.length = 117) (ref : RecRef) (k : Ctr) :
    (s.judgeUnread ref).ctr k = if k = .noReadDecision then satInc (s.ctr k) else s.ctr k :=
  State.bump_ctr (s := (s.takePoint .readDecision ref).mapRec ref fun q => { q with readStatus := .noRead }) hs _ k

theorem Confined.countUnresolved {refs : List RecRef} (h : Confined refs s t) (b : Bool) : Confined refs s (t.countUnresolved b) := by
  cases b
  · exact h
  · exact h.bump _

theorem State.countUnresolved_ctr (hs : s.stu.counters.length = 117) (b : Bool) (k : Ctr) :
    (s.countUnresolved b).ctr k = if b ∧ k = .ambiguousUnresolved then satInc (s.ctr k) else s.ctr k := by
  cases b with
  | false => simp [State.countUnresolved]
  | true => simp [State.countUnresolved, State.bump_ctr hs]

@[simp] theorem State.countUnresolved_parts (s : State) (b : Bool) :
    (s.countUnresolved b).btu = s.btu ∧ (s.countUnresolved b).hlc = s.hlc := by
  cases b <;> exact ⟨rfl, rfl⟩

end

/-- Settles O23: an unread record becomes NO_READ, and is offered NO_READ without an identity. -/
theorem readDecisionPointJudgesUnread : Obligations.ReadDecisionPointJudgesUnread := by
  intro c rc r s hc hreader hsection hsize hslot hr hp hpos
  have hc : s.cfg = some c := hc
  have hat : s.recAt c .readDecision r.ref = some r :=
    State.recAt_eq hslot hr hp (n := rc.pDec) (by simp [pointPosition, hreader, hsection]) hpos
  simp only [exec, execReadDecisionPoint, hc, hat]
  refine ⟨fun hunread => ?_, fun hread =>
    ⟨s.takePoint .readDecision r.ref, if_neg hread, SlotLaw.mapRec_eq hslot hr _, s.takePoint_parts _ _⟩⟩
  have hfind : (s.judgeUnread r.ref).findRec r.unread.ref = some r.unread := State.findRec_judgeUnread hslot hr
  have hlen : (s.judgeUnread r.ref).stu.counters.length = 117 := by simpa [State.judgeUnread] using hsize.counters
  have hlen' : ((s.judgeUnread r.ref).offerUnidentified c r.unread .noRead).stu.counters.length = 117 := by simpa using hlen
  have hmem : r.unread.ref ∈ [r.ref] := List.mem_singleton_self _
  have hconf := (((Confined.refl [r.ref] s).judgeUnread hmem).offerUnidentified c .noRead hmem).countUnresolved r.ambiguous
  obtain ⟨v, hq⟩ := State.findRec_offerUnidentified (x := .noRead) rfl hfind c
  have keeps := fun k => State.offerUnidentified_ctr (a := k) hlen hfind c .noRead
  refine ⟨((s.judgeUnread r.ref).offerUnidentified c r.unread .noRead).countUnresolved r.ambiguous, if_pos hunread,
    ⟨_, (State.findRec_congr (by simp) _).trans hq, rfl, rfl, rfl, rfl, rfl, rfl⟩, hconf.records, hconf.btu, hconf.frames, hconf.grants,
    ?_, fun hn => ?_, ?_, ?_, fun hn => ?_, hconf.parts⟩
  · refine (StrayCounted.offerUnidentified hlen hfind c .noRead).congr (fun k hk => ?_) fun k hk => ?_
    · rw [State.judgeUnread_ctr hsize.counters, if_neg (by rcases hk with rfl | rfl | rfl <;> decide)]
    · rw [State.countUnresolved_ctr hlen', if_neg fun e => by rcases hk with rfl | rfl | rfl <;> cases e.2]
  · have hnotice := strayNoticed_offerUnidentified hfind c .noRead hn
    unfold StrayNoticed Queued at *
    rw [(State.countUnresolved_parts _ _).2]
    exact hnotice
  · rw [State.countUnresolved_ctr hlen', if_neg (by simp), keeps _ (by decide) (by decide) rfl (by decide) (by decide) (by decide),
      State.judgeUnread_ctr hsize.counters, if_pos rfl]
  · rw [State.countUnresolved_ctr hlen', keeps _ (by decide) (by decide) rfl (by decide) (by decide) (by decide),
      State.judgeUnread_ctr hsize.counters]
    simp
  · exact (State.countUnresolved_parts _ _).2.trans (State.offerUnidentified_hlc rfl hfind c hn)

/-! ### The long-bag point (R23) -/

section
variable {s t : State} {c : StationConfig} {r : SegRec}

/-- A record that R23 has made long. -/
def SegRec.madeLong (r : SegRec) : SegRec := { r with len := some Sys2Proof.longBag, longBag := true }

theorem Confined.makeLong {refs : List RecRef} (h : Confined refs s t) (c : StationConfig) {ref : RecRef} (hm : ref ∈ refs) :
    Confined refs s (t.makeLong c ref) :=
  (h.mapRec (f := SegRec.madeLong) (fun _ => rfl) hm).offer c _ hm

theorem State.findRec_madeLong (h : s.findRec r.ref = some r) : (s.mapRec r.ref SegRec.madeLong).findRec r.madeLong.ref = some r.madeLong :=
  State.findRec_mapRec s (f := SegRec.madeLong) (fun _ => rfl) h

theorem StrayCounted.makeLong (hs : s.stu.counters.length = 117) (h : s.findRec r.ref = some r) (c : StationConfig) :
    StrayCounted [(r.reason, .oversize)] s (s.makeLong c r.ref) :=
  (StrayCounted.offer (s := s.mapRec r.ref SegRec.madeLong) hs (State.findRec_madeLong h) c .oversize).congr
    (fun k _ => State.ctr_congr rfl k) fun _ _ => rfl

theorem strayNoticed_makeLong (h : s.findRec r.ref = some r) (c : StationConfig) : StrayNoticed r .oversize s (s.makeLong c r.ref) :=
  strayNoticed_offer (State.findRec_madeLong h) c .oversize

/-- The record that R23 has made long and offered OVERSIZE. -/
theorem State.findRec_makeLong (h : s.findRec r.ref = some r) (c : StationConfig) :
    ∃ q ∈ (s.makeLong c r.ref).findRec r.ref, q.len = some 2047 ∧ q.front = r.front ∧ q.back = r.back ∧ q.ident = r.ident
      ∧ q.passes = r.passes ∧ q.reason = (if r.reason.all Reason.soft then some .oversize else r.reason)
      ∧ q.dest = (if r.reason.all Reason.soft then some c.problem else r.dest) := by
  obtain ⟨v, hq⟩ := State.findRec_offer (State.findRec_madeLong h) c .oversize
  obtain ⟨hreason, hdest⟩ := SegRec.offered_hard (c := c) (x := .oversize) rfl r.madeLong
  refine ⟨_, hq, ?_, ?_, ?_, ?_, ?_, hreason, hdest⟩
  all_goals rw [SegRec.offered_rest]; rfl

theorem State.setEyePin_parts (s : State) (eye : Eye) (b : Bool) : OnlyParts [.pins] s (s.setEyePin eye b) := by
  rcases eye with _ | _ | (_ | _) <;> simp [OnlyParts, State.setEyePin]

/-- The entry filter goes back to BLOCKED, before the long-bag decision. -/
def State.reblocked (s : State) : State := (s.setEyePin .entry true).setFilter .entry { s.btu.fEntry with st := .blocked }

theorem execEyeRawChange_reblocked (hc : s.cfg = some c) (hpin : s.pins.eyeIn = false) (hst : s.btu.fEntry.st = .clearing) :
    exec (.eyeRawChange .entry true) s = .next (s.reblocked.longBagReturn c) := by
  have hpin : ¬ s.pins.eye .entry = true := by simp [Pins.eye, hpin]
  have hf : ((s.setEyePin .entry true).btu.filter .entry).st = .clearing := hst
  simp only [exec, execEyeRawChange, State.eyeRawChange, if_neg hpin, hc, State.filterStep, hf, if_true]
  rfl

/-- The waiting decision is for the open record that is not yet long (R23). -/
theorem State.longBagReturn_eq (hslot : SlotLaw s) (hr : r ∈ s.btu.queue) (hopen : s.btu.openRec.any (·.ref == r.ref) = true) :
    s.longBagReturn c = if r.awaiting.contains .longBag = false ∧ r.longBag = false ∧ Sys2Proof.longBag ≤ s.position r then s.makeLong c r.ref
      else s := by
  cases ho : s.btu.openRec with
  | none => simp [ho] at hopen
  | some o =>
    have href : o.ref = r.ref := by simpa [ho] using hopen
    simp only [State.longBagReturn, ho, Option.bind_some, href, hslot.findRec_eq hr]
    simp [and_assoc]

end

/-- Settles O21: the point of the open record, any other record's, and the return of the entry filter. -/
theorem longBagPointMakesOversize : Obligations.LongBagPointMakesOversize := by
  intro c r s hc hsize hslot hr hpos
  have hc : s.cfg = some c := hc
  have hat : .longBag ∈ r.awaiting → s.recAt c .longBag r.ref = some r := fun hp => State.recAt_eq hslot hr hp (n := 2047) rfl hpos
  have hmem : r.ref ∈ [r.ref] := List.mem_singleton_self _
  refine ⟨fun hp hopen => ?_, fun hp hopen => ?_, fun hpin hst hopen => ⟨fun hp hlong => ?_, fun hp => ?_⟩⟩
  · have hconf := ((Confined.refl [r.ref] s).takePoint .longBag hmem).makeLong c hmem
    have hfind := State.findRec_takePoint hslot hr .longBag
    refine ⟨(s.takePoint .longBag r.ref).makeLong c r.ref, ?_, ?_, ?_, ?_, ?_, ?_, hconf.records, hconf.btu, hconf.frames, hconf.grants, ?_,
      hconf.parts⟩
    · simp only [exec, execLongBagPoint, hc, hat hp]
      rw [if_pos (by simpa using hopen)]
    · rw [hconf.btu]
    · rw [hconf.btu]
    · rw [hconf.btu]
    · exact (StrayCounted.makeLong (s := s.takePoint .longBag r.ref) (r := r.taken .longBag) hsize.counters hfind c).congr (fun k _ => State.ctr_congr rfl k)
        fun _ _ => rfl
    · exact strayNoticed_makeLong (r := r.taken .longBag) hfind c
    · exact State.findRec_makeLong (r := r.taken .longBag) hfind c
  · refine ⟨s.takePoint .longBag r.ref, ?_, SlotLaw.mapRec_eq hslot hr _, s.takePoint_parts _ _⟩
    simp only [exec, execLongBagPoint, hc, hat hp]
    rw [if_neg (by simpa using hopen)]
  · have hslot' : SlotLaw s.reblocked := hslot
    have hfind : s.reblocked.findRec r.ref = some r := hslot.findRec_eq hr
    have hconf : Confined [r.ref] s.reblocked (s.reblocked.makeLong c r.ref) := (Confined.refl _ _).makeLong c hmem
    refine ⟨s.reblocked.makeLong c r.ref, ?_, ?_, ?_, ?_, ?_, strayNoticed_makeLong hfind c, hconf.records, ?_, hconf.frames, hconf.grants,
      State.findRec_makeLong hfind c, ?_, ?_⟩
    · rw [execEyeRawChange_reblocked hc hpin hst, State.longBagReturn_eq hslot' hr hopen, if_pos ⟨by simpa using hp, hlong, hpos⟩]
    · rw [hconf.btu]; rfl
    · rw [hconf.btu]; rfl
    · rw [hconf.btu]; rfl
    · exact (StrayCounted.makeLong (s := s.reblocked) hsize.counters hfind c).congr (fun k _ => State.ctr_congr rfl k) fun _ _ => rfl
    · rw [hconf.btu]; rfl
    · have hp := hconf.parts.2.1
      exact hp.resolve_left (by decide)
    · exact ((show OnlyParts [.pins, .btu] s s.reblocked by simp [OnlyParts, State.reblocked, State.setEyePin, State.setFilter]).trans
        hconf.parts).mono (by decide)
  · have hno : ¬ (r.awaiting.contains .longBag = false ∧ r.longBag = false ∧ Sys2Proof.longBag ≤ s.reblocked.position r) := by
      rintro ⟨h₁, h₂, -⟩
      simp_all
    refine ⟨s.reblocked, ?_, rfl, rfl, by simp [OnlyParts, State.reblocked, State.setEyePin, State.setFilter]⟩
    rw [execEyeRawChange_reblocked hc hpin hst, State.longBagReturn_eq (s := s.reblocked) hslot hr hopen, if_neg hno]

/-! ### The commit decision (R113 to R116) -/

/-- The refusal of R115, in the terms of the statement. -/
theorem refusal_eq (c : StationConfig) (v : DiverterConfig) (x : Diverter) (speed : SpeedState) (n : Nat) (r : SegRec) :
    refusal c v x speed r (planOf v n r.ein (r.len.getD 0)) =
      (if x.account.any (fun a => a.state == .isOpen || a.state == .nearFull) = false then some Ctr.refusedChuteNotOpen
      else if speed ≠ .steady then some .refusedNotSteady
      else if r.len = none then some .refusedLengthUnknown
      else if 2047 ≤ r.len.getD 0 then some .refusedLongBag
      else if v.commit ≤ (v.actuation * n + 127) / 128 then some .refusedSpeedTooHigh
      else if r.front = none ∨ r.tight = true then some .refusedFrontGap
      else if r.back.any (· < c.gMin) then some .refusedBackGap
      else if x.busyUntil.any (fun b => 2 ^ 23 ≤ fwd b (r.ein + BitVec.ofNat 24 (v.pDiv - (v.actuation * n + 127) / 128)))
        then some .refusedDiverterBusy
      else if 3 ≤ x.grants.length then some .refusedGrantListFull
      else none) := by
  unfold refusal
  refine ite_congr (by simp [ChuteState.grantable]) (fun _ => rfl) fun _ => ?_
  refine ite_congr rfl (fun _ => rfl) fun _ => ?_
  refine ite_congr (by simp) (fun _ => rfl) fun hlen => ?_
  obtain ⟨l, hl⟩ := Option.ne_none_iff_exists'.1 hlen
  have hlong : (!r.len.any (· < Sys2Proof.longBag)) = true ↔ 2047 ≤ r.len.getD 0 := by
    simp only [hl, Option.any_some, Bool.not_eq_true', decide_eq_false_iff_not, Option.getD_some]
    exact not_lt
  refine ite_congr (propext hlong) (fun _ => rfl) fun _ => ?_
  refine ite_congr rfl (fun _ => rfl) fun _ => ?_
  refine ite_congr (by simp) (fun _ => rfl) fun _ => ?_
  refine ite_congr rfl (fun _ => rfl) fun _ => ?_
  have late : ∀ a b : Count, (!atOrAfter a b) = decide (2 ^ 23 ≤ fwd b a) := fun a b => by
    rw [Bool.eq_iff_iff]
    simp [atOrAfter]
  simp only [late]
  rfl

section
variable {s : State} {c : StationConfig} {d : Div} {v : DiverterConfig} {r : SegRec}

/-- Taking the point and setting the divert status, in the terms of the statement. -/
theorem SlotLaw.takePoint_mapRec_eq (hslot : SlotLaw s) (hr : r ∈ s.btu.queue) (p : Point) (x : DivertStatus) :
    ((s.takePoint p r.ref).mapRec r.ref fun q => { q with divert := x }).btu = { s.btu with
      queue := s.btu.queue.map fun q => if q = r then { q with awaiting := q.awaiting.erase p, divert := x } else q } := by
  rw [← SlotLaw.mapRec_eq hslot hr fun q => { q with awaiting := q.awaiting.erase p, divert := x }]
  refine congrArg (fun l : List SegRec => { s.btu with queue := l }) ?_
  simp only [State.takePoint, State.mapRec_btu, List.map_map]
  refine List.map_congr_left fun q _ => ?_
  simp only [Function.comp_apply]
  by_cases h : q.ref = r.ref
  · have : ({ q with awaiting := q.awaiting.erase p } : SegRec).ref = r.ref := h
    simp only [h, if_true, this]
  · simp only [h, if_false]

end

/-- Settles O24: the first failing condition refuses, and otherwise the grant joins. -/
theorem commitPointDecidesTheGrant : Obligations.CommitPointDecidesTheGrant := by
  intro c d v r s hc hd hsize hslot hr hp hpos
  have hc : s.cfg = some c := hc
  have hat : s.recAt c (.commit d) r.ref = some r :=
    State.recAt_eq hslot hr hp (n := v.pDiv - v.commit) (by simp [pointPosition, hd]) hpos
  simp only [exec, execCommitPoint, hc, hd, hat]
  refine ⟨fun hdest => ⟨s.takePoint (.commit d) r.ref, congrArg Host.Outcome.next (if_neg hdest), SlotLaw.mapRec_eq hslot hr _,
    s.takePoint_parts _ _⟩, fun o ho hdest => ?_⟩
  simp only [if_pos hdest]
  rw [← refusal_eq c v (s.dvs.get d) s.btu.speed s.btu.v r] at ho
  refine ⟨fun k hk => ?_, fun hnone => ?_⟩
  · subst hk
    refine ⟨((s.takePoint (.commit d) r.ref).mapRec r.ref fun q => { q with divert := .withdrawn }).bump k, ?_,
      SlotLaw.takePoint_mapRec_eq hslot hr _ _, fun a => ?_, by simp [OnlyParts]⟩
    · refine congrArg Host.Outcome.next ?_
      simp only [State.decideGrant, State.takePoint_frame, State.takePoint_btu_frame, ho]
    · rw [State.bump_ctr (by exact hsize.counters)]
      simp
  · subst hnone
    refine ⟨(((s.takePoint (.commit d) r.ref).mapRec r.ref fun q => { q with divert := .granted }).setDiv d
      { s.dvs.get d with grants := (s.dvs.get d).grants ++ [⟨r.ref, _, _, _⟩] }).bump .grant, ?_,
      SlotLaw.takePoint_mapRec_eq hslot hr _ _, rfl, fun a => ?_, by simp [OnlyParts]⟩
    · refine congrArg Host.Outcome.next ?_
      simp only [State.decideGrant, State.takePoint_frame, State.takePoint_btu_frame, ho]
      rfl
    · rw [State.bump_ctr (by exact hsize.counters)]
      simp

end Sys2Proof.Machine
end

section
/-! OBLIGATION PROOF. A fire and the end of a confirm window (O25, O27). -/

namespace Sys2Proof.Machine

open Sys2Proof

section
variable {s : State} {d : Div} {v : DiverterConfig} {g : Grant} {ref : RecRef}

/-! ### The diverters -/

theorem otherDiv_ne (d : Div) : otherDiv d ≠ d := by cases d <;> decide

/-- Two tracking units with the same fields are the same. -/
theorem Btu.eq_iff (a b : Btu) : a = b ↔
    a.e = b.e ∧ a.history = b.history ∧ a.winCount = b.winCount ∧ a.v = b.v ∧ a.prevV = b.prevV ∧ a.speed = b.speed ∧
    a.steadyCount = b.steadyCount ∧ a.reportedV = b.reportedV ∧ a.windowMs = b.windowMs ∧ a.fEntry = b.fEntry ∧ a.fExit = b.fExit
    ∧ a.fConf0 = b.fConf0 ∧ a.fConf1 = b.fConf1 ∧ a.queue = b.queue ∧ a.openRec = b.openRec ∧ a.gapRef = b.gapRef ∧ a.skipTrailing
    = b.skipTrailing ∧ a.expects = b.expects ∧ a.upA = b.upA ∧ a.upB = b.upB ∧ a.down = b.down ∧ a.blockedFlag = b.blockedFlag ∧
    a.permit = b.permit ∧ a.flow = b.flow ∧ a.jamSample = b.jamSample := by
  cases a
  cases b
  rw [Btu.mk.injEq]

/-! ### The record next behind -/

theorem nextBehind_map {f : SegRec → SegRec} (hf : ∀ r, (f r).ref = r.ref) (ref : RecRef) (q : List SegRec) :
    nextBehind ref (q.map f) = (nextBehind ref q).map f := by
  induction q with
  | nil => rfl
  | cons r q ih =>
    simp only [List.map_cons, nextBehind, hf]
    split
    · cases q <;> rfl
    · exact ih

/-! ### The mark of the engagement written over (R122) -/

/-- The mark that a fire clears: the last engagement's, unless the other diverter's holds the record too. -/
def State.unmarks (d : Div) (s : State) (ref : RecRef) : Bool :=
  (s.dvs.get d).last.any (·.closeBehind == some ref) && !(s.dvs.get (otherDiv d)).last.any (·.closeBehind == some ref)

theorem bind_eq_some_iff_any {α β : Type} [DecidableEq β] {o : Option α} {f : α → Option β} {b : β} :
    o.bind f = some b ↔ o.any (f · == some b) = true := by
  cases o <;> simp

theorem State.unmark_queue (s : State) (d : Div) :
    (s.unmark d).btu.queue = s.btu.queue.map fun q => { q with closeBehind := if s.unmarks d q.ref then false else q.closeBehind } := by
  unfold State.unmark
  cases hm : (s.dvs.get d).last.bind (·.closeBehind) with
  | none =>
    have : ∀ a, s.unmarks d a = false := fun a => by
      rw [State.unmarks, Bool.and_eq_false_iff, ← Bool.not_eq_true, ← bind_eq_some_iff_any, hm]
      simp
    simp [this]
  | some ref =>
    have hany : ∀ a, s.unmarks d a = true ↔ a = ref ∧ (s.dvs.get (otherDiv d)).last.bind (·.closeBehind) ≠ some a := fun a => by
      rw [State.unmarks, Bool.and_eq_true, ← bind_eq_some_iff_any, hm, Bool.not_eq_true', ← Bool.not_eq_true, ← bind_eq_some_iff_any]
      simp [eq_comm]
    dsimp only
    split
    · rename_i hother
      have : ∀ a, ¬ s.unmarks d a = true := fun a ha => by
        obtain ⟨rfl, hne⟩ := (hany a).1 ha
        exact hne hother
      simp [this]
    · rename_i hother
      rw [State.mapRec_queue]
      refine List.map_congr_left fun q _ => ?_
      by_cases hq : q.ref = ref
      · have : s.unmarks d q.ref = true := (hany _).2 ⟨hq, hq ▸ hother⟩
        simp [hq ▸ this, hq]
      · have : ¬ s.unmarks d q.ref = true := fun h => hq ((hany _).1 h).1
        simp [this, hq]

/-! ### A full confirm list (R123) -/

theorem State.endMissed_btu (s : State) (d : Div) (e : Confirm) :
    (s.endMissed d e).btu
      = { s.btu with queue := s.btu.queue.map fun q => if q.ref = e.ref then { q with divert := .missed } else q } := by
  simp [State.endMissed]

theorem State.endMissed_dvs (s : State) (d : Div) (e : Confirm) :
    (s.endMissed d e).dvs = s.dvs.put d { s.dvs.get d with confirms := (s.dvs.get d).confirms.erase e } := by
  simp [State.endMissed]

@[simp] theorem State.endMissed_stu_lengths (s : State) (d : Div) (e : Confirm) :
    (s.endMissed d e).stu.counters.length = s.stu.counters.length ∧ (s.endMissed d e).stu.events.length = s.stu.events.length := by
  simp [State.endMissed]

theorem State.endMissed_ctr (hs : s.stu.counters.length = 117) (d : Div) (e : Confirm) {a : Ctr} (ha : a ≠ .lateUpdate) :
    (s.endMissed d e).ctr a = if a = .missedDivert then satInc (s.ctr a) else s.ctr a := by
  unfold State.endMissed
  rw [State.raiseEv_ctr, State.bump_ctr (by simpa using hs), State.updateRec_ctr_of_ne _ _ _ ha]
  rfl

theorem State.endMissed_ev (hs : s.stu.events.length = 33) (d : Div) (e : Confirm) (a : Ev) :
    (s.endMissed d e).ev a = (s.ev a || decide (a = .missedDivert)) := by
  unfold State.endMissed
  rw [State.raiseEv_ev (by simpa using hs), State.bump_ev, State.updateRec_ev]
  rfl

/-- What a fire makes of a confirm list that may be full (R112, R123). -/
theorem State.makeRoom_eq (h : (s.dvs.get d).confirms.length ≤ 2) :
    (∃ e rest, (s.dvs.get d).confirms = e :: rest ∧ (s.dvs.get d).confirms.length = 2
        ∧ s.makeRoom d = ((s.endMissed d e).bump .confirmOverrun).raiseEv .confirmOverrun)
      ∨ ((s.dvs.get d).confirms.length ≠ 2 ∧ s.makeRoom d = s) := by
  unfold State.makeRoom
  cases hc : (s.dvs.get d).confirms with
  | nil => exact .inr ⟨by simp, rfl⟩
  | cons e rest =>
    rw [hc] at h
    by_cases hfull : (e :: rest).length = 2
    · exact .inl ⟨e, rest, rfl, hfull, if_pos (by rw [maxConfirms]; omega)⟩
    · exact .inr ⟨hfull, if_neg (by rw [maxConfirms]; omega)⟩

theorem State.makeRoom_queue (h : (s.dvs.get d).confirms.length ≤ 2) :
    (s.makeRoom d).btu.queue = s.btu.queue.map fun q => { q with divert :=
      if (s.dvs.get d).confirms.length = 2 ∧ (s.dvs.get d).confirms.head?.any (·.ref == q.ref) = true then .missed else q.divert } := by
  rcases State.makeRoom_eq h with ⟨e, rest, hc, hfull, heq⟩ | ⟨hroom, heq⟩
  · rw [heq, State.raiseEv_btu, State.bump_btu, State.endMissed_btu]
    refine List.map_congr_left fun q _ => ?_
    by_cases hq : q.ref = e.ref
    · simp [hc, hq, hc ▸ hfull]
    · simp [hc, hq, Ne.symm hq]
  · simp [heq, hroom]

theorem State.makeRoom_dvs (h : (s.dvs.get d).confirms.length ≤ 2) :
    (s.makeRoom d).dvs = s.dvs.put d { s.dvs.get d with
      confirms := if (s.dvs.get d).confirms.length = 2 then (s.dvs.get d).confirms.tail else (s.dvs.get d).confirms } := by
  rcases State.makeRoom_eq h with ⟨e, rest, hc, hfull, heq⟩ | ⟨hroom, heq⟩
  · rw [heq, State.raiseEv_dvs, State.bump_dvs, State.endMissed_dvs, if_pos hfull, hc, List.erase_cons_head, List.tail_cons]
  · rw [heq, if_neg hroom, Dvs.put_get]

theorem State.makeRoom_ctr (h : (s.dvs.get d).confirms.length ≤ 2) (hs : s.stu.counters.length = 117) {a : Ctr} (ha : a ≠ .lateUpdate) :
    (s.makeRoom d).ctr a = if (s.dvs.get d).confirms.length = 2 ∧ (a = .missedDivert ∨ a = .confirmOverrun)
      then satInc (s.ctr a) else s.ctr a := by
  rcases State.makeRoom_eq h with ⟨e, rest, hc, hfull, heq⟩ | ⟨hroom, heq⟩
  · rw [heq, State.raiseEv_ctr, State.bump_ctr (by simpa using hs), State.endMissed_ctr hs d e ha]
    by_cases h₁ : a = .confirmOverrun
    · subst h₁; simp [hfull]
    · simp [hfull, h₁]
  · simp [heq, hroom]

theorem State.makeRoom_ev (h : (s.dvs.get d).confirms.length ≤ 2) (hs : s.stu.events.length = 33) (a : Ev) :
    (s.makeRoom d).ev a
      = (s.ev a || decide (a ∈ if (s.dvs.get d).confirms.length = 2 then [Ev.missedDivert, .confirmOverrun] else [])) := by
  rcases State.makeRoom_eq h with ⟨e, rest, hc, hfull, heq⟩ | ⟨hroom, heq⟩
  · rw [heq, State.raiseEv_ev (by simpa using hs), State.bump_ev, State.endMissed_ev hs]
    simp [hfull, Bool.or_assoc, Bool.decide_or]
  · simp [heq, hroom]

@[simp] theorem State.makeRoom_stu_lengths (s : State) (d : Div) :
    (s.makeRoom d).stu.counters.length = s.stu.counters.length ∧ (s.makeRoom d).stu.events.length = s.stu.events.length := by
  unfold State.makeRoom
  split
  · exact ⟨rfl, rfl⟩
  · split <;> simp

/-! ### The record behind (R122) -/

/-- The record that a fire marks: the one next behind, when its known front gap is below the hold distance. -/
def closeBehindOf (v : DiverterConfig) (ref : RecRef) (q : List SegRec) : Option SegRec :=
  (nextBehind ref q).filter fun b => b.front.any (· < v.hold)

theorem State.markBehind_eq (s : State) (d : Div) (v : DiverterConfig) (ref : RecRef) :
    s.markBehind d v ref = match closeBehindOf v ref s.btu.queue with
      | none => s
      | some b => ((s.mapRec b.ref fun q => { q with closeBehind := true }).setDiv d
          { s.dvs.get d with last := (s.dvs.get d).last.map fun l => { l with closeBehind := some b.ref } }).bump .closeBehind := by
  unfold State.markBehind closeBehindOf
  cases nextBehind ref s.btu.queue with
  | none => rfl
  | some b => by_cases h : b.front.any (· < v.hold) = true <;> simp [Option.filter, h]

theorem State.markBehind_queue (s : State) (d : Div) (v : DiverterConfig) (ref : RecRef) :
    (s.markBehind d v ref).btu.queue = s.btu.queue.map fun q =>
      { q with closeBehind := if (closeBehindOf v ref s.btu.queue).any (·.ref == q.ref) then true else q.closeBehind } := by
  rw [State.markBehind_eq]
  cases closeBehindOf v ref s.btu.queue with
  | none => simp
  | some b =>
    rw [State.bump_btu, State.setDiv_btu, State.mapRec_queue]
    refine List.map_congr_left fun q _ => ?_
    by_cases hq : q.ref = b.ref
    · simp [hq]
    · simp [hq, Ne.symm hq]

theorem State.markBehind_dvs (s : State) (d : Div) (v : DiverterConfig) (ref : RecRef) :
    (s.markBehind d v ref).dvs = s.dvs.put d { s.dvs.get d with last := (s.dvs.get d).last.map fun l =>
      { l with closeBehind := ((closeBehindOf v ref s.btu.queue).map (·.ref)).or l.closeBehind } } := by
  rw [State.markBehind_eq]
  cases closeBehindOf v ref s.btu.queue with
  | none =>
    simp only [Option.map_none, Option.none_or, Option.map_id']
    exact (Dvs.put_get _ _).symm
  | some b => rfl

theorem State.markBehind_ctr (hs : s.stu.counters.length = 117) (d : Div) (v : DiverterConfig) (ref : RecRef) (a : Ctr) :
    (s.markBehind d v ref).ctr a
      = if (closeBehindOf v ref s.btu.queue).isSome ∧ a = .closeBehind then satInc (s.ctr a) else s.ctr a := by
  rw [State.markBehind_eq]
  cases closeBehindOf v ref s.btu.queue with
  | none => simp
  | some b =>
    rw [State.bump_ctr (by exact hs)]
    simp

theorem State.markBehind_ev (s : State) (d : Div) (v : DiverterConfig) (ref : RecRef) (a : Ev) :
    (s.markBehind d v ref).ev a = s.ev a := by
  rw [State.markBehind_eq]
  split <;> rfl

/-- A change of the records that keeps their names and front gaps keeps the record behind. -/
theorem closeBehindOf_map {f : SegRec → SegRec} (hf : ∀ r, (f r).ref = r.ref ∧ (f r).front = r.front) (v : DiverterConfig) (ref : RecRef)
    (q : List SegRec) : closeBehindOf v ref (q.map f) = (closeBehindOf v ref q).map f := by
  unfold closeBehindOf
  rw [nextBehind_map fun r => (hf r).1]
  cases nextBehind ref q with
  | none => rfl
  | some b => simp only [Option.map_some, Option.filter, (hf b).2]; split <;> rfl

end

/-! ### The fire (R120, R122, R123) -/

/-- What a fire makes of the records before it marks the one behind. -/
def State.engagedRec (d : Div) (g : Grant) (s : State) (q : SegRec) : SegRec :=
  { q with
    closeBehind := if s.unmarks d q.ref then false else q.closeBehind
    divert := if q.ref = g.ref then .fired
      else if (s.dvs.get d).confirms.length = 2 ∧ (s.dvs.get d).confirms.head?.any (·.ref == q.ref) = true then .missed else q.divert }

section
variable {s : State} {d : Div} {v : DiverterConfig} {g : Grant}

/-- The station after a fire, before the record behind is marked. -/
def State.fired (d : Div) (v : DiverterConfig) (g : Grant) (s : State) : State := ((s.unmark d).makeRoom d).engage d v g

theorem State.fired_queue (h : (s.dvs.get d).confirms.length ≤ 2) (v : DiverterConfig) (g : Grant) :
    (s.fired d v g).btu.queue = s.btu.queue.map (s.engagedRec d g) := by
  have hd : (s.unmark d).dvs = s.dvs := (State.unmark_frame s d).2.2.2.2.2.2.1
  have hroom := State.makeRoom_queue (s := s.unmark d) (d := d) (by rw [hd]; exact h)
  rw [hd, State.unmark_queue, List.map_map] at hroom
  unfold State.fired State.engage
  rw [State.bump_btu, State.mapRec_queue, State.setDiv_btu, hroom, List.map_map]
  refine List.map_congr_left fun q _ => ?_
  by_cases hq : q.ref = g.ref
  · exact (if_pos hq).trans (by rw [State.engagedRec, if_pos hq]; rfl)
  · exact (if_neg hq).trans (by rw [State.engagedRec, if_neg hq]; rfl)

theorem State.fired_dvs (h : (s.dvs.get d).confirms.length ≤ 2) (v : DiverterConfig) (g : Grant) :
    (s.fired d v g).dvs = s.dvs.put d { s.dvs.get d with
      grants := (s.dvs.get d).grants.erase g
      eng := .engaged
      last := some ⟨g.fire, g.release, g.freeFrom, some g.ref, false, none⟩
      confirms := (if (s.dvs.get d).confirms.length = 2 then (s.dvs.get d).confirms.tail else (s.dvs.get d).confirms)
        ++ [⟨g.ref, g.fire, ahead g.fire v.window, false⟩] } := by
  have hd : (s.unmark d).dvs = s.dvs := (State.unmark_frame s d).2.2.2.2.2.2.1
  have hroom := State.makeRoom_dvs (s := s.unmark d) (d := d) (by rw [hd]; exact h)
  rw [hd] at hroom
  simp only [State.fired, State.engage, State.bump_dvs, State.mapRec_dvs, State.setDiv_dvs, hroom, Dvs.get_put_same, Dvs.put_put]

theorem State.fired_ctr (h : (s.dvs.get d).confirms.length ≤ 2) (hs : s.stu.counters.length = 117) (v : DiverterConfig) (g : Grant)
    {a : Ctr} (ha : a ≠ .lateUpdate) :
    (s.fired d v g).ctr a = if a = .fire ∨ ((s.dvs.get d).confirms.length = 2 ∧ (a = .missedDivert ∨ a = .confirmOverrun))
      then satInc (s.ctr a) else s.ctr a := by
  have hd : (s.unmark d).dvs = s.dvs := (State.unmark_frame s d).2.2.2.2.2.2.1
  have hstu : (s.unmark d).stu = s.stu := (State.unmark_frame s d).2.2.2.2.2.2.2.2.1
  have hroom := State.makeRoom_ctr (s := s.unmark d) (d := d) (by rw [hd]; exact h) (by rw [hstu]; exact hs) ha
  rw [hd, State.ctr_congr hstu] at hroom
  unfold State.fired State.engage
  rw [State.bump_ctr (by simpa [hstu] using hs)]
  refine Eq.trans (b := if a = .fire then satInc (((s.unmark d).makeRoom d).ctr a) else ((s.unmark d).makeRoom d).ctr a) rfl ?_
  rw [hroom]
  by_cases hf : a = .fire
  · subst hf; simp
  · simp [hf]

theorem State.fired_ev (h : (s.dvs.get d).confirms.length ≤ 2) (hs : s.stu.events.length = 33) (v : DiverterConfig) (g : Grant) (a : Ev) :
    (s.fired d v g).ev a
      = (s.ev a || decide (a ∈ if (s.dvs.get d).confirms.length = 2 then [Ev.missedDivert, .confirmOverrun] else [])) := by
  have hd : (s.unmark d).dvs = s.dvs := (State.unmark_frame s d).2.2.2.2.2.2.1
  have hstu : (s.unmark d).stu = s.stu := (State.unmark_frame s d).2.2.2.2.2.2.2.2.1
  have hroom := State.makeRoom_ev (s := s.unmark d) (d := d) (by rw [hd]; exact h) (by rw [hstu]; exact hs) a
  rw [hd, State.ev_congr hstu] at hroom
  exact Eq.trans rfl hroom

theorem State.fired_counters_length (hs : s.stu.counters.length = 117) (d : Div) (v : DiverterConfig) (g : Grant) :
    (s.fired d v g).stu.counters.length = 117 := by
  simpa [State.fired, State.engage] using hs

/-- A fire leaves everything but the records, the diverter and what it counts. -/
theorem State.markBehind_fired_parts (s : State) (d : Div) (v : DiverterConfig) (g : Grant) :
    OnlyParts [.btu, .dvs, .stu] s ((s.fired d v g).markBehind d v g.ref) := by
  simp [OnlyParts, State.fired]

theorem State.markBehind_fired_btu (s : State) (d : Div) (v : DiverterConfig) (g : Grant) :
    ((s.fired d v g).markBehind d v g.ref).btu = { s.btu with queue := ((s.fired d v g).markBehind d v g.ref).btu.queue } := by
  rw [Btu.eq_iff]
  simp [State.fired]

end

/-- Settles O25: the grant becomes the engagement, on a confirm list made room in, and the record behind is marked. -/
theorem fireEngagesTheDiverter : Obligations.FireEngagesTheDiverter := by
  intro c d v g s hc hd hsize hslot hhead hdue
  have hc : s.cfg = some c := hc
  obtain ⟨rest, hgrants⟩ : ∃ rest, (s.dvs.get d).grants = g :: rest := List.head?_eq_some_iff.1 hhead
  obtain ⟨hs, he, -, -, -, -, -, -, -, -, -, hdiv⟩ := hsize
  have hconf : (s.dvs.get d).confirms.length ≤ 2 := (hdiv d).2.1
  have hbehind : closeBehindOf v g.ref (s.fired d v g).btu.queue = (closeBehindOf v g.ref s.btu.queue).map (s.engagedRec d g) := by
    rw [State.fired_queue hconf, closeBehindOf_map (f := s.engagedRec d g) fun r => ⟨rfl, rfl⟩]
  have hget : ((s.fired d v g).markBehind d v g.ref).dvs.get d = { s.dvs.get d with
      grants := rest
      eng := .engaged
      last := some ⟨g.fire, g.release, g.freeFrom, some g.ref, false, (closeBehindOf v g.ref s.btu.queue).map (·.ref)⟩
      confirms := (if (s.dvs.get d).confirms.length = 2 then (s.dvs.get d).confirms.tail else (s.dvs.get d).confirms)
        ++ [⟨g.ref, g.fire, ahead g.fire v.window, false⟩] } := by
    rw [State.markBehind_dvs, Dvs.get_put_same, State.fired_dvs hconf, Dvs.get_put_same, hbehind]
    simp only [hgrants, List.erase_cons_head, Option.map_some, Option.or_none, Option.map_map]
    rfl
  have hctr : ∀ a, a ≠ .lateUpdate → ((s.fired d v g).markBehind d v g.ref).ctr a
      = if (closeBehindOf v g.ref s.btu.queue).isSome ∧ a = .closeBehind then satInc ((s.fired d v g).ctr a)
        else (s.fired d v g).ctr a := fun a _ => by
    rw [State.markBehind_ctr (State.fired_counters_length hs d v g), hbehind, Option.isSome_map]
  have hfired := fun a => State.fired_ctr (a := a) hconf hs v g
  refine ⟨(s.fired d v g).markBehind d v g.ref, ?_, ?_, ?_, ?_, ?_, ?_, ?_, ?_, ?_, ?_, ?_, ?_, ?_, ?_, fun e => ?_,
    s.markBehind_fired_btu d v g, s.markBehind_fired_parts d v g⟩
  · simp only [exec, execFire, hc, hd, hgrants]
    exact if_pos (decide_eq_true hdue)
  · rw [hget, hgrants, List.tail_cons]
  · rw [hget]
  · rw [State.divOut, hget]; rfl
  · rw [hget]
  · rw [hget]
  · rw [State.markBehind_dvs, Dvs.get_put, if_neg (otherDiv_ne d), State.fired_dvs hconf, Dvs.get_put, if_neg (otherDiv_ne d)]
  · rw [hget]; rfl
  · rw [hctr _ (by decide), if_neg (fun e => by cases e.2), hfired _ (by decide), if_pos (.inl rfl)]
  · rw [hctr _ (by decide), if_neg (fun e => by cases e.2), hfired _ (by decide)]; simp
  · rw [hctr _ (by decide), if_neg (fun e => by cases e.2), hfired _ (by decide)]; simp
  · exact ⟨_, by rw [hget]; rfl, rfl, rfl, rfl, rfl, rfl, rfl⟩
  · rw [hctr _ (by decide), hfired _ (by decide)]
    simp [closeBehindOf]
  · rw [State.markBehind_queue, State.fired_queue hconf, closeBehindOf_map (f := s.engagedRec d g) fun r => ⟨rfl, rfl⟩, List.map_map]
    refine List.map_congr_left fun q _ => ?_
    have hmark : ((closeBehindOf v g.ref s.btu.queue).map (s.engagedRec d g)).any (·.ref == q.ref)
        = (nextBehind g.ref s.btu.queue).any fun b => b.front.any (· < v.hold) && b.ref == q.ref := by
      cases nextBehind g.ref s.btu.queue |>.eq_none_or_eq_some with
      | inl hn => simp [closeBehindOf, hn]
      | inr hb =>
        obtain ⟨b, hb⟩ := hb
        by_cases hf : b.front.any (· < v.hold) = true
        · simp [closeBehindOf, hb, Option.filter, hf]; rfl
        · simp [closeBehindOf, hb, Option.filter, hf]
    have hclear : s.unmarks d q.ref = true ↔ (s.dvs.get d).last.any (·.closeBehind == some q.ref) = true
        ∧ (s.dvs.get (otherDiv d)).last.any (·.closeBehind == some q.ref) = false := by
      rw [State.unmarks, Bool.and_eq_true, Bool.not_eq_true']
    rw [Function.comp_apply, ← hmark]
    simp only [← hclear]
    rfl
  · rw [State.markBehind_ev, State.fired_ev hconf he]

/-! ### The end of a confirm window (R125) -/

section
variable {s : State} {d : Div}

/-- What the filter of a confirm eye leaves behind. -/
theorem State.filterStep_vanished (c : StationConfig) (d : Div) (h : (s.btu.filter (.confirm d)).st = .blocking) :
    s.filterStep c (.confirm d) false
      = (s.setFilter (.confirm d) { s.btu.filter (.confirm d) with st := .clear }).endWaiting d := by
  simp only [State.filterStep, h]
  rfl

/-- The records of missed entries become MISSED. -/
def SegRec.missedBy (es : List Confirm) (q : SegRec) : SegRec := if es.any (·.ref == q.ref) then { q with divert := .missed } else q

theorem endEach_btu (d : Div) (es : List Confirm) (s : State) :
    (es.foldl (fun t e => t.endMissed d e) s).btu = { s.btu with queue := s.btu.queue.map (SegRec.missedBy es) } := by
  induction es generalizing s with
  | nil => exact congrArg (fun l : List SegRec => { s.btu with queue := l }) (List.map_id' s.btu.queue).symm
  | cons e es ih =>
    rw [List.foldl_cons, ih, State.endMissed_btu, List.map_map]
    refine congrArg (fun l : List SegRec => { s.btu with queue := l }) (List.map_congr_left fun q _ => ?_)
    by_cases hq : q.ref = e.ref
    · exact (congrArg (SegRec.missedBy es) (if_pos hq)).trans (by simp [SegRec.missedBy, hq])
    · exact (congrArg (SegRec.missedBy es) (if_neg hq)).trans (by simp [SegRec.missedBy, Ne.symm hq])

theorem endEach_dvs (d : Div) (es : List Confirm) (s : State) :
    (es.foldl (fun t e => t.endMissed d e) s).dvs
      = s.dvs.put d { s.dvs.get d with confirms := (s.dvs.get d).confirms.diff es } := by
  induction es generalizing s with
  | nil => exact (Dvs.put_get _ _).symm
  | cons e es ih => rw [List.foldl_cons, ih, State.endMissed_dvs, Dvs.get_put_same, Dvs.put_put, List.diff_cons]

theorem endEach_ctr (d : Div) (es : List Confirm) {s : State} (hs : s.stu.counters.length = 117) {a : Ctr} (ha : a ≠ .lateUpdate) :
    ((es.foldl (fun t e => t.endMissed d e) s).ctr a).toNat
      = min 65535 ((s.ctr a).toNat + if a = .missedDivert then es.length else 0) := by
  induction es generalizing s with
  | nil =>
    have := (s.ctr a).isLt
    simp
    omega
  | cons e es ih =>
    rw [List.foldl_cons, ih (by simpa using hs), State.endMissed_ctr hs d e ha]
    split
    · rw [satInc_toNat, List.length_cons]; omega
    · omega

theorem endEach_ev (d : Div) (es : List Confirm) {s : State} (hs : s.stu.events.length = 33) (a : Ev) :
    (es.foldl (fun t e => t.endMissed d e) s).ev a = (s.ev a || decide (a = .missedDivert ∧ es ≠ [])) := by
  induction es generalizing s with
  | nil => simp
  | cons e es ih =>
    rw [List.foldl_cons, ih (by simpa using hs), State.endMissed_ev hs]
    by_cases h : a = .missedDivert <;> simp [h]

theorem diff_filter_self {α : Type} [DecidableEq α] (p : α → Bool) (l : List α) : l.diff (l.filter p) = l.filter fun x => !p x := by
  induction l with
  | nil => rfl
  | cons a l ih =>
    cases h : p a with
    | true => simpa [h] using ih
    | false =>
      have : a ∉ l.filter p := by simp [h]
      simp [h, List.cons_diff_of_not_mem this, ih]

/-- Every entry that waits ends as a missed divert (R125). -/
theorem State.endWaiting_dvs (s : State) (d : Div) :
    (s.endWaiting d).dvs = s.dvs.put d { s.dvs.get d with confirms := (s.dvs.get d).confirms.filter fun x => !x.waiting } := by
  rw [State.endWaiting, endEach_dvs, diff_filter_self]

/-- A missed divert of a record in the queue counts no late update. -/
theorem endEach_lateUpdate (d : Div) (es : List Confirm) {s : State} (hs : s.stu.counters.length = 117)
    (h : ∀ e ∈ es, (s.findRec e.ref).isSome = true) : (es.foldl (fun t e => t.endMissed d e) s).ctr .lateUpdate = s.ctr .lateUpdate := by
  induction es generalizing s with
  | nil => rfl
  | cons e es ih =>
    have hq : (s.endMissed d e).btu.queue = s.btu.queue.map fun q => if q.ref = e.ref then { q with divert := .missed } else q := by
      rw [State.endMissed_btu]
    rw [List.foldl_cons, ih (by simpa using hs) fun x hx => ?_]
    · unfold State.endMissed
      rw [State.raiseEv_ctr, State.bump_ctr (by simpa using hs), if_neg (by decide), State.updateRec, if_pos]
      · exact State.ctr_congr rfl _
      · exact h e List.mem_cons_self
    · rw [State.findRec_of_map hq (fun r => by split <;> rfl), Option.isSome_map]
      exact h x (List.mem_cons_of_mem _ hx)

end

/-- Settles O27: the oldest entry ends or waits, and every waiting entry ends when the pending edge vanishes. -/
theorem confirmWindowEndMissesOrWaits : Obligations.ConfirmWindowEndMissesOrWaits := by
  intro c d e r s hsize hslot
  have hfind : (s.dvs.get d).confirms.head? = some e → e.waiting = false → fwd e.windowEnd s.btu.e < 2 ^ 23 →
      (s.dvs.get d).confirms.find? (fun e => atOrAfter s.btu.e e.windowEnd && !(e.waiting && s.confirmPending d e)) = some e := by
    intro hhead hwait hdue
    obtain ⟨rest, hrest⟩ := List.head?_eq_some_iff.1 hhead
    rw [hrest, List.find?_cons_of_pos]
    simpa [hwait, atOrAfter] using hdue
  refine ⟨fun hhead hwait hdue hr href hpend => ?_, fun hhead hwait hdue hpend => ?_, fun hc hpin hst => ?_⟩
  · have hnot : s.confirmPending d e = false := by
      rw [State.confirmPending, ← Bool.not_eq_true]
      simpa using hpend
    obtain ⟨rest, hrest⟩ := List.head?_eq_some_iff.1 hhead
    refine ⟨s.endMissed d e, ?_, ?_, ?_, fun k => ?_, fun k => ?_, ?_⟩
    · simp only [exec, execConfirmWindowEnd, hfind hhead hwait hdue, hnot]
      rfl
    · rw [State.endMissed_dvs, hrest, List.erase_cons_head, List.tail_cons]
    · rw [State.endMissed_btu, ← href]
      exact SlotLaw.mapRec_eq hslot hr _
    · by_cases hk : k = .lateUpdate
      · subst hk
        exact endEach_lateUpdate d [e] hsize.counters (by simp [← href, hslot.findRec_eq hr])
      · rw [State.endMissed_ctr hsize.counters d e hk]
        simp
    · rw [State.endMissed_ev hsize.events]
      simp
    · simp [OnlyParts]
  · have hyes : s.confirmPending d e = true := by
      rw [State.confirmPending]
      simpa using hpend
    obtain ⟨rest, hrest⟩ := List.head?_eq_some_iff.1 hhead
    refine ⟨s.setDiv d { s.dvs.get d with
        confirms := (s.dvs.get d).confirms.map fun x => if x = e then { x with waiting := true } else x }, ?_, ?_, ?_, ?_, ?_, ?_⟩
    · simp only [exec, execConfirmWindowEnd, hfind hhead hwait hdue, hyes]
      rfl
    · simp [hrest]
    · simp
    · simp [hrest]
    · simp
    · simp [OnlyParts]
  · have hc : s.cfg = some c := hc
    have hpin' : ¬ s.pins.eye (.confirm d) = false := by simp [hpin]
    refine ⟨((s.setEyePin (.confirm d) false).setFilter (.confirm d) { s.btu.filter (.confirm d) with st := .clear }).endWaiting d,
      ?_, State.endWaiting_dvs _ d, ?_, ?_, fun k h₁ h₂ => ?_, fun hin => ?_, fun k => ?_, ?_, ?_, ?_⟩
    · simp only [exec, execEyeRawChange, State.eyeRawChange, if_neg hpin', hc]
      exact congrArg Host.Outcome.next (State.filterStep_vanished (s := s.setEyePin (.confirm d) false) c d hst)
    · rw [State.endWaiting, endEach_btu]
      refine congrArg (fun l : List SegRec =>
        { s.btu.setFilter (.confirm d) { s.btu.filter (.confirm d) with st := .clear } with queue := l }) ?_
      refine (congrArg (List.map _) (Btu.setFilter_queue s.btu _ _)).trans (List.map_congr_left fun q _ => ?_)
      simp only [SegRec.missedBy, List.any_filter]
      rfl
    · refine (endEach_ctr d _ (by exact hsize.counters) (by decide)).trans ?_
      rw [if_pos rfl]
      rfl
    · refine ctr_eq_of_toNat ((endEach_ctr d _ (by exact hsize.counters) h₂).trans ?_)
      rw [if_neg h₁]
      rfl
    · refine (endEach_lateUpdate d _ (by exact hsize.counters) fun x hx => ?_).trans (State.ctr_congr rfl _)
      obtain ⟨hx, hw⟩ := List.mem_filter.1 hx
      obtain ⟨q, hq, href⟩ := hin x hx hw
      rw [← href, State.findRec_congr (s := s) (Btu.setFilter_queue _ _ _), hslot.findRec_eq hq]
      rfl
    · refine (endEach_ev d _ (by exact hsize.events) k).trans ?_
      have hany : (s.dvs.get d).confirms.filter (·.waiting) ≠ [] ↔ (s.dvs.get d).confirms.any (·.waiting) = true := by
        simp
      refine congrArg (s.ev k || ·) (decide_eq_decide.2 ?_)
      refine (and_congr_right fun _ => hany).trans ?_
      split <;> simp_all
    · simp
    · simp
    · simp [OnlyParts]

end Sys2Proof.Machine
end

section
/-! OBLIGATION PROOF. The close of a window: the grants it withdraws, the speed it tells, and the expect list (O12, O13). -/

namespace Sys2Proof.Machine

open Sys2Proof

section
variable {s : State} {c : StationConfig}

theorem State.queueSegmentState_hlc (s : State) : s.queueSegmentState.hlc
    = { s.hlc with queue := enqueue (.segmentState s.btu.v s.btu.speed s.btu.blockedFlag) s.hlc.queue } := State.queueFrame_hlc s _

/-! ### The stages of a window close -/

/-- The figures and the overspeed mark of a window close (R4, R5, R6). -/
def State.windowFigures (c : StationConfig) (s : State) : State :=
  if s.btu.overspeed then (s.setBtu (s.btu.closeWindow c)).raiseEv .overspeed else s.setBtu (s.btu.closeWindow c)

/-- The withdrawals of a window close that leaves STEADY (R7, R117). -/
def State.windowWithdrawn (c : StationConfig) (s : State) : State :=
  if s.btu.speed = .steady ∧ (s.btu.closeWindow c).speed ≠ .steady
    then (s.windowFigures c).withdrawBoth .withdrawnSpeed (fun _ => true) else s.windowFigures c

/-- A window close has a new speed to tell (R8). -/
def State.speedNews (c : StationConfig) (s : State) : Bool :=
  (s.btu.closeWindow c).speed != s.btu.speed || farFrom c (s.btu.closeWindow c).v s.btu.reportedV

/-- The window close before the expect list advances (R8). -/
def State.windowTold (c : StationConfig) (s : State) : State :=
  if s.speedNews c then (s.windowWithdrawn c).queueSegmentState else s.windowWithdrawn c

theorem State.windowFigures_btu (s : State) (c : StationConfig) : (s.windowFigures c).btu = s.btu.closeWindow c := by
  unfold State.windowFigures
  split <;> rfl

theorem State.windowWithdrawn_btu (s : State) (c : StationConfig) :
    (s.windowWithdrawn c).btu.v = (s.btu.closeWindow c).v ∧ (s.windowWithdrawn c).btu.speed = (s.btu.closeWindow c).speed
      ∧ (s.windowWithdrawn c).btu.reportedV = s.btu.reportedV := by
  unfold State.windowWithdrawn
  split <;> simp [State.windowFigures_btu, Btu.closeWindow]

theorem State.windowClose_eq (s : State) (c : StationConfig) : s.windowClose c = (s.windowTold c).advanceExpects := by
  have hnews : ((s.windowWithdrawn c).btu.speed ≠ s.btu.speed
      ∨ farFrom c (s.windowWithdrawn c).btu.v (s.windowWithdrawn c).btu.reportedV = true) ↔ s.speedNews c = true := by
    obtain ⟨h₁, h₂, h₃⟩ := s.windowWithdrawn_btu c
    simp [h₁, h₂, h₃, State.speedNews]
  have hwith : s.windowWithdrawn c = if s.btu.speed = .steady ∧ (s.windowFigures c).btu.speed ≠ .steady
      then (s.windowFigures c).withdrawBoth .withdrawnSpeed (fun _ => true) else s.windowFigures c := by
    rw [State.windowFigures_btu]
    rfl
  unfold State.windowTold
  rw [← if_congr hnews rfl rfl, hwith]
  rfl

/-! ### The expect list (R45, R47) -/

/-- The expect records after the advance, before the no-shows leave (R45). -/
def State.movedExpects (s : State) : List ExpectRec := s.btu.expects.map fun x => x.advance (s.btu.upstream x.source).vsrc

theorem State.advanceExpects_btu (s : State) :
    s.advanceExpects.btu = { s.btu with expects := s.movedExpects.filter fun x => !x.noShow } := by
  unfold State.advanceExpects
  dsimp only
  split
  · rw [(State.bumpN_frame _ _ _).2.2.2.1]; rfl
  · rw [State.raiseEv_btu, (State.bumpN_frame _ _ _).2.2.2.1]; rfl

theorem State.advanceExpects_ctr_of_ne (s : State) {a : Ctr} (h : a ≠ .noShow) : s.advanceExpects.ctr a = s.ctr a := by
  have hb := fun (u : State) n => State.bumpN_ctr_of_ne u (a := .noShow) h n
  unfold State.advanceExpects
  dsimp only
  split
  · exact (hb _ _).trans (State.ctr_congr rfl _)
  · exact (hb _ _).trans (State.ctr_congr rfl _)

theorem State.advanceExpects_noShow_ctr (hs : s.stu.counters.length = 117) :
    (s.advanceExpects.ctr .noShow).toNat = min 65535 ((s.ctr .noShow).toNat + (s.movedExpects.filter (·.noShow)).length) := by
  have hb := fun xs n => (State.bumpN_ctr_self (s := s.setBtu { s.btu with expects := xs }) hs .noShow n).1
  unfold State.advanceExpects
  dsimp only
  split
  · exact hb _ _
  · exact hb _ _

theorem State.bumpN_ev (s : State) (k : Ctr) (n : Nat) (e : Ev) : (s.bumpN k n).ev e = s.ev e := by
  unfold State.ev
  rw [State.bumpN_events]

theorem State.advanceExpects_ev (hs : s.stu.events.length = 33) (e : Ev) :
    s.advanceExpects.ev e = (s.ev e || decide (e = .noShow ∧ s.movedExpects.filter (·.noShow) ≠ [])) := by
  unfold State.advanceExpects
  dsimp only
  split
  · rename_i h
    rw [State.bumpN_ev]
    have : s.movedExpects.filter (·.noShow) = [] := List.length_eq_zero_iff.1 h
    simp [this]
  · rename_i h
    have : s.movedExpects.filter (·.noShow) ≠ [] := fun e => h (List.length_eq_zero_iff.2 e)
    rw [State.raiseEv_ev (by simpa using hs), State.bumpN_ev]
    simp only [this, ne_eq, not_false_eq_true, and_true]
    rfl

/-! ### What a window close makes of the parts before the expect list -/

@[simp] theorem State.windowTold_parts (s : State) (c : StationConfig) :
    OnlyParts [.btu, .dvs, .hlc, .stu] s (s.windowTold c) := by
  unfold State.windowTold State.windowWithdrawn State.windowFigures
  split_ifs <;> simp [OnlyParts]

@[simp] theorem State.windowTold_stu_lengths (s : State) (c : StationConfig) :
    (s.windowTold c).stu.counters.length = s.stu.counters.length ∧ (s.windowTold c).stu.events.length = s.stu.events.length := by
  unfold State.windowTold State.windowWithdrawn State.windowFigures
  split_ifs <;> simp [State.withdrawBoth]

theorem State.windowTold_expects (s : State) (c : StationConfig) :
    (s.windowTold c).btu.expects = s.btu.expects ∧ (s.windowTold c).btu.upA = s.btu.upA ∧ (s.windowTold c).btu.upB = s.btu.upB := by
  unfold State.windowTold State.windowWithdrawn State.windowFigures
  split_ifs <;> simp [Btu.closeWindow]

theorem State.windowFigures_ctr (s : State) (c : StationConfig) (a : Ctr) : (s.windowFigures c).ctr a = s.ctr a := by
  unfold State.windowFigures
  split <;> exact State.ctr_congr rfl a

@[simp] theorem State.windowFigures_dvs (s : State) (c : StationConfig) : (s.windowFigures c).dvs = s.dvs := by
  unfold State.windowFigures
  split <;> rfl

/-- Leaving STEADY counts every grant as withdrawn (R117). -/
theorem State.windowTold_ctr (hs : s.stu.counters.length = 117) (c : StationConfig) {a : Ctr} (ha : a ≠ .lateUpdate)
    (hq : a.ofQueue = false) : ((s.windowTold c).ctr a).toNat = min 65535 ((s.ctr a).toNat
      + if a = .withdrawnSpeed ∧ s.btu.speed = .steady ∧ (s.btu.closeWindow c).speed ≠ .steady
        then (s.dvs.d0.grants ++ s.dvs.d1.grants).length else 0) := by
  have hlen : (s.windowFigures c).stu.counters.length = 117 := by
    unfold State.windowFigures
    split <;> exact hs
  have hlen' : (s.windowWithdrawn c).stu.counters.length = 117 := by
    unfold State.windowWithdrawn
    split <;> simp [State.withdrawBoth, hlen]
  have htold : (s.windowTold c).ctr a = (s.windowWithdrawn c).ctr a := by
    unfold State.windowTold
    split
    · exact State.queueSegmentState_ctr hlen' hq
    · rfl
  have := (s.ctr a).isLt
  rw [htold, State.windowWithdrawn]
  split
  · rename_i h
    rw [State.withdrawBoth_ctr hlen _ _ ha, State.windowFigures_ctr, State.windowFigures_dvs, List.filter_true]
    simp [h]
  · rename_i h
    rw [State.windowFigures_ctr, if_neg fun e => h e.2]
    omega

/-- A window close sets OVERSPEED, beside what queuing sets. -/
theorem State.windowTold_ev (hs : s.stu.events.length = 33) (c : StationConfig) {e : Ev} (he : e ≠ .dropped) :
    (s.windowTold c).ev e = (s.ev e || decide (e = .overspeed ∧ s.btu.overspeed = true)) := by
  have hlen : (s.windowFigures c).stu.events.length = 33 := by
    unfold State.windowFigures
    split <;> simp [hs]
  have hlen' : (s.windowWithdrawn c).stu.events.length = 33 := by
    unfold State.windowWithdrawn
    split <;> simp [State.withdrawBoth, hlen]
  have htold : (s.windowTold c).ev e = (s.windowWithdrawn c).ev e := by
    unfold State.windowTold
    split
    · exact State.queueSegmentState_ev hlen' he
    · rfl
  have hwith : (s.windowWithdrawn c).ev e = (s.windowFigures c).ev e := by
    unfold State.windowWithdrawn
    split
    · exact State.withdrawBoth_ev _ _ _ e
    · rfl
  rw [htold, hwith, State.windowFigures]
  split
  · rename_i h
    rw [State.raiseEv_ev (by exact hs)]
    simp [h]
  · rename_i h
    simp [h]

theorem State.windowTold_queue (s : State) (c : StationConfig) : (s.windowTold c).btu.queue = s.btu.queue.map fun r =>
    if s.btu.speed = .steady ∧ (s.btu.closeWindow c).speed ≠ .steady
        ∧ (s.dvs.d0.grants ++ s.dvs.d1.grants).any (fun g => g.ref == r.ref) = true then { r with divert := .withdrawn } else r := by
  have htold : (s.windowTold c).btu.queue = (s.windowWithdrawn c).btu.queue := by
    unfold State.windowTold
    split <;> simp
  rw [htold, State.windowWithdrawn]
  split
  · rename_i h
    rw [State.withdrawBoth_btu, State.windowFigures_dvs, List.filter_true, State.windowFigures_btu]
    refine List.map_congr_left fun r _ => ?_
    simp only [h, not_false_eq_true, ne_eq, true_and]
    rfl
  · rename_i h
    rw [State.windowFigures_btu]
    refine ((List.map_congr_left fun r _ => if_neg fun e => h ⟨e.1, e.2.1⟩).trans (List.map_id' _)).symm

theorem State.windowTold_get (s : State) (c : StationConfig) (d : Div) : (s.windowTold c).dvs.get d = { s.dvs.get d with
    grants := if s.btu.speed = .steady ∧ (s.btu.closeWindow c).speed ≠ .steady then [] else (s.dvs.get d).grants } := by
  have htold : (s.windowTold c).dvs = (s.windowWithdrawn c).dvs := by
    unfold State.windowTold
    split <;> simp
  rw [htold, State.windowWithdrawn]
  split
  · rw [State.withdrawBoth_get, State.windowFigures_dvs]
    simp
  · rw [State.windowFigures_dvs]

end

theorem execWindowClose_eq {s : State} {c : StationConfig} (hc : s.cfg = some c) :
    exec .windowClose s = .next (s.windowTold c).advanceExpects := by
  simp only [exec, execWindowClose, hc, State.windowClose_eq]

/-- Settles O13: the advance of each record and the no-shows that leave. -/
theorem windowCloseAdvancesExpectList : Obligations.WindowCloseAdvancesExpectList := by
  intro c s hc hsize
  obtain ⟨hx, ha, hb⟩ := s.windowTold_expects c
  have hmoved : (s.windowTold c).movedExpects
      = s.btu.expects.map fun x => { x with drem := max (-32768) (x.drem - (s.btu.upstream x.source).vsrc) } := by
    unfold State.movedExpects
    rw [hx]
    refine List.map_congr_left fun x _ => ?_
    unfold ExpectRec.advance Btu.upstream
    rw [ha, hb]
  have hlen : (s.windowTold c).movedExpects.length = s.btu.expects.length := by rw [hmoved, List.length_map]
  have hsplit : ((s.windowTold c).movedExpects.filter (·.noShow)).length
      + ((s.windowTold c).movedExpects.filter fun x => !x.noShow).length = s.btu.expects.length := by
    rw [← hlen]
    exact (List.length_eq_length_filter_add (fun x : ExpectRec => x.noShow)).symm
  have hexp : (s.windowTold c).advanceExpects.btu.expects = (s.windowTold c).movedExpects.filter fun x => !x.noShow := by
    rw [State.advanceExpects_btu]
  refine ⟨_, execWindowClose_eq hc, ?_, ?_, ?_⟩
  · rw [hexp, hmoved]
    rfl
  · have hctr := State.windowTold_ctr (a := .noShow) hsize.counters c (by decide) rfl
    rw [if_neg fun e => by cases e.1] at hctr
    rw [hexp, State.advanceExpects_noShow_ctr (by simpa using hsize.counters), ctr_eq_of_toNat hctr]
    congr 2
    omega
  · rw [hexp, State.advanceExpects_ev (by simpa using hsize.events), State.windowTold_ev hsize.events c (by decide)]
    have hiff : (s.windowTold c).movedExpects.filter (·.noShow) ≠ []
        ↔ ((s.windowTold c).movedExpects.filter fun x => !x.noShow).length < s.btu.expects.length := by
      rw [← List.length_pos_iff]
      omega
    simp [← hiff]

/-- Settles O12: what leaving STEADY withdraws, and when the new speed is told. -/
theorem windowCloseTellsTheNewSpeed : Obligations.WindowCloseTellsTheNewSpeed := by
  intro c s
  refine ⟨fun hn => ⟨s, by simp only [exec, execWindowClose, hn], rfl⟩, fun hc => ?_⟩
  have hspeed : (s.windowTold c).advanceExpects.btu.speed = (s.btu.closeWindow c).speed := by
    rw [State.advanceExpects_btu]
    unfold State.windowTold
    split <;> simp [s.windowWithdrawn_btu c]
  have hv : (s.windowTold c).advanceExpects.btu.v = (s.btu.closeWindow c).v := by
    rw [State.advanceExpects_btu]
    unfold State.windowTold
    split <;> simp [s.windowWithdrawn_btu c]
  have hnews : (s.windowTold c).advanceExpects.btu.speed ≠ s.btu.speed
      ∨ s.btu.reportedV + 2 * c.vTol < (s.windowTold c).advanceExpects.btu.v
      ∨ (s.windowTold c).advanceExpects.btu.v + 2 * c.vTol < s.btu.reportedV ↔ s.speedNews c = true := by
    rw [hspeed, hv]
    simp [State.speedNews, farFrom]
  have hflag : (s.windowWithdrawn c).btu.blockedFlag = s.btu.blockedFlag := by
    unfold State.windowWithdrawn
    split <;> simp [State.windowFigures_btu, Btu.closeWindow]
  have hhlc : (s.windowWithdrawn c).hlc = s.hlc := by
    unfold State.windowWithdrawn State.windowFigures
    split_ifs <;> simp
  have hthlc : (s.windowTold c).advanceExpects.hlc = (s.windowTold c).hlc := (State.advanceExpects_frame _).2.2.2.2.2.2.2.1
  refine ⟨_, execWindowClose_eq hc, ?_, fun d => ?_, fun hn => ?_, fun hn => ?_, fun hs => ?_, ?_, ?_⟩
  · rw [hspeed]
    exact (congrArg Btu.queue (State.advanceExpects_btu _)).trans (s.windowTold_queue c)
  · rw [hspeed, (State.advanceExpects_frame _).2.2.2.2.2.2.1, s.windowTold_get c d]
  · have htold : s.windowTold c = (s.windowWithdrawn c).queueSegmentState := if_pos (hnews.1 hn)
    obtain ⟨h₁, h₂, -⟩ := s.windowWithdrawn_btu c
    rw [hv, hspeed, State.advanceExpects_btu, htold]
    refine ⟨h₁, fun hroom => ⟨.fresh (.segmentState (s.btu.closeWindow c).v (s.btu.closeWindow c).speed s.btu.blockedFlag), ?_, rfl, rfl⟩⟩
    rw [(State.advanceExpects_frame _).2.2.2.2.2.2.2.1, State.queueSegmentState_queue, h₁, h₂, hflag]
    exact enqueue_room (by rwa [hhlc])
  · have htold : s.windowTold c = s.windowWithdrawn c := if_neg fun h => hn (hnews.2 h)
    rw [State.advanceExpects_btu, hthlc, htold]
    exact ⟨(s.windowWithdrawn_btu c).2.2, hhlc⟩
  · rw [hspeed, State.advanceExpects_ctr_of_ne _ (by decide), State.windowTold_ctr hs c (by decide) rfl]
    simp
  · unfold OnlyFrames
    rw [hthlc, State.windowTold]
    split
    · rw [State.queueSegmentState_hlc, hhlc]
    · rw [hhlc]
  · exact ((s.windowTold_parts c).trans (by simp [OnlyParts] : OnlyParts [.btu, .stu] _ _)).mono (by decide)

end Sys2Proof.Machine
end

section
/-! OBLIGATION PROOF. The glitch filters under raw changes and accepted trailing edges (O14). -/

namespace Sys2Proof.Machine

open Sys2Proof

section
variable {s : State} {c : StationConfig} {eye : Eye} {b : Bool}

/-- A wire that takes the level it has changes nothing. -/
theorem State.setEyePin_of_eq (h : s.pins.eye eye = b) : s.setEyePin eye b = s := by
  subst h
  rcases eye with _ | _ | (_ | _) <;> rfl

/-- A change of the wire at a configured station is a step of the filter. -/
theorem exec_eyeRawChange (hc : s.cfg = some c) (hpin : s.pins.eye eye = !b) :
    exec (.eyeRawChange eye b) s = .next ((s.setEyePin eye b).filterStep c eye b) := by
  have hne : ¬ s.pins.eye eye = b := by simp [hpin]
  simp only [exec, execEyeRawChange, State.eyeRawChange, if_neg hne, hc]

/-- The wire and a filter change. -/
def State.turned (eye : Eye) (b : Bool) (f : Filter) (s : State) : State := (s.setEyePin eye b).setFilter eye f

theorem State.turned_fields (s : State) (eye : Eye) (b : Bool) (f : Filter) :
    (s.turned eye b f).btu = s.btu.setFilter eye f ∧ (s.turned eye b f).pins.eye eye = b
      ∧ OnlyParts [.pins, .btu] s (s.turned eye b f) :=
  ⟨rfl, State.setEyePin_eye s eye b, by simp [OnlyParts, State.turned, State.setFilter, State.setEyePin]⟩

/-- What waits for a vanished edge leaves the filters and the wires. -/
theorem State.edgeVanished_filter (s : State) (c : StationConfig) (eye : Eye) :
    (s.edgeVanished c eye).btu.filter eye = s.btu.filter eye ∧ (s.edgeVanished c eye).pins = s.pins := by
  rcases eye with _ | _ | (_ | _) <;> simp [State.edgeVanished, Btu.filter]

theorem State.longBagReturn_filter (s : State) (c : StationConfig) :
    (s.longBagReturn c).btu.fEntry = s.btu.fEntry := by simp

/-! ### A step of a filter, state by state (R11, R12) -/

theorem State.filterStep_clear (h : (s.btu.filter eye).st = .clear) :
    s.filterStep c eye true = if c.gf = 0
      then (s.setFilter eye ⟨.blocking, s.btu.e, (s.btu.filter eye).mute⟩).acceptLeading c eye
      else s.setFilter eye ⟨.blocking, s.btu.e, (s.btu.filter eye).mute⟩ := by
  simp only [State.filterStep, h]

theorem State.filterStep_blocking (h : (s.btu.filter eye).st = .blocking) :
    s.filterStep c eye false = (s.setFilter eye ⟨.clear, (s.btu.filter eye).raw, (s.btu.filter eye).mute⟩).edgeVanished c eye := by
  simp only [State.filterStep, h]

theorem State.filterStep_blocked (h : (s.btu.filter eye).st = .blocked) :
    s.filterStep c eye false = if c.gf = 0
      then (s.setFilter eye ⟨.clearing, s.btu.e, (s.btu.filter eye).mute⟩).acceptTrailing c eye
      else s.setFilter eye ⟨.clearing, s.btu.e, (s.btu.filter eye).mute⟩ := by
  simp only [State.filterStep, h]

theorem State.filterStep_clearing (h : (s.btu.filter eye).st = .clearing) :
    s.filterStep c eye true = if eye = .entry
      then (s.setFilter eye ⟨.blocked, (s.btu.filter eye).raw, (s.btu.filter eye).mute⟩).longBagReturn c
      else s.setFilter eye ⟨.blocked, (s.btu.filter eye).raw, (s.btu.filter eye).mute⟩ := by
  simp only [State.filterStep, h]

end

/-- Settles O14: each raw change in each state of the filter, and the trailing edges that reach no rule. -/
theorem eyeChangesMoveTheFilter : Obligations.EyeChangesMoveTheFilter := by
  intro c eye b s
  refine ⟨fun hpin => ⟨s, ?_, rfl⟩, fun hn => ?_, fun hc hgf => ⟨fun hpin hst => ?_, fun hpin hst => ?_⟩, fun hc hgf hpin hst => ?_,
    fun hc hpin hst => ?_, fun hc hgf hpin hst => ?_, fun hc hpin hst => ?_, fun hc hst hdue hmute => ?_⟩
  · simp only [exec, execEyeRawChange, State.eyeRawChange, hpin, if_true]
  · by_cases hpin : s.pins.eye eye = b
    · refine ⟨s, ?_, (State.setEyePin_of_eq hpin).symm, hpin, .refl _ s⟩
      simp only [exec, execEyeRawChange, State.eyeRawChange, if_pos hpin]
    · refine ⟨s.setEyePin eye b, ?_, rfl, State.setEyePin_eye s eye b, State.setEyePin_parts s eye b⟩
      simp only [exec, execEyeRawChange, State.eyeRawChange, if_neg hpin, hn]
  · rw [exec_eyeRawChange hc hpin, State.filterStep_clear (s := s.setEyePin eye true) hst, if_pos hgf]
    exact (exec_leadingEdgeAccepted (s := s.turned eye true ⟨.blocking, s.btu.e, (s.btu.filter eye).mute⟩) hc eye).symm
  · rw [exec_eyeRawChange hc hpin, State.filterStep_blocked (s := s.setEyePin eye false) hst, if_pos hgf]
    exact (exec_trailingEdgeAccepted (s := s.turned eye false ⟨.clearing, s.btu.e, (s.btu.filter eye).mute⟩) hc eye).symm
  · refine ⟨s.turned eye true ⟨.blocking, s.btu.e, (s.btu.filter eye).mute⟩, ?_, State.turned_fields _ _ _ _⟩
    rw [exec_eyeRawChange hc hpin, State.filterStep_clear (s := s.setEyePin eye true) hst, if_neg (by omega)]
    rfl
  · refine ⟨(s.turned eye false ⟨.clear, (s.btu.filter eye).raw, (s.btu.filter eye).mute⟩).edgeVanished c eye, ?_, ?_, ?_, ?_, ?_⟩
    · rw [exec_eyeRawChange hc hpin, State.filterStep_blocking (s := s.setEyePin eye false) hst]
      rfl
    · rw [(State.edgeVanished_filter _ _ _).1]
      simp [State.turned_fields]
    · rw [(State.edgeVanished_filter _ _ _).1]
      simp [State.turned_fields]
    · rw [(State.edgeVanished_filter _ _ _).2]
      exact (State.turned_fields _ _ _ _).2.1
    · rintro rfl
      exact ⟨rfl, (State.turned_fields _ _ _ _).2.2⟩
  · refine ⟨s.turned eye false ⟨.clearing, s.btu.e, (s.btu.filter eye).mute⟩, ?_, State.turned_fields _ _ _ _⟩
    rw [exec_eyeRawChange hc hpin, State.filterStep_blocked (s := s.setEyePin eye false) hst, if_neg (by omega)]
    rfl
  · by_cases heye : eye = .entry
    · subst heye
      refine ⟨(s.turned .entry true ⟨.blocked, (s.btu.filter .entry).raw, (s.btu.filter .entry).mute⟩).longBagReturn c, ?_, ?_, ?_,
        fun h => absurd rfl h⟩
      · rw [exec_eyeRawChange hc hpin, State.filterStep_clearing (s := s.setEyePin .entry true) hst, if_pos rfl]
        rfl
      · exact congrArg Filter.st (State.longBagReturn_filter _ c)
      · exact (congrArg Filter.mute (State.longBagReturn_filter _ c)).trans rfl
    · refine ⟨s.turned eye true ⟨.blocked, (s.btu.filter eye).raw, (s.btu.filter eye).mute⟩, ?_, ?_, ?_, fun _ =>
        ⟨rfl, (State.turned_fields _ _ _ _).2.2⟩⟩
      · rw [exec_eyeRawChange hc hpin, State.filterStep_clearing (s := s.setEyePin eye true) hst, if_neg heye]
        rfl
      · simp [State.turned_fields]
      · simp [State.turned_fields]
  · refine ⟨s.setFilter eye ⟨.clear, (s.btu.filter eye).raw, false⟩, ?_, rfl, by simp [OnlyParts, State.setFilter]⟩
    refine (exec_trailingEdgeAccepted hc eye).trans (congrArg Host.Outcome.next ?_)
    by_cases hm : (s.btu.filter eye).mute = true
    · exact State.acceptTrailing_of_mute hst hdue hm
    · refine (State.acceptTrailing_of_not_mute hst hdue (Bool.eq_false_of_not_eq_true hm)).trans ?_
      rcases eye with _ | _ | d
      · exact absurd rfl (hmute.resolve_left hm)
      · rfl
      · rfl

end Sys2Proof.Machine
end

section
/-! OBLIGATION PROOF. The speed figure: what forms it, and that no other command changes it (O10). -/

namespace Sys2Proof.Machine

open Sys2Proof

/-! ### The operations that leave the window counts and the figures -/

/-- Two states agree on the window counts, the speed figure and the one before it (R5). -/
@[simp] abbrev SameFigures (s t : State) : Prop :=
  t.btu.history = s.btu.history ∧ t.btu.v = s.btu.v ∧ t.btu.prevV = s.btu.prevV ∧ t.btu.winCount = s.btu.winCount

@[simp] theorem State.makeAccount_figures (s : State) (c : StationConfig) (d : Div) : SameFigures s (s.makeAccount c d) := by
  simp only [State.makeAccount]
  split <;> simp

@[simp] theorem State.refreshChute_figures (s : State) (d : Div) : SameFigures s (s.refreshChute d) := by
  simp only [State.refreshChute]
  split <;> simp

/-! Arrivals and trailing edges at the entry eye. -/

@[simp] theorem State.join_figures (s : State) (c : StationConfig) (r : SegRec) : SameFigures s (s.join c r) := by
  simp [State.join]

@[simp] theorem State.dropExpect_figures (s : State) (x : ExpectRec) : SameFigures s (s.dropExpect x) := ⟨rfl, rfl, rfl, rfl⟩

@[simp] theorem State.joinAnnounced_figures (s : State) (c : StationConfig) (n : Count) (x : ExpectRec) :
    SameFigures s (s.joinAnnounced c n x) := by
  simp only [State.joinAnnounced]
  split <;> simp

@[simp] theorem State.openArrival_figures (s : State) (c : StationConfig) (n : Count) : SameFigures s (s.openArrival c n) := by
  simp only [State.openArrival]
  (repeat' split) <;> simp

@[simp] theorem State.untrackedArrival_figures (s : State) (c : StationConfig) (n : Count) :
    SameFigures s (s.untrackedArrival c n) := by
  simp only [State.untrackedArrival]
  (repeat' split) <;> simp

@[simp] theorem State.entryArrival_figures (s : State) (c : StationConfig) (n : Count) : SameFigures s (s.entryArrival c n) := by
  simp only [State.entryArrival]
  (repeat' split) <;> simp

@[simp] theorem State.setGapRef_figures (s : State) (n : Count) : SameFigures s (s.setGapRef n) := ⟨rfl, rfl, rfl, rfl⟩

@[simp] theorem State.entryTrailing_figures (s : State) (c : StationConfig) (n : Count) : SameFigures s (s.entryTrailing c n) := by
  simp only [State.entryTrailing]
  (repeat' split) <;> simp

/-! The glitch filters. -/

@[simp] theorem State.deliverLeading_figures (s : State) (c : StationConfig) (y : Eye) (n : Count) :
    SameFigures s (s.deliverLeading c y n) := by
  cases y <;> simp [State.deliverLeading]

@[simp] theorem State.deliverTrailing_figures (s : State) (c : StationConfig) (y : Eye) (n : Count) :
    SameFigures s (s.deliverTrailing c y n) := by
  cases y <;> simp [State.deliverTrailing]

@[simp] theorem State.acceptLeading_figures (s : State) (c : StationConfig) (y : Eye) : SameFigures s (s.acceptLeading c y) := by
  simp only [State.acceptLeading]
  split <;> simp

@[simp] theorem State.acceptTrailing_figures (s : State) (c : StationConfig) (y : Eye) : SameFigures s (s.acceptTrailing c y) := by
  simp only [State.acceptTrailing]
  (repeat' split) <;> simp

@[simp] theorem State.edgeVanished_figures (s : State) (c : StationConfig) (y : Eye) : SameFigures s (s.edgeVanished c y) := by
  cases y <;> simp [State.edgeVanished]

@[simp] theorem State.filterStep_figures (s : State) (c : StationConfig) (y : Eye) (b : Bool) :
    SameFigures s (s.filterStep c y b) := by
  simp only [State.filterStep]
  (repeat' split) <;> simp

@[simp] theorem State.eyeRawChange_figures (s : State) (y : Eye) (b : Bool) : SameFigures s (s.eyeRawChange y b) := by
  simp only [State.eyeRawChange]
  (repeat' split) <;> simp

/-! Frames taken by the tracking unit, and status queries. -/

@[simp] theorem State.jamClr_figures (s : State) : SameFigures s s.jamClr := by
  simp only [State.jamClr]
  split <;> simp

@[simp] theorem State.attachLate_figures (s : State) (c : StationConfig) (r : SegRec) (h : Handover) :
    SameFigures s (s.attachLate c r h) := by
  simp [State.attachLate]

@[simp] theorem State.acceptHandover_figures (s : State) (c : StationConfig) (src : Source) (h : Handover) :
    SameFigures s (s.acceptHandover c src h) := by
  simp only [State.acceptHandover]
  (repeat' split) <;> simp

@[simp] theorem State.takeHandover_figures (s : State) (c : StationConfig) (n : Nat) (h : Handover) :
    SameFigures s (s.takeHandover c n h) := by
  simp only [State.takeHandover]
  (repeat' split) <;> simp

@[simp] theorem State.hearDownstream_figures (s : State) (c : StationConfig) (b : Bool) : SameFigures s (s.hearDownstream c b) := by
  simp [State.hearDownstream]

@[simp] theorem State.takeSegmentState_figures (s : State) (c : StationConfig) (n v : Nat) (sp : SpeedState) (b : Bool) :
    SameFigures s (s.takeSegmentState c n v sp b) := by
  simp only [State.takeSegmentState]
  (repeat' split) <;> simp

@[simp] theorem State.zeroGroup_figures (s : State) (n : Nat) : SameFigures s (s.zeroGroup n) := by
  simp only [State.zeroGroup]
  split <;> simp [State.zeroFlow]

@[simp] theorem State.takeQuery_figures (s : State) (c : StationConfig) (q : Query) : SameFigures s (s.takeQuery c q) := by
  simp only [State.takeQuery]
  (repeat' split) <;> simp

@[simp] theorem State.screenQuery_figures (s : State) (c : StationConfig) (q : Query) : SameFigures s (s.screenQuery c q) := by
  simp only [State.screenQuery]
  split <;> simp

/-- A received frame changes the figures only as the block that takes it does. -/
theorem State.receive_figures {take : State → State} (h : ∀ t, SameFigures t (take t)) (s : State) (c : StationConfig) (f : RxFrame)
    (formed : Bool) : SameFigures s (s.receive c f formed take) := by
  simp only [State.receive]
  split <;> simp [h]

@[simp] theorem State.statusQuery_figures (s : State) (f : RxFrame) : SameFigures s (s.statusQuery f) := by
  simp only [State.statusQuery]
  split
  · simp
  split
  · exact State.receive_figures (by simp) s _ f _
  · exact State.receive_figures (by simp) s _ f _

/-! Reads and the scanner line. -/

@[simp] theorem State.takeRace_figures (s : State) (c : StationConfig) (x : Option Race) : SameFigures s (s.takeRace c x) := by
  simp only [State.takeRace]
  split <;> simp

@[simp] theorem State.identify_figures (s : State) (c : StationConfig) (rc : ReaderConfig) (i : Identity) (r : SegRec)
    (x : Option Race) : SameFigures s (s.identify c rc i r x) := by
  simp [State.identify]

@[simp] theorem State.singleRead_figures (s : State) (c : StationConfig) (rc : ReaderConfig) (n : Scan) (r : SegRec)
    (x : Option Race) : SameFigures s (s.singleRead c rc n r x) := by
  simp only [State.singleRead]
  (repeat' split) <;> simp

@[simp] theorem State.associate_figures (s : State) (c : StationConfig) (rc : ReaderConfig) (n : Scan) (x : Option Race) :
    SameFigures s (s.associate c rc n x) := by
  simp only [State.associate]
  split <;> simp

@[simp] theorem State.receipt_figures (s : State) (c : StationConfig) (held : List Byte) (x : Option Race) :
    SameFigures s (s.receipt c held x) := by
  simp only [State.receipt]
  (repeat' split) <;> simp

@[simp] theorem State.byteAssembling_figures (s : State) (c : StationConfig) (held : List Byte) (b : Byte) (framing : Bool)
    (x : Option Race) : SameFigures s (s.byteAssembling c held b framing x) := by
  simp only [State.byteAssembling]
  (repeat' split) <;> simp

/-! The start of the station. -/

@[simp] theorem State.startBtu_figures (s : State) (c : StationConfig) : SameFigures s (s.startBtu c) := ⟨rfl, rfl, rfl, rfl⟩

@[simp] theorem State.goValid_figures (s : State) (c : StationConfig) : SameFigures s (s.goValid c) := by
  simp [State.goValid]

/-! ### The commands -/

/-- An outcome that is a next state agrees with a state on the counts and the figures. -/
def KeepsFigures (s : State) (o : Host.Outcome State Fault Refusal) : Prop := ∀ t, o = .next t → SameFigures s t

@[simp] theorem keepsFigures_next (s t : State) : KeepsFigures s (.next t) ↔ SameFigures s t :=
  ⟨fun h => h t rfl, fun h u hu => by cases hu; exact h⟩

/-- No command but WINDOW_CLOSE, RESET and ENCODER_TICK changes the counts or the figures (R5). -/
theorem exec_keepsFigures {i : Instr} (hw : i ≠ .windowClose) (hr : i ≠ .reset) (ht : i ≠ .encoderTick) (s : State) :
    KeepsFigures s (exec i s) := by
  cases i with
  | reset => exact absurd rfl hr
  | windowClose => exact absurd rfl hw
  | resetRelease =>
    simp only [exec, execResetRelease]
    split <;> simp
  | configurationLoadDone img =>
    simp only [exec, execConfigurationLoadDone]
    (repeat' split) <;> simp [State.goInvalid]
  | alertBlinkTimer =>
    simp only [exec, execAlertBlinkTimer]
    split <;> simp
  | encoderTick => exact absurd rfl ht
  | eyeRawChange y b =>
    simp only [exec, execEyeRawChange]
    simp
  | leadingEdgeAccepted y =>
    simp only [exec, execLeadingEdgeAccepted]
    split <;> simp
  | trailingEdgeAccepted y =>
    simp only [exec, execTrailingEdgeAccepted]
    split <;> simp
  | longBagPoint r =>
    simp only [exec, execLongBagPoint]
    (repeat' split) <;> simp
  | lateGraceEnd r =>
    simp only [exec, execLateGraceEnd]
    (repeat' split) <;> simp
  | readDecisionPoint r =>
    simp only [exec, execReadDecisionPoint]
    (repeat' split) <;> simp
  | commitPoint d r =>
    simp only [exec, execCommitPoint]
    (repeat' split) <;> simp
  | overduePoint r =>
    simp only [exec, execOverduePoint]
    split <;> simp
  | fire d =>
    simp only [exec, execFire]
    (repeat' split) <;> simp
  | release d =>
    simp only [exec, execRelease]
    (repeat' split) <;> simp
  | recoveryEnd d =>
    simp only [exec, execRecoveryEnd]
    (repeat' split) <;> simp
  | confirmWindowEnd d =>
    simp only [exec, execConfirmWindowEnd]
    (repeat' split) <;> simp
  | handoverStale =>
    simp only [exec, execHandoverStale]
    (repeat' split) <;> simp
  | scanByte b framing x =>
    simp only [exec, execScanByte]
    (repeat' split) <;> simp
  | scanGapTimeout =>
    simp only [exec, execScanGapTimeout]
    split <;> simp
  | fullSensorChange d b =>
    simp only [exec, execFullSensorChange]
    split <;> simp
  | closeSwitchChange d b =>
    simp only [exec, execCloseSwitchChange]
    split <;> simp
  | chuteClear d =>
    simp only [exec, execChuteClear]
    (repeat' split) <;> simp
  | jamClr =>
    simp only [exec, execJamClr]
    simp
  | refreshTimer =>
    simp only [exec, execRefreshTimer]
    split <;> simp [State.refresh]
  | downstreamSilence =>
    simp only [exec, execDownstreamSilence]
    (repeat' split) <;> simp
  | upstreamSilence src =>
    simp only [exec, execUpstreamSilence]
    split <;> simp
  | minuteTimer =>
    simp only [exec, execMinuteTimer]
    split <;> simp
  | segmentState f =>
    simp only [exec, execSegmentState]
    (repeat' split) <;> simp [State.receive_figures]
  | handover f =>
    simp only [exec, execHandover]
    (repeat' split) <;> simp [State.receive_figures]
  | divertDone f =>
    simp only [exec, execDivertDone]
    (repeat' split) <;> simp [State.receive_figures]
  | identityNotice f =>
    simp only [exec, execIdentityNotice]
    (repeat' split) <;> simp [State.receive_figures]
  | chuteState f =>
    simp only [exec, execChuteState]
    (repeat' split) <;> simp [State.receive_figures]
  | strayNotice f =>
    simp only [exec, execStrayNotice]
    split <;> simp [State.receive_figures]
  | statusQuery f =>
    simp only [exec, execStatusQuery]
    simp
  | statusReply f =>
    simp only [exec, execStatusReply]
    split <;> simp [State.receive_figures]
  | unknownKind k f =>
    simp only [exec, execUnknownKind]
    (repeat' split) <;> simp [State.receive_figures]
  | frameStart =>
    simp only [exec, execFrameStart]
    (repeat' split) <;> simp
  | attemptEnd bits =>
    simp only [exec, execAttemptEnd]
    (repeat' split) <;> simp
  | quietTimer =>
    simp only [exec, execQuietTimer]
    split <;> simp
  | lineFault =>
    simp only [exec, execLineFault]
    split <;> simp
  | lineFaultExit =>
    simp only [exec, execLineFaultExit]
    (repeat' split) <;> simp
  | rxMalformed bits =>
    simp only [exec, execRxMalformed]
    (repeat' split) <;> simp

/-! ### The close of a window (R4, R5) -/

/-- What a window close makes of the tracking unit, beside the divert status of the records and the expect list. -/
theorem State.windowTold_btu (s : State) (c : StationConfig) : (s.windowTold c).btu = { s.btu.closeWindow c with
    queue := (s.windowTold c).btu.queue, reportedV := (s.windowTold c).btu.reportedV } := by
  rw [Btu.eq_iff]
  unfold State.windowTold State.windowWithdrawn
  split_ifs <;> simp [State.windowFigures_btu]

/-- Settles O10: the history, the figure and the one before it after a window close, and after any other command. -/
theorem windowCloseFormsSpeedFigure : Obligations.WindowCloseFormsSpeedFigure := by
  intro c i s hc hsize
  refine ⟨⟨_, execWindowClose_eq hc, ?_⟩, fun hw hr t ht => ?_, rfl, rfl, rfl, rfl⟩
  · rw [State.advanceExpects_btu, s.windowTold_btu c]
    refine ⟨rfl, rfl, rfl, rfl, rfl, ?_, rfl, rfl, rfl, rfl, fun eye => ?_, rfl, rfl, rfl, rfl, rfl, ?_⟩
    · rw [State.advanceExpects_ev (by simpa using hsize.events), State.windowTold_ev hsize.events c (by decide)]
      simp [Btu.overspeed, Btu.closeWindow]
    · rcases eye with _ | _ | (_ | _) <;> rfl
    · exact ((s.windowTold_parts c).trans (by simp [OnlyParts] : OnlyParts [.btu, .stu] _ _)).mono (by decide)
  · by_cases he : i = .encoderTick
    · subst he
      simp only [exec, execEncoderTick, show s.cfg = some c from hc] at ht
      cases ht
      refine ⟨?_, ?_, ?_, fun h => absurd rfl h⟩ <;> split <;> rfl
    · obtain ⟨h₁, h₂, h₃, h₄⟩ := exec_keepsFigures hw hr he s t ht
      exact ⟨h₁, h₂, h₃, fun _ => h₄⟩

end Sys2Proof.Machine
end

section
/-! SUPPORT. What the evaluation of the blocked flag leaves for the statements to see (R29): the flag, its SEGMENT_STATE, and that the
frame of a change stays in the queue whatever is queued after it. -/

namespace Sys2Proof.Machine

open Sys2Proof

section
variable {c : StationConfig} {s t u : State}

/-- A state that stands for s when the blocked flag is evaluated: the flag and the figures of the report are the same, and the frames
queued since are of other kinds and leave its SEGMENT_STATE a place. -/
structure Reports (s u : State) : Prop where
  flag : u.btu.blockedFlag = s.btu.blockedFlag
  v : u.btu.v = s.btu.v
  speed : u.btu.speed = s.btu.speed
  reported : u.btu.reportedV = s.btu.reportedV
  kept : ∀ o ∈ u.hlc.queue, o.kind = 0 → o ∈ s.hlc.queue
  joins : s.hlc.queue.length < 8 → ∀ b, .fresh (.segmentState s.btu.v s.btu.speed b) ∈ enqueue (.segmentState s.btu.v s.btu.speed b) u.hlc.queue

/-- The same with no frame queued since. -/
structure SameReport (s u : State) : Prop where
  flag : u.btu.blockedFlag = s.btu.blockedFlag
  v : u.btu.v = s.btu.v
  speed : u.btu.speed = s.btu.speed
  reported : u.btu.reportedV = s.btu.reportedV
  frames : u.hlc.queue = s.hlc.queue

theorem SameReport.reports (h : SameReport s u) : Reports s u :=
  ⟨h.flag, h.v, h.speed, h.reported, fun o ho _ => h.frames ▸ ho, fun hl _ => enqueue_room (by rwa [h.frames])⟩

/-- An evaluation that finds the flag as it should be leaves the state, and one that turns it queues the new flag. -/
theorem Reports.flagFollows (h : Reports s u) : FlagFollows c s (u.evalBlocked c) := by
  have hflag : (u.evalBlocked c).btu.blockedFlag
      = flagOf c (u.evalBlocked c).btu.queue.length (u.evalBlocked c).btu.down s.btu.blockedFlag := by
    rw [State.evalBlocked_blockedFlag, h.flag]; simp
  refine ⟨hflag, fun hne => ?_, fun he => ?_⟩
  · have hturn : u.blockedNow c ≠ u.btu.blockedFlag := by
      intro e
      rw [State.evalBlocked, if_pos e, h.flag] at hne
      exact hne rfl
    have he : u.evalBlocked c = (u.setBtu { u.btu with blockedFlag := u.blockedNow c }).queueSegmentState := if_neg hturn
    have hq : (u.evalBlocked c).hlc.queue = enqueue (.segmentState s.btu.v s.btu.speed (u.evalBlocked c).btu.blockedFlag) u.hlc.queue := by
      rw [he, State.queueSegmentState_queue, ← h.v, ← h.speed]
      simp
    refine ⟨by rw [he, ← h.v]; rfl, fun hroom => ⟨.fresh _, ?_, rfl, rfl⟩⟩
    rw [hq]
    exact h.joins hroom _
  · rw [State.evalBlocked_blockedFlag, ← h.flag] at he
    rw [State.evalBlocked_same he, h.reported]
    exact ⟨rfl, h.kept⟩

theorem flagFollows_evalBlocked (h : SameReport s u) : FlagFollows c s (u.evalBlocked c) := h.reports.flagFollows

/-- A frame of another class stays at its place while a waiting frame is replaced. -/
theorem mem_replaceFrame_of_mem {f : Frame} {o : OutFrame} {q : List OutFrame} (h : o ∈ q) (hc : f.sameClass o.frame = false) :
    o ∈ replaceFrame f q := by
  induction q with
  | nil => cases h
  | cons x xs ih =>
    simp only [replaceFrame]
    rcases List.mem_cons.1 h with rfl | h
    · rw [if_neg (by simp [OutFrame.absorbs, hc])]; simp
    · split
      · exact List.mem_cons_of_mem _ h
      · exact List.mem_cons_of_mem _ (ih h)

/-- What leaves a full queue is of the highest waiting kind. -/
theorem mem_dropYoungest_of_mem {k : Nat} {o : OutFrame} {q : List OutFrame} (h : o ∈ q) (hk : o.kind ≠ k) : o ∈ dropYoungest k q := by
  rw [dropYoungest, List.mem_reverse]
  exact (List.mem_eraseP_of_neg (by simp [hk])).2 (List.mem_reverse.2 h)

/-- No frame of a higher kind takes a waiting frame's place (R167, R168). -/
theorem mem_enqueue_of_kind_lt {f : Frame} {o : OutFrame} {q : List OutFrame} (h : o ∈ q) (hk : o.kind < f.kind) : o ∈ enqueue f q := by
  have hc : f.sameClass o.frame = false := Bool.eq_false_iff.2 fun e => by
    have : f.kind = o.kind := Frame.kind_eq_of_sameClass e
    omega
  have ho : o.overtakenBy f = o := by simp [OutFrame.overtakenBy, hc]
  unfold enqueue
  split_ifs with hany hroom hhigh
  · exact List.mem_map.2 ⟨o, mem_replaceFrame_of_mem h hc, ho⟩
  · exact List.mem_map.2 ⟨o, mem_insertFrame.2 (.inr h), ho⟩
  · exact List.mem_map.2 ⟨o, mem_insertFrame.2 (.inr (mem_dropYoungest_of_mem h (by omega))), ho⟩
  · exact h

/-- The flag's SEGMENT_STATE outlasts the queuing of any other kind, which queues no SEGMENT_STATE itself. -/
theorem FlagFollows.of_frame {f : Frame} (h : FlagFollows c s t) (hf : f.kind ≠ 0) (hflag : u.btu.blockedFlag = t.btu.blockedFlag)
    (hqueue : u.btu.queue.length = t.btu.queue.length) (hdown : u.btu.down = t.btu.down) (hv : u.btu.reportedV = t.btu.reportedV)
    (hframes : u.hlc.queue = enqueue f t.hlc.queue) : FlagFollows c s u := by
  obtain ⟨hof, hturned, hsame⟩ := h
  refine ⟨by rw [hflag, hqueue, hdown, hof], fun hne => ?_, fun he => ?_⟩
  · obtain ⟨hr, hsent⟩ := hturned (hflag ▸ hne)
    refine ⟨hv.trans hr, fun hroom => ?_⟩
    obtain ⟨o, ho, hfr, hw⟩ := hsent hroom
    refine ⟨o, ?_, hflag ▸ hfr, hw⟩
    rw [hframes]
    exact mem_enqueue_of_kind_lt ho (by rw [OutFrame.kind, hfr]; exact Nat.pos_of_ne_zero hf)
  · obtain ⟨hr, hnone⟩ := hsame (hflag ▸ he)
    refine ⟨hv.trans hr, fun o ho hk => hnone o ?_ hk⟩
    rw [hframes] at ho
    exact mem_of_mem_enqueue_of_kind_ne ho (by omega)

/-- The same where no frame is queued after it. -/
theorem FlagFollows.of_same (h : FlagFollows c s t) (hflag : u.btu.blockedFlag = t.btu.blockedFlag)
    (hqueue : u.btu.queue.length = t.btu.queue.length) (hdown : u.btu.down = t.btu.down) (hv : u.btu.reportedV = t.btu.reportedV)
    (hframes : u.hlc.queue = t.hlc.queue) : FlagFollows c s u := by
  simpa only [FlagFollows, Queued, hflag, hqueue, hdown, hv, hframes] using h

/-- The permit that R31 gives, with the flag after it. -/
theorem flagFollows_evalPermit (h : SameReport s u) : FlagFollows c s (u.evalPermit c) :=
  flagFollows_evalBlocked ⟨h.flag, h.v, h.speed, h.reported, h.frames⟩

theorem State.evalPermit_permit (s : State) (c : StationConfig) : (s.evalPermit c).btu.permit
    = (c.down == 0 || (s.btu.down.heard && !s.btu.down.lastBlocked && !s.btu.down.silent)) := by
  simp [State.evalPermit, State.permitNow]

theorem State.evalBlocked_onlyFrames (s : State) (c : StationConfig) : OnlyFrames s (s.evalBlocked c) := by
  simp only [OnlyFrames, State.evalBlocked]
  split
  · rfl
  · simp [State.queueSegmentState_hlc]

theorem State.evalPermit_onlyFrames (s : State) (c : StationConfig) : OnlyFrames s (s.evalPermit c) :=
  State.evalBlocked_onlyFrames (s.setBtu { s.btu with permit := s.permitNow c }) c

/-- Of the tracking unit an evaluation moves the flag and the reported V. -/
theorem State.evalBlocked_btu (s : State) (c : StationConfig) : (s.evalBlocked c).btu
    = { s.btu with blockedFlag := (s.evalBlocked c).btu.blockedFlag, reportedV := (s.evalBlocked c).btu.reportedV } := by
  rw [Btu.eq_iff]; simp

theorem State.evalPermit_btu (s : State) (c : StationConfig) : (s.evalPermit c).btu
    = { s.btu with
        permit := (s.evalPermit c).btu.permit
        blockedFlag := (s.evalPermit c).btu.blockedFlag
        reportedV := (s.evalPermit c).btu.reportedV } := by
  rw [Btu.eq_iff]; simp

end

end Sys2Proof.Machine
end

section
/-! OBLIGATION PROOF. The timers that fall silent, the minute, and a received SEGMENT_STATE (O38, O39). -/

namespace Sys2Proof.Machine

open Sys2Proof

/-! ### Silence and the minute (O38) -/

theorem entryAt_map {f : Option IdtEntry → Option IdtEntry} (hf : f none = none) (es : List (Option IdtEntry)) (i : Nat) :
    entryAt (es.map f) i = f (entryAt es i) := by
  simp only [entryAt, List.getD_eq_getElem?_getD, List.getElem?_map]
  cases es[i]? <;> simp [hf]

/-- The neighbour is marked silent (R30). -/
def State.downSilent (s : State) : State :=
  (s.setBtu { s.btu with down := { s.btu.down with timer := none, silent := true } }).raiseEv .downstreamSilent

theorem exec_downstreamSilence {s : State} {c : StationConfig} (hc : s.cfg = some c) (ht : s.btu.down.timer ≠ none) :
    exec .downstreamSilence s = .next (s.downSilent.evalPermit c) := by
  simp [exec, execDownstreamSilence, hc, Option.isSome_iff_ne_none.2 ht, State.downSilent]

theorem TalliedBeside.downSilent {s : State} (hs : SizeLaw s) : TalliedBeside [] [.downstreamSilent] s s.downSilent :=
  ((TalliedBeside.refl hs).same
    (u := s.setBtu { s.btu with down := { s.btu.down with timer := none, silent := true } }) rfl).raise .downstreamSilent

/-- Settles O38: each timer by its own command. -/
theorem silenceAndMinuteTimersExpire : Obligations.SilenceAndMinuteTimersExpire := by
  intro c src s hc hs
  refine ⟨fun ht => ⟨_, exec_downstreamSilence hc ht, ?_⟩, fun ht => ?_, ?_⟩
  · have htally := (TalliedBeside.downSilent hs).evalPermit c
    refine ⟨by simp [State.downSilent], (htally.raised .downstreamSilent (by decide)).trans (by simp), ?_, fun hd hh => ?_,
      flagFollows_evalPermit ⟨rfl, rfl, rfl, rfl, rfl⟩, ?_, State.evalPermit_onlyFrames s.downSilent c, htally.counted,
      by simp [OnlyParts, State.downSilent]⟩
    · simp [State.evalPermit_permit, State.downSilent]
    · rw [State.evalPermit, State.evalBlocked_blockedFlag]
      exact if_pos (.inr ⟨hd, hh, .inr rfl⟩)
    · rw [State.evalPermit_btu]; simp [State.downSilent]
  · have htally := ((Tallied.refl hs).same
      (u := s.mapUpstream src fun u => { u with timer := none, silent := true }) rfl).raise .upstreamSilent
    refine ⟨_, ?_, rfl, htally.counted, htally.raised, by simp [OnlyParts]⟩
    simp [exec, execUpstreamSilence, Option.isSome_iff_ne_none.2 ht]
  · refine ⟨{ s.ageEntries with idt := { s.ageEntries.idt with minuteMs := some 0 } }, by simp only [exec, execMinuteTimer, hc], fun i _ => entryAt_map rfl _ i, ?_, rfl, rfl, by simp [OnlyParts, State.ageEntries]⟩
    obtain ⟨-, -, -, hentries, -⟩ := hs
    simpa [State.ageEntries] using hentries

/-! ### A received SEGMENT_STATE (O39) -/

/-- The upstream part of a SEGMENT_STATE (R39, R40). -/
def State.hearUpstream (c : StationConfig) (sender v : Nat) (sp : SpeedState) (s : State) : State :=
  match sourceOf c sender with
  | none => s
  | some src => s.mapUpstream src fun u => u.hearState v sp

theorem State.hearUpstream_btu {c : StationConfig} {sender : Nat} (h0 : sender ≠ 0) (v : Nat) (sp : SpeedState) (s : State) :
    (s.hearUpstream c sender v sp).btu = { s.btu with
      upA := if sender = c.upA then ⟨Reported.ofSpeed sp, if sp = .stopped then 0 else v, some 0, false⟩ else s.btu.upA
      upB := if sender ≠ c.upA ∧ sender = c.upB then ⟨Reported.ofSpeed sp, if sp = .stopped then 0 else v, some 0, false⟩
        else s.btu.upB } := by
  by_cases ha : sender = c.upA
  · simp [State.hearUpstream, sourceOf, ha, ha ▸ h0, State.mapUpstream, Btu.setUpstream, Upstream.hearState]
  · by_cases hb : sender = c.upB
    · simp [State.hearUpstream, sourceOf, hb, hb ▸ ha, hb ▸ h0, State.mapUpstream, Btu.setUpstream, Upstream.hearState]
    · simp [State.hearUpstream, sourceOf, ha, hb, h0]

theorem State.hearUpstream_rest (c : StationConfig) (sender v : Nat) (sp : SpeedState) (s : State) :
    s.hearUpstream c sender v sp = s.setBtu (s.hearUpstream c sender v sp).btu := by
  unfold State.hearUpstream
  split <;> rfl

theorem State.takeSegmentState_eq {c : StationConfig} {sender : Nat} (h0 : sender ≠ 0) (v : Nat) (sp : SpeedState) (b : Bool) (s : State) :
    s.takeSegmentState c sender v sp b = if sender = c.down then (s.hearUpstream c sender v sp).hearDownstream c b
      else s.hearUpstream c sender v sp := by
  by_cases hd : sender = c.down
  · rw [if_pos hd]; exact if_pos ⟨h0, hd⟩
  · rw [if_neg hd]; exact if_neg fun h => hd h.2

/-- Settles O39: the source's part and the neighbour's part, either without the other. -/
theorem segmentStateMovesTheNeighbourStates : Obligations.SegmentStateMovesTheNeighbourStates := by
  intro c f v sp b s hc ha h0 h63 hv hn hs hread
  have hlen : f.payload.length ≤ 20 := by have := (readSegmentState_eq_some hread).1; omega
  have hnum : f.sender.toNat ≠ 0 := fun e => h0 (BitVec.eq_of_toNat_eq e)
  set t := ((s.setObjection .none).bump .frameTaken).hearUpstream c f.sender.toNat v sp with ht
  have hbtu : t.btu = _ := State.hearUpstream_btu hnum v sp _
  have hrest : t = _ := State.hearUpstream_rest c f.sender.toNat v sp _
  have htally : TalliedBeside [.frameTaken] [] s t :=
    (((TalliedBeside.refl hs).same (u := s.setObjection .none) rfl).bump (a := .frameTaken) (by simp)).same (by rw [hrest]; rfl)
  have hparts : OnlyParts [.btu, .hlc, .stu] s t := by rw [hrest]; simp [OnlyParts]
  have hhlc : t.hlc = { s.hlc with objection := .none } := by rw [hrest]; rfl
  have hexec : exec (.segmentState f) s = .next (if f.sender.toNat = c.down then t.hearDownstream c b else t) := by
    simp only [exec, execSegmentState, hc, hread, State.receive_good ha hlen h0 h63 hv hn, State.takeSegmentState_eq hnum, ht]
  by_cases hd : f.sender.toNat = c.down
  · rw [if_pos hd] at hexec
    have hbefore : (t.hearDownstream c b).btu = _ := State.evalPermit_btu (t.setBtu { t.btu with down := ⟨true, b, some 0, false⟩ }) c
    have hdone : TalliedBeside [.frameTaken] [] s (t.hearDownstream c b) :=
      (htally.same (u := t.setBtu { t.btu with down := ⟨true, b, some 0, false⟩ }) rfl).evalPermit c
    have hc0 : c.down ≠ 0 := hd ▸ hnum
    refine ⟨_, hexec, (hdone.counted _ rfl).trans (by simp), ?_, ?_, ?_, fun _ => ⟨?_, fun hb => ?_, ?_⟩, fun h => absurd hd h, ?_, ?_,
      hdone.counted, ?_⟩
    · rw [hbefore, hbtu]; rfl
    · rw [hbefore, hbtu]; rfl
    · rw [hbefore, if_pos hd]; rfl
    · simp [State.hearDownstream, State.evalPermit_permit, hc0]
    · rw [State.hearDownstream, State.evalPermit, State.evalBlocked_blockedFlag]
      exact if_pos (.inr ⟨hc0, rfl, .inl hb⟩)
    · refine flagFollows_evalPermit ⟨?_, ?_, ?_, ?_, ?_⟩ <;> simp [hbtu, hhlc]
    · rw [hbefore, hbtu]; rfl
    · have := State.evalPermit_onlyFrames (t.setBtu { t.btu with down := ⟨true, b, some 0, false⟩ }) c
      rw [State.hearDownstream, this, State.setBtu_hlc, hhlc]
    · exact (hparts.trans (show OnlyParts [.btu, .hlc, .stu] t (t.hearDownstream c b) by simp [OnlyParts])).mono (by simp)
  · rw [if_neg hd] at hexec
    refine ⟨_, hexec, (htally.counted _ rfl).trans (by simp), by rw [hbtu]; rfl, by rw [hbtu]; rfl, by rw [hbtu, if_neg hd]; rfl,
      fun h => absurd h hd, fun _ => by rw [hbtu, hhlc]; exact ⟨rfl, rfl, rfl, rfl⟩, by rw [hbtu]; rfl, by rw [hhlc], htally.counted, hparts⟩

end Sys2Proof.Machine
end

section
/-! OBLIGATION PROOF. The segment clear (O36) and the refresh period (O37). -/

namespace Sys2Proof.Machine

open Sys2Proof

/-! ### The segment clear (O36) -/

theorem entryAt_releaseEntry (cause : Cause) (o : Option Nat) (es : List (Option IdtEntry)) (i : Nat) :
    entryAt (releaseEntry cause o es) i = if o = some i then moveEntry cause.entryState (entryAt es i) else entryAt es i := by
  cases o with
  | none => simp [releaseEntry]
  | some j => simp [releaseEntry, entryAt_modify _ _ _ _ (show moveEntry cause.entryState none = none from rfl)]

theorem moveEntry_moveEntry (st : EntryState) (e : Option IdtEntry) : moveEntry st (moveEntry st e) = moveEntry st e := by
  cases e <;> rfl

/-- The entries that any of the records holds go, however many hold one. -/
theorem entryAt_releaseEach (cause : Cause) (rs : List SegRec) (es : List (Option IdtEntry)) (i : Nat) :
    entryAt (rs.foldl (fun es (r : SegRec) => releaseEntry cause r.entry es) es) i
      = if ∃ r ∈ rs, r.entry = some i then moveEntry cause.entryState (entryAt es i) else entryAt es i := by
  induction rs generalizing es with
  | nil => simp
  | cons r rs ih =>
    rw [List.foldl_cons, ih, entryAt_releaseEntry]
    by_cases hr : r.entry = some i <;> by_cases hrs : ∃ x ∈ rs, x.entry = some i <;> simp [hr, hrs, moveEntry_moveEntry]

theorem length_releaseEach (cause : Cause) (rs : List SegRec) (es : List (Option IdtEntry)) :
    (rs.foldl (fun es (r : SegRec) => releaseEntry cause r.entry es) es).length = es.length := by
  induction rs generalizing es with
  | nil => rfl
  | cons r rs ih =>
    rw [List.foldl_cons, ih]
    cases r.entry <;> simp [releaseEntry]

/-- The state that a segment clear evaluates the blocked flag in. -/
def State.emptied (s : State) : State :=
  ((({ s with dvs := ⟨s.dvs.d0.cleared, s.dvs.d1.cleared⟩ }).bumpN .grantCancelled
      (s.dvs.d0.grants.length + s.dvs.d1.grants.length)).setEntries
    (s.btu.queue.foldl (fun es (r : SegRec) => releaseEntry .cleared r.entry es) s.idt.entries)).setBtu
    { s.btu with
      queue := []
      expects := []
      openRec := none
      flow := { s.btu.flow with cleared := s.btu.flow.cleared + BitVec.ofNat 32 s.btu.queue.length } }

theorem State.segmentClear_eq (s : State) (c : StationConfig) : s.segmentClear c = s.emptied.evalBlocked c := rfl

/-- Settles O36: what the clear empties, and the flag after it. -/
theorem segmentClearEmptiesTheSegment : Obligations.SegmentClearEmptiesTheSegment := by
  intro s hs
  refine ⟨fun c hc => ?_, fun hc => ⟨s.raiseJamPin, by simp only [exec, execJamClr, State.jamClr, hc], rfl⟩⟩
  have hcfg : s.cfg = some c := hc
  set u := s.raiseJamPin.setBtu { s.btu with jamSample := true } with hu
  obtain ⟨-, -, -, hentries, -⟩ := hs
  obtain ⟨hq, hx, ho, hf, hflag, hidt, hd⟩ := State.segmentClear_fields u c
  have hexec : exec .jamClr s = .next (u.segmentClear c) := by simp only [exec, execJamClr, State.jamClr, hcfg, hu]
  have hhlc : u.emptied.hlc = s.hlc := by simp [State.emptied, hu, State.raiseJamPin]
  have hfollows : FlagFollows c s (u.segmentClear c) := by
    rw [State.segmentClear_eq]
    exact flagFollows_evalBlocked ⟨rfl, rfl, rfl, rfl, by rw [hhlc]⟩
  have hbtu : (u.segmentClear c).btu = { u.emptied.btu with
      blockedFlag := (u.segmentClear c).btu.blockedFlag
      reportedV := (u.segmentClear c).btu.reportedV } := State.evalBlocked_btu u.emptied c
  have hempty : flagOf c 0 s.btu.down s.btu.blockedFlag
      = (c.down != 0 && s.btu.down.heard && (s.btu.down.lastBlocked || s.btu.down.silent)) := by
    simp only [flagOf]
    split_ifs with h h' <;> simp_all
  refine ⟨_, hexec, hq, hx, ho, hf, fun i _ => ?_, ?_, ?_, fun d => ?_, hfollows, hflag.trans hempty, fun he => ?_,
    fun hne => (hfollows.2.1 hne).2, ?_, ?_, ?_, ?_⟩
  · rw [hidt]
    exact entryAt_releaseEach .cleared s.btu.queue s.idt.entries i
  · rw [hidt]
    exact (length_releaseEach _ _ _).trans hentries
  · rw [hidt]
    rfl
  · rw [hd d]
    rfl
  · rw [State.segmentClear_eq, State.evalBlocked_same, hhlc]
    exact (State.evalBlocked_blockedFlag u.emptied c).symm.trans he
  · rw [hbtu]
    rfl
  · simp [State.segmentClear, hu, State.raiseJamPin]
  · have hframes := State.evalBlocked_onlyFrames u.emptied c
    rw [OnlyFrames, hhlc] at hframes
    exact hframes
  · simp [OnlyParts, State.segmentClear, hu, State.raiseJamPin]

/-! ### The refresh period (O37) -/

end Sys2Proof.Machine
end

section
/-! SUPPORT. The CHUTE_STATE of an account in the outbound queue and in its diverter (R140, R141), and which waiting frames it leaves. -/

namespace Sys2Proof.Machine

open Sys2Proof

/-- The CHUTE_STATE of an account (R140). -/
abbrev accountFrame (a : Account) : Frame := .chuteState ⟨a.chute, a.state, a.fill, a.capacity⟩

section
variable {s : State} {f g : Frame}

/-- A waiting frame stays where a frame of another class is queued into a queue with room. -/
theorem Queued.queueFrame (h : Queued g s) (hroom : s.hlc.queue.length < 8) (hc : f.sameClass g = false) : Queued g (s.queueFrame f) := by
  obtain ⟨o, ho, hf, hw⟩ := h
  exact ⟨o, by rw [State.queueFrame_queue]; exact mem_enqueue_of_mem ho hroom (hf ▸ hc), hf, hw⟩

/-- A frame queued into a queue with room waits. -/
theorem queued_queueFrame (hroom : s.hlc.queue.length < 8) (f : Frame) : Queued f (s.queueFrame f) :=
  ⟨.fresh f, by rw [State.queueFrame_queue]; exact enqueue_room hroom, rfl, rfl⟩

theorem Queued.congr {t : State} (h : Queued g s) (e : t.hlc.queue = s.hlc.queue) : Queued g t := by
  simpa only [Queued, e] using h

theorem State.queueFrame_length_le (s : State) (f : Frame) : (s.queueFrame f).hlc.queue.length ≤ s.hlc.queue.length + 1 := by
  rw [State.queueFrame_queue]
  exact length_enqueue_le_succ f _

end

/-! ### A CHUTE_STATE is sent (R140) -/

section
variable (s : State) (d : Div) (a : Account)

theorem State.sendChuteState_eq :
    s.sendChuteState d a = (s.setAccount d { a with lastSent := a.state }).queueFrame (accountFrame a) := rfl

@[simp] theorem State.sendChuteState_queue : (s.sendChuteState d a).hlc.queue = enqueue (accountFrame a) s.hlc.queue := by
  rw [State.sendChuteState_eq, State.queueFrame_queue]
  rfl

@[simp] theorem State.sendChuteState_dvs :
    (s.sendChuteState d a).dvs = s.dvs.put d { s.dvs.get d with account := some { a with lastSent := a.state } } := by
  simp [State.sendChuteState_eq]

theorem State.sendChuteState_onlyFrames : OnlyFrames s (s.sendChuteState d a) := by
  simp [OnlyFrames, State.sendChuteState_eq, State.queueFrame_hlc]

@[simp] theorem State.sendChuteState_stu_lengths : (s.sendChuteState d a).stu.counters.length = s.stu.counters.length
    ∧ (s.sendChuteState d a).stu.events.length = s.stu.events.length := by
  simp [State.sendChuteState_eq]

variable {s d a}

theorem State.sendChuteState_ctr (hs : s.stu.counters.length = 117) {k : Ctr} (hk : k.ofQueue = false) :
    (s.sendChuteState d a).ctr k = s.ctr k :=
  (State.queueFrame_ctr (s := s.setAccount d { a with lastSent := a.state }) hs _ hk).trans rfl

theorem State.sendChuteState_ev (hs : s.stu.events.length = 33) {e : Ev} (he : e ≠ .dropped) :
    (s.sendChuteState d a).ev e = s.ev e :=
  (State.queueFrame_ev (s := s.setAccount d { a with lastSent := a.state }) hs _ he).trans rfl

end

/-! ### The refresh of a chute (R141) -/

section
variable {s : State} {d : Div} {a : Account}

theorem State.refreshChute_of_none (h : (s.dvs.get d).account = none) : s.refreshChute d = s := by
  simp only [State.refreshChute, h]

theorem State.refreshChute_of_some (h : (s.dvs.get d).account = some a) : s.refreshChute d = s.sendChuteState d a := by
  simp only [State.refreshChute, h]

theorem State.refreshChute_dvs (s : State) (d : Div) : (s.refreshChute d).dvs = s.dvs.put d
    { s.dvs.get d with account := (s.dvs.get d).account.map fun a => { a with lastSent := a.state } } := by
  cases h : (s.dvs.get d).account with
  | none =>
    rw [State.refreshChute_of_none h, Option.map_none, ← h]
    exact (Dvs.put_get _ _).symm
  | some a => rw [State.refreshChute_of_some h]; simp

theorem State.refreshChute_length_le (s : State) (d : Div) : (s.refreshChute d).hlc.queue.length ≤ s.hlc.queue.length + 1 := by
  cases h : (s.dvs.get d).account with
  | none => rw [State.refreshChute_of_none h]; omega
  | some a =>
    rw [State.refreshChute_of_some h, State.sendChuteState_queue]
    exact length_enqueue_le_succ _ _

theorem State.refreshChute_onlyFrames (s : State) (d : Div) : OnlyFrames s (s.refreshChute d) := by
  cases h : (s.dvs.get d).account with
  | none => rw [State.refreshChute_of_none h]; rfl
  | some a => rw [State.refreshChute_of_some h]; exact s.sendChuteState_onlyFrames d a

theorem State.refreshChute_stu_lengths (s : State) (d : Div) : (s.refreshChute d).stu.counters.length = s.stu.counters.length
    ∧ (s.refreshChute d).stu.events.length = s.stu.events.length := by
  cases h : (s.dvs.get d).account with
  | none => rw [State.refreshChute_of_none h]; exact ⟨rfl, rfl⟩
  | some a => rw [State.refreshChute_of_some h]; exact s.sendChuteState_stu_lengths d a

theorem State.refreshChute_ev (hs : s.stu.events.length = 33) (d : Div) {e : Ev} (he : e ≠ .dropped) : (s.refreshChute d).ev e = s.ev e := by
  cases h : (s.dvs.get d).account with
  | none => rw [State.refreshChute_of_none h]
  | some a => rw [State.refreshChute_of_some h]; exact State.sendChuteState_ev hs he

theorem queued_refreshChute (h : (s.dvs.get d).account = some a) (hroom : s.hlc.queue.length < 8) :
    Queued (accountFrame a) (s.refreshChute d) := by
  rw [State.refreshChute_of_some h]
  exact queued_queueFrame (s := s.setAccount d { a with lastSent := a.state }) hroom _

theorem Queued.refreshChute {g : Frame} (h : Queued g s) (hroom : s.hlc.queue.length < 8)
    (hc : ∀ a ∈ (s.dvs.get d).account, (accountFrame a).sameClass g = false) : Queued g (s.refreshChute d) := by
  cases ha : (s.dvs.get d).account with
  | none => rwa [State.refreshChute_of_none ha]
  | some a =>
    rw [State.refreshChute_of_some ha]
    exact Queued.queueFrame (s := s.setAccount d { a with lastSent := a.state }) (h.congr rfl) hroom (hc a ha)

end

end Sys2Proof.Machine
end

section
/-! OBLIGATION PROOF. The refresh period: the view ages, and the station reports (O37). -/

namespace Sys2Proof.Machine

open Sys2Proof

/-! ### The ageing of the view (R108) -/

theorem ViewEntry.older_eq (e : ViewEntry) :
    e.older = { e with age := min 3 (e.age + 1), state := if 3 ≤ e.age + 1 then .unknown else e.state } := by
  have : (min 3 (e.age + 1) = 3) ↔ 3 ≤ e.age + 1 := by omega
  simp only [ViewEntry.older, this]

theorem ViewEntry.expires_eq (e : ViewEntry) : e.expires = (decide (2 ≤ e.age) && e.state != .unknown) := by
  have : (min 3 (e.age + 1) = 3) ↔ 2 ≤ e.age := by omega
  rw [ViewEntry.expires, ViewEntry.older_eq, beq_eq_decide]
  simp only [this]

/-- The view after one period. -/
def agedView (c : StationConfig) (view : List ViewEntry) : List ViewEntry :=
  view.mapIdx fun i e => if c.ownChute (chuteAt i) then e else e.older

theorem State.ageView_view (s : State) (c : StationConfig) : (s.ageView c).rrv = { s.rrv with view := agedView c s.rrv.view } := by
  unfold State.ageView
  dsimp only
  split <;> simp [agedView, State.setView]

/-- Every entry of a chute 1 to 31 that is not an own chute is one period older. -/
theorem State.ageView_entry {s : State} (hs : s.rrv.view.length = 31) (c : StationConfig) {k : Nat} (hk : k < 31) :
    (s.ageView c).rrv.entry (k + 1) = if c.ownChute (k + 1) then s.rrv.entry (k + 1) else (s.rrv.entry (k + 1)).older := by
  have hlen : k < s.rrv.view.length := by omega
  have hlen' : k < (agedView c s.rrv.view).length := by simpa [agedView] using hlen
  simp only [Rrv.entry, State.ageView_view, Nat.add_sub_cancel, List.getD_eq_getElem _ _ hlen, List.getD_eq_getElem _ _ hlen']
  exact List.getElem_mapIdx

/-- An entry turns UNKNOWN somewhere in the view. -/
theorem expiring_ne_zero_iff {s : State} (hs : s.rrv.view.length = 31) (c : StationConfig) :
    expiring c s.rrv.view ≠ 0 ↔ ∃ k < 31, c.ownChute (k + 1) = false ∧ (s.rrv.entry (k + 1)).expires = true := by
  have hget : ∀ k e, s.rrv.view[k]? = some e ↔ k < 31 ∧ s.rrv.entry (k + 1) = e := by
    intro k e
    rw [List.getElem?_eq_some_iff]
    constructor
    · rintro ⟨h, rfl⟩
      exact ⟨hs ▸ h, by simp [Rrv.entry, h]⟩
    · rintro ⟨h, rfl⟩
      exact ⟨hs ▸ h, by simp [Rrv.entry, hs, h]⟩
  rw [expiring, ne_eq, List.length_eq_zero_iff, List.filter_eq_nil_iff]
  simp only [Prod.forall, List.mk_mem_zipIdx_iff_getElem?, hget]
  push Not
  constructor
  · rintro ⟨e, k, ⟨hk, he⟩, hx⟩
    subst he
    exact ⟨k, hk, by simpa [chuteAt] using hx⟩
  · rintro ⟨k, hk, ho, he⟩
    exact ⟨_, k, ⟨hk, rfl⟩, by simp [chuteAt, ho, he]⟩

theorem State.ageView_ev {s : State} (hevents : s.stu.events.length = 33) (hview : s.rrv.view.length = 31) (c : StationConfig) : (s.ageView c).ev .viewExpired
    = (s.ev .viewExpired || (List.range 31).any fun k => !c.ownChute (k + 1) && decide (2 ≤ (s.rrv.entry (k + 1)).age)
        && (s.rrv.entry (k + 1)).state != .unknown) := by
  have hany : ((List.range 31).any fun k => !c.ownChute (k + 1) && decide (2 ≤ (s.rrv.entry (k + 1)).age)
      && (s.rrv.entry (k + 1)).state != .unknown) = decide (expiring c s.rrv.view ≠ 0) := by
    rw [Bool.eq_iff_iff, List.any_eq_true, decide_eq_true_iff, expiring_ne_zero_iff hview]
    simp only [List.mem_range, ViewEntry.expires_eq, Bool.and_eq_true, Bool.not_eq_true', and_assoc]
  rw [hany, State.ageView]
  split_ifs with h
  · simp [h, State.ev]
  · rw [State.raiseEv_ev (by simpa using hevents)]
    simp [h]

/-! ### The reports of a refresh period (R141, R171) -/

theorem State.queueSegmentState_btu (s : State) : s.queueSegmentState.btu = { s.btu with reportedV := s.btu.v } := by
  rw [Btu.eq_iff]; simp [State.queueSegmentState]

/-- The SEGMENT_STATE is queued and the view has aged. -/
def State.aged (c : StationConfig) (s : State) : State := ((s.setHlc { s.hlc with refreshMs := some 0 }).queueSegmentState).ageView c

section
variable (s : State) (c : StationConfig)

theorem exec_refreshTimer {s : State} {c : StationConfig} (hc : s.cfg = some c) :
    exec .refreshTimer s = .next (((s.aged c).refreshChute .d0).refreshChute .d1) := by
  simp only [exec, execRefreshTimer, hc, State.refresh, State.aged]

theorem State.aged_btu : (s.aged c).btu = { s.btu with reportedV := s.btu.v } := by
  rw [State.aged, (State.ageView_frame _ c).2.2.2.1, State.queueSegmentState_btu]; rfl

theorem State.aged_queue : (s.aged c).hlc.queue = enqueue (.segmentState s.btu.v s.btu.speed s.btu.blockedFlag) s.hlc.queue := by
  simp [State.aged]

theorem State.aged_hlc : (s.aged c).hlc = { s.hlc with refreshMs := some 0, queue := (s.aged c).hlc.queue } := by
  rw [State.aged, (State.ageView_frame _ c).2.2.2.2.2.2.2.1, State.queueSegmentState_hlc, State.setHlc_hlc]

theorem State.aged_dvs : (s.aged c).dvs = s.dvs := by simp [State.aged]

theorem State.aged_parts : OnlyParts [.btu, .rrv, .hlc, .stu] s (s.aged c) := by simp [OnlyParts, State.aged]

theorem State.aged_stu_lengths : (s.aged c).stu.events.length = s.stu.events.length := by
  unfold State.aged State.ageView
  dsimp only
  split <;> simp

theorem State.aged_length_le : (s.aged c).hlc.queue.length ≤ s.hlc.queue.length + 1 := by
  rw [State.aged_queue]
  exact length_enqueue_le_succ _ _

theorem State.aged_entry {s : State} (hs : SizeLaw s) (c : StationConfig) {k : Nat} (hk : k < 31) :
    (s.aged c).rrv.entry (k + 1) = if c.ownChute (k + 1) then s.rrv.entry (k + 1) else (s.rrv.entry (k + 1)).older := by
  obtain ⟨-, -, -, -, hview, -⟩ := hs
  have h := State.ageView_entry (s := (s.setHlc { s.hlc with refreshMs := some 0 }).queueSegmentState) (by simpa using hview) c hk
  simpa [State.aged] using h

theorem State.aged_ev {s : State} (hs : SizeLaw s) (c : StationConfig) : (s.aged c).ev .viewExpired
    = (s.ev .viewExpired || (List.range 31).any fun k => !c.ownChute (k + 1) && decide (2 ≤ (s.rrv.entry (k + 1)).age)
        && (s.rrv.entry (k + 1)).state != .unknown) := by
  obtain ⟨-, hevents, -, -, hview, -⟩ := hs
  have h := State.ageView_ev (s := (s.setHlc { s.hlc with refreshMs := some 0 }).queueSegmentState) (by simpa using hevents)
    (by simpa using hview) c
  rw [State.queueSegmentState_ev (s := s.setHlc { s.hlc with refreshMs := some 0 }) hevents (by decide)] at h
  simpa [State.aged] using h

/-- What both chutes' reports make of the diverters. -/
theorem State.refreshed_get (d : Div) : (((s.aged c).refreshChute .d0).refreshChute .d1).dvs.get d
    = { s.dvs.get d with account := (s.dvs.get d).account.map fun a => { a with lastSent := a.state } } := by
  rw [State.refreshChute_dvs, State.refreshChute_dvs, State.aged_dvs]
  cases d <;> rfl

end

/-- Settles O37: the report of the speed, the ageing, and then each own chute's report. -/
theorem refreshTimerAgesTheViewAndReports : Obligations.RefreshTimerAgesTheViewAndReports := by
  intro c s hc hs hroom hdistinct
  have hroom0 : (s.aged c).hlc.queue.length < 8 := (s.aged_length_le c).trans_lt (by omega)
  have hroom1 : ((s.aged c).refreshChute .d0).hlc.queue.length < 8 :=
    ((s.aged c).refreshChute_length_le .d0).trans_lt (by have := s.aged_length_le c; omega)
  have hget0 : (s.aged c).dvs.get .d0 = s.dvs.get .d0 := by rw [State.aged_dvs]
  have hget1 : ((s.aged c).refreshChute .d0).dvs.get .d1 = s.dvs.get .d1 := by rw [State.refreshChute_dvs, State.aged_dvs]; rfl
  have hsegment : Queued (.segmentState s.btu.v s.btu.speed s.btu.blockedFlag) (s.aged c) :=
    ⟨.fresh _, by rw [State.aged_queue]; exact enqueue_room (by omega), rfl, rfl⟩
  have hbtu : (((s.aged c).refreshChute .d0).refreshChute .d1).btu = { s.btu with reportedV := s.btu.v } := by
    rw [← State.aged_btu s c]; simp
  have hrrv : (((s.aged c).refreshChute .d0).refreshChute .d1).rrv = (s.aged c).rrv := by simp
  refine ⟨_, exec_refreshTimer hc, ?_, ?_, fun k hk => ?_, ?_, ?_, fun d a ha => ⟨?_, ?_⟩, fun d => ?_, ?_, ?_, ?_⟩
  · rw [State.refreshChute_hlc_frame _ .d1 |>.2.2.2.2.1, State.refreshChute_hlc_frame _ .d0 |>.2.2.2.2.1, State.aged_hlc]
  · rw [hbtu]
  · rw [hrrv, State.aged_entry hs c hk, ViewEntry.older_eq]
  · rw [State.refreshChute_ev (by rw [(State.refreshChute_stu_lengths _ _).2, State.aged_stu_lengths, hs.events]) _ (by decide),
      State.refreshChute_ev (by rw [State.aged_stu_lengths, hs.events]) _ (by decide), State.aged_ev hs]
  · exact (hsegment.refreshChute hroom0 fun _ _ => rfl).refreshChute hroom1 fun _ _ => rfl
  · cases d with
    | d0 =>
      refine (queued_refreshChute (hget0 ▸ ha) hroom0).refreshChute hroom1 fun b hb => ?_
      exact beq_false_of_ne (hdistinct .d1 b (hget1 ▸ hb) a ha)
    | d1 => exact queued_refreshChute (hget1 ▸ ha) hroom1
  · rw [State.refreshed_get, ha]; rfl
  · rw [State.refreshed_get]
  · exact hbtu
  · rw [(State.refreshChute_onlyFrames _ .d1).trans (by rw [State.refreshChute_onlyFrames _ .d0, State.aged_hlc])]
  · exact ((s.aged_parts c).trans (show OnlyParts [.dvs, .hlc, .stu] (s.aged c) _ by simp [OnlyParts])).mono (by decide)

end Sys2Proof.Machine
end

section
/-! SUPPORT. A chute account that takes new fields: the grants it takes back, what is counted and written, and what is sent (8.4, 8.5). -/

namespace Sys2Proof.Machine

open Sys2Proof

/-- An account with its state derived afresh and that state sent (R137, R140). -/
def Account.afresh (a : Account) : Account := { a with state := a.derive, lastSent := a.derive }

theorem Account.derive_eq (a : Account) : a.derive = (if a.closeSwitch then .closed else if a.fullSensor then .full
    else if a.capacity ≤ a.fill then .full else if a.capacity - a.capacity / 8 ≤ a.fill then .nearFull else .isOpen) := rfl

theorem Account.stopsTaking_iff (a b : Account) : a.stopsTaking b = true
    ↔ (a.state = .isOpen ∨ a.state = .nearFull) ∧ (b.state = .full ∨ b.state = .closed) := by
  simp [Account.stopsTaking]

/-! ### What a change of state does (R138) -/

/-- What follows from a change of state, where there is one. -/
def State.stateTurned (d : Div) (a b : Account) (s : State) : State := if b.state = a.state then s else s.chuteTurned d a.state b.state

/-- The grants are taken back where the chute stops taking bags. -/
def State.turnedAway (d : Div) (a b : Account) (s : State) : State :=
  if a.stopsTaking b = true then s.withdraw d .withdrawnChute (fun _ => true) else s

section
variable {s : State} {d : Div} {a b : Account}

theorem State.turnedAway_btu (s : State) (d : Div) (a b : Account) : (s.turnedAway d a b).btu = { s.btu with
    queue := s.btu.queue.map fun q => if a.stopsTaking b = true ∧ (s.dvs.get d).grants.any (·.ref == q.ref) = true then { q with divert := .withdrawn }
      else q } := by
  unfold State.turnedAway
  split_ifs with h
  · rw [State.withdraw_btu]
    refine congrArg (fun l : List SegRec => { s.btu with queue := l }) (List.map_congr_left fun q _ => ?_)
    rw [List.filter_true, SegRec.withdrawnBy]
    simp only [h, true_and]
  · simp [h]

theorem State.turnedAway_dvs (s : State) (d : Div) (a b : Account) : (s.turnedAway d a b).dvs
    = s.dvs.put d { s.dvs.get d with grants := if a.stopsTaking b = true then [] else (s.dvs.get d).grants } := by
  unfold State.turnedAway
  split_ifs with h
  · simp
  · exact (Dvs.put_get _ _).symm

theorem State.turnedAway_ctr (hs : s.stu.counters.length = 117) {k : Ctr} (hk : k ≠ .lateUpdate) :
    ((s.turnedAway d a b).ctr k).toNat
      = min 65535 ((s.ctr k).toNat + if k = .withdrawnChute ∧ a.stopsTaking b = true then (s.dvs.get d).grants.length else 0) := by
  have := (s.ctr k).isLt
  unfold State.turnedAway
  by_cases h : a.stopsTaking b = true
  · rw [if_pos h, State.withdraw_ctr hs d _ _ hk, List.filter_true]
    simp only [h, and_true]
  · rw [if_neg h, if_neg fun hn => h hn.2]
    omega

@[simp] theorem State.turnedAway_ev (s : State) (d : Div) (a b : Account) (e : Ev) : (s.turnedAway d a b).ev e = s.ev e := by
  unfold State.turnedAway
  split <;> simp

@[simp] theorem State.turnedAway_stu_lengths (s : State) (d : Div) (a b : Account) :
    (s.turnedAway d a b).stu.counters.length = s.stu.counters.length ∧ (s.turnedAway d a b).stu.events.length = s.stu.events.length := by
  unfold State.turnedAway
  split <;> simp

@[simp] theorem State.turnedAway_parts (s : State) (d : Div) (a b : Account) :
    (s.turnedAway d a b).pending = s.pending ∧ (s.turnedAway d a b).pins = s.pins ∧ (s.turnedAway d a b).cfl = s.cfl
      ∧ (s.turnedAway d a b).rdu = s.rdu ∧ (s.turnedAway d a b).idt = s.idt ∧ (s.turnedAway d a b).rrv = s.rrv
      ∧ (s.turnedAway d a b).hlc = s.hlc := by
  unfold State.turnedAway
  split <;> simp

/-- A change that stops the chute withdraws, and each change into FULL or CLOSED is counted. -/
theorem State.stateTurned_eq (hb : b.state ≠ .unknown) (s : State) (d : Div) (a : Account) : s.stateTurned d a b
    = if b.state ≠ a.state ∧ b.state = .full then (s.turnedAway d a b).bump (chuteFullCtr d)
      else if b.state ≠ a.state ∧ b.state = .closed then (s.turnedAway d a b).bump (chuteClosedCtr d) else s.turnedAway d a b := by
  by_cases he : b.state = a.state
  · have : ¬ a.stopsTaking b = true := by
      rw [Account.stopsTaking_iff, he]
      rintro ⟨ha | ha, hb⟩ <;> simp [ha] at hb
    simp [State.stateTurned, State.turnedAway, he, this]
  · rw [State.stateTurned, if_neg he, State.chuteTurned.eq_def, ← Account.stopsTaking_eq a hb]
    change (match b.state with
      | .full => (s.turnedAway d a b).bump (chuteFullCtr d)
      | .closed => (s.turnedAway d a b).bump (chuteClosedCtr d)
      | .isOpen => s.turnedAway d a b
      | .nearFull => s.turnedAway d a b
      | .unknown => s.turnedAway d a b) = _
    cases hs : b.state <;> simp_all

theorem State.stateTurned_same (hb : b.state ≠ .unknown) (s : State) (d : Div) (a : Account) :
    (s.stateTurned d a b).btu = (s.turnedAway d a b).btu ∧ (s.stateTurned d a b).dvs = (s.turnedAway d a b).dvs
      ∧ (s.stateTurned d a b).hlc = s.hlc ∧ (s.stateTurned d a b).rrv = s.rrv
      ∧ (s.stateTurned d a b).stu.counters.length = s.stu.counters.length
      ∧ (s.stateTurned d a b).stu.events = (s.turnedAway d a b).stu.events ∧ OnlyParts [.btu, .dvs, .stu] s (s.stateTurned d a b) := by
  rw [State.stateTurned_eq hb]
  split_ifs <;> simp [OnlyParts]

theorem State.stateTurned_ctr (hb : b.state ≠ .unknown) (hs : s.stu.counters.length = 117) {k : Ctr} (hk : k ≠ .lateUpdate) :
    ((s.stateTurned d a b).ctr k).toNat = min 65535 ((s.ctr k).toNat
      + (if k = .withdrawnChute ∧ a.stopsTaking b = true then (s.dvs.get d).grants.length else 0)
      + (if k = chuteFullCtr d ∧ b.state ≠ a.state ∧ b.state = .full then 1 else 0)
      + (if k = chuteClosedCtr d ∧ b.state ≠ a.state ∧ b.state = .closed then 1 else 0)) := by
  have hlen : (s.turnedAway d a b).stu.counters.length = 117 := by simpa using hs
  have haway := State.turnedAway_ctr (d := d) (a := a) (b := b) hs hk
  generalize (if k = .withdrawnChute ∧ a.stopsTaking b = true then (s.dvs.get d).grants.length else 0) = n at haway ⊢
  rw [State.stateTurned_eq hb]
  by_cases h1 : b.state ≠ a.state ∧ b.state = .full
  · have hc : b.state ≠ .closed := by rw [h1.2]; decide
    have hclosed : ¬ (k = chuteClosedCtr d ∧ b.state ≠ a.state ∧ b.state = .closed) := fun h => hc h.2.2
    rw [if_pos h1, State.bump_ctr_toNat hlen, haway, if_neg hclosed, if_congr (and_iff_left h1) rfl rfl]
    omega
  · by_cases h2 : b.state ≠ a.state ∧ b.state = .closed
    · have hf : b.state ≠ .full := by rw [h2.2]; decide
      have hfull : ¬ (k = chuteFullCtr d ∧ b.state ≠ a.state ∧ b.state = .full) := fun h => hf h.2.2
      rw [if_neg h1, if_pos h2, State.bump_ctr_toNat hlen, haway, if_neg hfull, if_congr (and_iff_left h2) rfl rfl]
      omega
    · rw [if_neg h1, if_neg h2, haway, if_neg fun h => h1 h.2, if_neg fun h => h2 h.2]
      omega

end

/-! ### The change as a whole (R137 to R140) -/

/-- Diverter d's account has gone from a to b: the grants of a chute that stops taking bags are taken back, a state reached is counted,
the view follows state and fill, and a state other than the last one sent is sent. -/
structure AccountMoved (c : StationConfig) (d : Div) (a b : Account) (s t : State) : Prop where
  get : t.dvs.get d = { s.dvs.get d with
    account := some b
    grants := if a.stopsTaking b = true then [] else (s.dvs.get d).grants }
  other : t.dvs.get (otherDiv d) = s.dvs.get (otherDiv d)
  btu : t.btu = { s.btu with
    queue := s.btu.queue.map fun q => if a.stopsTaking b = true ∧ (s.dvs.get d).grants.any (·.ref == q.ref) = true
      then { q with divert := .withdrawn } else q }
  counts : ∀ k, k ≠ .lateUpdate → k.ofQueue = false → (t.ctr k).toNat = min 65535 ((s.ctr k).toNat
    + (if k = .withdrawnChute ∧ a.stopsTaking b = true then (s.dvs.get d).grants.length else 0)
    + (if k = chuteFullCtr d ∧ b.state ≠ a.state ∧ b.state = .full then 1 else 0)
    + (if k = chuteClosedCtr d ∧ b.state ≠ a.state ∧ b.state = .closed then 1 else 0))
  events : ∀ e, e ≠ .dropped → t.ev e = s.ev e
  counters : t.stu.counters.length = 117
  sent : b.state ≠ a.lastSent → s.hlc.queue.length < 8 → Queued (accountFrame b) t
  unsent : b.state = a.lastSent → t.hlc = s.hlc
  frames : OnlyFrames s t
  view : b.state ≠ a.state ∨ b.fill ≠ a.fill →
    t.rrv.view = s.rrv.view.set (b.chute - 1) ⟨b.state, c.station, b.fill, b.capacity, 0⟩
  unseen : b.state = a.state → b.fill = a.fill → t.rrv = s.rrv
  parts : OnlyParts [.btu, .rrv, .dvs, .hlc, .stu] s t

/-- The view entry follows a change of state or fill (R139). -/
def State.viewFollows (c : StationConfig) (a b : Account) (s : State) : State :=
  if b.state = a.state ∧ b.fill = a.fill then s else s.writeOwnView c b

/-- A state other than the last one sent is sent (R140). -/
def State.stateTold (d : Div) (b : Account) (s : State) : State := if b.state = b.lastSent then s else s.sendChuteState d b

section
variable {s : State} {c : StationConfig} {d : Div} {a : Account}

theorem State.changeAccount_eq (ha : (s.dvs.get d).account = some a) (f : Account → Account) : s.changeAccount c d f
    = (((s.setAccount d { f a with state := (f a).derive }).stateTurned d a { f a with state := (f a).derive }).viewFollows c a
        { f a with state := (f a).derive }).stateTold d { f a with state := (f a).derive } := by
  simp only [State.changeAccount, ha]
  rfl

theorem State.viewFollows_same (s : State) (c : StationConfig) (a b : Account) : (s.viewFollows c a b).btu = s.btu
    ∧ (s.viewFollows c a b).dvs = s.dvs ∧ (s.viewFollows c a b).hlc = s.hlc ∧ (s.viewFollows c a b).stu = s.stu
    ∧ OnlyParts [.rrv] s (s.viewFollows c a b) := by
  unfold State.viewFollows
  split <;> simp [OnlyParts, State.writeOwnView, State.writeView]

theorem State.stateTold_of_sent {b : Account} (h : b.state = b.lastSent) (s : State) (d : Div) : s.stateTold d b = s := if_pos h

theorem State.stateTold_of_new {b : Account} (h : b.state ≠ b.lastSent) (s : State) (d : Div) :
    s.stateTold d b = s.sendChuteState d b := if_neg h

theorem State.stateTold_same {b : Account} (s : State) (d : Div) : (s.stateTold d b).btu = s.btu ∧ (s.stateTold d b).rrv = s.rrv
    ∧ (s.stateTold d b).stu.counters.length = s.stu.counters.length ∧ (s.stateTold d b).stu.events.length = s.stu.events.length
    ∧ OnlyFrames s (s.stateTold d b) ∧ OnlyParts [.dvs, .hlc, .stu] s (s.stateTold d b) := by
  by_cases h : b.state = b.lastSent
  · rw [State.stateTold_of_sent h]
    exact ⟨rfl, rfl, rfl, rfl, rfl, .refl _ _⟩
  · rw [State.stateTold_of_new h]
    exact ⟨by simp, by simp, by simp, by simp, s.sendChuteState_onlyFrames d b, by simp [OnlyParts]⟩

/-- Either way the account's last state sent is its state. -/
theorem State.stateTold_dvs {b : Account} (h : (s.dvs.get d).account = some b) :
    (s.stateTold d b).dvs = s.dvs.put d { s.dvs.get d with account := some { b with lastSent := b.state } } := by
  by_cases e : b.state = b.lastSent
  · have hb : { b with lastSent := b.state } = b := congrArg (fun x => { b with lastSent := x }) e
    rw [State.stateTold_of_sent e, hb, ← h]
    exact (Dvs.put_get _ _).symm
  · rw [State.stateTold_of_new e, State.sendChuteState_dvs]

theorem State.stateTold_ctr (hs : s.stu.counters.length = 117) (d : Div) (b : Account) {k : Ctr} (hk : k.ofQueue = false) :
    (s.stateTold d b).ctr k = s.ctr k := by
  by_cases e : b.state = b.lastSent
  · rw [State.stateTold_of_sent e]
  · rw [State.stateTold_of_new e, State.sendChuteState_ctr hs hk]

theorem State.stateTold_ev (hs : s.stu.events.length = 33) (d : Div) (b : Account) {e : Ev} (he : e ≠ .dropped) :
    (s.stateTold d b).ev e = s.ev e := by
  by_cases h : b.state = b.lastSent
  · rw [State.stateTold_of_sent h]
  · rw [State.stateTold_of_new h, State.sendChuteState_ev hs he]

end

/-- A change of the fields of an account that keeps which state was sent. -/
theorem State.changeAccount_moved {s : State} (hctr : s.stu.counters.length = 117) (hev : s.stu.events.length = 33) (c : StationConfig) {d : Div} {a : Account}
    (ha : (s.dvs.get d).account = some a) {f : Account → Account} (hsent : (f a).lastSent = a.lastSent) :
    AccountMoved c d a (f a).afresh s (s.changeAccount c d f) := by
  set b : Account := { f a with state := (f a).derive } with hb
  have hderived : b.state ≠ .unknown := (f a).derive_ne_unknown
  have hafresh : (f a).afresh = { b with lastSent := b.state } := rfl
  set u := (s.setAccount d b).stateTurned d a b with hu
  set w := u.viewFollows c a b with hw
  have hexec : s.changeAccount c d f = w.stateTold d b := State.changeAccount_eq ha f
  obtain ⟨hbtu, hdvs, hhlc, hrrv, hctrs, hevs, hparts⟩ := State.stateTurned_same hderived (s.setAccount d b) d a
  obtain ⟨vbtu, vdvs, vhlc, vstu, vparts⟩ := u.viewFollows_same c a b
  obtain ⟨tbtu, trrv, tctrs, tevs, tframes, tparts⟩ := w.stateTold_same (b := b) d
  have hwlen : w.stu.counters.length = 117 := by rw [vstu, hctrs]; exact hctr
  have hwev : w.stu.events = ((s.setAccount d b).turnedAway d a b).stu.events := by rw [vstu, hevs]
  have hwdvs : w.dvs = s.dvs.put d { s.dvs.get d with
      account := some b
      grants := if a.stopsTaking b = true then [] else (s.dvs.get d).grants } := by
    rw [vdvs, hdvs, State.turnedAway_dvs]
    simp
  have hwhlc : w.hlc = s.hlc := by rw [vhlc, hhlc, State.setAccount_hlc]
  have htdvs := State.stateTold_dvs (s := w) (d := d) (b := b) (by rw [hwdvs]; simp)
  have hgrants : ((s.setAccount d b).dvs.get d).grants = (s.dvs.get d).grants := by simp
  rw [hexec, hafresh]
  refine ⟨by rw [htdvs, hwdvs]; simp; rfl, ?_, ?_, fun k hk hq => ?_, fun e he => ?_, tctrs.trans hwlen, ?_, ?_, ?_, ?_, ?_, ?_⟩
  · rw [htdvs, hwdvs]
    simp [Dvs.get_put, otherDiv_ne]
  · rw [tbtu, vbtu, hbtu, State.turnedAway_btu, hgrants]
    rfl
  · rw [State.stateTold_ctr hwlen d b hq, State.ctr_congr vstu,
      State.stateTurned_ctr hderived (s := s.setAccount d b) hctr hk, hgrants]
    rfl
  · rw [State.stateTold_ev (by rw [hwev]; simpa using hev) d b he, State.ev, hwev]
    exact (State.turnedAway_ev (s.setAccount d b) d a b e).trans rfl
  · intro hne hroom
    rw [State.stateTold_of_new (by rw [hb, hsent]; exact hne)]
    exact queued_queueFrame (s := w.setAccount d { b with lastSent := b.state }) (by rw [State.setAccount_hlc, hwhlc]; exact hroom) _
  · intro he
    rw [State.stateTold_of_sent (by rw [hb, hsent]; exact he), hwhlc]
  · rw [OnlyFrames, tframes, hwhlc]
  · intro hne
    have : ¬ (b.state = a.state ∧ b.fill = a.fill) := fun h => hne.elim (· h.1) (· h.2)
    rw [trrv, hw, State.viewFollows, if_neg this, State.writeOwnView, State.writeView, State.setView_rrv, hrrv]
    rfl
  · intro h1 h2
    rw [trrv, hw, State.viewFollows, if_pos ⟨h1, h2⟩, hrrv]
    rfl
  · exact ((((show OnlyParts [.dvs] s (s.setAccount d b) by simp [OnlyParts]).trans hparts).trans vparts).trans tparts).mono (by decide)

end Sys2Proof.Machine
end

section
/-! OBLIGATION PROOF. The bay inputs and the account (O35). -/

namespace Sys2Proof.Machine

open Sys2Proof

/-- What the change of an account from a to b comes to, in the terms of R137 to R140. -/
def AccountAfter (c : StationConfig) (d : Div) (a b : Account) (s t : State) : Prop :=
  b.state = (if b.closeSwitch then .closed else if b.fullSensor then .full else if b.capacity ≤ b.fill then .full
      else if b.capacity - b.capacity / 8 ≤ b.fill then .nearFull else .isOpen)
    ∧ (t.dvs.get d).grants
      = (if (a.state = .isOpen ∨ a.state = .nearFull) ∧ (b.state = .full ∨ b.state = .closed) then [] else (s.dvs.get d).grants)
    ∧ t.btu.queue = s.btu.queue.map (fun (q : SegRec) =>
        if ((a.state = .isOpen ∨ a.state = .nearFull) ∧ (b.state = .full ∨ b.state = .closed))
          ∧ (s.dvs.get d).grants.any (·.ref == q.ref) = true then { q with divert := .withdrawn } else q)
    ∧ (t.ctr .withdrawnChute).toNat = (if (a.state = .isOpen ∨ a.state = .nearFull) ∧ (b.state = .full ∨ b.state = .closed)
        then min 65535 ((s.ctr .withdrawnChute).toNat + (s.dvs.get d).grants.length) else (s.ctr .withdrawnChute).toNat)
    ∧ t.ctr (chuteFullCtr d) = (if b.state ≠ a.state ∧ b.state = .full then satInc (s.ctr (chuteFullCtr d)) else s.ctr (chuteFullCtr d))
    ∧ t.ctr (chuteClosedCtr d)
      = (if b.state ≠ a.state ∧ b.state = .closed then satInc (s.ctr (chuteClosedCtr d)) else s.ctr (chuteClosedCtr d))
    ∧ (b.state ≠ a.lastSent → b.lastSent = b.state
        ∧ (s.hlc.queue.length < 8 → Queued (.chuteState ⟨a.chute, b.state, b.fill, a.capacity⟩) t))
    ∧ (b.state = a.lastSent → b.lastSent = a.lastSent ∧ t.hlc = s.hlc)
    ∧ (b.state ≠ a.state ∨ b.fill ≠ a.fill → 1 ≤ a.chute → a.chute ≤ 31 →
        t.rrv.entry a.chute = ⟨b.state, c.station, b.fill, a.capacity, 0⟩)
    ∧ (b.state = a.state → b.fill = a.fill → t.rrv = s.rrv)

/-- What it leaves of the station beside that. -/
def DiverterAfter (d : Div) (s t : State) : Prop :=
  (t.dvs.get d).eng = (s.dvs.get d).eng ∧ (t.dvs.get d).confirms = (s.dvs.get d).confirms
    ∧ (t.dvs.get d).last = (s.dvs.get d).last ∧ OnlyFrames s t ∧ t.btu = { s.btu with queue := t.btu.queue } ∧ RaisedBeside [] s t
    ∧ t.dvs.get (otherDiv d) = s.dvs.get (otherDiv d) ∧ OnlyParts [.pins, .btu, .rrv, .dvs, .hlc, .stu] s t

/-- A counter that rises by 1 where a condition holds. -/
theorem ctr_eq_satInc_if {x y : Tally16} {p : Prop} [Decidable p] (h : x.toNat = min 65535 (y.toNat + if p then 1 else 0)) :
    x = if p then satInc y else y := by
  have := y.isLt
  refine BitVec.eq_of_toNat_eq ?_
  split_ifs with hp
  · rw [h, if_pos hp, satInc_toNat]
  · rw [h, if_neg hp]; omega

/-- The wires, and the settling of the diverter's inputs, before the account moves. -/
structure BayTaken (d : Div) (y : Bay) (s u : State) : Prop where
  get : u.dvs.get d = { s.dvs.get d with bay := y }
  other : u.dvs.get (otherDiv d) = s.dvs.get (otherDiv d)
  rest : OnlyParts [.pins, .dvs] s u

section
variable {c : StationConfig} {d : Div} {a b : Account} {s u t : State} {y : Bay}

/-- The diverter's own counters are counters of the account alone. -/
theorem chuteCtrs (d : Div) : chuteFullCtr d ≠ .lateUpdate ∧ chuteClosedCtr d ≠ .lateUpdate ∧ chuteClearedCtr d ≠ .lateUpdate
    ∧ (chuteFullCtr d).ofQueue = false ∧ (chuteClosedCtr d).ofQueue = false ∧ (chuteClearedCtr d).ofQueue = false
    ∧ chuteFullCtr d ≠ .withdrawnChute ∧ chuteClosedCtr d ≠ .withdrawnChute ∧ chuteClearedCtr d ≠ .withdrawnChute
    ∧ chuteFullCtr d ≠ chuteClosedCtr d ∧ chuteClearedCtr d ≠ chuteFullCtr d ∧ chuteClearedCtr d ≠ chuteClosedCtr d := by
  cases d <;> decide

theorem AccountMoved.after (h : AccountMoved c d a b u t) (hu : BayTaken d y s u) (hs : SizeLaw s) (hb : b.state = b.derive)
    (hsent : b.lastSent = b.state) (hchute : b.chute = a.chute) (hcap : b.capacity = a.capacity) : AccountAfter c d a b s t := by
  obtain ⟨-, -, -, hubtu, -, -, hurrv, -, huhlc, hustu⟩ := hu.rest
  simp at hubtu hurrv huhlc hustu
  obtain ⟨hf, hc, -, hfq, hcq, -, hfw, hcw, -, hfc, -, -⟩ := chuteCtrs d
  have hgrants : (u.dvs.get d).grants = (s.dvs.get d).grants := by rw [hu.get]
  have hctr : ∀ k, u.ctr k = s.ctr k := State.ctr_congr hustu
  simp only [AccountAfter, ← Account.stopsTaking_iff]
  refine ⟨hb.trans b.derive_eq, by rw [h.get, hgrants], by rw [h.btu, hgrants, hubtu], ?_, ctr_eq_satInc_if ?_, ctr_eq_satInc_if ?_,
    fun hne => ⟨hsent, fun hroom => ?_⟩, fun he => ⟨hsent.trans he, (h.unsent he).trans huhlc⟩, fun hne h1 h31 => ?_,
    fun he hf => (h.unseen he hf).trans hurrv⟩
  · rw [h.counts .withdrawnChute (by decide) rfl, hgrants, hctr]
    simp only [hfw.symm, hcw.symm, false_and, if_false, true_and]
    have := (s.ctr .withdrawnChute).isLt
    split_ifs <;> omega
  · rw [h.counts _ hf hfq, hctr]
    simp only [hfw, hfc, false_and, if_false, true_and, Nat.add_zero]
  · rw [h.counts _ hc hcq, hctr]
    simp only [hcw, hfc.symm, false_and, if_false, true_and, Nat.add_zero]
  · have := h.sent hne (by rwa [huhlc])
    rwa [accountFrame, hchute, hcap] at this
  · obtain ⟨-, -, -, -, hview, -⟩ := hs
    have hplace : a.chute - 1 < (s.rrv.view).length := by omega
    rw [Rrv.entry, h.view hne, hchute, hcap, hurrv]
    simp [hplace]

theorem AccountMoved.diverterAfter (h : AccountMoved c d a b u t) (hu : BayTaken d y s u) : DiverterAfter d s t := by
  obtain ⟨-, -, -, hubtu, -, -, -, -, huhlc, hustu⟩ := hu.rest
  simp at hubtu huhlc hustu
  refine ⟨by rw [h.get, hu.get], by rw [h.get, hu.get], by rw [h.get, hu.get], by rw [OnlyFrames, h.frames, huhlc],
    by rw [h.btu, hubtu], fun e he => ?_, h.other.trans hu.other, (hu.rest.trans h.parts).mono (by decide)⟩
  rw [h.events e he, State.ev_congr hustu]
  simp

/-- A settled change of an input at a chute with an account. -/
theorem State.changeAccount_after (hu : BayTaken d y s u) (hs : SizeLaw s) (c : StationConfig) (ha : (s.dvs.get d).account = some a)
    {f : Account → Account} (hsent : (f a).lastSent = a.lastSent) (hchute : (f a).chute = a.chute)
    (hcap : (f a).capacity = a.capacity) :
    AccountMoved c d a (f a).afresh u (u.changeAccount c d f) ∧ AccountAfter c d a (f a).afresh s (u.changeAccount c d f)
      ∧ ((u.changeAccount c d f).dvs.get d).account = some (f a).afresh ∧ ((u.changeAccount c d f).dvs.get d).bay = y
      ∧ DiverterAfter d s (u.changeAccount c d f) := by
  obtain ⟨-, -, -, -, -, -, -, -, -, hustu⟩ := hu.rest
  simp at hustu
  have hm : AccountMoved c d a (f a).afresh u (u.changeAccount c d f) := State.changeAccount_moved (by rw [hustu]; exact hs.counters)
    (by rw [hustu]; exact hs.events) c (by rw [hu.get]; exact ha) hsent
  exact ⟨hm, hm.after hu hs rfl rfl hchute hcap, by rw [hm.get], by rw [hm.get, hu.get], hm.diverterAfter hu⟩

/-- A counter of another meaning does not matter to the account. -/
theorem AccountAfter.bump (h : AccountAfter c d a b s t) : AccountAfter c d a b s (t.bump (chuteClearedCtr d)) := by
  obtain ⟨-, -, -, -, -, -, -, -, hw, -, hf, hcl⟩ := chuteCtrs d
  rw [AccountAfter, State.bump_ctr_of_ne t hw.symm, State.bump_ctr_of_ne t hf.symm, State.bump_ctr_of_ne t hcl.symm]
  exact h

theorem DiverterAfter.bump (h : DiverterAfter d s t) (k : Ctr) : DiverterAfter d s (t.bump k) := by
  obtain ⟨h1, h2, h3, h4, h5, h6, h7, h8⟩ := h
  exact ⟨h1, h2, h3, h4, h5, h6, h7, (h8.trans (show OnlyParts [.stu] t (t.bump k) by simp [OnlyParts])).mono (by decide)⟩

theorem Pins.full_setFullPin (s : State) (d : Div) (x : Bool) : (s.setFullPin d x).pins.full d = x := by cases d <;> rfl

theorem Pins.close_setClosePin (s : State) (d : Div) (x : Bool) : (s.setClosePin d x).pins.close d = x := by cases d <;> rfl

theorem Pins.clr_raiseClrPin (s : State) (d : Div) : (s.raiseClrPin d).pins.clr d = true := by cases d <;> rfl

/-- The wire takes its level, and the settle count of the input is new. -/
theorem bayTaken_of_pins (hdvs : u.dvs = s.dvs) (hrest : OnlyParts [.pins] s u) (y : Bay) : BayTaken d y s (u.setBay d y) := by
  refine ⟨by simp [State.setBay, hdvs], by simp [State.setBay, hdvs, Dvs.get_put, otherDiv_ne],
    (hrest.trans (show OnlyParts [.dvs] u (u.setBay d y) by simp [OnlyParts])).mono (by decide)⟩

end

theorem State.setFullPin_parts (s : State) (d : Div) (x : Bool) : OnlyParts [.pins] s (s.setFullPin d x) := by
  cases d <;> simp [OnlyParts, State.setFullPin]

theorem State.setClosePin_parts (s : State) (d : Div) (x : Bool) : OnlyParts [.pins] s (s.setClosePin d x) := by
  cases d <;> simp [OnlyParts, State.setClosePin]

theorem State.raiseClrPin_parts (s : State) (d : Div) : OnlyParts [.pins] s (s.raiseClrPin d) := by
  cases d <;> simp [OnlyParts, State.raiseClrPin]

/-- A diverter without an account has nothing to change. -/
theorem State.changeAccount_of_none {s : State} {d : Div} (h : (s.dvs.get d).account = none) (c : StationConfig) (f : Account → Account) :
    s.changeAccount c d f = s := by
  simp only [State.changeAccount, h]

/-- Settles O35: the three inputs, at a station with an account, without one, and without a configuration. -/
theorem bayInputsMoveTheAccount : Obligations.BayInputsMoveTheAccount := by
  intro d b s hs
  have hfull := bayTaken_of_pins (d := d) (u := s.setFullPin d b) (by cases d <;> rfl) (s.setFullPin_parts d b)
    { (s.dvs.get d).bay with full := 0 }
  have hclose := bayTaken_of_pins (d := d) (u := s.setClosePin d b) (by cases d <;> rfl) (s.setClosePin_parts d b)
    { (s.dvs.get d).bay with close := 0 }
  have hclr := bayTaken_of_pins (d := d) (u := s.raiseClrPin d) (by cases d <;> rfl) (s.raiseClrPin_parts d)
    { (s.dvs.get d).bay with clr := 0, clrLevel := true }
  refine ⟨fun c hc a ha => ⟨?_, ?_, ?_⟩, fun c hc hnone => ?_, fun hc => ⟨?_, ?_, ?_⟩⟩
  · obtain ⟨-, hafter, hacc, hbay, hrest⟩ := State.changeAccount_after hfull hs c ha (f := fun x => { x with fullSensor := b }) rfl rfl rfl
    exact ⟨_, by simp only [exec, execFullSensorChange, Option.mem_def.1 hc], ⟨_, hacc, rfl, rfl, rfl, rfl, rfl, hafter⟩,
      by simp [State.setBay], hbay, hrest⟩
  · obtain ⟨-, hafter, hacc, hbay, hrest⟩ := State.changeAccount_after hclose hs c ha (f := fun x => { x with closeSwitch := b }) rfl rfl rfl
    exact ⟨_, by simp only [exec, execCloseSwitchChange, Option.mem_def.1 hc], ⟨_, hacc, rfl, rfl, rfl, rfl, rfl, hafter⟩,
      by simp [State.setBay], hbay, hrest⟩
  · obtain ⟨hm, hafter, hacc, hbay, hrest⟩ := State.changeAccount_after hclr hs c ha (f := fun x => { x with fill := 0 }) rfl rfl rfl
    refine ⟨(((s.raiseClrPin d).setBay d { (s.dvs.get d).bay with clr := 0, clrLevel := true }).changeAccount c d fun x =>
      { x with fill := 0 }).bump (chuteClearedCtr d), by simp only [exec, execChuteClear, Option.mem_def.1 hc, Option.mem_def.1 ha, Option.isSome_some, if_true],
      ⟨_, hacc, rfl, rfl, rfl, rfl, rfl, hafter.bump⟩, ?_, by simp [State.setBay], hbay, hrest.bump _⟩
    rw [State.bump_ctr hm.counters, if_pos rfl]
    congr 1
    obtain ⟨-, -, h1, -, -, h2, -, -, hw, -, hf, hcl⟩ := chuteCtrs d
    have := hm.counts _ h1 h2
    rw [if_neg fun h => hw h.1, if_neg fun h => hf h.1, if_neg fun h => hcl h.1] at this
    exact (ctr_eq_of_toNat this).trans (State.ctr_congr (by simp) _)
  · have hnone' : ∀ {y u}, BayTaken d y s u → (u.dvs.get d).account = none := fun h => by rw [h.get]; exact hnone
    refine ⟨?_, ?_, ?_⟩
    · exact ⟨_, by simp only [exec, execFullSensorChange, Option.mem_def.1 hc, State.changeAccount_of_none (hnone' hfull)],
        by simp [State.setBay], by cases d <;> rfl, hfull.rest⟩
    · exact ⟨_, by simp only [exec, execCloseSwitchChange, Option.mem_def.1 hc, State.changeAccount_of_none (hnone' hclose)],
        by simp [State.setBay], by cases d <;> rfl, hclose.rest⟩
    · exact ⟨s.raiseClrPin d, by simp [exec, execChuteClear, Option.mem_def.1 hc, hnone], Pins.clr_raiseClrPin s d, s.raiseClrPin_parts d⟩
  · exact ⟨s.setFullPin d b, by simp only [exec, execFullSensorChange, hc], Pins.full_setFullPin s d b, s.setFullPin_parts d b⟩
  · exact ⟨s.setClosePin d b, by simp only [exec, execCloseSwitchChange, hc], Pins.close_setClosePin s d b, s.setClosePin_parts d b⟩
  · exact ⟨s.raiseClrPin d, by simp only [exec, execChuteClear, hc], Pins.clr_raiseClrPin s d, s.raiseClrPin_parts d⟩

end Sys2Proof.Machine
end

section
/-! OBLIGATION PROOF. The start of a station whose configuration is judged VALID (O5). -/

namespace Sys2Proof.Machine

open Sys2Proof

/-! ### The making of an account (R133) -/

section
variable {s : State} {c : StationConfig} {d : Div} {v : DiverterConfig}

theorem State.makeAccount_of_none (h : c.diverter d = none) (s : State) : s.makeAccount c d = s := by simp only [State.makeAccount, h]

/-- The account that a diverter starts with. -/
def State.firstAccount (d : Div) (v : DiverterConfig) (s : State) : Account := newAccount v (s.pins.full d) (s.pins.close d)

theorem State.makeAccount_of_some (h : c.diverter d = some v) (s : State) : s.makeAccount c d
    = (((s.setBay d ⟨0, 0, 0, s.pins.clr d⟩).setAccount d (s.firstAccount d v)).writeOwnView c (s.firstAccount d v)).sendChuteState d
        (s.firstAccount d v) := by
  simp only [State.makeAccount, h]
  rfl

/-- The view entry that it starts with. -/
def Account.entryOf (c : StationConfig) (a : Account) : ViewEntry := ⟨a.state, c.station, a.fill, a.capacity, 0⟩

theorem State.makeAccount_dvs (h : c.diverter d = some v) (s : State) : (s.makeAccount c d).dvs
    = s.dvs.put d { s.dvs.get d with bay := ⟨0, 0, 0, s.pins.clr d⟩, account := some (s.firstAccount d v) } := by
  rw [State.makeAccount_of_some h, State.sendChuteState_dvs]
  simp [State.writeOwnView, State.writeView, State.setBay]
  rfl

theorem State.makeAccount_view (h : c.diverter d = some v) (s : State) :
    (s.makeAccount c d).rrv.view = s.rrv.view.set (v.chute - 1) ((s.firstAccount d v).entryOf c) := by
  rw [State.makeAccount_of_some h]
  simp [State.writeOwnView, State.writeView]
  rfl

theorem State.makeAccount_queue (h : c.diverter d = some v) (s : State) :
    (s.makeAccount c d).hlc.queue = enqueue (accountFrame (s.firstAccount d v)) s.hlc.queue := by
  rw [State.makeAccount_of_some h, State.sendChuteState_queue]
  rfl

theorem State.makeAccount_length_le (s : State) (c : StationConfig) (d : Div) :
    (s.makeAccount c d).hlc.queue.length ≤ s.hlc.queue.length + 1 := by
  cases h : c.diverter d with
  | none => rw [State.makeAccount_of_none h]; omega
  | some v => rw [State.makeAccount_queue h]; exact length_enqueue_le_succ _ _

theorem State.makeAccount_view_length (s : State) (c : StationConfig) (d : Div) :
    (s.makeAccount c d).rrv.view.length = s.rrv.view.length := by
  cases h : c.diverter d with
  | none => rw [State.makeAccount_of_none h]
  | some v => rw [State.makeAccount_view h, List.length_set]

theorem State.makeAccount_onlyFrames (s : State) (c : StationConfig) (d : Div) : OnlyFrames s (s.makeAccount c d) := by
  cases h : c.diverter d with
  | none => rw [State.makeAccount_of_none h]; rfl
  | some v =>
    rw [State.makeAccount_of_some h, OnlyFrames, State.sendChuteState_onlyFrames]
    simp [State.writeOwnView, State.writeView]

theorem State.makeAccount_stu_lengths (s : State) (c : StationConfig) (d : Div) :
    (s.makeAccount c d).stu.events.length = s.stu.events.length := by
  cases h : c.diverter d with
  | none => rw [State.makeAccount_of_none h]
  | some v => rw [State.makeAccount_of_some h]; simp [State.writeOwnView, State.writeView]

theorem State.makeAccount_get_other (s : State) (c : StationConfig) {d e : Div} (hde : e ≠ d) :
    (s.makeAccount c d).dvs.get e = s.dvs.get e := by
  cases h : c.diverter d with
  | none => rw [State.makeAccount_of_none h]
  | some v => rw [State.makeAccount_dvs h, Dvs.get_put, if_neg hde]

theorem Queued.makeAccount {g : Frame} (h : Queued g s) (hroom : s.hlc.queue.length < 8)
    (hc : ∀ v, c.diverter d = some v → (accountFrame (s.firstAccount d v)).sameClass g = false) : Queued g (s.makeAccount c d) := by
  cases hv : c.diverter d with
  | none => rwa [State.makeAccount_of_none hv]
  | some v =>
    obtain ⟨o, ho, hf, hw⟩ := h
    exact ⟨o, by rw [State.makeAccount_queue hv]; exact mem_enqueue_of_mem ho hroom (hf ▸ hc v hv), hf, hw⟩

theorem queued_makeAccount (hv : c.diverter d = some v) (hroom : s.hlc.queue.length < 8) :
    Queued (accountFrame (s.firstAccount d v)) (s.makeAccount c d) :=
  ⟨.fresh _, by rw [State.makeAccount_queue hv]; exact enqueue_room hroom, rfl, rfl⟩

/-- The fields of the first account, with a capacity that is not 0 (R137). -/
theorem State.firstAccount_state (hcap : 1 ≤ v.capacity) (s : State) (d : Div) :
    (s.firstAccount d v).state = if s.pins.close d then .closed else if s.pins.full d then .full else .isOpen := by
  have h1 : ¬ v.capacity ≤ 0 := by omega
  have h2 : ¬ nearFullFrom v.capacity ≤ 0 := by unfold nearFullFrom; omega
  simp only [State.firstAccount, newAccount, Account.derive, h1, h2, if_false]

end

/-! ### The start (R178) -/

/-- The blocks and the timers have started. -/
def State.started (c : StationConfig) (s : State) : State :=
  (({ s with cfl := { s.cfl with load := .valid c, reading := false } } : State).startBtu c).startTimers

/-- The accounts are made. -/
def State.opened (c : StationConfig) (s : State) : State := ((s.started c).makeAccount c .d0).makeAccount c .d1

theorem State.goValid_eq (s : State) (c : StationConfig) : s.goValid c = ((s.opened c).evalPermit c).queueSegmentState := rfl

/-- What a VALID image says of the diverters: chutes 1 to 31 and capacities from 1, and not one chute for both (R111, R177). -/
theorem diverters_of_judged {image : List Byte} {c : StationConfig} {n : Nat} (h : judgeImage image = (.ok c, n)) :
    (∀ d, ∀ v ∈ c.diverter d, 1 ≤ v.chute ∧ v.chute ≤ 31 ∧ 1 ≤ v.capacity)
      ∧ ∀ v ∈ c.diverter .d0, ∀ w ∈ c.diverter .d1, v.chute ≠ w.chute := by
  have hgood := configGood_of_judged (congrArg Prod.fst h)
  simp only [configGood, Bool.and_eq_true, Option.all_eq_true] at hgood
  obtain ⟨⟨⟨⟨-, hdiffer⟩, -⟩, h0⟩, h1⟩ := hgood
  refine ⟨fun d v hv => ?_, fun v hv w hw => ?_⟩
  · have hv' : diverterGood c v = true := by
      cases d with
      | d0 => exact h0 v hv
      | d1 => exact h1 v hv
    simp only [diverterGood, decide_eq_true_eq] at hv'
    omega
  · have h0 : c.div0 = some v := hv
    have h1 : c.div1 = some w := hw
    simpa [chutesDiffer, h0, h1] using hdiffer

section
variable (s : State) (c : StationConfig)

theorem State.opened_hlc : (s.opened c).hlc = { s.hlc with line := .active, refreshMs := some 0, queue := (s.opened c).hlc.queue } := by
  rw [State.opened, State.makeAccount_onlyFrames, State.makeAccount_onlyFrames]
  rfl

theorem State.opened_btu : (s.opened c).btu = (s.started c).btu := by simp [State.opened]

theorem State.opened_idt : (s.opened c).idt = { s.idt with minuteMs := some 0 } := by simp [State.opened]; rfl

theorem State.opened_length_le : (s.opened c).hlc.queue.length ≤ s.hlc.queue.length + 2 := by
  have h1 := ((s.started c).makeAccount c .d0).makeAccount_length_le c .d1
  have h0 := (s.started c).makeAccount_length_le c .d0
  have hs : (s.started c).hlc.queue.length = s.hlc.queue.length := rfl
  rw [State.opened]
  omega

theorem State.firstAccount_congr {t : State} (h : t.pins = s.pins) (d : Div) (v : DiverterConfig) : t.firstAccount d v = s.firstAccount d v := by
  simp only [State.firstAccount, h]

variable {s c}

theorem State.opened_account {d : Div} {v : DiverterConfig} (hv : c.diverter d = some v) :
    ((s.opened c).dvs.get d).account = some (s.firstAccount d v) := by
  cases d with
  | d0 =>
    rw [State.opened, State.makeAccount_get_other _ _ (by decide), State.makeAccount_dvs hv, Dvs.get_put_same]
    rfl
  | d1 =>
    rw [State.opened, State.makeAccount_dvs hv, Dvs.get_put_same]
    exact congrArg some (State.firstAccount_congr _ (by simp; rfl) _ _)

theorem State.opened_get_of_none {d : Div} (hv : c.diverter d = none) : (s.opened c).dvs.get d = s.dvs.get d := by
  cases d with
  | d0 => rw [State.opened, State.makeAccount_get_other _ _ (by decide), State.makeAccount_of_none hv]; rfl
  | d1 => rw [State.opened, State.makeAccount_of_none hv, State.makeAccount_get_other _ _ (by decide)]; rfl

end

/-- The view entry of each own chute, the chutes being distinct. -/
theorem State.opened_entry {s : State} {c : StationConfig} (hview : s.rrv.view.length = 31)
    (hrange : ∀ d, ∀ v ∈ c.diverter d, 1 ≤ v.chute ∧ v.chute ≤ 31 ∧ 1 ≤ v.capacity)
    (hdiffer : ∀ v ∈ c.diverter .d0, ∀ w ∈ c.diverter .d1, v.chute ≠ w.chute) {d : Div} {v : DiverterConfig} (hv : c.diverter d = some v) :
    (s.opened c).rrv.entry v.chute = (s.firstAccount d v).entryOf c := by
  have hv' := hrange d v hv
  have hplace : v.chute - 1 < s.rrv.view.length := by omega
  have hstart : (s.started c).rrv.view = s.rrv.view := rfl
  cases d with
  | d0 =>
    cases hw : c.diverter .d1 with
    | none =>
      rw [State.opened, State.makeAccount_of_none hw, Rrv.entry, State.makeAccount_view hv, hstart]
      simp [hplace]
      rfl
    | some w =>
      have hne := hdiffer v hv w hw
      have hw' := hrange .d1 w hw
      rw [State.opened, Rrv.entry, State.makeAccount_view hw, State.makeAccount_view hv, hstart]
      simp [show w.chute - 1 ≠ v.chute - 1 by omega, hplace]
      rfl
  | d1 =>
    rw [State.opened, Rrv.entry, State.makeAccount_view hv,
      State.firstAccount_congr _ (show ((s.started c).makeAccount c .d0).pins = s.pins by simp; rfl)]
    simp [State.makeAccount_view_length, hstart, hplace]

theorem State.countSkipped_parts (s : State) (n : Nat) : OnlyParts [.stu] s (s.countSkipped n) := by
  unfold State.countSkipped
  dsimp only
  split <;> simp [OnlyParts]

theorem State.countSkipped_ev {s : State} (hs : s.stu.events.length = 33) (h : s.hlc.line = .active) {n : Nat} (hn : n ≠ 0) :
    (s.countSkipped n).ev .sectionSkipped = true := by
  have hline : (s.bumpN .sectionSkipped n).hlc.line = .active := by simpa using h
  rw [State.countSkipped, if_pos ⟨hn, hline⟩, State.raiseEv_ev (by simpa using hs)]
  simp

theorem State.goValid_btu (s : State) (c : StationConfig) : (s.goValid c).btu = { (s.started c).btu with
    permit := c.down == 0 || (s.btu.down.heard && !s.btu.down.lastBlocked && !s.btu.down.silent)
    blockedFlag := flagOf c s.btu.queue.length s.btu.down s.btu.blockedFlag
    reportedV := s.btu.v } := by
  rw [State.goValid_eq, State.queueSegmentState_btu, State.evalPermit_btu, State.evalPermit_permit, State.evalPermit,
    State.evalBlocked_blockedFlag, State.setBtu_btu, State.opened_btu]
  rfl

theorem State.goValid_hlc (s : State) (c : StationConfig) :
    (s.goValid c).hlc = { s.hlc with line := .active, refreshMs := some 0, queue := (s.goValid c).hlc.queue } := by
  rw [State.goValid_eq, State.queueSegmentState_hlc, State.evalPermit_onlyFrames, State.opened_hlc]

theorem State.goValid_parts (s : State) (c : StationConfig) : OnlyParts [.cfl, .btu, .idt, .rrv, .dvs, .hlc, .stu] s (s.goValid c) := by
  have hstarted : OnlyParts [.cfl, .btu, .idt, .hlc] s (s.started c) := by simp [OnlyParts, State.started, State.startTimers, State.startBtu]
  have hopened : OnlyParts [.rrv, .dvs, .hlc, .stu] (s.started c) (s.opened c) := by simp [OnlyParts, State.opened]
  have hvalid : OnlyParts [.btu, .hlc, .stu] (s.opened c) (s.goValid c) := by simp [OnlyParts, State.goValid_eq]
  exact ((hstarted.trans hopened).trans hvalid).mono (by decide)

theorem Queued.queueSegmentState {s : State} {g : Frame} (h : Queued g s) (hroom : s.hlc.queue.length < 8)
    (hc : (Frame.segmentState s.btu.v s.btu.speed s.btu.blockedFlag).sameClass g = false) : Queued g s.queueSegmentState := by
  obtain ⟨o, ho, hf, hw⟩ := h
  exact ⟨o, by rw [State.queueSegmentState_queue]; exact mem_enqueue_of_mem ho hroom (hf ▸ hc), hf, hw⟩

theorem Queued.evalBlocked {s : State} {a : Account} (h : Queued (accountFrame a) s) (hroom : s.hlc.queue.length < 8) (c : StationConfig) :
    Queued (accountFrame a) (s.evalBlocked c) := by
  unfold State.evalBlocked
  split
  · exact h
  · exact Queued.queueSegmentState (s := s.setBtu { s.btu with blockedFlag := s.blockedNow c }) (h.congr rfl) hroom rfl

/-- At most three frames are queued before the SEGMENT_STATE of the start. -/
theorem State.evalPermit_length_le (s : State) (c : StationConfig) : (s.evalPermit c).hlc.queue.length ≤ s.hlc.queue.length + 1 := by
  rcases State.evalBlocked_queue (s.setBtu { s.btu with permit := s.permitNow c }) c with h | ⟨f, h⟩
  · rw [State.evalPermit, h]; exact Nat.le_succ _
  · rw [State.evalPermit, h]; exact length_enqueue_le_succ _ _

theorem Queued.goValid {s : State} {c : StationConfig} {a : Account} (h : Queued (accountFrame a) (s.opened c))
    (hroom : (s.opened c).hlc.queue.length ≤ 2) : Queued (accountFrame a) (s.goValid c) := by
  have hlen := (s.opened c).evalPermit_length_le c
  refine Queued.queueSegmentState (s := (s.opened c).evalPermit c) ?_ (by omega) rfl
  exact Queued.evalBlocked (s := (s.opened c).setBtu { (s.opened c).btu with permit := (s.opened c).permitNow c }) (h.congr rfl)
    (hroom.trans_lt (by decide)) c

/-- The CHUTE_STATE of each account waits after the start. -/
theorem queued_opened {s : State} {c : StationConfig} (hdiffer : ∀ v ∈ c.diverter .d0, ∀ w ∈ c.diverter .d1, v.chute ≠ w.chute)
    (hroom : s.hlc.queue.length = 0) {d : Div} {v : DiverterConfig} (hv : c.diverter d = some v) :
    Queued (accountFrame (s.firstAccount d v)) (s.opened c) := by
  have hlen := (s.started c).makeAccount_length_le c .d0
  have hroom0 : (s.started c).hlc.queue.length = 0 := hroom
  have hpins : ((s.started c).makeAccount c .d0).pins = s.pins := by simp; rfl
  cases d with
  | d0 =>
    have hq : Queued (accountFrame (s.firstAccount .d0 v)) ((s.started c).makeAccount c .d0) :=
      queued_makeAccount (s := s.started c) hv (by omega)
    exact hq.makeAccount (by omega) fun w hw => beq_false_of_ne (hdiffer v hv w hw).symm
  | d1 =>
    rw [← State.firstAccount_congr s hpins]
    exact queued_makeAccount hv (by omega)

/-- Settles O5: the blocks from the levels of their inputs, an account for each diverter, the permit, the flag and the first report. -/
theorem validLoadStartsTheStation : Obligations.ValidLoadStartsTheStation := by
  intro image c n s hr hl hj hs
  obtain ⟨-, hevents, -, -, hview, -⟩ := hs
  obtain ⟨hrange, hdiffer⟩ := diverters_of_judged hj
  have hexec : exec (.configurationLoadDone image) s = .next ((s.goValid c).countSkipped n) := by
    simp [exec, execConfigurationLoadDone, hr, hl, hj]
  obtain ⟨hcfl, hbtu, hidt, hrrv, hdvs, hhlc⟩ : ((s.goValid c).countSkipped n).cfl = (s.goValid c).cfl
      ∧ ((s.goValid c).countSkipped n).btu = (s.goValid c).btu ∧ ((s.goValid c).countSkipped n).idt = (s.goValid c).idt
      ∧ ((s.goValid c).countSkipped n).rrv = (s.goValid c).rrv ∧ ((s.goValid c).countSkipped n).dvs = (s.goValid c).dvs
      ∧ ((s.goValid c).countSkipped n).hlc = (s.goValid c).hlc := by simp
  have hgcfl : (s.goValid c).cfl = { s.cfl with load := .valid c, reading := false } := by simp [State.goValid_eq, State.opened]; rfl
  have hgidt : (s.goValid c).idt = { s.idt with minuteMs := some 0 } := by
    rw [← State.opened_idt s c]
    simp [State.goValid_eq]
  have hgdvs : (s.goValid c).dvs = (s.opened c).dvs := by simp [State.goValid_eq]
  have hgrrv : (s.goValid c).rrv = (s.opened c).rrv := by simp [State.goValid_eq]
  have hlen := s.opened_length_le c
  have hstu : (s.goValid c).stu.events.length = 33 := by
    have hopened : (s.opened c).stu.events.length = s.stu.events.length := by
      rw [State.opened, State.makeAccount_stu_lengths, State.makeAccount_stu_lengths]
      rfl
    simpa [State.goValid_eq, hopened] using hevents
  rw [hexec]
  refine ⟨_, rfl, ?_⟩
  rw [hbtu, hidt, hhlc, hdvs, hgdvs, hrrv, hgrrv, State.goValid_btu, hgidt]
  refine ⟨by rw [State.cfg, hcfl, hgcfl], by rw [hcfl, hgcfl], by rw [State.goValid_hlc], rfl, by rw [State.goValid_hlc], rfl, rfl,
    fun eye => ?_, rfl, rfl, rfl, rfl, ?_, ?_, fun d v hv => ?_, fun d hv => State.opened_get_of_none hv, fun hroom => ?_, fun hn => ?_,
    rfl, rfl, rfl, rfl, rfl, rfl, ?_, State.goValid_hlc s c, ?_⟩
  · rcases eye with _ | _ | (_ | _) <;> rfl
  · by_cases h : c.upA = 0 <;> simp [State.started, State.startTimers, State.startBtu, h]
  · by_cases h : c.upB = 0 <;> simp [State.started, State.startTimers, State.startBtu, h]
  · have hv' := hrange d v hv
    refine ⟨_, State.opened_account hv, rfl, rfl, rfl, rfl, rfl, State.firstAccount_state hv'.2.2 s d, rfl,
      State.opened_entry hview hrange hdiffer hv, fun hroom => ?_⟩
    refine Queued.congr (Queued.goValid (queued_opened hdiffer (by rw [hroom]; rfl) hv) ?_) (congrArg Hlc.queue hhlc)
    rw [hroom] at hlen
    exact hlen
  · rw [hroom] at hlen
    have hlen' := (s.opened c).evalPermit_length_le c
    refine Queued.congr (s := s.goValid c) ⟨.fresh _, ?_, rfl, rfl⟩ (congrArg Hlc.queue hhlc)
    rw [List.length_nil] at hlen
    have hflag : ((s.opened c).evalPermit c).btu.blockedFlag = flagOf c s.btu.queue.length s.btu.down s.btu.blockedFlag := by
      rw [State.evalPermit, State.evalBlocked_blockedFlag, State.setBtu_btu, State.opened_btu]
      rfl
    have hspeed : ((s.opened c).evalPermit c).btu.v = s.btu.v ∧ ((s.opened c).evalPermit c).btu.speed = s.btu.speed := by
      simp only [State.evalPermit_btu_frame, State.opened_btu]
      exact ⟨rfl, rfl⟩
    rw [State.goValid_eq, State.queueSegmentState_queue, hflag, hspeed.1, hspeed.2]
    exact enqueue_room (by omega)
  · exact State.countSkipped_ev hstu (by rw [State.goValid_hlc]) hn
  · by_cases ha : c.upA = 0 <;> by_cases hb : c.upB = 0 <;> simp [State.started, State.startTimers, State.startBtu, ha, hb]
  · exact ((s.goValid_parts c).trans ((s.goValid c).countSkipped_parts n)).mono (by decide)

end Sys2Proof.Machine
end

section
/-! OBLIGATION PROOF. One idle millisecond (O3). -/

namespace Sys2Proof.Machine

open Sys2Proof

theorem mem_whenDue {b : Bool} {i j : Instr} : i ∈ whenDue b j ↔ b = true ∧ i = j := by
  unfold whenDue
  split <;> simp_all

theorem expired_iff {t : Option Nat} {p : Nat} : expired t p = true ↔ ∃ n ∈ t, p ≤ n := by
  cases t <;> simp [expired]

/-! ### The samples (R33, R134) -/

/-- The settling of a diverter's bay inputs after one sample. -/
def Diverter.sampledBay (full close clr : Bool) (x : Diverter) : Bay :=
  match x.account with
  | none => x.bay
  | some a =>
    { full := settleStep full a.fullSensor x.bay.full
      close := settleStep close a.closeSwitch x.bay.close
      clr := if settlePeriod ≤ settleStep clr x.bay.clrLevel x.bay.clr ∧ clr = false then 0 else settleStep clr x.bay.clrLevel x.bay.clr
      clrLevel := if settlePeriod ≤ settleStep clr x.bay.clrLevel x.bay.clr ∧ clr = false then false else x.bay.clrLevel }

/-- A diverter after one sample. -/
def Diverter.sampled (full close clr : Bool) (x : Diverter) : Diverter := { x with bay := x.sampledBay full close clr }

theorem Diverter.sampledBay_of_none {full close clr : Bool} {x : Diverter} (h : x.account = none) : x.sampledBay full close clr = x.bay := by
  simp only [Diverter.sampledBay, h]

theorem Diverter.sampled_of_none {full close clr : Bool} {x : Diverter} (h : x.account = none) : x.sampled full close clr = x := by
  rw [Diverter.sampled, Diverter.sampledBay_of_none h]

theorem State.sampleBay_eq (s : State) (d : Div) :
    s.sampleBay d = s.setDiv d ((s.dvs.get d).sampled (s.pins.full d) (s.pins.close d) (s.pins.clr d)) := by
  cases h : (s.dvs.get d).account with
  | none =>
    simp only [State.sampleBay, h, Diverter.sampled_of_none h]
    cases d <;> rfl
  | some a =>
    have hbay : s.sampleBay d = s.setBay d ((s.dvs.get d).sampledBay (s.pins.full d) (s.pins.close d) (s.pins.clr d)) := by
      simp only [State.sampleBay, Diverter.sampledBay, h]
    exact hbay

/-- The station's diverters after one sample. -/
def State.sampledDvs (s : State) : Dvs :=
  ⟨s.dvs.d0.sampled (s.pins.full .d0) (s.pins.close .d0) (s.pins.clr .d0),
    s.dvs.d1.sampled (s.pins.full .d1) (s.pins.close .d1) (s.pins.clr .d1)⟩

theorem State.sampledDvs_get (s : State) (d : Div) :
    s.sampledDvs.get d = (s.dvs.get d).sampled (s.pins.full d) (s.pins.close d) (s.pins.clr d) := by
  cases d <;> rfl

/-- The settle counts of a diverter with an account (R134). -/
theorem Diverter.sampledBay_of_some {full close clr : Bool} {x : Diverter} {a : Account} (h : x.account = some a) :
    (x.sampledBay full close clr).full = (if full = a.fullSensor then 0 else x.bay.full + 1)
      ∧ (x.sampledBay full close clr).close = (if close = a.closeSwitch then 0 else x.bay.close + 1)
      ∧ (clr = x.bay.clrLevel → (x.sampledBay full close clr).clr = 0 ∧ (x.sampledBay full close clr).clrLevel = x.bay.clrLevel)
      ∧ (clr ≠ x.bay.clrLevel →
          (clr = true ∨ x.bay.clr < 15 → (x.sampledBay full close clr).clr = x.bay.clr + 1
            ∧ (x.sampledBay full close clr).clrLevel = x.bay.clrLevel)
          ∧ (clr = false → 15 ≤ x.bay.clr → (x.sampledBay full close clr).clr = 0 ∧ (x.sampledBay full close clr).clrLevel = false)) := by
  simp only [Diverter.sampledBay, h, settleStep, settlePeriod]
  refine ⟨trivial, trivial, fun he => ?_, fun hne => ⟨fun hor => ?_, fun hlow hmany => ?_⟩⟩
  · simp [he]
  · have hkeep : ¬ (16 ≤ x.bay.clr + 1 ∧ clr = false) := by
      rintro ⟨h16, hf⟩
      rcases hor with h1 | h1
      · rw [hf] at h1; cases h1
      · omega
    simp only [hne, if_false, hkeep, and_self]
  · subst hlow
    have hfall : 16 ≤ x.bay.clr + 1 := by omega
    simp [hne, hfall]

theorem State.sampleInputs_of_cfg {s : State} {c : StationConfig} (hc : s.cfg = some c) : s.sampleInputs
    = { s with dvs := s.sampledDvs, btu := { s.btu with jamSample := s.btu.jamSample && s.pins.jam } } := by
  simp only [State.sampleInputs, hc, State.sampleBay_eq]
  rfl

theorem State.sampleInputs_of_none {s : State} (hc : s.cfg = none) : s.sampleInputs = s := by simp only [State.sampleInputs, hc]

/-! ### The commands that become due -/

section
variable {s : State} {c : StationConfig}

/-- A millisecond at a configured station. -/
theorem State.oneMs_of_cfg (hc : s.cfg = some c) : s.oneMs = { s.advanceTimers with
    dvs := s.sampledDvs
    btu := { s.advanceTimers.btu with jamSample := s.btu.jamSample && s.pins.jam } } :=
  State.sampleInputs_of_cfg (s := s.advanceTimers) hc

theorem State.oneMs_of_none (hc : s.cfg = none) : s.oneMs = s.advanceTimers :=
  State.sampleInputs_of_none (s := s.advanceTimers) hc

/-- Of a configured station, each command is due by its own timer or input. -/
theorem mem_expiries (i : Instr) : i ∈ expiries c s ↔
    (expired s.btu.windowMs windowPeriodMs = true ∧ i = .windowClose) ∨ (expired s.rdu.gapMs gapPeriodMs = true ∧ i = .scanGapTimeout)
      ∨ (∃ d, i ∈ bayEvents d s) ∨ ((s.pins.jam && !s.btu.jamSample) = true ∧ i = .jamClr)
      ∨ (expired s.hlc.refreshMs c.refreshMs = true ∧ i = .refreshTimer)
      ∨ (expired s.btu.down.timer c.silenceMs = true ∧ i = .downstreamSilence)
      ∨ (expired s.btu.upA.timer c.silenceMs = true ∧ i = .upstreamSilence .a)
      ∨ (expired s.btu.upB.timer c.silenceMs = true ∧ i = .upstreamSilence .b)
      ∨ (expired s.idt.minuteMs minutePeriodMs = true ∧ i = .minuteTimer)
      ∨ (expired s.hlc.quietMs quietPeriodMs = true ∧ i = .quietTimer) := by
  have hd : (∃ d, i ∈ bayEvents d s) ↔ i ∈ bayEvents .d0 s ∨ i ∈ bayEvents .d1 s :=
    ⟨fun ⟨d, h⟩ => by cases d <;> simp [h], fun h => h.elim (⟨_, ·⟩) (⟨_, ·⟩)⟩
  rw [hd]
  simp only [expiries, List.mem_append, mem_whenDue, or_assoc]

theorem mem_bayEvents (i : Instr) (d : Div) : i ∈ bayEvents d s ↔
    (16 ≤ (s.dvs.get d).bay.full ∧ i = .fullSensorChange d (s.pins.full d))
      ∨ (16 ≤ (s.dvs.get d).bay.close ∧ i = .closeSwitchChange d (s.pins.close d)) ∨ (16 ≤ (s.dvs.get d).bay.clr ∧ i = .chuteClear d) := by
  simp only [bayEvents, List.mem_append, mem_whenDue, or_assoc, decide_eq_true_eq]
  rfl

end

/-- Settles O3: the timers in every load state, and at a configured station the samples and what becomes due. -/
theorem idleMillisecondAdvancesTimers : Obligations.IdleMillisecondAdvancesTimers := by
  intro s hp
  refine ⟨s.idle, by simp only [step, hp], ?_⟩
  cases hc : s.cfg with
  | none =>
    rw [State.idle, State.oneMs_of_none hc, hp, List.nil_append]
    refine ⟨rfl, rfl, rfl, rfl, rfl, rfl, rfl, rfl, fun d => rfl, fun _ => ⟨rfl, rfl⟩, fun hl => ?_, fun r hl => ?_, fun c h => by cases h⟩
    · have hl' : s.advanceTimers.cfl.load = .loading := hl
      simp only [dueCommands, hl']
    · have hl' : s.advanceTimers.cfl.load = .invalid r := hl
      have hmem : ∀ i, i ∈ dueCommands s.advanceTimers ↔
          blinkPeriod r s.advanceTimers.cfl.blinkPhase ≤ s.advanceTimers.cfl.blinkMs ∧ i = .alertBlinkTimer := by
        intro i
        simp only [dueCommands, hl', mem_whenDue, decide_eq_true_eq]
      exact ⟨(hmem _).trans (and_iff_left rfl), fun i hi => ((hmem i).1 hi).2⟩
  | some c =>
    have hl : s.cfl.load = .valid c := by
      cases h : s.cfl.load <;> simp_all [State.cfg]
    have hl' : s.oneMs.cfl.load = .valid c := by rw [State.oneMs_of_cfg hc]; exact hl
    have hdue : dueCommands s.oneMs = expiries c s.oneMs := by simp only [dueCommands, hl']
    have hmem : ∀ i, i ∈ s.idle.pending ↔ i ∈ expiries c s.oneMs := by
      intro i
      rw [State.idle, hdue, hp, List.nil_append]
    have hdvs : ∀ d, s.oneMs.dvs.get d = (s.dvs.get d).sampled (s.pins.full d) (s.pins.close d) (s.pins.clr d) := by
      intro d
      rw [State.oneMs_of_cfg hc]
      exact s.sampledDvs_get d
    refine ⟨?_, ?_, ?_, ?_, ?_, ?_, ?_, ?_, fun d => ?_, fun h => (by cases h), fun h => ?_, fun r h => ?_, fun c' h => ?_⟩
    · rw [State.idle, State.oneMs_of_cfg hc]; rfl
    · rw [State.idle, State.oneMs_of_cfg hc]; rfl
    · rw [State.idle, State.oneMs_of_cfg hc]; rfl
    · rw [State.idle, State.oneMs_of_cfg hc]; rfl
    · rw [State.idle, State.oneMs_of_cfg hc]; rfl
    · rw [State.idle, State.oneMs_of_cfg hc]; rfl
    · rw [State.idle, State.oneMs_of_cfg hc]; rfl
    · rw [State.idle, State.oneMs_of_cfg hc]; rfl
    · change s.oneMs.dvs.get d = { s.dvs.get d with bay := (s.oneMs.dvs.get d).bay }
      rw [hdvs]
      rfl
    · rw [hl] at h; cases h
    · rw [hl] at h; cases h
    · cases h
      have hpins : s.oneMs.pins = s.pins := by rw [State.oneMs_of_cfg hc]; rfl
      have hjam : s.oneMs.btu.jamSample = (s.btu.jamSample && s.pins.jam) := by rw [State.oneMs_of_cfg hc]
      simp only [hmem, mem_expiries, mem_bayEvents, expired_iff, hpins, hjam]
      refine ⟨?_, ?_, ?_, ?_, ?_, ?_, ?_, ?_, ?_, hjam, fun i hi => ?_, fun d => ⟨?_, ?_, ?_, fun hnone => ?_, fun a ha => ?_⟩⟩
      · simp; rfl
      · simp; rfl
      · simp; rfl
      · simp; rfl
      · simp; rfl
      · simp; rfl
      · simp; rfl
      · simp; rfl
      · simp
        intro h1 h2
        rw [h1] at h2
        cases h2
      · rcases hi with ⟨-, h⟩ | ⟨-, h⟩ | ⟨d, ⟨-, h⟩ | ⟨-, h⟩ | ⟨-, h⟩⟩ | ⟨-, h⟩ | ⟨-, h⟩ | ⟨-, h⟩ | ⟨-, h⟩ | ⟨-, h⟩ | ⟨-, h⟩ | ⟨-, h⟩ <;>
          subst h <;> simp
      · simp; rfl
      · simp; rfl
      · simp; rfl
      · exact (hdvs d).trans (Diverter.sampled_of_none hnone)
      · have hbay := Diverter.sampledBay_of_some (full := s.pins.full d) (close := s.pins.close d) (clr := s.pins.clr d) ha
        have : (s.idle.dvs.get d).bay = (s.dvs.get d).sampledBay (s.pins.full d) (s.pins.close d) (s.pins.clr d) :=
          congrArg Diverter.bay (hdvs d)
        rw [this]
        exact hbay

end Sys2Proof.Machine
end

section
/-! OBLIGATION PROOF. The record assembler byte by byte, and a record that no role of the station uses (O31). -/

namespace Sys2Proof.Machine

open Sys2Proof

/-! ### What a byte is to the record held (R62) -/

section
variable {letter b : Byte} {digits : List Byte}

/-- The two letters whose records carry digits. -/
abbrev digitLetter (letter : Byte) : Prop := letter = letterR ∨ letter = letterM

theorem ne_letterN (h : digitLetter letter) : letter ≠ letterN := by
  rcases h with rfl | rfl <;> decide

theorem fitByte_letterN (b : Byte) (digits : List Byte) :
    fitByte (letterN :: digits) b = if b = charCR then .complete else .abandon := by
  simp [fitByte]

theorem fitByte_digits (h : digitLetter letter) : fitByte (letter :: digits) b
    = if digits.length < 19 then (if isDigit b = true then .collect else .abandon)
      else if digits.length = 19 then (if isDigit b = true ∨ b = letterX then .collect else .abandon)
      else if b = charCR then .complete else .abandon := by
  simp only [fitByte, List.head?_cons, Option.some.injEq, ne_letterN h, if_false, List.length_cons, Nat.reduceEqDiff, Bool.or_eq_true,
    beq_iff_eq, show digits.length + 1 < 20 ↔ digits.length < 19 by omega]

end

/-! ### The commands of the scanner line -/

section
variable {s : State} {c : StationConfig} {b : Byte} {framing : Bool} {race : Option Race} {held : List Byte}

theorem exec_scanByte_idle (hc : s.cfg = some c) (ha : s.rdu.asm = .idle) :
    exec (.scanByte b framing race) s = .next (s.byteIdle b framing) := by
  simp only [exec, execScanByte, hc, ha]

theorem exec_scanByte_assembling (hc : s.cfg = some c) (ha : s.rdu.asm = .assembling held) :
    exec (.scanByte b framing race) s = .next (s.byteAssembling c held b framing race) := by
  simp only [exec, execScanByte, hc, ha]

theorem exec_scanByte_discarding (hc : s.cfg = some c) (ha : s.rdu.asm = .discarding) :
    exec (.scanByte b framing race) s = .next (s.byteDiscarding b framing) := by
  simp only [exec, execScanByte, hc, ha]

/-- An abandoned record, in the terms of the statement. -/
def Abandoned (r : Rdu) (s t : State) : Prop := t.rdu = r ∧ Counted [.malformed] s t ∧ Raised [.scanMalformed] s t ∧ OnlyParts [.rdu, .stu] s t

theorem State.scanAbandon_abandoned (hs : SizeLaw s) (a : Assembler) (gap : Option Nat) : Abandoned ⟨a, gap⟩ s (s.scanAbandon.setAsm a gap) := by
  have htally := ((Tallied.refl hs).bump (a := .malformed) (by simp)).raise .scanMalformed
  exact ⟨rfl, htally.counted, htally.raised, by simp [OnlyParts, State.scanAbandon]⟩

theorem State.setAsm_parts (s : State) (a : Assembler) (gap : Option Nat) : OnlyParts [.rdu] s (s.setAsm a gap) := by
  simp [OnlyParts]

/-- A byte that abandons the record, by its place or by a framing error. -/
theorem State.byteAssembling_abandoned (hs : SizeLaw s) (h : framing = true ∨ fitByte held b = .abandon) :
    Abandoned (if b = charCR ∧ framing = false then ⟨.idle, none⟩ else ⟨.discarding, some 0⟩) s
      (s.byteAssembling c held b framing race) := by
  cases framing with
  | true => simpa [State.byteAssembling] using s.scanAbandon_abandoned hs .discarding (some 0)
  | false =>
    have hfit := h.resolve_left (by decide)
    by_cases hb : b = charCR
    · simpa [State.byteAssembling, hfit, hb ▸ hfit, hb] using s.scanAbandon_abandoned hs .idle none
    · simpa [State.byteAssembling, hfit, hb] using s.scanAbandon_abandoned hs .discarding (some 0)

end

/-! ### A record that no role uses (R60, R64) -/

section
variable {s : State} {c : StationConfig} {race : Option Race} {letter : Byte} {digits : List Byte}

/-- A complete N record at a station that is no reader. -/
theorem State.receipt_unread (hr : c.reader = false) : s.receipt c (letterN :: digits) race = s.bump .scanUnused := by
  simp only [State.receipt, hr, List.head?_cons, if_true]

/-- A complete record of digits at a station whose roles take none. -/
theorem State.receipt_unused (hl : digitLetter letter) (hr : letter = letterR → c.reader = false) (hd : letter = letterM → c.desk = false) :
    s.receipt c (letter :: digits) race = (if recordValid (letter :: digits) then s else s.bump .badCheck).bump
      (if letter = letterR then .scanUnused else .manualIgnored) := by
  have hM : letterM ≠ letterR := by decide
  rcases hl with rfl | rfl
  · simp [State.receipt, hr rfl, show letterR ≠ letterN by decide]
  · simp [State.receipt, hd rfl, show letterM ≠ letterN by decide, hM]

/-- What such a record counts. -/
theorem Tallied.unused (hs : SizeLaw s) (valid : Bool) {k : Ctr} (hk : k ≠ .badCheck) : ∃ t, t = (if valid then s else s.bump .badCheck).bump k
    ∧ Counted (if valid then [k] else [k, .badCheck]) s t ∧ Raised [] s t ∧ OnlyParts [.stu] s t := by
  refine ⟨_, rfl, ?_⟩
  cases valid with
  | true =>
    have h := (Tallied.refl hs).bump (a := k) (by simp)
    exact ⟨h.counted, h.raised, by simp [OnlyParts]⟩
  | false =>
    have h := ((Tallied.refl hs).bump (a := .badCheck) (by simp)).bump (a := k) (by simpa using hk)
    refine ⟨fun x => ?_, h.raised, by simp [OnlyParts]⟩
    have hx := h.counted x
    simp only [List.nil_append, List.singleton_append, List.mem_cons, List.not_mem_nil, or_false, Bool.false_eq_true, if_false] at hx ⊢
    exact hx.trans (if_congr or_comm rfl rfl)

theorem rdu_unused (s : State) (valid : Bool) (k : Ctr) :
    (((if valid then s.setAsm .idle none else (s.setAsm .idle none).bump .badCheck)).bump k).rdu = ⟨.idle, none⟩ := by
  cases valid <;> rfl

/-- The CR of a record of digits is its receipt (R60). -/
theorem exec_completed (hl : digitLetter letter) (hc : s.cfg = some c) (ha : s.rdu.asm = .assembling (letter :: digits))
    (hd : digits.length = 20) :
    exec (.scanByte charCR false race) s = .next ((s.setAsm .idle none).receipt c (letter :: digits) race) := by
  have hfit : fitByte (letter :: digits) charCR = .complete := by
    rw [fitByte_digits hl, if_neg (by omega), if_neg (by omega), if_pos rfl]
  simp only [exec_scanByte_assembling hc ha, State.byteAssembling, hfit, Bool.false_eq_true, if_false]

end

/-- Settles O31: the byte in each state of the assembler, the gap in each, and the records that complete without a use. -/
theorem scannerBytesAssembleARecord : Obligations.ScannerBytesAssembleARecord := by
  intro c b framing race letter digits s hs
  refine ⟨fun hc => ⟨s, by simp only [exec, execScanByte, hc], rfl⟩, fun hc ha => ⟨fun hf hb => ?_, fun hf hb => ?_, fun hb => ?_, ?_⟩,
    fun hc ha => ⟨fun hf hl hd => ?_, fun hab => ?_, ?_⟩, fun hc ha => ⟨fun hl hr => ?_, fun hl hd hr => ?_, fun hl hd hr => ?_⟩,
    fun hc ha => ⟨?_, ?_⟩⟩
  · refine ⟨s.setAsm (.assembling [b]) (some 0), ?_, rfl, s.setAsm_parts _ _⟩
    rw [exec_scanByte_idle hc ha, State.byteIdle, if_pos (by simpa [hf, or_assoc] using hb)]
  · refine ⟨s, ?_, rfl⟩
    rw [exec_scanByte_idle hc ha, State.byteIdle, if_neg, if_pos (by simpa [hf] using hb)]
    rcases hb with rfl | rfl <;> simp [letterR, letterN, letterM, charLF, charCR]
  · refine ⟨_, ?_, s.scanAbandon_abandoned hs .discarding (some 0)⟩
    rw [exec_scanByte_idle hc ha, State.byteIdle, if_neg, if_neg]
    · rcases hb with rfl | ⟨-, -, -, h1, h2⟩ <;> simp [*]
    · rcases hb with rfl | ⟨h1, h2, h3, -, -⟩ <;> simp [*]
  · exact ⟨s, by simp only [exec, execScanGapTimeout, ha], rfl⟩
  · refine ⟨s.setAsm (.assembling (letter :: digits ++ [b])) (some 0), ?_, rfl, s.setAsm_parts _ _⟩
    have hfit : fitByte (letter :: digits) b = .collect := by
      rw [fitByte_digits hl]
      rcases hd with ⟨h1, h2⟩ | ⟨h1, h2⟩
      · rw [if_pos h1, if_pos h2]
      · rw [if_neg (by omega), if_pos h1, if_pos h2]
    simp only [exec_scanByte_assembling hc ha, State.byteAssembling, hf, hfit, Bool.false_eq_true, if_false]
  · refine ⟨_, exec_scanByte_assembling hc ha, State.byteAssembling_abandoned hs (hab.imp_right fun h => ?_)⟩
    rcases h with ⟨rfl, h⟩ | ⟨hl, h1, h2⟩ | ⟨hl, h1, h2, h3⟩ | ⟨hl, h1, h2⟩
    · rw [fitByte_letterN, if_neg h]
    · simp [fitByte_digits hl, h1, h2]
    · simp [fitByte_digits hl, h1, h2, h3]
    · simp [fitByte_digits hl, h1, h2]
  · exact ⟨_, by simp only [exec, execScanGapTimeout, ha], s.scanAbandon_abandoned hs .idle none⟩
  · subst hl
    have hrec : exec (.scanByte charCR false race) s = .next (((s.setAsm .idle none)).bump .scanUnused) := by
      rw [exec_scanByte_assembling hc ha, ← State.receipt_unread hr (digits := digits) (race := race)]
      simp only [State.byteAssembling, fitByte_letterN, if_true, Bool.false_eq_true, if_false]
    have h := ((Tallied.refl hs).same (u := s.setAsm .idle none) rfl).bump (a := .scanUnused) (by simp)
    exact ⟨_, hrec, rfl, h.counted, h.raised, by simp [OnlyParts]⟩
  · subst hl
    obtain ⟨t, rfl, hcount, hraise, hparts⟩ := Tallied.unused (s := s.setAsm .idle none) hs (recordValid (letterR :: digits))
      (k := .scanUnused) (by decide)
    refine ⟨_, ?_, rdu_unused _ _ _, hcount, hraise, ((s.setAsm_parts _ _).trans hparts).mono (by decide)⟩
    rw [exec_completed (.inl rfl) hc ha hd, State.receipt_unused (.inl rfl) (fun _ => hr) (fun h => absurd h (by decide)), if_pos rfl]
  · subst hl
    obtain ⟨t, rfl, hcount, hraise, hparts⟩ := Tallied.unused (s := s.setAsm .idle none) hs (recordValid (letterM :: digits))
      (k := .manualIgnored) (by decide)
    refine ⟨_, ?_, rdu_unused _ _ _, hcount, hraise, ((s.setAsm_parts _ _).trans hparts).mono (by decide)⟩
    rw [exec_completed (.inr rfl) hc ha hd, State.receipt_unused (.inr rfl) (fun h => absurd h (by decide)) (fun _ => hr),
      if_neg (by decide)]
  · refine ⟨_, exec_scanByte_discarding hc ha, ?_⟩
    by_cases h : b = charCR ∧ framing = false
    · rw [State.byteDiscarding, if_pos h, if_pos h]; exact ⟨rfl, s.setAsm_parts _ _⟩
    · rw [State.byteDiscarding, if_neg h, if_neg h]; exact ⟨rfl, s.setAsm_parts _ _⟩
  · exact ⟨s.setAsm .idle none, by simp only [exec, execScanGapTimeout, ha], rfl, s.setAsm_parts _ _⟩

end Sys2Proof.Machine
end

section
/-! SUPPORT. The oldest record leaves at the exit end (R28, R118), and the overdue test that follows (R27). -/

namespace Sys2Proof.Machine

open Sys2Proof

/-! ### Removal -/

section
variable {s t u : State} {c : StationConfig} {r : SegRec} {rest : List SegRec} {cause : Cause}

/-- A diverter without the record, at a removal that is no confirm of its own. -/
theorem Diverter.forget_eq (x : Diverter) (ref : RecRef) : x.forget ref false = { x with
    grants := x.grants.filter (·.ref != ref)
    confirms := x.confirms.filter (·.ref != ref)
    last := x.last.map fun l => { l with
      fired := if l.fired = some ref then none else l.fired
      closeBehind := if l.closeBehind = some ref then none else l.closeBehind } } := by
  simp [Diverter.forget]

theorem State.findRec_of_head (hq : s.btu.queue = r :: rest) : s.findRec r.ref = some r := by
  simp [State.findRec, hq]

/-- The record has left, the blocked flag not evaluated yet. -/
def State.removedHead (r : SegRec) (cause : Cause) (s : State) : State :=
  (((s.setBtu { s.btu with
      queue := s.btu.queue.tail
      flow := s.btu.flow.count cause
      openRec := closeOpen r.ref s.btu.openRec }).setEntries
    (releaseEntry cause r.entry s.idt.entries)).forgetRec .d0 r.ref (cause == .confirmed .d0)).forgetRec .d1 r.ref (cause == .confirmed .d1)

theorem State.remove_head (hq : s.btu.queue = r :: rest) (c : StationConfig) (cause : Cause) :
    s.remove c r.ref cause = (s.removedHead r cause).evalBlocked c := by
  simp only [State.remove, State.findRec_of_head hq, State.removedHead]
  simp [hq]

theorem State.forgetRec_ctr (hs : s.stu.counters.length = 117) (d : Div) (ref : RecRef) (own : Bool) (k : Ctr) :
    ((s.forgetRec d ref own).ctr k).toNat = min 65535 ((s.ctr k).toNat
      + if k = .grantCancelled then ((s.dvs.get d).grants.filter (·.ref == ref)).length else 0) := by
  have hlen : (s.setDiv d ((s.dvs.get d).forget ref own)).stu.counters.length = 117 := hs
  have := (s.ctr k).isLt
  unfold State.forgetRec
  split_ifs with hk
  · subst hk
    exact (State.bumpN_ctr_self hlen .grantCancelled _).1
  · rw [(State.bumpN_ctr_other hlen .grantCancelled _ hk).1]
    rw [State.ctr_congr (State.setDiv_stu s d _) k]
    omega

theorem State.removedHead_ctr (hs : s.stu.counters.length = 117) (r : SegRec) (cause : Cause) (k : Ctr) :
    ((s.removedHead r cause).ctr k).toNat = min 65535 ((s.ctr k).toNat
      + if k = .grantCancelled then ((s.dvs.d0.grants ++ s.dvs.d1.grants).filter (·.ref == r.ref)).length else 0) := by
  rw [State.removedHead, State.forgetRec_ctr (by simpa using hs), State.forgetRec_ctr (by simpa using hs), State.forgetRec_get,
    if_neg (show Div.d1 ≠ Div.d0 by decide), List.filter_append, List.length_append]
  have hctr : ((s.setBtu { s.btu with
      queue := s.btu.queue.tail
      flow := s.btu.flow.count cause
      openRec := closeOpen r.ref s.btu.openRec }).setEntries (releaseEntry cause r.entry s.idt.entries)).ctr k = s.ctr k := rfl
  rw [hctr]
  simp only [State.setEntries_dvs, State.setBtu_dvs, Dvs.get]
  split_ifs <;> omega

theorem State.removedHead_ev (s : State) (r : SegRec) (cause : Cause) (e : Ev) : (s.removedHead r cause).ev e = s.ev e := by
  simp [State.removedHead, State.forgetRec, State.bumpN_ev]

theorem State.removedHead_btu (s : State) (r : SegRec) (cause : Cause) : (s.removedHead r cause).btu = { s.btu with
    queue := s.btu.queue.tail
    flow := s.btu.flow.count cause
    openRec := closeOpen r.ref s.btu.openRec } := by
  simp [State.removedHead]

theorem State.removedHead_hlc (s : State) (r : SegRec) (cause : Cause) : (s.removedHead r cause).hlc = s.hlc := by
  simp [State.removedHead]

/-- What the oldest record's leaving makes of the station, in the terms of the statements. -/
structure HeadLeft (c : StationConfig) (r : SegRec) (s t : State) : Prop where
  btu : t.btu = { s.btu with
    queue := s.btu.queue.tail
    flow := { s.btu.flow with exited := s.btu.flow.exited + 1 }
    openRec := t.btu.openRec
    blockedFlag := t.btu.blockedFlag
    reportedV := t.btu.reportedV }
  entries : t.idt.entries = match r.entry with
    | none => s.idt.entries
    | some i => s.idt.entries.modify i (Option.map fun x => { x with state := .onLoop, age := 0 })
  pointer : t.idt.pointer = s.idt.pointer
  dvs : ∀ d, t.dvs.get d = { s.dvs.get d with
    grants := (s.dvs.get d).grants.filter (·.ref != r.ref)
    confirms := (s.dvs.get d).confirms.filter (·.ref != r.ref)
    last := (s.dvs.get d).last.map fun l => { l with
      fired := if l.fired = some r.ref then none else l.fired
      closeBehind := if l.closeBehind = some r.ref then none else l.closeBehind } }
  frames : OnlyFrames s t
  parts : OnlyParts [.btu, .idt, .dvs, .hlc, .stu] s t

theorem State.remove_headLeft (hq : s.btu.queue = r :: rest) (hcause : cause = .exitMatch ∨ cause = .exitOverdue) (c : StationConfig) :
    HeadLeft c r s (s.remove c r.ref cause) := by
  obtain ⟨-, -, -, -, hidt, hdvs⟩ := State.remove_fields (State.findRec_of_head hq) c cause
  have hown : ∀ d, (cause == .confirmed d) = false := by rcases hcause with rfl | rfl <;> exact fun d => rfl
  refine ⟨?_, ?_, by rw [hidt], fun d => by rw [hdvs, hown, Diverter.forget_eq], ?_, by simp [OnlyParts]⟩
  · rw [State.remove_head hq, State.evalBlocked_btu, State.removedHead_btu]
    rcases hcause with rfl | rfl <;> rfl
  · rw [hidt]
    rcases hcause with rfl | rfl <;> cases r.entry <;> rfl
  · rw [State.remove_head hq, OnlyFrames, State.evalBlocked_onlyFrames, State.removedHead_hlc]

theorem State.remove_head_ctr (hq : s.btu.queue = r :: rest) (hs : s.stu.counters.length = 117) (c : StationConfig) (cause : Cause) {k : Ctr}
    (hk : k.ofQueue = false) : ((s.remove c r.ref cause).ctr k).toNat = min 65535 ((s.ctr k).toNat
      + if k = .grantCancelled then ((s.dvs.d0.grants ++ s.dvs.d1.grants).filter (·.ref == r.ref)).length else 0) := by
  rw [State.remove_head hq, State.evalBlocked_ctr c (by simpa [State.removedHead] using hs) hk, State.removedHead_ctr hs]

theorem State.evalBlocked_ev (hs : s.stu.events.length = 33) (c : StationConfig) {e : Ev} (he : e ≠ .dropped) :
    (s.evalBlocked c).ev e = s.ev e := by
  unfold State.evalBlocked
  split
  · rfl
  · exact (State.queueSegmentState_ev (s := s.setBtu { s.btu with blockedFlag := s.blockedNow c }) hs he).trans rfl

theorem State.remove_head_ev (hq : s.btu.queue = r :: rest) (hs : s.stu.events.length = 33) (c : StationConfig) (cause : Cause) {e : Ev}
    (he : e ≠ .dropped) : (s.remove c r.ref cause).ev e = s.ev e := by
  rw [State.remove_head hq, State.evalBlocked_ev (by simpa [State.removedHead] using hs) c he, State.removedHead_ev]

/-- An evaluation of the flag queues at most its own kind. -/
theorem mem_of_mem_evalBlocked {o : OutFrame} (h : o ∈ (s.evalBlocked c).hlc.queue) (hk : o.kind ≠ 0) : o ∈ s.hlc.queue := by
  unfold State.evalBlocked at h
  split at h
  · exact h
  · rw [State.queueSegmentState_queue] at h
    exact mem_of_mem_enqueue_of_kind_ne h hk

theorem State.evalBlocked_length_le (s : State) (c : StationConfig) : (s.evalBlocked c).hlc.queue.length ≤ s.hlc.queue.length + 1 := by
  rcases State.evalBlocked_queue s c with h | ⟨f, h⟩
  · rw [h]; exact Nat.le_succ _
  · rw [h]; exact length_enqueue_le_succ _ _

theorem State.remove_head_length_le (hq : s.btu.queue = r :: rest) (c : StationConfig) (cause : Cause) :
    (s.remove c r.ref cause).hlc.queue.length ≤ s.hlc.queue.length + 1 := by
  rw [State.remove_head hq, ← State.removedHead_hlc s r cause]
  exact State.evalBlocked_length_le _ c

theorem mem_of_mem_remove_head (hq : s.btu.queue = r :: rest) {o : OutFrame} (h : o ∈ (s.remove c r.ref cause).hlc.queue)
    (hk : o.kind ≠ 0) : o ∈ s.hlc.queue := by
  rw [State.remove_head hq] at h
  rw [← State.removedHead_hlc s r cause]
  exact mem_of_mem_evalBlocked h hk

/-- The blocked flag follows the removal (R29). -/
theorem Reports.remove_head {s₀ : State} (h : Reports s₀ s) (hq : s.btu.queue = r :: rest) (c : StationConfig) (cause : Cause) :
    FlagFollows c s₀ (s.remove c r.ref cause) := by
  rw [State.remove_head hq]
  refine Reports.flagFollows ⟨?_, ?_, ?_, ?_, ?_, ?_⟩
  · rw [State.removedHead_btu]; exact h.flag
  · rw [State.removedHead_btu]; exact h.v
  · rw [State.removedHead_btu]; exact h.speed
  · rw [State.removedHead_btu]; exact h.reported
  · rw [State.removedHead_hlc]; exact h.kept
  · rw [State.removedHead_hlc]; exact h.joins

/-! ### The overdue test (R27) -/

theorem State.settle_of_none (h : s.overdueNow c = none) : s.settle c = s := by
  simp only [State.settle, maxRecords, State.settleOverdue, h]

theorem State.settle_of_some (h : s.overdueNow c = some r) (h' : (s.removeOverdue c r).overdueNow c = none) :
    s.settle c = s.removeOverdue c r := by
  simp only [State.settle, maxRecords, State.settleOverdue, h, h']

/-- Nothing is due while the oldest record's own point has not been taken. -/
theorem State.overdueNow_of_awaiting (h : ∀ q ∈ s.btu.queue.head?, .overdue ∈ q.awaiting) : s.overdueNow c = none := by
  unfold State.overdueNow
  cases hq : s.btu.queue with
  | nil => rfl
  | cons q qs =>
    have : .overdue ∈ q.awaiting := h q (by simp [hq])
    simp [this]

theorem State.overdueNow_of_pending (hq : s.btu.queue = r :: rest) (h : s.exitPending c r = true) : s.overdueNow c = none := by
  simp [State.overdueNow, hq, h]

theorem State.overdueNow_of_due (hq : s.btu.queue = r :: rest) (ha : .overdue ∉ r.awaiting) (hpos : c.pExit + c.band + 1 ≤ fwd r.ein s.btu.e)
    (h : s.exitPending c r = false) : s.overdueNow c = some r := by
  simp [State.overdueNow, hq, ha, h, State.position, hpos]

theorem State.exitPending_iff : s.exitPending c r = true ↔ s.btu.fExit.st = .blocking ∧ c.pExit - c.band ≤ fwd r.ein s.btu.fExit.raw
    ∧ fwd r.ein s.btu.fExit.raw ≤ c.pExit + c.band ∧ fwd r.ein s.btu.fExit.raw < 2 ^ 23 := by
  simp only [State.exitPending, inBand, atOrAfter, Bool.and_eq_true, beq_iff_eq, decide_eq_true_eq]
  tauto

/-! ### The oldest record alone changes -/

theorem SlotLaw.ne_head (hslot : SlotLaw s) (hq : s.btu.queue = r :: rest) {q : SegRec} (h : q ∈ rest) : q ≠ r := by
  rintro rfl
  obtain ⟨hnodup, -, -⟩ := hslot
  rw [hq, List.map_cons, List.nodup_cons] at hnodup
  exact hnodup.1 (List.mem_map_of_mem h)

/-- A change of the oldest record. -/
theorem SlotLaw.mapRec_head (hslot : SlotLaw s) (hq : s.btu.queue = r :: rest) (f : SegRec → SegRec) :
    (s.mapRec r.ref f).btu = { s.btu with queue := f r :: rest } := by
  rw [SlotLaw.mapRec_eq hslot (by simp [hq]), hq, List.map_cons, if_pos rfl]
  refine congrArg (fun l : List SegRec => { s.btu with queue := f r :: l }) ?_
  exact (List.map_congr_left fun q h => if_neg (hslot.ne_head hq h)).trans (List.map_id' _)

end

end Sys2Proof.Machine
end

section
/-! OBLIGATION PROOF. The overdue point of the oldest record (O20). -/

namespace Sys2Proof.Machine

open Sys2Proof

section
variable {s t u : State} {c : StationConfig} {r : SegRec} {rest : List SegRec}

/-- The LOST notice of a record. -/
abbrev lostNotice (r : SegRec) : Frame := .strayNotice ⟨.lost, r.ident, r.passes, 0, r.origin⟩

/-- What the removal of an overdue record makes of the station, in the terms of the statement. -/
structure OverdueLeft (c : StationConfig) (r : SegRec) (s t : State) : Prop extends HeadLeft c r s t where
  counted : t.ctr .exitOverdue = satInc (s.ctr .exitOverdue)
  raised : t.ev .exitOverdue = true
  noticed : s.hlc.queue.length ≤ 6 → Queued (lostNotice r) t
  handovers : ∀ o ∈ t.hlc.queue, o.kind = 1 → o ∈ s.hlc.queue
  cancelled : (t.ctr .grantCancelled).toNat
    = min 65535 ((s.ctr .grantCancelled).toNat + ((s.dvs.d0.grants ++ s.dvs.d1.grants).filter (·.ref == r.ref)).length)

/-- A frame of another part of the station follows the removal of the head. -/
theorem HeadLeft.of_frames (h : HeadLeft c r s t) (hbtu : u.btu = t.btu) (hidt : u.idt = t.idt) (hdvs : u.dvs = t.dvs) (hf : OnlyFrames t u)
    (hp : OnlyParts [.hlc, .stu] t u) : HeadLeft c r s u :=
  ⟨by rw [hbtu, h.btu], by rw [hidt, h.entries], by rw [hidt, h.pointer], fun d => by rw [hdvs, h.dvs],
    by rw [OnlyFrames, hf, h.frames], (h.parts.trans hp).mono (by decide)⟩

theorem State.removeOverdue_left (hq : s.btu.queue = r :: rest) (hctr : s.stu.counters.length = 117) (hev : s.stu.events.length = 33)
    (c : StationConfig) : OverdueLeft c r s (s.removeOverdue c r) := by
  have hleft := State.remove_headLeft hq (.inr rfl) c
  have hqueue : (s.removeOverdue c r).hlc.queue = enqueue (lostNotice r) (s.remove c r.ref .exitOverdue).hlc.queue := by
    simp [State.removeOverdue]
  refine ⟨hleft.of_frames ?_ ?_ ?_ ?_ ?_, ?_, ?_, fun hroom => ?_, fun o ho hk => ?_, ?_⟩
  · simp [State.removeOverdue]
  · simp [State.removeOverdue]
  · simp [State.removeOverdue]
  · simp [OnlyFrames, State.removeOverdue, State.queueFrame_hlc]
  · simp [OnlyParts, State.removeOverdue]
  · rw [State.removeOverdue, State.queueFrame_ctr (by simpa using hctr) _ rfl, State.raiseEv_ctr, State.bump_ctr (by simpa using hctr),
      if_pos rfl]
    congr 1
    exact ctr_eq_of_toNat (State.remove_head_ctr hq hctr c .exitOverdue rfl)
  · rw [State.removeOverdue, State.queueFrame_ev (by simpa using hev) _ (by decide), State.raiseEv_ev (by simpa using hev)]
    simp
  · have hlen := State.remove_head_length_le hq c .exitOverdue
    exact ⟨.fresh _, by rw [hqueue]; exact enqueue_room (by omega), rfl, rfl⟩
  · rw [hqueue] at ho
    exact mem_of_mem_remove_head hq (mem_of_mem_enqueue_of_kind_ne ho (by rw [hk]; simp [Frame.kind])) (by rw [hk]; decide)
  · rw [State.removeOverdue, State.queueFrame_ctr (by simpa using hctr) _ rfl, State.raiseEv_ctr, State.bump_ctr_of_ne _ (by decide),
      State.remove_head_ctr hq hctr c .exitOverdue rfl, if_pos rfl]

theorem State.removeOverdue_flagFollows {s₀ : State} (h : Reports s₀ s) (hq : s.btu.queue = r :: rest) (c : StationConfig) :
    FlagFollows c s₀ (s.removeOverdue c r) := by
  refine (h.remove_head hq c .exitOverdue).of_frame (f := lostNotice r) (by simp [Frame.kind]) ?_ ?_ ?_ ?_ ?_ <;> simp [State.removeOverdue]

end

/-- Settles O20: the point of the oldest record with and without an edge of its own pending, of a younger one, one taken before, and the
return of the exit filter. -/
theorem overduePointRemovesTheOldest : Obligations.OverduePointRemovesTheOldest := by
  intro c r s hc hs hslot hr hpos hroom
  have hpoint : .overdue ∈ r.awaiting → exec (.overduePoint r.ref) s = .next ((s.takePoint .overdue r.ref).settle c) := fun hp => by
    simp only [exec, execOverduePoint, hc, State.overduePoint, State.recAt_eq hslot hr hp (n := c.pExit + c.band + 1) rfl hpos]
  have hparts := s.takePoint_parts .overdue r.ref
  refine ⟨fun hp hhead hnodup hpend hnext => ?_, fun hp hhead hpend => ?_, fun hp hother => ?_, fun hp => ?_, fun hp hhead hpin hst hnext => ?_⟩
  · obtain ⟨rest, hrest⟩ := List.head?_eq_some_iff.1 hhead
    set u := s.takePoint .overdue r.ref with hu
    have hubtu : u.btu = { s.btu with queue := r.taken .overdue :: rest } := hslot.mapRec_head hrest _
    have huq : u.btu.queue = r.taken .overdue :: rest := by rw [hubtu]
    have hdue : u.overdueNow c = some (r.taken .overdue) := by
      refine State.overdueNow_of_due huq ?_ ?_ ?_
      · exact hnodup.not_mem_erase
      · rw [hubtu]; exact hpos
      · rw [← Bool.not_eq_true, State.exitPending_iff, hubtu]; exact hpend
    have hleft := State.removeOverdue_left huq (c := c) hs.counters hs.events
    have hrep : Reports s u := SameReport.reports ⟨by rw [hubtu], by rw [hubtu], by rw [hubtu], by rw [hubtu], rfl⟩
    have hdone : (u.removeOverdue c (r.taken .overdue)).overdueNow c = none := by
      refine State.overdueNow_of_awaiting fun q hq => hnext q ?_
      rw [hleft.btu, huq] at hq
      rwa [hrest]
    have htail : u.btu.queue.tail = s.btu.queue.tail := by rw [huq, hrest]; rfl
    refine ⟨_, (hpoint hp).trans (congrArg _ (State.settle_of_some hdue hdone)), ?_, ?_, hleft.entries, hleft.counted, hleft.raised,
      hleft.noticed hroom, hleft.handovers, State.removeOverdue_flagFollows hrep huq c, hleft.dvs, hleft.cancelled, ?_, hleft.frames,
      (hparts.trans hleft.parts).mono (by decide)⟩
    · rw [hleft.btu, ← htail]
    · rw [hleft.btu, hubtu]
    · rw [hleft.btu, htail, hubtu]
  · obtain ⟨rest, hrest⟩ := List.head?_eq_some_iff.1 hhead
    have hubtu : (s.takePoint .overdue r.ref).btu = { s.btu with queue := r.taken .overdue :: rest } := hslot.mapRec_head hrest _
    have hnone : (s.takePoint .overdue r.ref).overdueNow c = none := by
      refine State.overdueNow_of_pending (r := r.taken .overdue) (rest := rest) (by rw [hubtu]) ?_
      rw [State.exitPending_iff, hubtu]
      exact hpend
    refine ⟨_, (hpoint hp).trans (congrArg _ (State.settle_of_none hnone)), ?_, hparts⟩
    rw [hubtu, hrest]
    rfl
  · have hubtu := SlotLaw.mapRec_eq hslot hr fun q => { q with awaiting := q.awaiting.erase .overdue }
    have hnone : (s.takePoint .overdue r.ref).overdueNow c = none := by
      refine State.overdueNow_of_awaiting fun q hq => ?_
      rw [State.takePoint, hubtu, List.head?_map] at hq
      obtain ⟨x, hx, rfl⟩ := Option.mem_map.1 hq
      obtain ⟨hne, hawait⟩ := hother x hx
      rwa [if_neg hne]
    exact ⟨_, (hpoint hp).trans (congrArg _ (State.settle_of_none hnone)), hubtu, hparts⟩
  · refine ⟨s, ?_, rfl⟩
    simp only [exec, execOverduePoint, hc, State.overduePoint, State.recAt_none hslot hr hp]
  · obtain ⟨rest, hrest⟩ := List.head?_eq_some_iff.1 hhead
    set u := s.turned .exit false { s.btu.fExit with st := .clear } with hu
    have hexec : exec (.eyeRawChange .exit false) s = .next (u.settle c) := by
      rw [exec_eyeRawChange hc (by simp [Pins.eye, hpin]), State.filterStep_blocking (by exact hst)]
      rfl
    have huq : u.btu.queue = r :: rest := hrest
    have hdue : u.overdueNow c = some r := by
      refine State.overdueNow_of_due huq hp hpos ?_
      rw [← Bool.not_eq_true, State.exitPending_iff]
      rintro ⟨h, -⟩
      cases h
    have hleft := State.removeOverdue_left huq (c := c) hs.counters hs.events
    have hdone : (u.removeOverdue c r).overdueNow c = none := by
      refine State.overdueNow_of_awaiting fun q hq => hnext q ?_
      rw [hleft.btu] at hq
      exact hq
    refine ⟨_, hexec.trans (congrArg _ (State.settle_of_some hdue hdone)), ?_, ?_, hleft.entries, hleft.counted, hleft.raised,
      hleft.noticed hroom, hleft.handovers, State.removeOverdue_flagFollows (SameReport.reports ⟨rfl, rfl, rfl, rfl, rfl⟩) huq c, hleft.dvs,
      hleft.cancelled, ?_, ?_, hleft.frames, ?_⟩
    · rw [hleft.btu]; rfl
    · rw [hleft.btu]; rfl
    · rw [hleft.btu]; rfl
    · exact hleft.parts.2.1.resolve_left (by decide)
    · exact ((State.turned_fields s .exit false _).2.2.trans hleft.parts).mono (by decide)

end Sys2Proof.Machine
end

section
/-! SUPPORT. The passes rule at an exit match (R128): the pass, and LAP_LIMIT at the maximum. -/

namespace Sys2Proof.Machine

open Sys2Proof

/-- The record is bound for an own chute and reaches the maximum with this pass (R128). -/
def SegRec.lapped (c : StationConfig) (r : SegRec) : Bool := r.dest.any c.ownChute && decide (c.maxPasses ≤ r.passes + 1)

/-- LAP_LIMIT takes. -/
def SegRec.lapTakes (c : StationConfig) (r : SegRec) : Bool := r.lapped c && r.reason.all Reason.soft

/-- The record after the rule, its divert status aside. -/
def SegRec.passed (c : StationConfig) (r : SegRec) : SegRec := { r with
  passes := if r.dest.any c.ownChute then min c.maxPasses (r.passes + 1) else r.passes
  reason := if r.lapTakes c then some .lapLimit else r.reason
  dest := if r.lapTakes c then some c.problem else r.dest }

/-- The pass is counted (R128). -/
def State.passTaken (c : StationConfig) (r : SegRec) (s : State) : State :=
  if r.dest.any c.ownChute then (s.mapRec r.ref fun q => { q with passes := min c.maxPasses (r.passes + 1) }).bump .passCounted else s

section
variable {s : State} {c : StationConfig} {r : SegRec}

/-- The record with its pass. -/
def SegRec.withPass (c : StationConfig) (r : SegRec) : SegRec :=
  { r with passes := if r.dest.any c.ownChute then min c.maxPasses (r.passes + 1) else r.passes }

theorem State.passesRule_eq (s : State) (c : StationConfig) (r : SegRec) : s.passesRule c r
    = if r.lapped c then (((s.passTaken c r).offer c r.ref .lapLimit).bump .lapLimit).raiseEv .lapLimit else s.passTaken c r := by
  unfold State.passesRule State.passTaken SegRec.lapped
  by_cases hown : r.dest.any c.ownChute = true
  · have hmax : min c.maxPasses (r.passes + 1) = c.maxPasses ↔ c.maxPasses ≤ r.passes + 1 := by omega
    simp [hown, hmax]
  · simp [hown]

theorem State.findRec_passTaken (h : s.findRec r.ref = some r) : (s.passTaken c r).findRec r.ref = some (r.withPass c) := by
  unfold State.passTaken SegRec.withPass
  by_cases hown : r.dest.any c.ownChute = true
  · rw [if_pos hown, if_pos hown]
    exact State.findRec_mapRec s (f := fun q => { q with passes := min c.maxPasses (r.passes + 1) }) (fun _ => rfl) h
  · rw [if_neg hown, if_neg hown]
    exact h

theorem State.passTaken_confined (s : State) (c : StationConfig) (r : SegRec) : Confined [r.ref] s (s.passTaken c r) := by
  unfold State.passTaken
  split
  · exact ((Confined.refl [r.ref] s).mapRec (f := fun q => { q with passes := min c.maxPasses (r.passes + 1) }) (fun _ => rfl)
      (List.mem_singleton_self _)).bump _
  · exact .refl _ s

theorem State.passTaken_same (s : State) (c : StationConfig) (r : SegRec) : (s.passTaken c r).dvs = s.dvs ∧ (s.passTaken c r).hlc = s.hlc
    ∧ (s.passTaken c r).stu.counters.length = s.stu.counters.length ∧ (s.passTaken c r).stu.events = s.stu.events := by
  unfold State.passTaken
  split <;> simp

theorem State.passTaken_ctr (hs : s.stu.counters.length = 117) (k : Ctr) : (s.passTaken c r).ctr k
    = if k = .passCounted ∧ r.dest.any c.ownChute = true then satInc (s.ctr k) else s.ctr k := by
  unfold State.passTaken
  by_cases hown : r.dest.any c.ownChute = true
  · rw [if_pos hown, State.bump_ctr (by exact hs)]
    simp only [hown, and_true]
    rfl
  · rw [if_neg hown, if_neg fun h => hown h.2]

/-- The rule leaves the record, its divert status following its grants. -/
theorem State.findRec_passesRule (h : s.findRec r.ref = some r) : ∃ v, (s.passesRule c r).findRec r.ref = some { r.passed c with divert := v } := by
  have hpass := State.findRec_passTaken (c := c) h
  rw [State.passesRule_eq]
  by_cases hlap : r.lapped c = true
  · obtain ⟨v, hv⟩ := State.findRec_offer (ref := r.ref) hpass c .lapLimit
    obtain ⟨hreason, hdest⟩ := SegRec.offered_hard (c := c) (x := .lapLimit) rfl (r.withPass c)
    refine ⟨v, ?_⟩
    rw [if_pos hlap]
    refine Eq.trans hv (congrArg some ?_)
    have htakes : r.lapTakes c = r.reason.all Reason.soft := by rw [SegRec.lapTakes, hlap, Bool.true_and]
    rw [SegRec.offered_rest, hreason, hdest, SegRec.passed, htakes]
    rfl
  · refine ⟨r.divert, ?_⟩
    rw [if_neg hlap, hpass]
    simp [SegRec.passed, SegRec.withPass, SegRec.lapTakes, hlap]

theorem State.passesRule_confined (s : State) (c : StationConfig) (r : SegRec) : Confined [r.ref] s (s.passesRule c r) := by
  rw [State.passesRule_eq]
  split
  · exact (((s.passTaken_confined c r).offer c .lapLimit (List.mem_singleton_self _)).bump _).raise _
  · exact s.passTaken_confined c r

@[simp] theorem State.passesRule_stu_lengths (s : State) (c : StationConfig) (r : SegRec) :
    (s.passesRule c r).stu.counters.length = s.stu.counters.length ∧ (s.passesRule c r).stu.events.length = s.stu.events.length := by
  obtain ⟨-, -, h1, h2⟩ := s.passTaken_same c r
  rw [State.passesRule_eq]
  split <;> simp [h1, h2]

theorem State.passesRule_ctr_of_ne (hs : s.stu.counters.length = 117) (h : s.findRec r.ref = some r) {k : Ctr} (hl : k ≠ .lateUpdate)
    (hw : k ≠ .withdrawnDestination) (hq : k.ofQueue = false) (hst : k ≠ .straySet) (hr : k ≠ .strayReplaced) (hk : k ≠ .strayKept) :
    (s.passesRule c r).ctr k = if (k = .passCounted ∧ r.dest.any c.ownChute = true) ∨ (k = .lapLimit ∧ r.lapped c = true)
      then satInc (s.ctr k) else s.ctr k := by
  obtain ⟨-, -, hlen, -⟩ := s.passTaken_same c r
  have hpass := State.findRec_passTaken (c := c) h
  have hoffer := State.offer_ctr_of_ne (hlen.trans hs) hpass c .lapLimit hl hw hq hst hr hk
  rw [State.passesRule_eq]
  by_cases hlap : r.lapped c = true
  · rw [if_pos hlap, State.raiseEv_ctr, State.bump_ctr (by simpa [hlen] using hs), hoffer, State.passTaken_ctr hs]
    by_cases h1 : k = .lapLimit
    · subst h1; simp [hlap]
    · simp [h1]
  · rw [if_neg hlap, State.passTaken_ctr hs]
    simp [hlap]

theorem State.passesRule_ev (hs : s.stu.events.length = 33) {e : Ev} (he : e ≠ .dropped) :
    (s.passesRule c r).ev e = (s.ev e || decide (e = .lapLimit ∧ r.lapped c = true)) := by
  obtain ⟨-, -, -, hev⟩ := s.passTaken_same c r
  have hbase : (s.passTaken c r).ev e = s.ev e := by rw [State.ev, hev]; rfl
  rw [State.passesRule_eq]
  by_cases hlap : r.lapped c = true
  · rw [if_pos hlap, State.raiseEv_ev (by simpa [hev] using hs), State.bump_ev, State.offer_ev (by rw [hev]; exact hs) c _ _ he, hbase]
    simp [hlap]
  · rw [if_neg hlap, hbase]
    simp [hlap]

theorem StrayCounted.passesRule (hs : s.stu.counters.length = 117) (h : s.findRec r.ref = some r) (c : StationConfig) :
    StrayCounted (if r.lapped c = true then [(r.reason, .lapLimit)] else []) s (s.passesRule c r) := by
  obtain ⟨-, -, hlen, -⟩ := s.passTaken_same c r
  have hbase : ∀ k, k = .straySet ∨ k = .strayReplaced ∨ k = .strayKept → (s.passTaken c r).ctr k = s.ctr k := by
    rintro k (rfl | rfl | rfl) <;> exact (State.passTaken_ctr hs _).trans (if_neg (by simp))
  rw [State.passesRule_eq]
  by_cases hlap : r.lapped c = true
  · rw [if_pos hlap, if_pos hlap]
    refine (StrayCounted.offer (hlen.trans hs) (State.findRec_passTaken (c := c) h) c .lapLimit).congr hbase fun k hk => ?_
    rw [State.raiseEv_ctr]
    exact State.bump_ctr_of_ne _ (by rcases hk with rfl | rfl | rfl <;> decide)
  · rw [if_neg hlap, if_neg hlap]
    exact .of_same hbase

/-! ### The grants and the frames of the rule -/

/-- An offer to a record takes its grants at the diverters of other chutes where it takes (R117). -/
theorem State.offer_grants {ref : RecRef} {q : SegRec} (h : s.findRec ref = some q) (c : StationConfig) (x : Reason) (d : Div) :
    (s.offer c ref x).dvs.get d = { s.dvs.get d with grants := (s.dvs.get d).grants.filter fun g =>
      !(offerTakes q.reason x && leavesChute c (some c.problem) d && g.ref == ref) } := by
  cases ht : offerTakes q.reason x with
  | true =>
    rw [State.offer_of_takes h ht, (State.queueFrame_frame _ _).2.2.2.2.2.2.2.1, State.tellDestination_grants]
    simp
  | false =>
    rw [State.offer_of_kept h ht]
    simp

theorem State.offer_withdrawn {ref : RecRef} {q : SegRec} (hs : s.stu.counters.length = 117) (h : s.findRec ref = some q) (c : StationConfig)
    (x : Reason) : ((s.offer c ref x).ctr .withdrawnDestination).toNat = min 65535 ((s.ctr .withdrawnDestination).toNat
      + (((s.dvs.d0).grants.filter fun g => offerTakes q.reason x && leavesChute c (some c.problem) .d0 && g.ref == ref).length
        + ((s.dvs.d1).grants.filter fun g => offerTakes q.reason x && leavesChute c (some c.problem) .d1 && g.ref == ref).length)) := by
  cases ht : offerTakes q.reason x with
  | true =>
    have hne : Ctr.withdrawnDestination ≠ offerCtr q.reason x := by unfold offerCtr; split_ifs <;> decide
    rw [State.offer_of_takes h ht, State.queueFrame_ctr (by simpa using hs) _ rfl, State.tellDestination_ctr (by simpa using hs) _ _ _ (by decide),
      if_pos rfl, State.bump_ctr_of_ne _ hne]
    simp only [Bool.true_and]
    rfl
  | false =>
    have := (s.ctr .withdrawnDestination).isLt
    rw [State.offer_of_kept h ht, State.bump_ctr_of_ne _ (by decide)]
    simp
    omega

/-- The grants after the rule. -/
theorem State.passesRule_grants (h : s.findRec r.ref = some r) (c : StationConfig) (d : Div) :
    (s.passesRule c r).dvs.get d = { s.dvs.get d with grants := (s.dvs.get d).grants.filter fun g =>
      !(r.lapTakes c && leavesChute c (some c.problem) d && g.ref == r.ref) } := by
  obtain ⟨hdvs, -, -, -⟩ := s.passTaken_same c r
  rw [State.passesRule_eq]
  by_cases hlap : r.lapped c = true
  · have htakes : r.lapTakes c = offerTakes (r.withPass c).reason .lapLimit := by
      rw [SegRec.lapTakes, hlap, Bool.true_and, offerTakes_eq_all_soft rfl]; rfl
    rw [if_pos hlap, State.raiseEv_dvs, State.bump_dvs, State.offer_grants (State.findRec_passTaken (c := c) h), hdvs, htakes]
  · have htakes : r.lapTakes c = false := by simp [SegRec.lapTakes, hlap]
    rw [if_neg hlap, hdvs, htakes]
    simp

theorem State.passesRule_withdrawn (hs : s.stu.counters.length = 117) (h : s.findRec r.ref = some r) (c : StationConfig) :
    ((s.passesRule c r).ctr .withdrawnDestination).toNat = min 65535 ((s.ctr .withdrawnDestination).toNat
      + (((s.dvs.d0).grants.filter fun g => r.lapTakes c && leavesChute c (some c.problem) .d0 && g.ref == r.ref).length
        + ((s.dvs.d1).grants.filter fun g => r.lapTakes c && leavesChute c (some c.problem) .d1 && g.ref == r.ref).length)) := by
  obtain ⟨hdvs, -, hlen, -⟩ := s.passTaken_same c r
  have hbase : (s.passTaken c r).ctr .withdrawnDestination = s.ctr .withdrawnDestination := by rw [State.passTaken_ctr hs, if_neg (by simp)]
  rw [State.passesRule_eq]
  by_cases hlap : r.lapped c = true
  · have htakes : r.lapTakes c = offerTakes (r.withPass c).reason .lapLimit := by
      rw [SegRec.lapTakes, hlap, Bool.true_and, offerTakes_eq_all_soft rfl]; rfl
    rw [if_pos hlap, State.raiseEv_ctr, State.bump_ctr_of_ne _ (by decide),
      State.offer_withdrawn (hlen.trans hs) (State.findRec_passTaken (c := c) h), hdvs, hbase, htakes]
  · have htakes : r.lapTakes c = false := by simp [SegRec.lapTakes, hlap]
    have := (s.ctr .withdrawnDestination).isLt
    rw [if_neg hlap, hbase, htakes]
    simp
    omega

/-- The notice of an offer is the only frame that an offer queues. -/
theorem State.offer_outbound {ref : RecRef} {q : SegRec} (h : s.findRec ref = some q) (c : StationConfig) (x : Reason) :
    (s.offer c ref x).hlc.queue = if offerTakes q.reason x then enqueue (.strayNotice ⟨x, q.ident, q.passes, orZero q.dest, q.origin⟩) s.hlc.queue
      else s.hlc.queue := by
  cases ht : offerTakes q.reason x with
  | true => rw [State.offer_of_takes h ht]; simp
  | false => rw [State.offer_of_kept h ht]; simp

theorem State.passesRule_outbound (h : s.findRec r.ref = some r) (c : StationConfig) : (s.passesRule c r).hlc.queue
    = if r.lapTakes c then enqueue (.strayNotice ⟨.lapLimit, r.ident, (r.withPass c).passes, orZero r.dest, r.origin⟩) s.hlc.queue
      else s.hlc.queue := by
  obtain ⟨-, hhlc, -, -⟩ := s.passTaken_same c r
  rw [State.passesRule_eq]
  by_cases hlap : r.lapped c = true
  · have htakes : r.lapTakes c = offerTakes (r.withPass c).reason .lapLimit := by
      rw [SegRec.lapTakes, hlap, Bool.true_and, offerTakes_eq_all_soft rfl]; rfl
    rw [if_pos hlap, State.raiseEv_hlc, State.bump_hlc, State.offer_outbound (State.findRec_passTaken (c := c) h), hhlc, htakes]
    rfl
  · have htakes : r.lapTakes c = false := by simp [SegRec.lapTakes, hlap]
    rw [if_neg hlap, hhlc, htakes]
    rfl

end

end Sys2Proof.Machine
end

section
/-! OBLIGATION PROOF. The accepted edge of the exit eye: the exit match, or an unexpected exit (O19). -/

namespace Sys2Proof.Machine

open Sys2Proof

section
variable {s t u : State} {c : StationConfig} {r q : SegRec} {rest : List SegRec}

theorem OnlyRecords.slotLaw {refs : List RecRef} (h : OnlyRecords refs s t) (hslot : SlotLaw s) : SlotLaw t := by
  rw [slotLaw_iff] at *
  rw [h.1]
  exact hslot

/-- Where only one record may have changed, the queue is the old one with that record in its place. -/
theorem OnlyRecords.queue_eq {ref : RecRef} (h : OnlyRecords [ref] s t) (hslot : SlotLaw s) (hfind : t.findRec ref = some q) :
    t.btu.queue = s.btu.queue.map fun p => if p.ref = ref then q else p := by
  have hslot' := h.slotLaw hslot
  obtain ⟨hq, hqref⟩ := State.findRec_some hfind
  have hlen : t.btu.queue.length = s.btu.queue.length := by simpa using congrArg List.length h.1
  refine List.ext_getElem (by simpa using hlen) fun i h1 h2 => ?_
  have hi : i < s.btu.queue.length := hlen ▸ h1
  have href : t.btu.queue[i].ref = s.btu.queue[i].ref := by
    have := congrArg (fun l => l[i]?) h.1
    simpa [h1, hi] using this
  rw [List.getElem_map]
  split
  · rename_i hone
    exact hslot'.ref_inj (List.getElem_mem h1) hq (href.trans (hone.trans hqref.symm))
  · rename_i hother
    exact hslot'.ref_inj (List.getElem_mem h1) (h.2 _ (List.getElem_mem hi) (by simpa using hother)) href

/-- Where only the oldest record has changed, it still stands before the others. -/
theorem OnlyRecords.head (h : OnlyRecords [r.ref] s t) (hslot : SlotLaw s) (hq : s.btu.queue = r :: rest) (hfind : t.findRec r.ref = some q) :
    t.btu.queue = q :: rest := by
  have hother : ∀ p ∈ rest, p.ref ≠ r.ref := fun p hp e =>
    hslot.ne_head hq hp (hslot.ref_inj (by simp [hq, hp]) (by simp [hq]) e)
  rw [h.queue_eq hslot hfind, hq, List.map_cons, if_pos rfl]
  exact congrArg (q :: ·) ((List.map_congr_left fun p hp => if_neg (hother p hp)).trans (List.map_id' _))

theorem State.queueHandover_outbound (s : State) (c : StationConfig) (h : Handover) (n : Count) :
    (s.queueHandover c h n).hlc.queue = if c.down = 0 then s.hlc.queue else enqueue (.handover h n) s.hlc.queue := by
  unfold State.queueHandover
  split <;> simp

theorem State.queueHandover_confined (s : State) (c : StationConfig) (h : Handover) (n : Count) (refs : List RecRef) :
    Confined refs s (s.queueHandover c h n) := by
  unfold State.queueHandover
  split
  · exact .refl _ s
  · exact (Confined.refl refs s).queueFrame _

theorem State.queueHandover_same (s : State) (c : StationConfig) (h : Handover) (n : Count) : (s.queueHandover c h n).btu = s.btu
    ∧ (s.queueHandover c h n).dvs = s.dvs ∧ (s.queueHandover c h n).stu.counters.length = s.stu.counters.length
    ∧ (s.queueHandover c h n).stu.events.length = s.stu.events.length := by
  unfold State.queueHandover
  split <;> simp

theorem State.queueHandover_ctr (hs : s.stu.counters.length = 117) (c : StationConfig) (h : Handover) (n : Count) {k : Ctr}
    (hk : k.ofQueue = false) : (s.queueHandover c h n).ctr k = s.ctr k := by
  unfold State.queueHandover
  split
  · rfl
  · exact State.queueFrame_ctr hs _ hk

theorem State.queueHandover_ev (hs : s.stu.events.length = 33) (c : StationConfig) (h : Handover) (n : Count) {e : Ev}
    (he : e ≠ .dropped) : (s.queueHandover c h n).ev e = s.ev e := by
  unfold State.queueHandover
  split
  · rfl
  · exact State.queueFrame_ev hs _ he

/-- The evaluation of the flag leaves the frames of every other kind. -/
theorem Queued.evalBlocked_of_kind {g : Frame} (h : Queued g s) (hg : g.kind ≠ 0) (hroom : s.hlc.queue.length < 8) (c : StationConfig) :
    Queued g (s.evalBlocked c) := by
  unfold State.evalBlocked
  split
  · exact h
  · refine Queued.queueSegmentState (s := s.setBtu { s.btu with blockedFlag := s.blockedNow c }) (h.congr rfl) hroom ?_
    exact Bool.eq_false_iff.2 fun e => hg (Frame.kind_eq_of_sameClass e).symm

/-! ### The exit match (R25) -/

/-- The rule has been applied and the HANDOVER is queued. -/
def State.handedOver (c : StationConfig) (r : SegRec) (n : Count) (s : State) : State :=
  (s.passesRule c r).queueHandover c (handoverOf c (s.passesRule c r).btu.v (((s.passesRule c r).findRec r.ref).getD r)) n

theorem State.exitMatch_eq (s : State) (c : StationConfig) (r : SegRec) (n : Count) :
    s.exitMatch c r n = ((s.handedOver c r n).remove c r.ref .exitMatch).settle c := rfl

/-- The HANDOVER of a record after the rule (R55). -/
def handoverSent (c : StationConfig) (v : Nat) (r : SegRec) : Handover :=
  ⟨c.down, v, c.dExit, r.len.getD 0, r.ident, r.origin, (r.passed c).dest.getD 0, (r.passed c).reason, (r.passed c).passes, r.lateId⟩

section
variable {c : StationConfig} {v : Nat} {r : SegRec}

theorem handoverSent_of_elsewhere (h : r.dest.any c.ownChute = false) :
    handoverSent c v r = ⟨c.down, v, c.dExit, r.len.getD 0, r.ident, r.origin, r.dest.getD 0, r.reason, r.passes, r.lateId⟩ := by
  simp [handoverSent, SegRec.passed, SegRec.lapTakes, SegRec.lapped, h]

theorem handoverSent_of_pass (h : r.dest.any c.ownChute = true) (hless : r.passes + 1 < c.maxPasses) :
    handoverSent c v r = ⟨c.down, v, c.dExit, r.len.getD 0, r.ident, r.origin, r.dest.getD 0, r.reason, r.passes + 1, r.lateId⟩ := by
  have hmin : min c.maxPasses (r.passes + 1) = r.passes + 1 := by omega
  have hnot : ¬ c.maxPasses ≤ r.passes + 1 := by omega
  simp [handoverSent, SegRec.passed, SegRec.lapTakes, SegRec.lapped, h, hmin, hnot]

theorem handoverSent_of_lapped (h : r.dest.any c.ownChute = true) (hmax : c.maxPasses ≤ r.passes + 1) :
    handoverSent c v r = ⟨c.down, v, c.dExit, r.len.getD 0, r.ident, r.origin, if r.reason.all Reason.soft then c.problem else r.dest.getD 0,
      if r.reason.all Reason.soft then some .lapLimit else r.reason, c.maxPasses, r.lateId⟩ := by
  have hmin : min c.maxPasses (r.passes + 1) = c.maxPasses := by omega
  simp only [handoverSent, SegRec.passed, SegRec.lapTakes, SegRec.lapped, h, hmin, hmax, decide_true, Bool.true_and, if_true]
  split <;> rfl

end

/-- What stands before the removal: the record with its pass at the head, its grants, and the frames queued. -/
structure HandedOver (c : StationConfig) (r : SegRec) (n : Count) (s w : State) : Prop where
  confined : Confined [r.ref] s w
  head : ∃ v rest, s.btu.queue = r :: rest ∧ w.btu.queue = { r.passed c with divert := v } :: rest
  outbound : w.hlc.queue = if c.down = 0 then (s.passesRule c r).hlc.queue
    else enqueue (.handover (handoverSent c s.btu.v r) n) (s.passesRule c r).hlc.queue
  grants : ∀ d, (w.dvs.get d).grants = (s.dvs.get d).grants.filter fun g =>
    !(r.lapTakes c && leavesChute c (some c.problem) d && g.ref == r.ref)
  counters : w.stu.counters.length = 117
  events : w.stu.events.length = 33
  ctr : ∀ k, k.ofQueue = false → w.ctr k = (s.passesRule c r).ctr k
  ev : ∀ e, e ≠ .dropped → w.ev e = (s.passesRule c r).ev e

theorem State.handedOver_spec (hs : SizeLaw s) (hslot : SlotLaw s) (hq : s.btu.queue = r :: rest) (c : StationConfig) (n : Count) :
    HandedOver c r n s (s.handedOver c r n) := by
  have hfind := State.findRec_of_head hq
  obtain ⟨v, hv⟩ := State.findRec_passesRule (c := c) hfind
  have hconf := s.passesRule_confined c r
  obtain ⟨hbtu, hdvs, hctrs, hevs⟩ := (s.passesRule c r).queueHandover_same c
    (handoverOf c (s.passesRule c r).btu.v (((s.passesRule c r).findRec r.ref).getD r)) n
  have hframe : handoverOf c (s.passesRule c r).btu.v (((s.passesRule c r).findRec r.ref).getD r) = handoverSent c s.btu.v r := by
    rw [hv, hconf.btu]; rfl
  refine ⟨hconf.trans (State.queueHandover_confined _ c _ n _), ⟨v, rest, hq, ?_⟩, ?_, fun d => ?_, ?_, ?_, fun k hk => ?_, fun e he => ?_⟩
  · rw [State.handedOver, hbtu]
    exact hconf.records.head hslot hq hv
  · rw [State.handedOver, State.queueHandover_outbound, hframe]
  · rw [State.handedOver, hdvs, State.passesRule_grants hfind]
  · rw [State.handedOver, hctrs]; simpa using hs.counters
  · rw [State.handedOver, hevs]; simpa using hs.events
  · exact State.queueHandover_ctr (by simpa using hs.counters) c _ n hk
  · exact State.queueHandover_ev (by simpa using hs.events) c _ n he

theorem leavesChute_problem (c : StationConfig) (d : Div) :
    leavesChute c (some c.problem) d = (c.diverter d).any fun v => v.chute != c.problem := by
  refine congrArg (fun f => Option.any f (c.diverter d)) (funext fun v => ?_)
  rw [Bool.eq_iff_iff]
  simp

/-- The grants that a removal drops after those of other chutes were lost, and the ones it keeps. -/
theorem filter_kept (x : Bool) (ref : RecRef) (gs : List Grant) :
    (gs.filter fun g => !(x && g.ref == ref)).filter (·.ref != ref) = gs.filter (·.ref != ref) := by
  rw [List.filter_filter]
  refine List.filter_congr fun g _ => ?_
  rw [bne]
  cases g.ref == ref <;> simp

theorem filter_dropped (x : Bool) (ref : RecRef) (gs : List Grant) :
    (gs.filter fun g => !(x && g.ref == ref)).filter (·.ref == ref) = gs.filter fun g => g.ref == ref && !x := by
  rw [List.filter_filter]
  refine List.filter_congr fun g _ => ?_
  cases g.ref == ref <;> simp

/-- What an exit match makes of the station, in the terms of the statement; the frames apart. -/
structure ExitLeft (c : StationConfig) (r : SegRec) (s t : State) : Prop where
  btu : t.btu = { s.btu with
    queue := s.btu.queue.tail
    flow := { s.btu.flow with exited := s.btu.flow.exited + 1 }
    openRec := t.btu.openRec
    blockedFlag := t.btu.blockedFlag
    reportedV := t.btu.reportedV }
  entries : t.idt.entries = match r.entry with
    | none => s.idt.entries
    | some i => s.idt.entries.modify i (Option.map fun x => { x with state := .onLoop, age := 0 })
  pointer : t.idt.pointer = s.idt.pointer
  dvs : ∀ d, t.dvs.get d = { s.dvs.get d with
    grants := (s.dvs.get d).grants.filter (·.ref != r.ref)
    confirms := (s.dvs.get d).confirms.filter (·.ref != r.ref)
    last := (s.dvs.get d).last.map fun l => { l with
      fired := if l.fired = some r.ref then none else l.fired
      closeBehind := if l.closeBehind = some r.ref then none else l.closeBehind } }
  frames : OnlyFrames s t
  parts : OnlyParts [.btu, .idt, .dvs, .hlc, .stu] s t
  cancelled : (t.ctr .grantCancelled).toNat = min 65535 ((s.ctr .grantCancelled).toNat
    + (s.dvs.d0.grants.filter fun g => g.ref == r.ref && !(r.lapTakes c && leavesChute c (some c.problem) .d0)).length
    + (s.dvs.d1.grants.filter fun g => g.ref == r.ref && !(r.lapTakes c && leavesChute c (some c.problem) .d1)).length)
  ctr : ∀ k, k.ofQueue = false → k ≠ .grantCancelled → t.ctr k = (s.passesRule c r).ctr k
  ev : ∀ e, e ≠ .dropped → t.ev e = (s.passesRule c r).ev e

theorem HandedOver.left {w : State} {n : Count} (h : HandedOver c r n s w) (hs : SizeLaw s) (hq : s.btu.queue = r :: rest) :
    ExitLeft c r s (w.remove c r.ref .exitMatch) := by
  obtain ⟨v, rest', hq', hwq⟩ := h.head
  have hleft : HeadLeft c { r.passed c with divert := v } w (w.remove c r.ref .exitMatch) := State.remove_headLeft hwq (.inl rfl) c
  have hwbtu := h.confined.btu
  have hwidt : w.idt = s.idt := h.confined.parts.2.2.2.2.2.1.resolve_left (by decide)
  have htail : w.btu.queue.tail = s.btu.queue.tail := by rw [hwq, hq']; rfl
  refine ⟨?_, ?_, by rw [hleft.pointer, hwidt], fun d => ?_, ?_, (h.confined.parts.trans hleft.parts).mono (by decide), ?_, fun k hk hg => ?_,
    fun e he => ?_⟩
  · rw [hleft.btu, htail, hwbtu]
  · rw [hleft.entries, hwidt]; rfl
  · have hkept := filter_kept (r.lapTakes c && leavesChute c (some c.problem) d) r.ref (s.dvs.get d).grants
    rw [hleft.dvs, h.confined.grants, h.grants, ← hkept]
    rfl
  · rw [OnlyFrames, hleft.frames, h.confined.frames]
  · have hctr := State.remove_head_ctr hwq h.counters c .exitMatch (k := .grantCancelled) rfl
    have hbase := State.passesRule_ctr_of_ne (c := c) hs.counters (State.findRec_of_head hq) (k := .grantCancelled) (by decide) (by decide)
      rfl (by decide) (by decide) (by decide)
    have h0 := h.grants .d0
    have h1 := h.grants .d1
    rw [if_neg (by simp)] at hbase
    rw [if_pos rfl, h.ctr _ rfl, hbase, List.filter_append, List.length_append] at hctr
    simp only [Dvs.get] at h0 h1
    have e0 := congrArg List.length (filter_dropped (r.lapTakes c && leavesChute c (some c.problem) .d0) r.ref s.dvs.d0.grants)
    have e1 := congrArg List.length (filter_dropped (r.lapTakes c && leavesChute c (some c.problem) .d1) r.ref s.dvs.d1.grants)
    rw [← h0] at e0
    rw [← h1] at e1
    rw [← e0, ← e1, Nat.add_assoc]
    exact hctr
  · have hctr := State.remove_head_ctr hwq h.counters c .exitMatch hk
    rw [if_neg hg] at hctr
    exact (ctr_eq_of_toNat hctr).trans (h.ctr k hk)
  · exact (State.remove_head_ev hwq h.events c .exitMatch he).trans (h.ev e he)

/-! ### The frames of an exit match -/

theorem HandedOver.length_le {w : State} {n : Count} (h : HandedOver c r n s w) (hq : s.btu.queue = r :: rest) :
    (s.passesRule c r).hlc.queue.length ≤ s.hlc.queue.length + 1 ∧ w.hlc.queue.length ≤ s.hlc.queue.length + 2 := by
  have hrule : (s.passesRule c r).hlc.queue.length ≤ s.hlc.queue.length + 1 := by
    rw [State.passesRule_outbound (State.findRec_of_head hq)]
    split
    · exact length_enqueue_le_succ _ _
    · omega
  refine ⟨hrule, ?_⟩
  rw [h.outbound]
  split
  · omega
  · exact (length_enqueue_le_succ _ _).trans (by omega)

/-- The rule queues nothing but a notice, and the HANDOVER goes where there is a neighbour. -/
theorem HandedOver.mem {w : State} {n : Count} (h : HandedOver c r n s w) (hq : s.btu.queue = r :: rest) {o : OutFrame}
    (ho : o ∈ w.hlc.queue) (hk : o.kind = 0 ∨ (o.kind = 1 ∧ c.down = 0)) : o ∈ s.hlc.queue := by
  have hrule : o ∈ (s.passesRule c r).hlc.queue → o ∈ s.hlc.queue := by
    rw [State.passesRule_outbound (State.findRec_of_head hq)]
    split
    · refine fun ho => mem_of_mem_enqueue_of_kind_ne ho ?_
      rw [Frame.kind]
      omega
    · exact id
  rw [h.outbound] at ho
  split at ho
  · exact hrule ho
  · rename_i hd
    refine hrule (mem_of_mem_enqueue_of_kind_ne ho ?_)
    rw [Frame.kind]
    omega

theorem HandedOver.reports {w : State} {n : Count} (h : HandedOver c r n s w) (hq : s.btu.queue = r :: rest) (hroom : s.hlc.queue.length ≤ 5) :
    Reports s w := by
  have hlen := (h.length_le hq).2
  exact ⟨by rw [h.confined.btu], by rw [h.confined.btu], by rw [h.confined.btu], by rw [h.confined.btu],
    fun o ho hk => h.mem hq ho (.inl hk), fun _ _ => enqueue_room (by omega)⟩

/-- A frame that waits before the removal waits after it, the flag's own kind aside. -/
theorem Queued.remove_head {g : Frame} (h : Queued g s) (hg : g.kind ≠ 0) (hroom : s.hlc.queue.length < 8) (hq : s.btu.queue = r :: rest)
    (c : StationConfig) (cause : Cause) : Queued g (s.remove c r.ref cause) := by
  rw [State.remove_head hq]
  exact Queued.evalBlocked_of_kind (s := s.removedHead r cause) (h.congr (by rw [State.removedHead_hlc])) hg
    (by rw [State.removedHead_hlc]; exact hroom) c

theorem HandedOver.handover {w : State} {n : Count} (h : HandedOver c r n s w) (hq : s.btu.queue = r :: rest) (hroom : s.hlc.queue.length ≤ 5)
    (hd : c.down ≠ 0) : Queued (.handover (handoverSent c s.btu.v r) n) w := by
  have hlen := (h.length_le hq).1
  refine ⟨.fresh _, ?_, rfl, rfl⟩
  rw [h.outbound, if_neg hd]
  exact enqueue_room (by omega)

theorem HandedOver.notice {w : State} {n : Count} (h : HandedOver c r n s w) (hq : s.btu.queue = r :: rest) (hroom : s.hlc.queue.length ≤ 5)
    (ht : r.lapTakes c = true) : Queued (.strayNotice ⟨.lapLimit, r.ident, (r.withPass c).passes, orZero r.dest, r.origin⟩) w := by
  have hlen := (h.length_le hq).1
  have hrule := State.passesRule_outbound (State.findRec_of_head hq) c
  rw [if_pos ht] at hrule
  have hmem : OutFrame.fresh (.strayNotice ⟨.lapLimit, r.ident, (r.withPass c).passes, orZero r.dest, r.origin⟩) ∈ (s.passesRule c r).hlc.queue := by
    rw [hrule]
    exact enqueue_room (by omega)
  refine ⟨.fresh (.strayNotice ⟨.lapLimit, r.ident, (r.withPass c).passes, orZero r.dest, r.origin⟩), ?_, rfl, rfl⟩
  rw [h.outbound]
  split
  · exact hmem
  · exact mem_enqueue_of_mem hmem (by omega) rfl

end

/-- The filter takes the edge, before it is delivered. -/
def State.exitBlocked (s : State) : State := s.setFilter .exit { s.btu.fExit with st := .blocked }

theorem State.exitBlocked_parts (s : State) : OnlyParts [.btu] s s.exitBlocked := by simp [OnlyParts, State.exitBlocked]

theorem exec_exitEdge {s : State} {c : StationConfig} (hc : s.cfg = some c) (hst : s.btu.fExit.st = .blocking)
    (hdue : c.gf ≤ fwd s.btu.fExit.raw s.btu.e) :
    exec (.leadingEdgeAccepted .exit) s = .next (s.exitBlocked.exitEdge c s.btu.fExit.raw) := by
  rw [exec_leadingEdgeAccepted hc, State.acceptLeading_of_due (y := .exit) (by exact hst) (by exact hdue)]
  rfl

/-! ### The unexpected exit (R26) -/

theorem State.exitUnexpected_spec {s : State} {c : StationConfig} (hs : SizeLaw s) (hroom : s.hlc.queue.length ≤ 5) (n : Count) :
    TalliedBeside [.exitUnexpected] [.exitUnexpected] s (s.exitUnexpected c n) ∧ (s.exitUnexpected c n).btu = s.btu
    ∧ (c.down ≠ 0 → Queued (.handover ⟨c.down, s.btu.v, c.dExit, 0, none, .blind, c.problem, some .blind, 0, false⟩ n) (s.exitUnexpected c n))
    ∧ (c.down = 0 → ∀ o ∈ (s.exitUnexpected c n).hlc.queue, o.kind = 1 → o ∈ s.hlc.queue)
    ∧ Queued (.strayNotice ⟨.blind, none, 0, 0, .blind⟩) (s.exitUnexpected c n) ∧ OnlyFrames s (s.exitUnexpected c n)
    ∧ OnlyParts [.btu, .hlc, .stu] s (s.exitUnexpected c n) := by
  set u := (s.bump .exitUnexpected).raiseEv .exitUnexpected with hu
  set w := u.queueHandover c (handoverUnexpected c s.btu.v) n with hw
  have hout := u.queueHandover_outbound c (handoverUnexpected c s.btu.v) n
  have hlen : w.hlc.queue.length ≤ s.hlc.queue.length + 1 := by
    rw [hw, hout]
    split
    · exact Nat.le_succ _
    · exact length_enqueue_le_succ _ _
  have hsmall : w.hlc.queue.length < 8 := by omega
  have htally : TalliedBeside [.exitUnexpected] [.exitUnexpected] s w := by
    have h := ((TalliedBeside.refl hs).bump (a := .exitUnexpected) (by simp)).raise .exitUnexpected
    rw [hw]
    unfold State.queueHandover
    split
    · exact h
    · exact h.queueFrame _
  have hparts : Confined [] s w := (((Confined.refl [] s).bump _).raise _).trans (u.queueHandover_confined c _ n _)
  refine ⟨htally.queueFrame _, by simp, fun hd => ?_, fun hd o ho hk => ?_, queued_queueFrame (s := w) hsmall _, ?_, by simp [OnlyParts]⟩
  · refine Queued.queueFrame ⟨.fresh _, ?_, rfl, rfl⟩ hsmall rfl
    rw [hout, if_neg hd]
    exact enqueue_room (by exact Nat.lt_of_le_of_lt hroom (by decide))
  · rw [State.exitUnexpected, State.queueFrame_queue] at ho
    have ho := mem_of_mem_enqueue_of_kind_ne ho (by rw [hk]; decide)
    rwa [hout, if_pos hd] at ho
  · exact (hparts.queueFrame _).frames

theorem inBand_iff {c : StationConfig} {r : SegRec} {n : Count} : inBand c r n = true
    ↔ fwd r.ein n < 2 ^ 23 ∧ c.pExit - c.band ≤ fwd r.ein n ∧ fwd r.ein n ≤ c.pExit + c.band := by
  simp only [inBand, atOrAfter, Bool.and_eq_true, decide_eq_true_eq]

/-- Settles O19: the match of the oldest record under the passes rule, and the edge that matches none. -/
theorem exitEdgeMatchesOrIsUnexpected : Obligations.ExitEdgeMatchesOrIsUnexpected := by
  intro c s hc hs hslot hst hdue hroom
  have hexec := exec_exitEdge hc hst hdue
  refine ⟨fun r hhead hlow hhigh hhalf hnext => ?_, fun hno => ?_⟩
  · obtain ⟨rest, hrest⟩ := List.head?_eq_some_iff.1 hhead
    set u := s.exitBlocked with hu
    have huq : u.btu.queue = r :: rest := hrest
    have hw := State.handedOver_spec (s := u) hs hslot huq c s.btu.fExit.raw
    have hleft := hw.left hs huq
    obtain ⟨v, rest', -, hwq⟩ := hw.head
    have hband : inBand c r s.btu.fExit.raw = true := inBand_iff.2 ⟨hhalf, hlow, hhigh⟩
    have hfind := State.findRec_of_head huq
    have hdone : ((u.handedOver c r s.btu.fExit.raw).remove c r.ref .exitMatch).overdueNow c = none := by
      refine State.overdueNow_of_awaiting fun q hq => hnext q ?_
      rw [hleft.btu] at hq
      exact hq
    have hsettled : u.exitEdge c s.btu.fExit.raw = (u.handedOver c r s.btu.fExit.raw).remove c r.ref .exitMatch := by
      simp only [State.exitEdge, huq, hband, if_true, State.exitMatch_eq]
      exact State.settle_of_none hdone
    have hlapped : r.lapped c = true ↔ r.dest.any c.ownChute = true ∧ c.maxPasses ≤ r.passes + 1 := by
      simp [SegRec.lapped]
    have hroom' : (u.handedOver c r s.btu.fExit.raw).hlc.queue.length < 8 := by
      have := (hw.length_le huq).2
      have hlen : u.hlc.queue.length = s.hlc.queue.length := rfl
      omega
    have hrule : ∀ k, k = .passCounted ∨ k = .lapLimit → (u.passesRule c r).ctr k
        = if (k = .passCounted ∧ r.dest.any c.ownChute = true) ∨ (k = .lapLimit ∧ r.lapped c = true) then satInc (s.ctr k) else s.ctr k := by
      rintro k (rfl | rfl) <;>
        exact State.passesRule_ctr_of_ne (s := u) hs.counters hfind (by decide) (by decide) rfl (by decide) (by decide) (by decide)
    have hsent : ∀ g, g.kind ≠ 0 → Queued g (u.handedOver c r s.btu.fExit.raw) →
        Queued g ((u.handedOver c r s.btu.fExit.raw).remove c r.ref .exitMatch) := fun g hg h =>
      h.remove_head (r := { r.passed c with divert := v }) hg hroom' hwq c .exitMatch
    refine ⟨_, hexec.trans (congrArg _ hsettled), ?_, ?_, ?_, ?_, ?_, hleft.entries, hleft.pointer, hleft.dvs, ?_, ?_, ?_,
      fun hd hown => ?_, fun hd hown hless => ?_, fun hd hown hmax => ?_, fun hd o ho hk => ?_, ?_, ?_, fun hown hmax hsoft => ?_, ?_, ?_,
      ?_, hleft.frames, ?_⟩
    · rw [hleft.btu]; rfl
    · rw [hleft.btu]; rfl
    · rw [hleft.btu]; rfl
    · rw [hleft.btu]; rfl
    · rw [hleft.btu]; rfl
    · have hcancelled := hleft.cancelled
      rw [leavesChute_problem, leavesChute_problem] at hcancelled
      exact hcancelled
    · have hwithdrawn := State.passesRule_withdrawn (s := u) hs.counters hfind c
      rw [leavesChute_problem, leavesChute_problem, ← Nat.add_assoc] at hwithdrawn
      rw [hleft.ctr _ rfl (by decide), hwithdrawn]
      simp only [Bool.and_comm (_ && _) (_ == r.ref)]
      rfl
    · rw [hleft.ctr _ rfl (by decide), hrule .passCounted (by decide)]
      simp
    · exact handoverSent_of_elsewhere hown ▸ hsent _ (by simp [Frame.kind]) (hw.handover huq hroom hd)
    · exact handoverSent_of_pass hown hless ▸ hsent _ (by simp [Frame.kind]) (hw.handover huq hroom hd)
    · exact handoverSent_of_lapped hown hmax ▸ hsent _ (by simp [Frame.kind]) (hw.handover huq hroom hd)
    · exact hw.mem huq (mem_of_mem_remove_head (r := { r.passed c with divert := v }) hwq ho (by omega)) (.inr ⟨hk, hd⟩)
    · exact (hw.reports huq hroom).remove_head (r := { r.passed c with divert := v }) hwq c .exitMatch
    · simp only [← hlapped]
      refine (StrayCounted.passesRule (s := u) hs.counters hfind c).congr (fun _ _ => rfl) fun k hk => hleft.ctr k ?_ ?_ <;>
        rcases hk with rfl | rfl | rfl <;> decide
    · have hmin : min c.maxPasses (r.passes + 1) = c.maxPasses := by omega
      have ht : r.lapTakes c = true := by simp [SegRec.lapTakes, hlapped.2 ⟨hown, hmax⟩, hsoft]
      have h := hsent _ (by simp [Frame.kind]) (hw.notice huq hroom ht)
      simpa [SegRec.withPass, hown, hmin, orZero] using h
    · rw [hleft.ctr _ rfl (by decide), hrule .lapLimit (by decide)]
      simp only [← hlapped]
      simp
    · rw [hleft.ev _ (by decide), State.passesRule_ev (s := u) hs.events (by decide)]
      simp only [← hlapped]
      simp
      rfl
    · rw [hleft.btu]
      rfl
    · exact (State.exitBlocked_parts s).trans hleft.parts |>.mono (by decide)
  · have hmiss : s.exitBlocked.exitEdge c s.btu.fExit.raw = s.exitBlocked.exitUnexpected c s.btu.fExit.raw := by
      unfold State.exitEdge
      cases hq : s.exitBlocked.btu.queue with
      | nil => rfl
      | cons r rest =>
        have hr := hno r (by rw [show s.btu.queue = r :: rest from hq]; rfl)
        exact if_neg fun hband => hr ((inBand_iff.1 hband).elim fun h1 h2 => ⟨h2.1, h2.2, h1⟩)
    obtain ⟨htally, hbtu, hhandover, hnone, hnotice, hframes, hparts⟩ := State.exitUnexpected_spec (s := s.exitBlocked) (c := c) hs hroom
      s.btu.fExit.raw
    exact ⟨_, hexec.trans (congrArg _ hmiss), hbtu, hhandover, hnone, hnotice, htally.counted, htally.raised, hframes, (State.exitBlocked_parts s).trans hparts |>.mono (by decide)⟩

end Sys2Proof.Machine
end

section
/-! SUPPORT. A gap below the minimum withdraws the grants of the record it is set for (R20, R22, R117), and the record ahead of another. -/

namespace Sys2Proof.Machine

open Sys2Proof

section
variable {s t u : State} {refs refs' : List RecRef} {c : StationConfig} {ref : RecRef} {g : Nat}

/-! ### The frames of the statements, widened -/

theorem OnlyRecords.mono (h : OnlyRecords refs s t) (hsub : refs ⊆ refs') : OnlyRecords refs' s t :=
  ⟨h.1, fun q hq hn => h.2 q hq fun hm => hn (hsub hm)⟩

theorem Confined.mono (h : Confined refs s t) (hsub : refs ⊆ refs') : Confined refs' s t :=
  ⟨h.records.mono hsub, h.btu, h.frames, h.grants, h.parts⟩

/-- A record that is not named is found as it was. -/
theorem OnlyRecords.findRec (h : OnlyRecords refs s t) (hslot : SlotLaw s) {r : SegRec} (hr : s.findRec ref = some r) (hn : ref ∉ refs) :
    t.findRec ref = some r := by
  obtain ⟨hmem, rfl⟩ := State.findRec_some hr
  exact (h.slotLaw hslot).findRec_eq (h.2 r hmem hn)

/-! ### The record ahead (R22) -/

theorem aheadOf_map_ref (ref : RecRef) {p q : List SegRec} (h : p.map SegRec.ref = q.map SegRec.ref) :
    (aheadOf ref p).map SegRec.ref = (aheadOf ref q).map SegRec.ref := by
  induction p generalizing q with
  | nil =>
    rw [List.map_nil, eq_comm, List.map_eq_nil_iff] at h
    rw [h]
  | cons a p ih =>
    cases q with
    | nil => simp at h
    | cons b q =>
      rw [List.map_cons, List.map_cons, List.cons.injEq] at h
      obtain ⟨hab, hpq⟩ := h
      have hrest := ih hpq
      cases p with
      | nil =>
        rw [List.map_nil, eq_comm, List.map_eq_nil_iff] at hpq
        rw [hpq]
        rfl
      | cons a' p =>
        cases q with
        | nil => simp at hpq
        | cons b' q =>
          rw [List.map_cons, List.map_cons, List.cons.injEq] at hpq
          obtain ⟨hab', -⟩ := hpq
          simp only [aheadOf, hab']
          split
          · simp [hab]
          · exact hrest

/-- The record ahead is another one, of the queue. -/
theorem aheadOf_some {q : List SegRec} {a : SegRec} (hq : (q.map SegRec.ref).Nodup) (h : aheadOf ref q = some a) : a ∈ q ∧ a.ref ≠ ref := by
  induction q with
  | nil => simp [aheadOf] at h
  | cons x q ih =>
    cases q with
    | nil => simp [aheadOf] at h
    | cons y q =>
      obtain ⟨hx, hrest⟩ := List.nodup_cons.1 hq
      simp only [aheadOf] at h
      split at h
      · rename_i hy
        obtain rfl := Option.some.inj h
        refine ⟨List.mem_cons_self, fun e => hx ?_⟩
        simp [e, hy]
      · obtain ⟨hmem, hne⟩ := ih hrest h
        exact ⟨List.mem_cons_of_mem _ hmem, hne⟩

theorem SlotLaw.refs_nodup (hslot : SlotLaw s) : (s.btu.queue.map SegRec.ref).Nodup := by
  obtain ⟨hslots, -, -⟩ := hslot
  exact List.Nodup.of_map RecRef.slot (by rw [List.map_map]; exact hslots)

/-- The record ahead stays while its follower changes. -/
theorem OnlyRecords.aheadOf (h : OnlyRecords [ref] s t) (hslot : SlotLaw s) : aheadOf ref t.btu.queue = aheadOf ref s.btu.queue := by
  have hrefs := aheadOf_map_ref ref h.1
  have hslot' := h.slotLaw hslot
  cases hs : Machine.aheadOf ref s.btu.queue with
  | none => simpa [hs] using hrefs
  | some a =>
    rw [hs, Option.map_some, Option.map_eq_some_iff] at hrefs
    obtain ⟨b, hb, hba⟩ := hrefs
    obtain ⟨ha, hne⟩ := aheadOf_some hslot.refs_nodup hs
    rw [hb, hslot'.ref_inj (aheadOf_some hslot'.refs_nodup hb).1 (h.2 a ha (by simpa using hne)) hba]

/-! ### Withdrawal at a gap below the minimum (R117) -/

theorem Confined.withdrawBoth (h : Confined refs s t) (k : Ctr) (hm : ref ∈ refs) : Confined refs s (t.withdrawBoth k (·.ref == ref)) := by
  have named : ∀ g : Grant, (g.ref == ref) = true → g.ref ∈ refs := fun g hg => by rwa [eq_of_beq hg]
  exact (h.withdraw .d0 k fun g _ => named g).withdraw .d1 k fun g _ => named g

/-- A withdrawal counts a late update only for a grant whose record has gone (R17). -/
theorem withdrawEach_ctr_late (k : Ctr) (hk : k ≠ .lateUpdate) (gs : List Grant) {s : State} (hg : ∀ g ∈ gs, (s.findRec g.ref).isSome) :
    (gs.foldl (fun t g => (t.updateRec g.ref fun r => { r with divert := .withdrawn }).bump k) s).ctr .lateUpdate = s.ctr .lateUpdate := by
  induction gs generalizing s with
  | nil => rfl
  | cons g gs ih =>
    have hhere : s.updateRec g.ref (fun r => { r with divert := .withdrawn }) = s.mapRec g.ref fun r => { r with divert := .withdrawn } :=
      if_pos (hg g List.mem_cons_self)
    rw [List.foldl_cons, hhere, ih, State.bump_ctr_of_ne _ (Ne.symm hk)]
    · rfl
    · intro g' hg'
      have hfind := State.findRec_of_map (s := s) (t := (s.mapRec g.ref fun r => { r with divert := .withdrawn }).bump k)
        (State.mapRec_queue _ _ _) (fun r => by split <;> rfl) g'.ref
      rw [hfind, Option.isSome_map]
      exact hg g' (List.mem_cons_of_mem _ hg')

theorem State.withdraw_ctr_late (d : Div) {k : Ctr} (hk : k ≠ .lateUpdate) {p : Grant → Bool}
    (hp : ∀ g ∈ (s.dvs.get d).grants, p g = true → (s.findRec g.ref).isSome) : (s.withdraw d k p).ctr .lateUpdate = s.ctr .lateUpdate := by
  refine withdrawEach_ctr_late k hk _ (s := s.setDiv d { s.dvs.get d with grants := (s.dvs.get d).grants.filter fun g => !p g }) fun g hg => ?_
  obtain ⟨hmem, hpg⟩ := List.mem_filter.1 hg
  exact hp g hmem hpg

theorem State.withdrawBoth_ctr_late {k : Ctr} (hk : k ≠ .lateUpdate) (h : (s.findRec ref).isSome) :
    (s.withdrawBoth k (·.ref == ref)).ctr .lateUpdate = s.ctr .lateUpdate := by
  have named : ∀ (t : State), (t.findRec ref).isSome → ∀ d, ∀ g ∈ (t.dvs.get d).grants, (g.ref == ref) = true → (t.findRec g.ref).isSome :=
    fun t ht d g _ hg => by rwa [eq_of_beq hg]
  have hfind : ((s.withdraw .d0 k (·.ref == ref)).findRec ref).isSome := by
    rw [State.findRec_of_map (s := s) (by rw [State.withdraw_btu]) (fun r => by simp) ref, Option.isSome_map]
    exact h
  rw [State.withdrawBoth, State.withdraw_ctr_late .d1 hk (named _ hfind _), State.withdraw_ctr_late .d0 hk (named _ h _)]

/-- The grants that the record loses at a gap. -/
def State.gapGrants (c : StationConfig) (ref : RecRef) (g : Nat) (s : State) : List Grant :=
  if g < c.gMin then (s.dvs.d0.grants ++ s.dvs.d1.grants).filter (·.ref == ref) else []

theorem State.gapSet_btu (s : State) (c : StationConfig) (ref : RecRef) (g : Nat) :
    (s.gapSet c ref g).btu = { s.btu with queue := s.btu.queue.map (SegRec.withdrawnBy (s.gapGrants c ref g)) } := by
  unfold State.gapSet State.gapGrants
  split
  · rw [State.withdrawBoth_btu, List.filter_append]
  · rw [map_withdrawnBy_nil]

theorem State.gapSet_grants (s : State) (c : StationConfig) (ref : RecRef) (g : Nat) (d : Div) : (s.gapSet c ref g).dvs.get d
    = { s.dvs.get d with grants := (s.dvs.get d).grants.filter fun x => !(decide (g < c.gMin) && x.ref == ref) } := by
  unfold State.gapSet
  split
  · rename_i hg
    simp [State.withdrawBoth_get, hg]
  · rename_i hg
    simp [hg]

theorem State.gapSet_ctr (hs : s.stu.counters.length = 117) (h : (s.findRec ref).isSome) (c : StationConfig) (g : Nat) (k : Ctr) :
    ((s.gapSet c ref g).ctr k).toNat = min 65535 ((s.ctr k).toNat + if k = .withdrawnGap then (s.gapGrants c ref g).length else 0) := by
  have := (s.ctr k).isLt
  unfold State.gapSet State.gapGrants
  split
  · by_cases hk : k = .lateUpdate
    · subst hk
      rw [State.withdrawBoth_ctr_late (by decide) h]
      simp
      omega
    · rw [State.withdrawBoth_ctr hs _ _ hk]
  · simp
    omega

theorem State.gapSet_ctr_of_ne (hs : s.stu.counters.length = 117) (h : (s.findRec ref).isSome) (c : StationConfig) (g : Nat) {k : Ctr}
    (hk : k ≠ .withdrawnGap) : (s.gapSet c ref g).ctr k = s.ctr k := by
  have hctr := State.gapSet_ctr hs h c g k
  rw [if_neg hk] at hctr
  exact ctr_eq_of_toNat hctr

@[simp] theorem State.gapSet_ev (s : State) (c : StationConfig) (ref : RecRef) (g : Nat) (e : Ev) : (s.gapSet c ref g).ev e = s.ev e := by
  unfold State.gapSet
  split
  · rw [State.withdrawBoth_ev]
  · rfl

theorem Confined.gapSet (h : Confined refs s t) (c : StationConfig) (g : Nat) (hm : ref ∈ refs) : Confined refs s (t.gapSet c ref g) := by
  unfold State.gapSet
  split
  · exact h.withdrawBoth _ hm
  · exact h

theorem State.findRec_gapSet (s : State) (c : StationConfig) (ref : RecRef) (g : Nat) (a : RecRef) :
    (s.gapSet c ref g).findRec a = (s.findRec a).map (SegRec.withdrawnBy (s.gapGrants c ref g)) :=
  State.findRec_of_map (by rw [State.gapSet_btu]) (fun r => by simp) a

end

end Sys2Proof.Machine
end

section
/-! OBLIGATION PROOF. The accepted trailing edge of the entry eye measures the open record (O17). -/

namespace Sys2Proof.Machine

open Sys2Proof

section
variable {s t u w : State} {c : StationConfig} {r q : SegRec} {n : Count} {a : SegRec}

/-! ### Step 1: the length (R22) -/

/-- The length that the span gives. -/
def SegRec.spanned (n : Count) (r : SegRec) : SegRec := { r with len := some (max 1 (min Sys2Proof.longBag (fwd r.ein n))) }

/-- The span makes the record OVERSIZE. -/
def SegRec.overlong (n : Count) (r : SegRec) : Bool := !r.longBag && decide (2047 ≤ fwd r.ein n)

/-- The record after step 1, its divert status aside. -/
def SegRec.measured (c : StationConfig) (n : Count) (r : SegRec) : SegRec := { r with
  len := if r.longBag then r.len else some (max 1 (min 2047 (fwd r.ein n)))
  reason := if r.overlong n && r.reason.all Reason.soft then some .oversize else r.reason
  dest := if r.overlong n && r.reason.all Reason.soft then some c.problem else r.dest }

/-- What step 1 makes of the station. -/
structure Measured (c : StationConfig) (r : SegRec) (n : Count) (s t : State) : Prop where
  confined : Confined [r.ref] s t
  found : ∃ v, t.findRec r.ref = some { r.measured c n with divert := v } ∧ (r.overlong n = false → v = r.divert)
  counters : t.stu.counters.length = 117
  quiet : r.overlong n = false → t.hlc = s.hlc
  noticed : r.overlong n = true → StrayNoticed r .oversize s t
  strays : StrayCounted (if r.overlong n = true then [(r.reason, .oversize)] else []) s t
  ctr : ∀ k, k = .tightEntry ∨ k = .withdrawnGap → t.ctr k = s.ctr k
  kept : ∀ d ref, ref ≠ r.ref → (t.dvs.get d).grants.filter (·.ref == ref) = (s.dvs.get d).grants.filter (·.ref == ref)

theorem State.measure_eq (s : State) (c : StationConfig) (r : SegRec) (n : Count) : s.measure c r n = if r.longBag then s
    else if r.overlong n then (s.mapRec r.ref fun q => { q with len := some (max 1 (min Sys2Proof.longBag (fwd r.ein n))) }).offer c r.ref .oversize
    else s.mapRec r.ref fun q => { q with len := some (max 1 (min Sys2Proof.longBag (fwd r.ein n))) } := by
  unfold State.measure SegRec.overlong
  cases r.longBag with
  | true => rfl
  | false =>
    by_cases h : 2047 ≤ fwd r.ein n
    · simp [Sys2Proof.longBag, h]
    · simp [Sys2Proof.longBag, h]

theorem filter_other {gs : List Grant} {b : Bool} {ref ref' : RecRef} (h : ref' ≠ ref) :
    (gs.filter fun g => !(b && g.ref == ref)).filter (·.ref == ref') = gs.filter (·.ref == ref') := by
  rw [List.filter_filter]
  refine List.filter_congr fun g _ => ?_
  by_cases hg : g.ref = ref'
  · simp [hg, h]
  · simp [hg]

theorem State.measure_spec (hs : SizeLaw s) (h : s.findRec r.ref = some r) (c : StationConfig) (n : Count) :
    Measured c r n s (s.measure c r n) := by
  set m := s.mapRec r.ref fun q => { q with len := some (max 1 (min Sys2Proof.longBag (fwd r.ein n))) } with hm
  have hconf : Confined [r.ref] s m := (Confined.refl [r.ref] s).mapRec (f := fun q => { q with
    len := some (max 1 (min Sys2Proof.longBag (fwd r.ein n))) }) (fun _ => rfl) (List.mem_singleton_self _)
  have hfind : m.findRec r.ref = some (r.spanned n) :=
    State.findRec_mapRec s (f := fun q => { q with len := some (max 1 (min Sys2Proof.longBag (fwd r.ein n))) }) (fun _ => rfl) h
  rw [State.measure_eq]
  by_cases hlong : r.longBag = true
  · have hover : r.overlong n = false := by simp [SegRec.overlong, hlong]
    rw [if_pos hlong]
    refine ⟨.refl _ s, ⟨r.divert, ?_, fun _ => rfl⟩, hs.counters, fun _ => rfl, fun e => ?_, ?_, fun _ _ => rfl, fun _ _ _ => rfl⟩
    · rw [h, SegRec.measured, if_pos hlong, hover]; rfl
    · simp [hover] at e
    · rw [hover]; exact .of_same fun _ _ => rfl
  · rw [if_neg hlong]
    by_cases hover : r.overlong n = true
    · rw [if_pos hover]
      obtain ⟨v, hv⟩ := State.findRec_offer (ref := r.ref) hfind c .oversize
      obtain ⟨hreason, hdest⟩ := SegRec.offered_hard (c := c) (x := .oversize) rfl (r.spanned n)
      refine ⟨hconf.offer c .oversize (List.mem_singleton_self _), ⟨v, ?_, fun e => ?_⟩, by simpa using hs.counters, fun e => ?_,
        fun _ => strayNoticed_offer (r := r.spanned n) (ref := r.ref) hfind c .oversize, ?_, ?_, fun d ref hne => ?_⟩
      · rw [hv, SegRec.offered_rest, hreason, hdest]
        simp [SegRec.measured, hover, hlong, SegRec.spanned]
        rfl
      · simp [hover] at e
      · simp [hover] at e
      · rw [if_pos hover]
        exact StrayCounted.offer (s := m) (r := r.spanned n) (ref := r.ref) hs.counters hfind c .oversize
      · rintro k (rfl | rfl) <;>
          exact State.offer_ctr_of_ne (s := m) hs.counters hfind c _ (by decide) (by decide) rfl (by decide) (by decide) (by decide)
      · rw [State.offer_grants hfind]
        exact filter_other hne
    · rw [if_neg hover]
      refine ⟨hconf, ⟨r.divert, ?_, fun _ => rfl⟩, hs.counters, fun _ => rfl, fun e => absurd e hover, ?_, fun _ _ => rfl, fun _ _ _ => rfl⟩
      · rw [hfind]; simp [SegRec.measured, hover, hlong, SegRec.spanned]; rfl
      · rw [if_neg hover]; exact .of_same fun _ _ => rfl

/-! ### Steps 2 to 4: the gaps and the TIGHT mark -/

/-- The gap is known and below the minimum. -/
def isTight (c : StationConfig) (g : Option Nat) : Bool := g.any (· < c.gMin)

/-- The record after steps 2 and 3. -/
def SegRec.faced (c : StationConfig) (g : Option Nat) (r : SegRec) : SegRec := { r with front := g.or r.front, tight := r.tight || isTight c g }

/-- The gap reaches the record ahead. -/
def reaches (g : Option Nat) (a : SegRec) : Bool := g.isSome && a.back.isNone

/-- The grants that the record ahead loses. -/
def State.aheadGrants (c : StationConfig) (g : Option Nat) (a : SegRec) (s : State) : List Grant :=
  if reaches g a && isTight c g then (s.dvs.d0.grants ++ s.dvs.d1.grants).filter (·.ref == a.ref) else []

/-- What steps 2 to 4 make of the station. -/
structure Gapped (c : StationConfig) (r q : SegRec) (g : Option Nat) (s t : State) : Prop where
  confined : Confined (r.ref :: ((aheadOf r.ref s.btu.queue).map SegRec.ref).toList) s t
  found : t.findRec r.ref = some (q.faced c g)
  hlc : t.hlc = s.hlc
  tight : t.ctr .tightEntry = if isTight c g then satInc (s.ctr .tightEntry) else s.ctr .tightEntry
  ctr : ∀ k, k ≠ .tightEntry → k ≠ .withdrawnGap → t.ctr k = s.ctr k
  ahead : ∀ a ∈ aheadOf r.ref s.btu.queue, t.findRec a.ref = some (({ a with back := if reaches g a then g else a.back } : SegRec).withdrawnBy
      (s.aheadGrants c g a))
    ∧ (t.ctr .withdrawnGap).toNat = min 65535 ((s.ctr .withdrawnGap).toNat + (s.aheadGrants c g a).length)
    ∧ ∀ d, (t.dvs.get d).grants = (s.dvs.get d).grants.filter fun x => !(reaches g a && isTight c g && x.ref == a.ref)

/-- Steps 2 and 3 for a known gap. -/
def State.facedGap (c : StationConfig) (r : SegRec) (g : Nat) (s : State) : State :=
  let t := s.mapRec r.ref fun q => { q with front := some g, tight := q.tight || decide (g < c.gMin) }
  if g < c.gMin then t.bump .tightEntry else t

theorem State.setGaps_of_some {g : Nat} (h : frontGap s.btu.gapRef r.ein = some g) : s.setGaps c r
    = match aheadOf r.ref (s.facedGap c r g).btu.queue with
      | none => s.facedGap c r g
      | some a => if a.back.isNone then ((s.facedGap c r g).mapRec a.ref fun q => { q with back := some g }).gapSet c a.ref g
          else s.facedGap c r g := by
  rw [State.setGaps, h]
  rfl

/-- What steps 2 and 3 make of the station. -/
structure Faced (c : StationConfig) (r q : SegRec) (g : Nat) (s t : State) : Prop where
  confined : Confined [r.ref] s t
  found : t.findRec r.ref = some (q.faced c (some g))
  hlc : t.hlc = s.hlc
  dvs : t.dvs = s.dvs
  counters : t.stu.counters.length = 117
  ctr : ∀ k, t.ctr k = if k = .tightEntry ∧ isTight c (some g) = true then satInc (s.ctr k) else s.ctr k

theorem State.facedGap_spec (hs : s.stu.counters.length = 117) (h : s.findRec r.ref = some q) (c : StationConfig) (g : Nat) :
    Faced c r q g s (s.facedGap c r g) := by
  set m := s.mapRec r.ref fun q => { q with front := some g, tight := q.tight || decide (g < c.gMin) }
  have hconf : Confined [r.ref] s m := (Confined.refl [r.ref] s).mapRec (f := fun q => { q with
    front := some g
    tight := q.tight || decide (g < c.gMin) }) (fun _ => rfl) (List.mem_singleton_self _)
  obtain ⟨-, href⟩ := State.findRec_some h
  have hfind : m.findRec r.ref = some (q.faced c (some g)) := by
    exact State.findRec_mapRec s (f := fun q => { q with front := some g, tight := q.tight || decide (g < c.gMin) }) (fun _ => rfl) h
  have heq : s.facedGap c r g = if g < c.gMin then m.bump .tightEntry else m := rfl
  rw [heq]
  by_cases hg : g < c.gMin
  · rw [if_pos hg]
    refine ⟨hconf.bump _, hfind, rfl, rfl, by simpa using (show m.stu.counters.length = 117 from hs), fun k => ?_⟩
    rw [State.bump_ctr (by exact hs)]
    simp only [isTight, Option.any_some, hg, decide_true, and_true]
    rfl
  · rw [if_neg hg]
    refine ⟨hconf, hfind, rfl, rfl, hs, fun k => ?_⟩
    rw [if_neg (by simp [isTight, hg])]
    rfl

theorem Faced.gapped {g : Nat} (h : Faced c r q g s t) (hkept : ∀ a ∈ aheadOf r.ref s.btu.queue, a.back.isNone = false ∧ t.findRec a.ref = some a) :
    Gapped c r q (some g) s t := by
  refine ⟨h.confined.mono (by simp), h.found, h.hlc, ?_, fun k hk _ => ?_, fun a ha => ?_⟩
  · rw [h.ctr]; simp
  · rw [h.ctr, if_neg fun e => hk e.1]
  · obtain ⟨hback, hfind⟩ := hkept a ha
    have hno : reaches (some g) a = false := by simp [reaches, hback]
    have := (s.ctr .withdrawnGap).isLt
    refine ⟨?_, ?_, fun d => ?_⟩
    · simp [hno, hfind, State.aheadGrants]
    · rw [h.ctr, if_neg (by simp), State.aheadGrants, hno]
      simp
      omega
    · rw [h.dvs, hno]; simp

theorem State.setGaps_spec (hs : s.stu.counters.length = 117) (hslot : SlotLaw s) (h : s.findRec r.ref = some q) (c : StationConfig) :
    Gapped c r q (frontGap s.btu.gapRef r.ein) s (s.setGaps c r) := by
  obtain ⟨-, href⟩ := State.findRec_some h
  cases hg : frontGap s.btu.gapRef r.ein with
  | none =>
    have hsame : s.setGaps c r = s := by rw [State.setGaps, hg]
    have := (s.ctr .withdrawnGap).isLt
    rw [hsame]
    refine ⟨.refl _ s, by simpa [SegRec.faced, isTight] using h, rfl, rfl, fun _ _ _ => rfl, fun a ha => ⟨?_, ?_, fun d => ?_⟩⟩
    · obtain ⟨hmem, -⟩ := aheadOf_some hslot.refs_nodup ha
      simpa [reaches, State.aheadGrants] using hslot.findRec_eq hmem
    · simp [reaches, State.aheadGrants]
      omega
    · simp [reaches]
  | some g =>
    have hf := State.facedGap_spec hs h c g
    have hahead := hf.confined.records.aheadOf hslot
    rw [State.setGaps_of_some hg, hahead]
    cases ha : aheadOf r.ref s.btu.queue with
    | none => exact hf.gapped (by simp [ha])
    | some a =>
      obtain ⟨hmem, hne⟩ := aheadOf_some hslot.refs_nodup ha
      have hfind := hf.confined.records.findRec hslot (hslot.findRec_eq hmem) (by simpa using hne)
      by_cases hback : a.back.isNone = true
      · have hmap := State.findRec_mapRec (s.facedGap c r g) (f := fun q => { q with back := some g }) (fun _ => rfl) hfind
        set m := (s.facedGap c r g).mapRec a.ref fun q => { q with back := some g } with hm
        have hreach : reaches (some g) a = true := by simp [reaches, hback]
        have hlost : s.aheadGrants c (some g) a = m.gapGrants c a.ref g := by
          rw [State.aheadGrants, State.gapGrants, hm, State.mapRec_dvs, hf.dvs, hreach]
          simp [isTight]
        have hstep : Confined [a.ref] (s.facedGap c r g) (m.gapSet c a.ref g) :=
          ((Confined.refl _ _).mapRec (f := fun q => { q with back := some g }) (fun _ => rfl) (List.mem_singleton_self _)).gapSet c g
            (List.mem_singleton_self _)
        have hctr := fun k => State.gapSet_ctr (s := m) (ref := a.ref) hf.counters (by rw [hmap]; rfl) c g k
        simp only [if_pos hback]
        refine ⟨?_, hstep.records.findRec (hf.confined.records.slotLaw hslot) hf.found (by simpa using Ne.symm hne), ?_, ?_, fun k hk hw => ?_,
          fun b hb => ?_⟩
        · rw [ha]
          exact (hf.confined.mono (by simp)).trans (hstep.mono (by simp))
        · rw [show (m.gapSet c a.ref g).hlc = m.hlc by unfold State.gapSet; split <;> simp]
          exact hf.hlc
        · rw [State.gapSet_ctr_of_ne (s := m) hf.counters (by rw [hmap]; rfl) c g (by decide)]
          exact (hf.ctr _).trans (by simp)
        · rw [State.gapSet_ctr_of_ne (s := m) hf.counters (by rw [hmap]; rfl) c g hw]
          exact (hf.ctr _).trans (if_neg fun e => hk e.1)
        · obtain rfl : a = b := by simpa [ha] using hb
          refine ⟨?_, ?_, fun d => ?_⟩
          · rw [State.findRec_gapSet, hmap, hlost, hreach]
            rfl
          · rw [hctr, if_pos rfl, hlost]
            exact congrArg (fun x : BitVec 16 => min 65535 (x.toNat + _)) ((hf.ctr _).trans (if_neg (by simp)))
          · have hdvs : m.dvs = s.dvs := hf.dvs
            rw [State.gapSet_grants, hdvs, hreach]
            simp [isTight]
      · simp only [if_neg hback]
        refine hf.gapped fun b hb => ?_
        obtain rfl : a = b := by simpa [ha] using hb
        exact ⟨Bool.eq_false_iff.2 hback, hfind⟩

end

/-- The filter has taken the trailing edge, before it is delivered. -/
def State.entryCleared (s : State) : State := s.setFilter .entry ⟨.clear, s.btu.fEntry.raw, false⟩

theorem exec_entryTrailing {s : State} {c : StationConfig} (hc : s.cfg = some c) (hst : s.btu.fEntry.st = .clearing)
    (hdue : c.gf ≤ fwd s.btu.fEntry.raw s.btu.e) (hmute : s.btu.fEntry.mute = false) :
    exec (.trailingEdgeAccepted .entry) s = .next (s.entryCleared.entryTrailing c s.btu.fEntry.raw) := by
  rw [exec_trailingEdgeAccepted hc, State.acceptTrailing_of_not_mute (y := .entry) (by exact hst) (by exact hdue) (by exact hmute)]
  rfl
/-! ### The edge completes the record -/

/-- What every completed record's edge leaves of the station besides the records named. -/
structure Completed (refs : List RecRef) (s t : State) : Prop where
  openRec : t.btu.openRec = none
  gapRef : t.btu.gapRef = if s.btu.skipTrailing then .lost else .count s.btu.fEntry.raw
  skipTrailing : t.btu.skipTrailing = false
  fEntry : t.btu.fEntry = ⟨.clear, s.btu.fEntry.raw, false⟩
  flow : t.btu.flow = s.btu.flow
  records : OnlyRecords refs s t
  btu : t.btu = { s.btu with
    queue := t.btu.queue
    openRec := none
    gapRef := t.btu.gapRef
    skipTrailing := false
    fEntry := t.btu.fEntry }
  frames : OnlyFrames s t
  grants : OnlyGrants s t
  parts : OnlyParts [.btu, .dvs, .hlc, .stu] s t

theorem Confined.completed {s w : State} {refs : List RecRef} (h : Confined refs s.entryCleared w) :
    Completed refs s (w.setGapRef s.btu.fEntry.raw) := by
  have hbtu := h.btu
  have hrest : (w.setGapRef s.btu.fEntry.raw).btu = { s.btu with
      queue := w.btu.queue
      openRec := none
      gapRef := if s.btu.skipTrailing then .lost else .count s.btu.fEntry.raw
      skipTrailing := false
      fEntry := ⟨.clear, s.btu.fEntry.raw, false⟩ } := by
    rw [State.setGapRef, State.setBtu_btu, hbtu]
    rfl
  have hcleared : OnlyParts [.btu] s s.entryCleared := by simp [OnlyParts, State.entryCleared]
  have hset : OnlyParts [.btu] w (w.setGapRef s.btu.fEntry.raw) := by simp [OnlyParts, State.setGapRef]
  exact ⟨by rw [hrest], by rw [hrest], by rw [hrest], by rw [hrest], by rw [hrest], h.records, by rw [hrest], h.frames, h.grants,
    ((hcleared.trans h.parts).trans hset).mono (by decide)⟩

/-- The gap of the statement. -/
theorem frontGap_eq (g : GapRef) (ein : Count) (front : Option Nat) : (frontGap g ein).or front = match g with
    | .none => some 16383
    | .count x => some (min 16383 (fwd x ein))
    | .lost => front := by
  cases g <;> rfl

theorem isTight_frontGap (c : StationConfig) (g : GapRef) (ein : Count) (front : Option Nat) :
    isTight c (frontGap g ein) = (decide (g ≠ .lost) && ((frontGap g ein).or front).any (· < c.gMin)) := by
  cases g <;> rfl

theorem reaches_frontGap (g : GapRef) (ein : Count) (a : SegRec) :
    reaches (frontGap g ein) a = true ↔ a.back = none ∧ g ≠ .lost := by
  cases g <;> simp [reaches, frontGap]

theorem back_of_reaches (g : GapRef) (ein : Count) (front : Option Nat) (a : SegRec) :
    (if reaches (frontGap g ein) a then frontGap g ein else a.back)
      = if a.back = none ∧ g ≠ .lost then (frontGap g ein).or front else a.back := by
  simp only [reaches_frontGap]
  split
  · rename_i h
    obtain ⟨-, hg⟩ := h
    cases g with
    | none => rfl
    | count x => rfl
    | lost => exact absurd rfl hg
  · rfl

theorem StrayNoticed.congr {r : SegRec} {x : Reason} {s t t' : State} (h : StrayNoticed r x s t) (e : t'.hlc = t.hlc) : StrayNoticed r x s t' := by
  simpa only [StrayNoticed, Queued, e] using h

section
variable {s u : State} {c : StationConfig} {r : SegRec} {n : Count}

/-- The reason and the destination after step 1, where no offer is made and where one is. -/
theorem SegRec.measured_of_short (h : r.overlong n = false) : (r.measured c n).reason = r.reason ∧ (r.measured c n).dest = r.dest := by
  simp [SegRec.measured, h]

theorem SegRec.measured_of_overlong (h : r.overlong n = true) :
    (r.measured c n).reason = (if r.reason.all Reason.soft then some .oversize else r.reason)
      ∧ (r.measured c n).dest = (if r.reason.all Reason.soft then some c.problem else r.dest) := by
  simp [SegRec.measured, h]

end

/-- What the edge makes of the record ahead, its grants those of an earlier state. -/
theorem Gapped.aheadRecord {s u w : State} {c : StationConfig} {r q a : SegRec} {g : GapRef} {ein : Count}
    (hg : Gapped c r q (frontGap g ein) u w) (ha : a ∈ aheadOf r.ref u.btu.queue)
    (hkept : ∀ d, (u.dvs.get d).grants.filter (·.ref == a.ref) = (s.dvs.get d).grants.filter (·.ref == a.ref))
    (hlate : u.ctr .withdrawnGap = s.ctr .withdrawnGap) (front : Option Nat) : ∃ b ∈ w.findRec a.ref,
      b.back = (if a.back = none ∧ g ≠ .lost then (frontGap g ein).or front else a.back)
      ∧ (a.back = none ∧ g ≠ .lost ∧ ((frontGap g ein).or front).any (· < c.gMin) = true →
          (∀ d, (w.dvs.get d).grants.any (·.ref == a.ref) = false)
          ∧ b.divert = (if (s.dvs.d0.grants ++ s.dvs.d1.grants).any (·.ref == a.ref) then .withdrawn else a.divert)
          ∧ (w.ctr .withdrawnGap).toNat
            = min 65535 ((s.ctr .withdrawnGap).toNat + ((s.dvs.d0.grants ++ s.dvs.d1.grants).filter (·.ref == a.ref)).length))
      ∧ (¬ (a.back = none ∧ g ≠ .lost ∧ ((frontGap g ein).or front).any (· < c.gMin) = true) →
          (∀ d, (w.dvs.get d).grants.filter (·.ref == a.ref) = (s.dvs.get d).grants.filter (·.ref == a.ref))
          ∧ b.divert = a.divert ∧ w.ctr .withdrawnGap = s.ctr .withdrawnGap) := by
  obtain ⟨hfind, hcount, hgrants⟩ := hg.ahead a ha
  have hboth : (u.dvs.d0.grants ++ u.dvs.d1.grants).filter (·.ref == a.ref) = (s.dvs.d0.grants ++ s.dvs.d1.grants).filter (·.ref == a.ref) := by
    have h0 := hkept .d0
    have h1 := hkept .d1
    simp only [Dvs.get] at h0 h1
    rw [List.filter_append, List.filter_append, h0, h1]
  have hlost : (reaches (frontGap g ein) a && isTight c (frontGap g ein)) = true
      ↔ a.back = none ∧ g ≠ .lost ∧ ((frontGap g ein).or front).any (· < c.gMin) = true := by
    rw [Bool.and_eq_true, reaches_frontGap, isTight_frontGap c _ _ front, Bool.and_eq_true, decide_eq_true_eq]
    tauto
  refine ⟨_, hfind, ?_, fun hlow => ⟨fun d => ?_, ?_, ?_⟩, fun hno => ⟨fun d => ?_, ?_, ?_⟩⟩
  · rw [SegRec.withdrawnBy_eq]
    exact back_of_reaches _ _ _ _
  · rw [hgrants, hlost.2 hlow]
    simp
  · rw [SegRec.withdrawnBy_divert, State.aheadGrants, if_pos (hlost.2 hlow), hboth, List.any_filter]
    simp only [Bool.and_self, SegRec.ref]
    rfl
  · rw [hcount, State.aheadGrants, if_pos (hlost.2 hlow), hboth, hlate]
  · rw [hgrants, Bool.eq_false_iff.2 fun e => hno (hlost.1 e)]
    simpa using hkept d
  · rw [SegRec.withdrawnBy_divert, State.aheadGrants, if_neg fun e => hno (hlost.1 e)]
    rfl
  · rw [State.aheadGrants, if_neg fun e => hno (hlost.1 e), hlate] at hcount
    exact ctr_eq_of_toNat hcount

/-- Settles O17: the length by step 1 of R22, the gaps and the mark by steps 2 to 4, and the gap reference by R21. -/
theorem trailingEdgeCompletesTheOpenRecord : Obligations.TrailingEdgeCompletesTheOpenRecord := by
  intro c o r s hc hs hslot hst hdue hmute hopen hfound
  have hexec := exec_entryTrailing hc hst hdue hmute
  obtain ⟨hmem, href⟩ := State.findRec_some hfound
  rw [← href] at hfound
  set n := s.btu.fEntry.raw with hn
  have hm := State.measure_spec (s := s.entryCleared) hs hfound c n
  set u := s.entryCleared.measure c r n with hu
  obtain ⟨v, hv, hvsame⟩ := hm.found
  have hover : r.overlong n = true ↔ r.longBag = false ∧ 2047 ≤ fwd r.ein n := by simp [SegRec.overlong]
  have hquiet : r.longBag = true ∨ fwd r.ein n < 2047 → r.overlong n = false := by
    rintro (h | h)
    · simp [SegRec.overlong, h]
    · simp [SegRec.overlong, h]
  have hedge : s.entryCleared.entryTrailing c n
      = if o.reopened then u.setGapRef n else (u.setGaps c r).setGapRef n := by
    have h1 : s.entryCleared.btu.openRec = some o := hopen
    have h2 : s.entryCleared.findRec o.ref = some r := by rw [href] at hfound; exact hfound
    simp only [State.entryTrailing, h1, h2]
    rfl
  have hgap : u.btu.gapRef = s.btu.gapRef := by rw [hm.confined.btu]; rfl
  have hsmall : r.longBag = true ∨ fwd r.ein n < 2047 → (r.measured c n).reason = r.reason ∧ (r.measured c n).dest = r.dest ∧ v = r.divert
      ∧ u.hlc = s.hlc := fun h => by
    obtain ⟨k1, k2⟩ := SegRec.measured_of_short (c := c) (hquiet h)
    exact ⟨k1, k2, hvsame (hquiet h), hm.quiet (hquiet h)⟩
  have hlarge : r.longBag = false → 2047 ≤ fwd r.ein n → StrayNoticed r .oversize s u
      ∧ (r.measured c n).reason = (if r.reason.all Reason.soft then some .oversize else r.reason)
      ∧ (r.measured c n).dest = (if r.reason.all Reason.soft then some c.problem else r.dest) := fun h1 h2 =>
    ⟨hm.noticed (hover.2 ⟨h1, h2⟩), SegRec.measured_of_overlong (hover.2 ⟨h1, h2⟩)⟩
  have hstray : StrayCounted (if r.longBag = false ∧ 2047 ≤ fwd r.ein n then [(r.reason, .oversize)] else []) s u := by
    simp only [← hover]
    exact hm.strays
  rw [hedge] at hexec
  by_cases hre : o.reopened = true
  · rw [if_pos hre] at hexec
    obtain ⟨h1, h2, h3, h4, h5, h6, h7, h8, h9, h10⟩ := hm.confined.completed
    refine ⟨_, hexec, h1, h2, h3, h4, h5, by rwa [if_pos hre], h7, h8, h9, h10, { r.measured c n with divert := v }, hv, rfl, rfl, rfl, rfl, rfl,
      rfl, rfl, fun h => ?_, fun hlong hspan => ?_, rfl, ?_, fun _ => ⟨rfl, rfl, hm.ctr _ (.inl rfl), hm.ctr _ (.inr rfl)⟩,
      fun h => absurd hre (by simp [h])⟩
    · exact hsmall h
    · exact hlarge hlong hspan
    · exact hstray
  · rw [if_neg hre] at hexec
    have hslot' : SlotLaw u := hm.confined.records.slotLaw hslot
    have hrefs : aheadOf r.ref u.btu.queue = aheadOf r.ref s.btu.queue := hm.confined.records.aheadOf (s := s.entryCleared) hslot
    have hg := State.setGaps_spec hm.counters hslot' hv c
    rw [hgap] at hg
    set g := frontGap s.btu.gapRef r.ein with hgdef
    have hconf : Confined (r.ref :: ((aheadOf r.ref s.btu.queue).map SegRec.ref).toList) s.entryCleared (u.setGaps c r) :=
      (hm.confined.mono (by simp)).trans (hrefs ▸ hg.confined)
    obtain ⟨h1, h2, h3, h4, h5, h6, h7, h8, h9, h10⟩ := hconf.completed
    have htight := hg.tight.trans (congrArg (fun x => if isTight c g then satInc x else x) (hm.ctr _ (.inl rfl)))
    rw [isTight_frontGap c _ _ r.front] at htight
    refine ⟨_, hexec, h1, h2, h3, h4, h5, by rwa [if_neg hre], h7, h8, h9, h10, _, hg.found, rfl, rfl, rfl, rfl, rfl, rfl, rfl, fun h => ?_,
      fun hlong hspan => ?_, rfl, ?_, fun h => absurd h hre, fun _ => ⟨frontGap_eq _ _ _, ?_, ?_, fun a ha => ?_⟩⟩
    · obtain ⟨k1, k2, k3, k4⟩ := hsmall h
      exact ⟨k1, k2, k3, hg.hlc.trans k4⟩
    · obtain ⟨k1, k2, k3⟩ := hlarge hlong hspan
      exact ⟨k1.congr hg.hlc, k2, k3⟩
    · refine hstray.congr (fun _ _ => rfl) fun k hk => hg.ctr k ?_ ?_ <;> rcases hk with rfl | rfl | rfl <;> decide
    · exact congrArg (r.tight || ·) (isTight_frontGap c _ _ r.front)
    · rw [show ((u.setGaps c r).setGapRef n).ctr .tightEntry = (u.setGaps c r).ctr .tightEntry from rfl, htight]
      simp only [Bool.and_eq_true, decide_eq_true_eq]
      rfl
    · obtain ⟨-, hne⟩ := aheadOf_some hslot.refs_nodup ha
      exact hg.aheadRecord (hrefs ▸ ha) (fun d => hm.kept d a.ref hne) (hm.ctr _ (.inr rfl)) r.front

end Sys2Proof.Machine
end

section
/-! SUPPORT. The passes test of a record that has joined or has been attached (R129). -/

namespace Sys2Proof.Machine

open Sys2Proof

/-- The record with the passes held at the maximum. -/
def SegRec.clamped (c : StationConfig) (r : SegRec) : SegRec := { r with passes := min c.maxPasses r.passes }

/-- LAP_LIMIT takes at the passes test. -/
def SegRec.testTakes (c : StationConfig) (r : SegRec) : Bool := decide (c.maxPasses ≤ r.passes) && r.reason.all Reason.soft

/-- The record after the test, its divert status aside. -/
def SegRec.tested (c : StationConfig) (r : SegRec) : SegRec := { r with
  passes := min c.maxPasses r.passes
  reason := if r.testTakes c then some .lapLimit else r.reason
  dest := if r.testTakes c then some c.problem else r.dest }

/-- What the test makes of the station. -/
structure PassesTested (c : StationConfig) (r : SegRec) (s t : State) : Prop where
  confined : Confined [r.ref] s t
  found : ∃ v, t.findRec r.ref = some { r.tested c with divert := v }
    ∧ ((∀ d, ∀ g ∈ (s.dvs.get d).grants, g.ref ≠ r.ref) → v = r.divert)
  same : r.passes < c.maxPasses → t = s
  outbound : t.hlc.queue = if r.testTakes c
    then enqueue (.strayNotice ⟨.lapLimit, r.ident, c.maxPasses, orZero r.dest, r.origin⟩) s.hlc.queue else s.hlc.queue
  strays : StrayCounted (if c.maxPasses ≤ r.passes then [(r.reason, .lapLimit)] else []) s t
  ctr : ∀ k, k ≠ .lateUpdate → k ≠ .withdrawnDestination → k.ofQueue = false → k ≠ .straySet → k ≠ .strayReplaced → k ≠ .strayKept →
    t.ctr k = if k = .passesClamped ∧ c.maxPasses < r.passes then satInc (s.ctr k) else s.ctr k
  ev : ∀ e, e ≠ .dropped → t.ev e = s.ev e

section
variable {s : State} {c : StationConfig} {r : SegRec}

theorem SegRec.testTakes_of_le (h : c.maxPasses ≤ r.passes) : r.testTakes c = r.reason.all Reason.soft := by
  rw [SegRec.testTakes, decide_eq_true h, Bool.true_and]

theorem SegRec.tested_of_lt (h : r.passes < c.maxPasses) : r.tested c = r := by
  have hmin : min c.maxPasses r.passes = r.passes := Nat.min_eq_right h.le
  have htakes : r.testTakes c = false := by simp [SegRec.testTakes, Nat.not_le.2 h]
  rw [SegRec.tested, hmin, htakes]
  rfl

theorem SegRec.tested_of_le (h : c.maxPasses ≤ r.passes) : (r.tested c).passes = c.maxPasses
    ∧ (r.tested c).reason = (if r.reason.all Reason.soft then some .lapLimit else r.reason)
    ∧ (r.tested c).dest = (if r.reason.all Reason.soft then some c.problem else r.dest) := by
  rw [← SegRec.testTakes_of_le h]
  exact ⟨Nat.min_eq_left h, rfl, rfl⟩

/-- Passes above the maximum are set to it, counted. -/
def State.clampPasses (c : StationConfig) (r : SegRec) (s : State) : State :=
  if c.maxPasses < r.passes then (s.mapRec r.ref fun q => { q with passes := c.maxPasses }).bump .passesClamped else s

theorem State.testPasses_eq (h : s.findRec r.ref = some r) :
    s.testPasses c r.ref = if c.maxPasses ≤ r.passes then (s.clampPasses c r).offer c r.ref .lapLimit else s := by
  simp only [State.testPasses, h, State.clampPasses]

theorem State.clampPasses_confined (s : State) (c : StationConfig) (r : SegRec) : Confined [r.ref] s (s.clampPasses c r) := by
  unfold State.clampPasses
  split
  · exact ((Confined.refl [r.ref] s).mapRec (f := fun q => { q with passes := c.maxPasses }) (fun _ => rfl)
      (List.mem_singleton_self _)).bump _
  · exact .refl _ s

theorem State.findRec_clampPasses (h : s.findRec r.ref = some r) : (s.clampPasses c r).findRec r.ref = some (r.clamped c) := by
  unfold State.clampPasses SegRec.clamped
  by_cases hlt : c.maxPasses < r.passes
  · rw [if_pos hlt, Nat.min_eq_left hlt.le]
    exact State.findRec_mapRec s (f := fun q => { q with passes := c.maxPasses }) (fun _ => rfl) h
  · rw [if_neg hlt, Nat.min_eq_right (Nat.le_of_not_lt hlt)]
    exact h

theorem State.clampPasses_same (s : State) (c : StationConfig) (r : SegRec) : (s.clampPasses c r).hlc = s.hlc
    ∧ (s.clampPasses c r).dvs = s.dvs
    ∧ (s.clampPasses c r).stu.counters.length = s.stu.counters.length ∧ (s.clampPasses c r).stu.events = s.stu.events := by
  unfold State.clampPasses
  split <;> simp

theorem State.clampPasses_ctr (hs : s.stu.counters.length = 117) (k : Ctr) : (s.clampPasses c r).ctr k
    = if k = .passesClamped ∧ c.maxPasses < r.passes then satInc (s.ctr k) else s.ctr k := by
  unfold State.clampPasses
  by_cases hlt : c.maxPasses < r.passes
  · rw [if_pos hlt, State.bump_ctr (by exact hs)]
    simp only [hlt, and_true]
    rfl
  · rw [if_neg hlt, if_neg fun h => hlt h.2]

theorem State.testPasses_spec (hs : s.stu.counters.length = 117) (hev : s.stu.events.length = 33) (h : s.findRec r.ref = some r) (c : StationConfig) :
    PassesTested c r s (s.testPasses c r.ref) := by
  rw [State.testPasses_eq h]
  by_cases hmax : c.maxPasses ≤ r.passes
  · obtain ⟨hhlc, hdvs, hctrs, hevs⟩ := s.clampPasses_same c r
    have hlen : (s.clampPasses c r).stu.counters.length = 117 := hctrs.trans hs
    have hfind := State.findRec_clampPasses (c := c) h
    have hclamp : (r.clamped c).passes = c.maxPasses := Nat.min_eq_left hmax
    have htakes : r.testTakes c = offerTakes (r.clamped c).reason .lapLimit := by
      rw [SegRec.testTakes, offerTakes_eq_all_soft rfl, decide_eq_true hmax, Bool.true_and]
      rfl
    rw [if_pos hmax]
    refine ⟨(s.clampPasses_confined c r).offer c .lapLimit (List.mem_singleton_self _), ?_, fun hlt => absurd hmax (Nat.not_le.2 hlt), ?_, ?_,
      fun k hl hw hq h1 h2 h3 => ?_, fun e he => ?_⟩
    · obtain ⟨v, hv⟩ := State.findRec_offer (ref := r.ref) hfind c .lapLimit
      obtain ⟨hreason, hdest⟩ := SegRec.offered_hard (c := c) (x := .lapLimit) rfl (r.clamped c)
      refine ⟨v, hv.trans ?_, fun hg => ?_⟩
      · rw [SegRec.offered_rest, hreason, hdest, SegRec.tested, SegRec.testTakes, decide_eq_true hmax, Bool.true_and]
        rfl
      · have h := State.findRec_offer_of_no_grant (ref := r.ref) hfind (by rw [hdvs]; exact hg) c .lapLimit
        rw [hv, Option.some.injEq, SegRec.offered_rest] at h
        exact congrArg SegRec.divert h
    · rw [State.offer_outbound hfind, hhlc, htakes, hclamp]
      rfl
    · rw [if_pos hmax]
      exact (StrayCounted.offer hlen hfind c .lapLimit).congr
        (fun k hk => (State.clampPasses_ctr hs k).trans (if_neg (by rcases hk with rfl | rfl | rfl <;> simp))) fun _ _ => rfl
    · rw [State.offer_ctr_of_ne hlen hfind c _ hl hw hq h1 h2 h3, State.clampPasses_ctr hs]
    · rw [State.offer_ev (by rw [hevs]; exact hev) c _ _ he, State.ev, hevs]
      rfl
  · have hmin : min c.maxPasses r.passes = r.passes := Nat.min_eq_right (Nat.le_of_not_le hmax)
    have htakes : r.testTakes c = false := by simp [SegRec.testTakes, hmax]
    rw [if_neg hmax]
    refine ⟨.refl _ s, ⟨r.divert, ?_, fun _ => rfl⟩, fun _ => rfl, by rw [htakes]; rfl, ?_, fun k _ _ _ _ _ _ => ?_, fun _ _ => rfl⟩
    · rw [h, SegRec.tested, hmin, htakes]
      rfl
    · rw [if_neg hmax]
      exact .of_same fun _ _ => rfl
    · rw [if_neg]
      omega

end

end Sys2Proof.Machine
end

section
/-! OBLIGATION PROOF. The accepted leading edge of the entry eye: the bag that joins, the glitch at a held count, and the bag on a full
queue (O15). -/

namespace Sys2Proof.Machine

open Sys2Proof

/-- The filter has taken the edge, and the expect list is one that the edge leaves. -/
def State.entered (xs : List ExpectRec) (s : State) : State :=
  s.setBtu { s.btu with
    fEntry := { s.btu.fEntry with st := .blocked }
    expects := xs }

theorem exec_entryEdge {s : State} {c : StationConfig} (hc : s.cfg = some c) (hst : s.btu.fEntry.st = .blocking)
    (hdue : c.gf ≤ fwd s.btu.fEntry.raw s.btu.e) :
    exec (.leadingEdgeAccepted .entry) s = .next ((s.entered s.btu.expects).entryArrival c s.btu.fEntry.raw) := by
  rw [exec_leadingEdgeAccepted hc, State.acceptLeading_of_due (y := .entry) (by exact hst) (by exact hdue)]
  rfl

/-! ### The record that joins -/

/-- The slot of a joining record is the lowest free one (R15). -/
theorem freeSlot_least {q : List SegRec} (h : q.length < 16) {k : Nat} (hk : k < freeSlot q) : ∃ r ∈ q, r.slot = k := by
  obtain ⟨hlt, -⟩ := freeSlot_free h
  have hfind : (List.range maxRecords).find? (fun i => !q.any (·.slot == i)) = some (freeSlot q) := by
    obtain ⟨i, hi⟩ : ∃ i, (List.range maxRecords).find? (fun i => !q.any (·.slot == i)) = some i := by
      refine Option.isSome_iff_exists.1 (List.find?_isSome.2 ⟨freeSlot q, by simpa [maxRecords] using hlt, ?_⟩)
      simpa using (freeSlot_free h).2
    rw [hi, freeSlot, hi]
    rfl
  obtain ⟨-, -, hbefore⟩ := List.find?_range_eq_some.1 hfind
  simpa using hbefore k hk

/-- A record as it joins, with the fields that an announcement may give. -/
structure JoinsAs (c : StationConfig) (s : State) (n : Count) (r : SegRec) : Prop where
  slot : r.slot = freeSlot s.btu.queue
  ein : r.ein = n
  front : r.front = none
  back : r.back = none
  entry : r.entry = none
  readStatus : r.readStatus = .none
  tight : r.tight = false
  closeBehind : r.closeBehind = false
  lateId : r.lateId = false
  ambiguous : r.ambiguous = false
  longBag : r.longBag = false
  awaiting : r.awaiting = pointsAhead c (fwd n s.btu.e)

/-- What a joining leaves of the station, the counters apart: the record stands last. -/
structure Opened (c : StationConfig) (r : SegRec) (s t : State) : Prop where
  queue : t.btu.queue = s.btu.queue ++ [r]
  btu : t.btu = { s.btu with
    queue := t.btu.queue
    flow := { s.btu.flow with entered := s.btu.flow.entered + 1 }
    fEntry := { s.btu.fEntry with st := .blocked }
    openRec := some ⟨r.ref, false⟩
    expects := t.btu.expects
    blockedFlag := t.btu.blockedFlag
    reportedV := t.btu.reportedV }
  flag : FlagFollows c s t
  frames : OnlyFrames s t
  grants : OnlyGrants s t
  parts : OnlyParts [.btu, .dvs, .hlc, .stu] s t

section
variable {s t u : State} {c : StationConfig} {r q : SegRec} {xs : List ExpectRec} {cs : List Ctr} {es : List Ev}

/-- The joining before the blocked flag is evaluated. -/
def State.joined (r : SegRec) (s : State) : State := s.setBtu { s.btu with
  queue := s.btu.queue ++ [r]
  openRec := some ⟨r.ref, false⟩
  flow := { s.btu.flow with entered := s.btu.flow.entered + 1 } }

theorem State.join_eq (s : State) (c : StationConfig) (r : SegRec) : s.join c r = (s.joined r).evalBlocked c := rfl

theorem State.join_opened (s : State) (c : StationConfig) (r : SegRec) (xs : List ExpectRec) : Opened c r s ((s.entered xs).join c r) := by
  have hbtu := ((s.entered xs).joined r).evalBlocked_btu c
  have hjoined : OnlyParts [.btu] s ((s.entered xs).joined r) := by simp [OnlyParts, State.joined, State.entered]
  rw [State.join_eq]
  refine ⟨by rw [hbtu]; rfl, by rw [hbtu]; rfl, flagFollows_evalBlocked ⟨rfl, rfl, rfl, rfl, rfl⟩, ?_, fun d => ?_, ?_⟩
  · exact ((s.entered xs).joined r).evalBlocked_onlyFrames c
  · simp [State.joined, State.entered]
  · simp [OnlyParts, State.joined, State.entered]

theorem State.entered_join_expects (s : State) (c : StationConfig) (r : SegRec) (xs : List ExpectRec) :
    ((s.entered xs).join c r).btu.expects = xs := by
  rw [State.join_eq, State.evalBlocked_btu]
  rfl

theorem State.entered_join_dvs (s : State) (c : StationConfig) (r : SegRec) (xs : List ExpectRec) : ((s.entered xs).join c r).dvs = s.dvs := by
  rw [State.join_eq]
  simp [State.joined, State.entered]

theorem TalliedBeside.join (h : TalliedBeside cs es s t) (c : StationConfig) (r : SegRec) : TalliedBeside cs es s (t.join c r) :=
  TalliedBeside.evalBlocked (h.same (u := t.joined r) rfl) c

theorem Opened.bump (h : Opened c r s t) (k : Ctr) : Opened c r s (t.bump k) :=
  ⟨h.queue, h.btu, h.flag.of_same rfl rfl rfl rfl rfl, h.frames, h.grants, (h.parts.trans (Confined.of_stu [] t _).parts).mono (by decide)⟩

/-- The passes test queues no SEGMENT_STATE, and leaves the flag. -/
theorem PassesTested.flagFollows (h : PassesTested c r t u) (hflag : FlagFollows c s t) : FlagFollows c s u := by
  have hlen : u.btu.queue.length = t.btu.queue.length := by simpa using congrArg List.length h.confined.records.1
  have hbtu := h.confined.btu
  have hout := h.outbound
  split at hout
  · exact hflag.of_frame (by simp [Frame.kind]) (by rw [hbtu]) hlen (by rw [hbtu]) (by rw [hbtu]) hout
  · exact hflag.of_same (by rw [hbtu]) hlen (by rw [hbtu]) (by rw [hbtu]) hout

/-- Where only the youngest record has changed, it still stands behind the others. -/
theorem OnlyRecords.last {rest : List SegRec} (h : OnlyRecords [r.ref] s t) (hslot : SlotLaw s) (hq : s.btu.queue = rest ++ [r])
    (hfind : t.findRec r.ref = some q) : t.btu.queue = rest ++ [q] := by
  have hother : ∀ p ∈ rest, p.ref ≠ r.ref := by
    have hnodup := hslot.refs_nodup
    rw [hq, List.map_append, List.nodup_append] at hnodup
    exact fun p hp => hnodup.2.2 _ (List.mem_map_of_mem hp) _ (by simp)
  rw [h.queue_eq hslot hfind, hq, List.map_append, List.map_singleton, if_pos rfl]
  exact congrArg (· ++ [q]) ((List.map_congr_left fun p hp => if_neg (hother p hp)).trans (List.map_id' _))

/-- A change of the record that has joined. -/
theorem Opened.confined (h : Opened c r s t) (hslot : SlotLaw t) (hconf : Confined [r.ref] t u) (hfind : u.findRec r.ref = some q)
    (hflag : FlagFollows c s u) : Opened c q s u := by
  obtain ⟨-, href⟩ := State.findRec_some hfind
  have hqueue : u.btu.queue = s.btu.queue ++ [q] := hconf.records.last hslot h.queue hfind
  refine ⟨hqueue, ?_, hflag, ?_, fun d => ?_, (h.parts.trans hconf.parts).mono (by decide)⟩
  · rw [hconf.btu, h.btu, href]
  · rw [OnlyFrames, hconf.frames, h.frames]
  · rw [hconf.grants, h.grants]

end

section
variable {s t u : State} {c : StationConfig} {r q : SegRec} {n : Count}

/-- Where a bag joins, the queue stays within its law. -/
theorem SlotLaw.opened (hslot : SlotLaw s) (hroom : s.btu.queue.length < 16) (hnew : ∀ q ∈ s.btu.queue, q.ein ≠ n) (hj : JoinsAs c s n r)
    (h : t.btu.queue = s.btu.queue ++ [r]) : SlotLaw t := by
  obtain ⟨hslots, hbound, heins⟩ := hslot
  obtain ⟨hlt, hfree⟩ := freeSlot_free hroom
  refine ⟨?_, fun q hq => ?_, ?_⟩
  · rw [h, List.map_append, List.map_singleton, List.nodup_append]
    refine ⟨hslots, List.nodup_singleton _, fun a ha b hb e => ?_⟩
    obtain ⟨p, hp, rfl⟩ := List.mem_map.1 ha
    exact hfree p hp (e.trans ((List.mem_singleton.1 hb).trans hj.slot))
  · rw [h, List.mem_append, List.mem_singleton] at hq
    rcases hq with hq | rfl
    · exact hbound q hq
    · rw [hj.slot]; exact hlt
  · rw [h, List.map_append, List.map_singleton, List.nodup_append]
    refine ⟨heins, List.nodup_singleton _, fun a ha b hb e => ?_⟩
    obtain ⟨p, hp, rfl⟩ := List.mem_map.1 ha
    exact hnew p hp (e.trans ((List.mem_singleton.1 hb).trans hj.ein))

/-- The joined record is found under its name. -/
theorem SlotLaw.findRec_last (hslot : SlotLaw t) (h : t.btu.queue = s.btu.queue ++ [r]) : t.findRec r.ref = some r :=
  hslot.findRec_eq (by simp [h])

/-- The points of R18 that a joining record awaits. -/
theorem JoinsAs.awaits (hj : JoinsAs c s n r) : r.awaiting.Nodup ∧ (.longBag ∈ r.awaiting ↔ fwd r.ein s.btu.e < 2047)
    ∧ (.overdue ∈ r.awaiting ↔ fwd r.ein s.btu.e < c.pExit + c.band + 1)
    ∧ (.lateGraceEnd ∈ r.awaiting ↔ fwd r.ein s.btu.e < c.lateGrace + 1)
    ∧ (.readDecision ∈ r.awaiting ↔ c.reader = true ∧ ∃ rc ∈ c.readerSection, fwd r.ein s.btu.e < rc.pDec)
    ∧ (∀ d, .commit d ∈ r.awaiting ↔ ∃ v ∈ c.diverter d, fwd r.ein s.btu.e < v.pDiv - v.commit) := by
  rw [hj.awaiting, hj.ein]
  refine ⟨pointsAhead_nodup _ _, ?_, ?_, ?_, ?_, fun d => ?_⟩
  · simp [mem_pointsAhead, pointPosition, Sys2Proof.longBag]
  · simp [mem_pointsAhead, pointPosition]
  · simp [mem_pointsAhead, pointPosition]
  · by_cases hreader : c.reader = true <;> simp [mem_pointsAhead, pointPosition, hreader]
  · simp [mem_pointsAhead, pointPosition]

end

/-- The announcement's record, a reason bringing the problem chute. -/
theorem State.joinAnnounced_eq (s : State) (c : StationConfig) (n : Count) (x : ExpectRec) : (s.entered s.btu.expects).joinAnnounced c n x
    = (if x.reason.isSome then ((s.entered (s.btu.expects.erase x)).join c (announcedRec c s n x)).bump .strayCarried
      else (s.entered (s.btu.expects.erase x)).join c (announcedRec c s n x)).testPasses c (announcedRec c s n x).ref := rfl

theorem joinsAs_fresh (c : StationConfig) (s : State) (n : Count) (o : Origin) : JoinsAs c s n (freshRec c s n o) :=
  ⟨rfl, rfl, rfl, rfl, rfl, rfl, rfl, rfl, rfl, rfl, rfl, rfl⟩

theorem joinsAs_tested (c : StationConfig) (s : State) (n : Count) (x : ExpectRec) (v : DivertStatus) :
    JoinsAs c s n { (announcedRec c s n x).tested c with divert := v } :=
  ⟨rfl, rfl, rfl, rfl, rfl, rfl, rfl, rfl, rfl, rfl, rfl, rfl⟩

/-- What the statement says of every joining, the fields of an announcement and the counters apart. -/
theorem exec_of_opened {s t : State} {c : StationConfig} {r : SegRec} {fields : State → SegRec → Prop} {i : Instr}
    (hexec : exec i s = .next t) (hroom : s.btu.queue.length < 16) (ho : Opened c r s t) (hj : JoinsAs c s s.btu.fEntry.raw r)
    (hdivert : (s.dvs.d0.grants ++ s.dvs.d1.grants).any (·.ref == r.ref) = false → r.divert = .none) (hfields : fields t r) :
    ∃ t, exec i s = .next t ∧ t.btu.queue.dropLast = s.btu.queue ∧ t.btu.queue.length = s.btu.queue.length + 1
      ∧ t.btu.flow = { s.btu.flow with entered := s.btu.flow.entered + 1 } ∧ t.btu.fEntry = { s.btu.fEntry with st := .blocked }
      ∧ t.btu = { s.btu with queue := t.btu.queue, flow := t.btu.flow, fEntry := t.btu.fEntry, openRec := t.btu.openRec, expects := t.btu.expects, blockedFlag := t.btu.blockedFlag, reportedV := t.btu.reportedV }
      ∧ FlagFollows c s t ∧ OnlyFrames s t ∧ OnlyGrants s t ∧ OnlyParts [.btu, .dvs, .hlc, .stu] s t
      ∧ ∃ r ∈ t.btu.queue.getLast?, r.ein = s.btu.fEntry.raw ∧ t.btu.openRec = some ⟨r.ref, false⟩
        ∧ r.slot < 16 ∧ (∀ q ∈ s.btu.queue, q.slot ≠ r.slot) ∧ (∀ k < r.slot, ∃ q ∈ s.btu.queue, q.slot = k)
        ∧ r.front = none ∧ r.back = none ∧ r.entry = none ∧ r.readStatus = .none ∧ r.tight = false ∧ r.closeBehind = false
        ∧ r.lateId = false ∧ r.ambiguous = false ∧ r.longBag = false
        ∧ ((s.dvs.d0.grants ++ s.dvs.d1.grants).any (·.ref == r.ref) = false → r.divert = .none)
        ∧ r.awaiting.Nodup ∧ (.longBag ∈ r.awaiting ↔ fwd r.ein s.btu.e < 2047)
        ∧ (.overdue ∈ r.awaiting ↔ fwd r.ein s.btu.e < c.pExit + c.band + 1)
        ∧ (.lateGraceEnd ∈ r.awaiting ↔ fwd r.ein s.btu.e < c.lateGrace + 1)
        ∧ (.readDecision ∈ r.awaiting ↔ c.reader = true ∧ ∃ rc ∈ c.readerSection, fwd r.ein s.btu.e < rc.pDec)
        ∧ (∀ d, .commit d ∈ r.awaiting ↔ ∃ v ∈ c.diverter d, fwd r.ein s.btu.e < v.pDiv - v.commit) ∧ fields t r := by
  obtain ⟨a1, a2, a3, a4, a5, a6⟩ := hj.awaits
  obtain ⟨hlt, hfree⟩ := freeSlot_free hroom
  refine ⟨t, hexec, by rw [ho.queue, List.dropLast_concat], by rw [ho.queue]; simp, by rw [ho.btu], by rw [ho.btu], ?_, ho.flag, ho.frames,
    ho.grants, ho.parts, r, by simp [ho.queue], hj.ein, by rw [ho.btu], hj.slot ▸ hlt, hj.slot ▸ hfree, fun k hk => ?_, hj.front, hj.back,
    hj.entry, hj.readStatus, hj.tight, hj.closeBehind, hj.lateId, hj.ambiguous, hj.longBag, hdivert, a1, a2, a3, a4, a5, a6, hfields⟩
  · rw [ho.btu]
  · exact freeSlot_least hroom (hj.slot ▸ hk)

/-- The counters of a joining and of what is counted with it. -/
theorem TalliedBeside.entered {s : State} (hs : SizeLaw s) (c : StationConfig) (r : SegRec) (xs : List ExpectRec) :
    TalliedBeside [] [] s ((s.entered xs).join c r) :=
  ((TalliedBeside.refl hs).same (u := s.entered xs) rfl).join c r

/-! ### The announced bag (R50, R129) -/

section
variable {s : State} {c : StationConfig} {x : ExpectRec} {n : Count}

/-- A carried reason is counted (R147). -/
def State.countCarried (x : ExpectRec) (s : State) : State := if x.reason.isSome then s.bump .strayCarried else s

theorem Opened.countCarried {t : State} {r : SegRec} (h : Opened c r s t) (x : ExpectRec) : Opened c r s (t.countCarried x) := by
  unfold State.countCarried
  split
  · exact h.bump _
  · exact h

theorem State.countCarried_btu (s : State) (x : ExpectRec) : (s.countCarried x).btu = s.btu ∧ (s.countCarried x).hlc = s.hlc
    ∧ (s.countCarried x).dvs = s.dvs := by
  unfold State.countCarried
  split <;> exact ⟨rfl, rfl, rfl⟩

theorem TalliedBeside.countCarried {t : State} (h : TalliedBeside [] [] s t) (x : ExpectRec) :
    TalliedBeside (if x.reason.isSome then [.strayCarried] else []) [] s (t.countCarried x) := by
  unfold State.countCarried
  split
  · exact h.bump (by simp)
  · exact h

/-- What the statement says of the fields and the counters of an announced joining. -/
def AnnouncedAs (c : StationConfig) (x : ExpectRec) (s t : State) (r : SegRec) : Prop :=
  r.origin = .announced ∧ r.ident = x.ident
    ∧ r.len = (if x.len = 0 then none else some x.len) ∧ t.btu.expects = s.btu.expects.erase x
    ∧ (x.passes < c.maxPasses → r.passes = x.passes ∧ r.reason = x.reason
        ∧ r.dest = (if x.reason.isSome then some c.problem else x.dest)
        ∧ CountedBeside (if x.reason.isSome then [.strayCarried] else []) s t)
    ∧ (c.maxPasses ≤ x.passes → r.passes = c.maxPasses ∧ r.dest = some c.problem
        ∧ r.reason = (if x.reason.all Reason.soft then some .lapLimit else x.reason)
        ∧ StrayCounted [(x.reason, .lapLimit)] s t
        ∧ t.ctr .strayCarried = (if x.reason.isSome then satInc (s.ctr .strayCarried) else s.ctr .strayCarried)
        ∧ t.ctr .passesClamped = (if c.maxPasses < x.passes then satInc (s.ctr .passesClamped) else s.ctr .passesClamped)
        ∧ (x.reason.all Reason.soft = true → s.hlc.queue.length < 7 → Queued (.strayNotice ⟨.lapLimit, x.ident, c.maxPasses,
          if x.reason.isSome then c.problem else x.dest.getD 0, .announced⟩) t))

theorem orZero_announced (c : StationConfig) (s : State) (n : Count) (x : ExpectRec) :
    orZero (announcedRec c s n x).dest = if x.reason.isSome then c.problem else x.dest.getD 0 := by
  simp only [announcedRec, orZero]
  split <;> rfl

theorem State.joinAnnounced_spec (hs : SizeLaw s) (hslot : SlotLaw s) (hroom : s.btu.queue.length < 16) (hnew : ∀ q ∈ s.btu.queue, q.ein ≠ n)
    (c : StationConfig) (x : ExpectRec) : ∃ v, Opened c { (announcedRec c s n x).tested c with divert := v } s
        ((s.entered s.btu.expects).joinAnnounced c n x)
      ∧ ((s.dvs.d0.grants ++ s.dvs.d1.grants).any (·.ref == (announcedRec c s n x).ref) = false → v = .none)
      ∧ AnnouncedAs c x s ((s.entered s.btu.expects).joinAnnounced c n x) { (announcedRec c s n x).tested c with divert := v } := by
  set r := announcedRec c s n x with hr
  set j := (s.entered (s.btu.expects.erase x)).join c r with hj
  have hjoin : JoinsAs c s n r := ⟨rfl, rfl, rfl, rfl, rfl, rfl, rfl, rfl, rfl, rfl, rfl, rfl⟩
  have ho := (s.join_opened c r (s.btu.expects.erase x)).countCarried x
  obtain ⟨hbtu, hhlc, hdvs⟩ := j.countCarried_btu x
  have htally := (TalliedBeside.entered hs c r (s.btu.expects.erase x)).countCarried x
  have hslot' := hslot.opened hroom hnew hjoin ho.queue
  have htest := State.testPasses_spec htally.counters htally.events (hslot'.findRec_last ho.queue) c
  have heq : (s.entered s.btu.expects).joinAnnounced c n x = (j.countCarried x).testPasses c r.ref := s.joinAnnounced_eq c n x
  obtain ⟨v, hfind, hsame⟩ := htest.found
  have htakes : c.maxPasses ≤ x.passes → r.testTakes c = x.reason.all Reason.soft := fun h => by
    rw [SegRec.testTakes, decide_eq_true (show c.maxPasses ≤ r.passes from h), Bool.true_and]
    rfl
  have hroom' : s.hlc.queue.length < 7 → (j.countCarried x).hlc.queue.length < 8 := fun h => by
    have := ((s.entered (s.btu.expects.erase x)).joined r).evalBlocked_length_le c
    have h' : ((s.entered (s.btu.expects.erase x)).joined r).hlc.queue.length = s.hlc.queue.length := rfl
    rw [hhlc, hj, State.join_eq]
    omega
  have hexpects : (j.countCarried x).btu.expects = s.btu.expects.erase x := by rw [hbtu]; exact s.entered_join_expects c r _
  rw [heq]
  refine ⟨v, ho.confined hslot' htest.confined hfind (htest.flagFollows ho.flag), fun hno => ?_, rfl, rfl, rfl, ?_, fun hless => ?_,
    fun hmax => ⟨?_, ?_, ?_, ?_, ?_, ?_, fun hsoft hq => ?_⟩⟩
  · refine hsame fun d g hg e => ?_
    rw [hdvs, hj, s.entered_join_dvs] at hg
    have hall := List.any_eq_false.1 hno g (by cases d <;> simp only [Dvs.get] at hg <;> simp [hg])
    simp [e] at hall
  · rw [htest.confined.btu]
    exact hexpects
  · have hno : r.testTakes c = false := by simp [SegRec.testTakes, show r.passes = x.passes from rfl, Nat.not_le.2 hless]
    have hmin : min c.maxPasses x.passes = x.passes := Nat.min_eq_right hless.le
    rw [htest.same hless]
    refine ⟨hmin, ?_, ?_, htally.counted⟩
    · simp only [SegRec.tested, hno]; rfl
    · simp only [SegRec.tested, hno]; rfl
  · exact Nat.min_eq_left hmax
  · simp only [SegRec.tested, htakes hmax]
    split
    · rfl
    · rename_i hhard
      have hsome : x.reason.isSome = true := by
        cases hx : x.reason with
        | none => simp [hx] at hhard
        | some _ => rfl
      exact if_pos hsome
  · simp only [SegRec.tested, htakes hmax]
    rfl
  · have hstrays := htest.strays
    rw [if_pos (show c.maxPasses ≤ r.passes from hmax)] at hstrays
    refine hstrays.congr (fun k hk => ?_) fun _ _ => rfl
    rw [htally.counted k (by rcases hk with rfl | rfl | rfl <;> rfl), if_neg]
    rcases hk with rfl | rfl | rfl <;> split <;> simp
  · rw [htest.ctr _ (by decide) (by decide) rfl (by decide) (by decide) (by decide), if_neg (by simp), htally.counted _ rfl]
    cases x.reason.isSome <;> simp
  · have hkept := htally.counted .passesClamped rfl
    rw [if_neg (by split <;> simp)] at hkept
    rw [htest.ctr _ (by decide) (by decide) rfl (by decide) (by decide) (by decide), hkept]
    simp only [true_and]
    rfl
  · refine ⟨.fresh (.strayNotice ⟨.lapLimit, x.ident, c.maxPasses, if x.reason.isSome then c.problem else x.dest.getD 0, .announced⟩), ?_, rfl, rfl⟩
    rw [htest.outbound, htakes hmax, if_pos hsoft, ← orZero_announced c s n x]
    exact enqueue_room (hroom' hq)

end

/-! ### The bag on a full queue (R20) -/

section
variable {s t : State} {c : StationConfig} {r : SegRec} {n : Count}

/-- The gap behind the youngest record, where the reference holds a count (log 10). -/
def untrackedGap (g : GapRef) (n : Count) : Option Nat :=
  match g with
  | .count x => some (min 16383 (fwd x n))
  | .none => none
  | .lost => none

/-- The gap is given to the record and is below the minimum. -/
def SegRec.crowded (c : StationConfig) (g : Option Nat) (r : SegRec) : Bool := r.back.isNone && isTight c g

/-- What the gap makes of the station. -/
structure BackGapped (c : StationConfig) (r : SegRec) (g : Option Nat) (s t : State) : Prop where
  confined : Confined [r.ref] s t
  hlc : t.hlc = s.hlc
  found : t.findRec r.ref = some (({ r with back := r.back.or g } : SegRec).withdrawnBy
    (if r.crowded c g then (s.dvs.d0.grants ++ s.dvs.d1.grants).filter (·.ref == r.ref) else []))
  ev : ∀ e, t.ev e = s.ev e
  counters : t.stu.counters.length = 117
  events : t.stu.events.length = 33
  ctr : ∀ k, k ≠ .withdrawnGap → t.ctr k = s.ctr k
  crowded : r.crowded c g = true → (∀ d, (t.dvs.get d).grants = (s.dvs.get d).grants.filter (·.ref != r.ref))
    ∧ (t.ctr .withdrawnGap).toNat
      = min 65535 ((s.ctr .withdrawnGap).toNat + ((s.dvs.d0.grants ++ s.dvs.d1.grants).filter (·.ref == r.ref)).length)
  free : r.crowded c g = false → t.dvs = s.dvs ∧ t.ctr .withdrawnGap = s.ctr .withdrawnGap

@[simp] theorem State.gapSet_stu_lengths (s : State) (c : StationConfig) (ref : RecRef) (g : Nat) :
    (s.gapSet c ref g).stu.counters.length = s.stu.counters.length ∧ (s.gapSet c ref g).stu.events.length = s.stu.events.length := by
  unfold State.gapSet State.withdrawBoth
  split <;> simp

theorem State.backGapUntracked_spec (hs : s.stu.counters.length = 117) (hev : s.stu.events.length = 33) (hslot : SlotLaw s) (hlast : s.btu.queue.getLast? = some r) (c : StationConfig) (n : Count) :
    BackGapped c r (untrackedGap s.btu.gapRef n) s (s.backGapUntracked c n) := by
  have hfind := hslot.findRec_eq (List.mem_of_getLast? hlast)
  by_cases hgiven : ∃ x, s.btu.gapRef = .count x ∧ r.back = none
  · obtain ⟨x, hx, hback⟩ := hgiven
    set g := min 16383 (fwd x n) with hg
    set m := s.mapRec r.ref fun q => { q with back := some g } with hm
    have heq : s.backGapUntracked c n = m.gapSet c r.ref g := by
      simp only [State.backGapUntracked, hlast, hx, hback]
      rfl
    have hmap : m.findRec r.ref = some { r with back := some g } :=
      State.findRec_mapRec s (f := fun q => { q with back := some g }) (fun _ => rfl) hfind
    have hcrowd : r.crowded c (some g) = decide (g < c.gMin) := by simp [SegRec.crowded, hback, isTight]
    have hctr := fun k => State.gapSet_ctr (s := m) (ref := r.ref) hs (by rw [hmap]; rfl) c g k
    rw [heq, hx, show untrackedGap (.count x) n = some g from rfl]
    refine ⟨((Confined.refl _ s).mapRec (f := fun q => { q with back := some g }) (fun _ => rfl) (List.mem_singleton_self _)).gapSet c g
      (List.mem_singleton_self _), ?_, ?_, fun e => by rw [State.gapSet_ev]; rfl, by rw [(m.gapSet_stu_lengths c r.ref g).1]; exact hs,
      by rw [(m.gapSet_stu_lengths c r.ref g).2]; exact hev, fun k hk => ?_, fun h => ⟨fun d => ?_, ?_⟩, fun h => ?_⟩
    · unfold State.gapSet
      split <;> simp [hm]
    · rw [State.findRec_gapSet, hmap, hback, hcrowd]
      simp only [State.gapGrants, decide_eq_true_eq]
      rfl
    · exact (State.gapSet_ctr_of_ne (s := m) hs (by rw [hmap]; rfl) c g hk).trans rfl
    · rw [hcrowd] at h
      rw [State.gapSet_grants, h]
      simp only [Bool.true_and]
      rfl
    · rw [hcrowd, decide_eq_true_eq] at h
      rw [hctr, if_pos rfl, State.gapGrants, if_pos h]
      rfl
    · rw [hcrowd, decide_eq_false_iff_not] at h
      rw [State.gapSet, if_neg h]
      exact ⟨rfl, rfl⟩
  · obtain ⟨heq, hback, hcrowd⟩ : s.backGapUntracked c n = s ∧ r.back.or (untrackedGap s.btu.gapRef n) = r.back
        ∧ r.crowded c (untrackedGap s.btu.gapRef n) = false := by
      cases hx : s.btu.gapRef with
      | none => simp [State.backGapUntracked, hlast, hx, untrackedGap, SegRec.crowded, isTight]
      | lost => simp [State.backGapUntracked, hlast, hx, untrackedGap, SegRec.crowded, isTight]
      | count x =>
        obtain ⟨y, hy⟩ := Option.ne_none_iff_exists'.1 fun h => hgiven ⟨x, hx, h⟩
        simp [State.backGapUntracked, hlast, hx, hy, SegRec.crowded]
    rw [heq]
    refine ⟨.refl _ s, rfl, ?_, fun _ => rfl, hs, hev, fun _ _ => rfl, fun h => ?_, fun _ => ⟨rfl, rfl⟩⟩
    · simp [hfind, hback, hcrowd]
    · simp [hcrowd] at h

end

/-- The expect list that a bag on a full queue leaves. -/
def expectsAfter (c : StationConfig) (xs : List ExpectRec) : List ExpectRec :=
  if c.feedStart then xs else match matchArrival c xs with
    | some x => xs.erase x
    | none => xs

/-- What the bag on a full queue leaves behind it. -/
def State.untracked (s : State) : State := (s.setBtu { s.btu with
  gapRef := .lost
  skipTrailing := true
  openRec := none
  flow := { s.btu.flow with untracked := s.btu.flow.untracked + 1 } }).raiseEv .untracked

theorem State.untrackedArrival_eq (s : State) (c : StationConfig) (n : Count) : (s.entered s.btu.expects).untrackedArrival c n
    = ((s.entered (expectsAfter c s.btu.expects)).backGapUntracked c n).untracked := by
  have hx : (s.entered s.btu.expects).btu.expects = s.btu.expects := rfl
  unfold State.untrackedArrival expectsAfter
  rw [hx]
  by_cases hfeed : c.feedStart = true
  · simp only [if_pos hfeed]
    rfl
  · simp only [if_neg hfeed]
    cases matchArrival c s.btu.expects <;> rfl

/-- Settles O15: on a free place with a new count the three joinings of R19, R50 and R51; the glitch of R19; and R20's bag. -/
theorem entryArrivalOpensARecord : Obligations.EntryArrivalOpensARecord := by
  intro c s hc hs hslot hst hdue
  have hexec := exec_entryEdge hc hst hdue
  refine ⟨fun hroom hnew => ?_, fun hroom q hq hein => ?_, fun hfull => ?_⟩
  · have hopen : (s.entered s.btu.expects).entryArrival c s.btu.fEntry.raw = (s.entered s.btu.expects).openArrival c s.btu.fEntry.raw :=
      State.entryArrival_of_new (s := s.entered s.btu.expects) hroom hnew c
    rw [hopen] at hexec
    by_cases hfeed : c.feedStart = true
    · have ho := s.join_opened c (freshRec c s s.btu.fEntry.raw .inducted) s.btu.expects
      rw [State.openArrival, if_pos hfeed] at hexec
      exact exec_of_opened hexec hroom ho (joinsAs_fresh c s _ _) (fun _ => rfl)
        ⟨fun _ => ⟨rfl, rfl, rfl, rfl, rfl, rfl, s.entered_join_expects _ _ _, s.entered_join_dvs _ _ _, (TalliedBeside.entered hs _ _ _).counted⟩,
          fun h => absurd hfeed (by simp [h]), fun h => absurd hfeed (by simp [h])⟩
    · cases hm : matchArrival c s.btu.expects with
      | none =>
        have ho := (s.join_opened c (freshRec c s s.btu.fEntry.raw .blind) s.btu.expects).bump .blindArrival
        have heq : (s.entered s.btu.expects).openArrival c s.btu.fEntry.raw
            = ((s.entered s.btu.expects).join c (freshRec c s s.btu.fEntry.raw .blind)).bump .blindArrival := by
          have hm' : matchArrival c (s.entered s.btu.expects).btu.expects = none := hm
          rw [State.openArrival, if_neg hfeed, hm']
          rfl
        rw [heq] at hexec
        exact exec_of_opened hexec hroom ho (joinsAs_fresh c s _ _) (fun _ => rfl)
          ⟨fun h => absurd h hfeed, fun _ _ => ⟨rfl, rfl, rfl, rfl, rfl, rfl, s.entered_join_expects _ _ _, s.entered_join_dvs _ _ _,
            ((TalliedBeside.entered hs _ _ _).bump (a := .blindArrival) (by simp)).counted⟩, fun _ x hx => by simp at hx⟩
      | some x =>
        obtain ⟨v, ho, hdivert, hfields⟩ := State.joinAnnounced_spec (n := s.btu.fEntry.raw) hs hslot hroom hnew c x
        have heq : (s.entered s.btu.expects).openArrival c s.btu.fEntry.raw = (s.entered s.btu.expects).joinAnnounced c s.btu.fEntry.raw x := by
          have hm' : matchArrival c (s.entered s.btu.expects).btu.expects = some x := hm
          rw [State.openArrival, if_neg hfeed, hm']
        rw [heq] at hexec
        refine exec_of_opened hexec hroom ho (joinsAs_tested c s _ x v) hdivert
          ⟨fun h => absurd h hfeed, fun _ h => by simp at h, fun _ y hy => ?_⟩
        obtain rfl : x = y := by simpa using hy
        exact hfields
  · have hfind : (s.entered s.btu.expects).btu.queue.find? (·.ein == s.btu.fEntry.raw) = some q := by
      obtain ⟨p, hp⟩ : ∃ p, s.btu.queue.find? (·.ein == s.btu.fEntry.raw) = some p :=
        Option.isSome_iff_exists.1 (List.find?_isSome.2 ⟨q, hq, by simpa using hein⟩)
      have hpein : p.ein = s.btu.fEntry.raw := by simpa using List.find?_some hp
      obtain ⟨-, -, heins⟩ := hslot
      exact hp.trans (congrArg some (List.inj_on_of_nodup_map heins (List.mem_of_find?_eq_some hp) hq (hpein.trans hein.symm)))
    have heq : (s.entered s.btu.expects).entryArrival c s.btu.fEntry.raw
        = ((s.entered s.btu.expects).setBtu { (s.entered s.btu.expects).btu with openRec := some ⟨q.ref, true⟩ }).bump .entryGlitch := by
      rw [State.entryArrival, if_neg (show ¬ maxRecords ≤ (s.entered s.btu.expects).btu.queue.length from Nat.not_le.mpr hroom), hfind]
    refine ⟨_, hexec.trans (congrArg _ heq), rfl, ?_, by simp [OnlyParts, State.entered]⟩
    exact (((Tallied.refl hs).same (u := (s.entered s.btu.expects).setBtu { (s.entered s.btu.expects).btu with openRec := some ⟨q.ref, true⟩ })
      rfl).bump (a := .entryGlitch) (by simp)).counted
  · have heq : (s.entered s.btu.expects).entryArrival c s.btu.fEntry.raw = _ :=
      (if_pos (show maxRecords ≤ (s.entered s.btu.expects).btu.queue.length from hfull.ge)).trans (s.untrackedArrival_eq c s.btu.fEntry.raw)
    obtain ⟨r, hlast⟩ : ∃ r, s.btu.queue.getLast? = some r := by
      cases hq : s.btu.queue.getLast? with
      | none => simp [List.getLast?_eq_none_iff.1 hq] at hfull
      | some r => exact ⟨r, rfl⟩
    set w := s.entered (expectsAfter c s.btu.expects) with hw
    have hb : BackGapped c r (untrackedGap s.btu.gapRef s.btu.fEntry.raw) w (w.backGapUntracked c s.btu.fEntry.raw) :=
      State.backGapUntracked_spec (s := w) hs.counters hs.events hslot hlast c _
    set b := w.backGapUntracked c s.btu.fEntry.raw with hbdef
    have hparts : OnlyParts [.btu, .dvs, .stu] s b.untracked := by simp [OnlyParts, State.untracked, hbdef, hw, State.entered]
    have hfront : s.btu.queue = s.btu.queue.dropLast ++ [r] := (List.dropLast_append_getLast? r hlast).symm
    set q : SegRec := ({ r with back := r.back.or (untrackedGap s.btu.gapRef s.btu.fEntry.raw) } : SegRec).withdrawnBy
      (if r.crowded c (untrackedGap s.btu.gapRef s.btu.fEntry.raw) then (s.dvs.d0.grants ++ s.dvs.d1.grants).filter (·.ref == r.ref) else [])
      with hq
    have hqueue : b.btu.queue = s.btu.queue.dropLast ++ [q] := hb.confined.records.last hslot hfront hb.found
    have hback : q.back = r.back.or (untrackedGap s.btu.gapRef s.btu.fEntry.raw) := by rw [hq, SegRec.withdrawnBy_eq]
    have hcrowd : r.crowded c (untrackedGap s.btu.gapRef s.btu.fEntry.raw) = true ↔ r.back = none ∧ q.back.any (· < c.gMin) = true := by
      rw [hback, SegRec.crowded, Bool.and_eq_true, Option.isNone_iff_eq_none, isTight]
      refine and_congr_right fun h => ?_
      rw [h, Option.none_or]
    have hbtu : b.untracked.btu = { s.btu with
        queue := b.btu.queue
        flow := { s.btu.flow with untracked := s.btu.flow.untracked + 1 }
        fEntry := { s.btu.fEntry with st := .blocked }
        openRec := none
        expects := expectsAfter c s.btu.expects
        gapRef := .lost
        skipTrailing := true } := by
      have hbb := hb.confined.btu
      rw [State.untracked, State.raiseEv_btu, State.setBtu_btu, hbb]
      rfl
    refine ⟨_, hexec.trans (congrArg _ heq), ?_, ?_, hb.confined.records.1, rfl, rfl, rfl, fun e => ?_, ?_, fun p hp => ?_, ?_, ?_, hparts⟩
    · rw [hbtu]
    · rw [hbtu, hqueue, List.dropLast_concat]
    · rw [State.untracked, State.raiseEv_ev (by exact hb.events)]
      simp only [List.mem_singleton]
      exact congrArg (· || _) (hb.ev e)
    · rw [hbtu]
      rfl
    · obtain rfl : r = p := by simpa [hlast] using hp
      refine ⟨q, by rw [hbtu, hqueue]; simp, ?_, ?_, fun hlow => ⟨?_, ?_, ?_, fun k hk => ?_⟩, fun hfree => ⟨?_, ?_, fun k => ?_⟩⟩
      · rw [hback]
        cases r.back <;> rfl
      · rw [hq, SegRec.withdrawnBy_eq]
      · exact (hb.crowded (hcrowd.2 hlow)).1
      · rw [hq, SegRec.withdrawnBy_divert, if_pos (hcrowd.2 hlow), List.any_filter]
        simp only [Bool.and_self, SegRec.ref]
        rfl
      · exact (hb.crowded (hcrowd.2 hlow)).2
      · exact hb.ctr k hk
      · exact (hb.free (Bool.eq_false_iff.2 fun e => hfree (hcrowd.1 e))).1
      · rw [hq, SegRec.withdrawnBy_divert, if_neg fun e => hfree (hcrowd.1 e)]
        rfl
      · have hk : b.ctr k = s.ctr k := by
          by_cases hk : k = .withdrawnGap
          · subst hk
            exact (hb.free (Bool.eq_false_iff.2 fun e => hfree (hcrowd.1 e))).2
          · exact hb.ctr k hk
        rw [if_neg (by simp)]
        exact hk
    · rw [hbtu]
    · exact hb.confined.grants

end Sys2Proof.Machine
end

section
/-! OBLIGATION PROOF. A received HANDOVER: screened, attached to the oldest attachable record, or expected (O40). -/

namespace Sys2Proof.Machine

open Sys2Proof

section
variable {s t : State} {c : StationConfig} {r : SegRec} {h : Handover}

/-! ### The late attachment (R52) -/

theorem SegRec.attach_kept (h : Handover) (r : SegRec) : (r.attach h).ref = r.ref ∧ (r.attach h).reason = r.reason
    ∧ (r.attach h).passes = r.passes ∧ (r.attach h).origin = r.origin ∧ (r.attach h).len = r.len ∧ (r.attach h).lateId = true := by
  unfold SegRec.attach
  split <;> exact ⟨rfl, rfl, rfl, rfl, rfl, rfl⟩

/-- An attachable record holds no identity of its own, so it takes that of the announcement. -/
theorem SegRec.attach_ident (hr : r.ident = none) (h : Handover) : (r.attach h).ident = h.ident := by
  unfold SegRec.attach
  split
  · rename_i hi
    rw [hi, ← hr]
  · rename_i i hi
    rw [hi]

/-- The destination after the attachment, where an identity comes with a destination. -/
theorem SegRec.attach_dest (hd : h.ident ≠ none → h.dest ≠ 0) (r : SegRec) :
    (r.attach h).dest = if h.ident = none ∨ r.reason.isSome then r.dest else some h.dest := by
  unfold SegRec.attach
  cases hi : h.ident with
  | none => simp
  | some i =>
    have := hd (by simp [hi])
    by_cases hreason : r.reason.isSome = true <;> simp [hreason, this]

/-- What a late attachment makes of the station. -/
structure Attached (c : StationConfig) (h : Handover) (r : SegRec) (s t : State) : Prop where
  confined : Confined [r.ref] s t
  found : ∃ v, t.findRec r.ref = some { (r.attach h).tested c with divert := v }
  outbound : t.hlc.queue = if r.testTakes c
    then enqueue (.strayNotice ⟨.lapLimit, (r.attach h).ident, c.maxPasses, orZero (r.attach h).dest, r.origin⟩) s.hlc.queue else s.hlc.queue
  strays : StrayCounted (if c.maxPasses ≤ r.passes then [(r.reason, .lapLimit)] else []) s t
  lateAttach : t.ctr .lateAttach = satInc (s.ctr .lateAttach)
  clamped : t.ctr .passesClamped = if c.maxPasses < r.passes then satInc (s.ctr .passesClamped) else s.ctr .passesClamped

theorem State.attachLate_spec (hs : s.stu.counters.length = 117) (hev : s.stu.events.length = 33) (hfind : s.findRec r.ref = some r)
    (c : StationConfig) (h : Handover) : Attached c h r s (s.attachLate c r h) := by
  obtain ⟨href, hreason, hpasses, horigin, -, -⟩ := r.attach_kept h
  set a := (s.mapRec r.ref (SegRec.attach h)).bump .lateAttach with ha
  have hupd : s.updateRec r.ref (SegRec.attach h) = s.mapRec r.ref (SegRec.attach h) := if_pos (by rw [hfind]; rfl)
  have hconf : Confined [r.ref] s a :=
    ((Confined.refl _ s).mapRec (fun q => (q.attach_kept h).1) (List.mem_singleton_self _)).bump _
  have hfa : a.findRec r.ref = some (r.attach h) := State.findRec_mapRec s (fun q => (q.attach_kept h).1) hfind
  set d := a.tellDestination c r.ref (r.attach h).dest with hd
  have hconf' : Confined [r.ref] s d := hconf.tellDestination c _ (List.mem_singleton_self _)
  obtain ⟨v, hv⟩ : ∃ v, d.findRec r.ref = some { r.attach h with divert := v } := by
    rw [hd, State.findRec_tellDestination, hfa, Option.map_some, SegRec.withdrawnBy_eq]
    exact ⟨_, rfl⟩
  set q : SegRec := { r.attach h with divert := v } with hq
  have hqref : q.ref = r.ref := href
  rw [← hqref] at hv
  have hlen : a.stu.counters.length = 117 := by simpa [ha] using hs
  have htest := State.testPasses_spec (s := d) (by simpa [hd, ha] using hs) (by simpa [hd, ha] using hev) hv c
  have heq : s.attachLate c r h = d.testPasses c q.ref := by
    rw [State.attachLate, hupd, hqref]
  have hctr : ∀ k, k ≠ .lateUpdate → k ≠ .withdrawnDestination → d.ctr k = if k = .lateAttach then satInc (s.ctr k) else s.ctr k := by
    intro k h1 h2
    rw [hd, State.tellDestination_ctr_of_ne hlen c _ _ h1 h2, ha, State.bump_ctr (by exact hs)]
    rfl
  have htakes : q.testTakes c = r.testTakes c := by
    rw [SegRec.testTakes, SegRec.testTakes, show q.passes = r.passes from hpasses, show q.reason = r.reason from hreason]
  have hout : d.hlc.queue = s.hlc.queue := by simp [hd, ha]
  rw [heq]
  obtain ⟨w, hw, -⟩ := htest.found
  refine ⟨hconf'.trans (hqref ▸ htest.confined), ⟨w, ?_⟩, ?_, ?_, ?_, ?_⟩
  · rw [← hqref, hw]
    rfl
  · rw [htest.outbound, htakes, hout, ← horigin]
  · have hstrays := htest.strays
    rw [show q.passes = r.passes from hpasses, show q.reason = r.reason from hreason] at hstrays
    refine hstrays.congr (fun k hk => (hctr k ?_ ?_).trans (if_neg ?_)) fun _ _ => rfl <;> rcases hk with rfl | rfl | rfl <;> decide
  · rw [htest.ctr _ (by decide) (by decide) rfl (by decide) (by decide) (by decide), if_neg (by simp), hctr _ (by decide) (by decide), if_pos rfl]
  · have hkept := hctr .passesClamped (by decide) (by decide)
    rw [if_neg (by decide)] at hkept
    rw [htest.ctr _ (by decide) (by decide) rfl (by decide) (by decide) (by decide), hkept, show q.passes = r.passes from hpasses]
    simp only [true_and]

end

/-! ### Screening (R41, R42) -/

/-- The frame has been taken. -/
def State.frameHeard (s : State) : State := (s.setObjection .none).bump .frameTaken

/-- The source has been heard (R42). -/
def State.sourceHeard (src : Source) (h : Handover) (s : State) : State := s.frameHeard.mapUpstream src fun u => u.hearHandover h.v

section
variable {s : State} {c : StationConfig} {h : Handover} {src : Source}

theorem tallied_frameHeard (hs : SizeLaw s) : Tallied [.frameTaken] [] s s.frameHeard :=
  (((Tallied.refl hs).same (u := s.setObjection .none) rfl).bump (a := .frameTaken) (by simp))

theorem tallied_sourceHeard (hs : SizeLaw s) (src : Source) (h : Handover) : Tallied [.frameTaken] [] s (s.sourceHeard src h) :=
  (tallied_frameHeard hs).same rfl

theorem exec_handover {f : RxFrame} (hc : s.cfg = some c) (ha : s.hlc.line.actsOn = true) (h0 : f.sender ≠ 0) (h63 : f.sender ≠ 63)
    (hv : f.voided = false) (hn : f.sender.toNat ≠ c.station) (hread : readHandover f.payload = some h) :
    exec (.handover f) s = .next (s.frameHeard.takeHandover c f.sender.toNat h) := by
  obtain ⟨hp, -, -, -⟩ := readHandover_eq_some hread
  have hlen : f.payload.length ≤ 20 := by rw [hp]; split <;> decide
  simp only [exec, execHandover, hc, hread, State.receive_good ha hlen h0 h63 hv hn, State.frameHeard]

/-- The source's part reaches neither the records nor the expect list. -/
theorem State.acceptHandover_eq (s : State) (c : StationConfig) (src : Source) (h : Handover) :
    s.frameHeard.acceptHandover c src h = match s.btu.queue.find? (s.attachable c) with
      | some r => (s.sourceHeard src h).attachLate c r h
      | none => if s.btu.expects.length < 8
        then (s.sourceHeard src h).setBtu { (s.sourceHeard src h).btu with expects := s.btu.expects ++ [expectOf c src h] }
        else ((s.sourceHeard src h).bump .expectFull).raiseEv .expectFull := by
  cases src <;> rfl

end

theorem orZero_ite (p : Prop) [Decidable p] (o : Option Nat) (n : Nat) : orZero (if p then o else some n) = if p then o.getD 0 else n := by
  split <;> rfl

/-- An attachable record is BLIND without an identity (R52). -/
theorem attachable_blind {s : State} {c : StationConfig} {r : SegRec} (h : s.attachable c r = true) : r.origin = .blind ∧ r.ident = none := by
  simp only [State.attachable, Bool.and_eq_true, beq_iff_eq, Option.isNone_iff_eq_none] at h
  obtain ⟨⟨⟨hblind, hident⟩, -⟩, -⟩ := h
  exact ⟨hblind, hident⟩

/-- A HANDOVER with an identity gives a destination (R41). -/
theorem readHandover_dest {p : List Byte} {h : Handover} (hread : readHandover p = some h) (hi : h.ident ≠ none) : h.dest ≠ 0 := by
  obtain ⟨-, hwf, -, -⟩ := readHandover_eq_some hread
  simp only [Handover.wellFormed, Bool.and_eq_true, beq_iff_eq] at hwf
  obtain ⟨-, hdest⟩ := hwf
  rw [Option.isSome_iff_ne_none.2 hi, Bool.true_or] at hdest
  simpa using hdest

/-- Settles O40: R41 screens the frame; an accepted one is heard (R42), and attached, refused or expected. -/
theorem handoverIsScreenedAttachedOrExpected : Obligations.HandoverIsScreenedAttachedOrExpected := by
  intro c f h src s hc ha h0 h63 hv hn hs hslot hread
  have hnum : f.sender.toNat ≠ 0 := fun e => h0 (BitVec.eq_of_toNat_eq e)
  have hexec := exec_handover hc ha h0 h63 hv hn hread
  refine ⟨fun hto => ?_, fun hto hA hB => ?_, fun hto hsrc => ?_⟩
  · have heq : s.frameHeard.takeHandover c f.sender.toNat h = s.frameHeard.bump .handoverNotMine := if_pos hto
    have htally := (tallied_frameHeard hs).bump (a := .handoverNotMine) (by simp)
    exact ⟨_, hexec.trans (congrArg _ heq), htally.counted, htally.raised, rfl, by simp [OnlyParts, State.frameHeard]⟩
  · have hnone : sourceOf c f.sender.toNat = none := by simp [sourceOf, hA, hB]
    have heq : s.frameHeard.takeHandover c f.sender.toNat h = (s.frameHeard.bump .handoverForeign).raiseEv .handoverForeign := by
      rw [State.takeHandover, if_neg (not_not.2 hto), hnone]
    have htally := ((tallied_frameHeard hs).bump (a := .handoverForeign) (by simp)).raise .handoverForeign
    exact ⟨_, hexec.trans (congrArg _ heq), htally.counted, htally.raised, rfl, by simp [OnlyParts, State.frameHeard]⟩
  · have hsome : sourceOf c f.sender.toNat = some src := by
      rcases hsrc with ⟨hA, rfl⟩ | ⟨hA, hB, rfl⟩
      · simp [sourceOf, hA, hA ▸ hnum]
      · simp [sourceOf, hB, hB ▸ hnum, hB ▸ hA]
    have heq : s.frameHeard.takeHandover c f.sender.toNat h = s.frameHeard.acceptHandover c src h := by
      rw [State.takeHandover, if_neg (not_not.2 hto), hsome]
    rw [heq, State.acceptHandover_eq] at hexec
    set u := s.sourceHeard src h with hu
    have hbtu : u.btu = s.btu.setUpstream src { s.btu.upstream src with
        vsrc := if (s.btu.upstream src).reported = .stopped then 0 else h.v
        timer := some 0
        silent := false } := by cases src <;> rfl
    have hparts : OnlyParts [.btu, .hlc, .stu] s u := by simp [OnlyParts, hu, State.sourceHeard, State.frameHeard]
    have htally := tallied_sourceHeard hs src h
    refine ⟨fun r hr => ?_, fun hr hfull => ?_, fun hr hroom => ?_⟩
    · rw [hr] at hexec
      obtain ⟨hblind, hident⟩ := attachable_blind (List.find?_some hr)
      have hqueue : u.btu.queue = s.btu.queue := by rw [hbtu]; cases src <;> rfl
      have hfind : u.findRec r.ref = some r := by
        rw [State.findRec_congr hqueue]
        exact hslot.findRec_eq (List.mem_of_find?_eq_some hr)
      have hatt := State.attachLate_spec htally.counters htally.events hfind c h
      have hdest := SegRec.attach_dest (r := r) (readHandover_dest hread)
      obtain ⟨v, hv⟩ := hatt.found
      obtain ⟨-, hreason, hpasses, horigin, hlen, hlate⟩ := r.attach_kept h
      have hafter : (u.attachLate c r h).btu = { s.btu.setUpstream src { s.btu.upstream src with
          vsrc := if (s.btu.upstream src).reported = .stopped then 0 else h.v
          timer := some 0
          silent := false } with queue := (u.attachLate c r h).btu.queue } := by
        rw [hatt.confined.btu, hbtu]
      have hcount : ∀ k, k ≠ .frameTaken → u.ctr k = s.ctr k := fun k hk => (htally.counted k).trans (if_neg (by simpa using hk))
      refine ⟨_, hexec, ?_, ?_, ?_, ?_, ?_, ?_, ?_, ⟨_, hv, hlate, SegRec.attach_ident hident h, horigin.trans hblind, hlen, fun hless => ⟨?_, ?_, ?_⟩,
        fun hmax => ⟨?_, ?_, ?_, fun hsoft hroom => ?_⟩⟩, ?_, ?_, fun hno => ?_, ?_⟩
      · rw [hafter]; cases src <;> rfl
      · rw [hafter]; cases src <;> rfl
      · rw [hatt.lateAttach, hcount _ (by decide)]
      · obtain ⟨hrefs, hkept⟩ := hatt.confined.records
        rw [hqueue] at hrefs hkept
        exact ⟨hrefs, hkept⟩
      · rw [hafter]; cases src <;> rfl
      · exact hatt.confined.grants
      · rw [hatt.confined.frames]
        rfl
      · rw [SegRec.tested_of_lt (by rw [hpasses]; exact hless)]
        exact hreason
      · rw [SegRec.tested_of_lt (by rw [hpasses]; exact hless)]
        exact hpasses
      · rw [SegRec.tested_of_lt (by rw [hpasses]; exact hless)]
        exact hdest
      · exact (SegRec.tested_of_le (hpasses ▸ hmax)).1
      · exact (SegRec.tested_of_le (hpasses ▸ hmax)).2.1.trans (by rw [hreason])
      · refine (SegRec.tested_of_le (hpasses ▸ hmax)).2.2.trans ?_
        rw [hreason, hdest]
        split
        · rfl
        · rename_i hhard
          have hsome : r.reason.isSome = true := by cases hx : r.reason <;> simp [hx] at hhard ⊢
          rw [if_pos (.inr hsome)]
      · have hout := hatt.outbound
        rw [SegRec.testTakes_of_le hmax, if_pos hsoft, SegRec.attach_ident hident, hdest, hblind] at hout
        refine ⟨.fresh (.strayNotice ⟨.lapLimit, h.ident, c.maxPasses, if h.ident = none ∨ r.reason.isSome then r.dest.getD 0 else h.dest, .blind⟩),
          ?_, rfl, rfl⟩
        rw [hout, orZero_ite]
        exact enqueue_room hroom
      · exact hatt.strays.congr (fun k hk => hcount k (by rcases hk with rfl | rfl | rfl <;> decide)) fun _ _ => rfl
      · rw [hatt.clamped, hcount _ (by decide)]
      · rw [hatt.outbound, if_neg]
        · rfl
        · simp only [SegRec.testTakes, Bool.and_eq_true, decide_eq_true_eq]
          rintro ⟨h1, h2⟩
          rcases hno with h | h
          · omega
          · simp [h] at h2
      · exact (hparts.trans hatt.confined.parts).mono (by decide)
    · rw [hr, if_neg (by omega)] at hexec
      exact ⟨_, hexec, hbtu, ((htally.bump (a := .expectFull) (by simp)).raise .expectFull).counted,
        ((htally.bump (a := .expectFull) (by simp)).raise .expectFull).raised, rfl, by simpa [OnlyParts] using hparts⟩
    · rw [hr, if_pos hroom] at hexec
      refine ⟨_, hexec, ?_, htally.counted, htally.raised, rfl, ?_⟩
      · rw [State.setBtu_btu, hbtu]
        rfl
      · exact (hparts.trans (by simp [OnlyParts] : OnlyParts [.btu] u (u.setBtu _))).mono (by decide)

end Sys2Proof.Machine
end

section
/-! SUPPORT. The probe, the tag test and the entries that a frame writes (R78, R81, R96). -/

namespace Sys2Proof.Machine

open Sys2Proof

section
variable {es : List (Option IdtEntry)} {i : Nat} {e : IdtEntry} {s : State}

theorem entryAt_of_lt (h : i < es.length) : entryAt es i = es[i] := by
  rw [entryAt, List.getD_eq_getElem?_getD, List.getElem?_eq_getElem h, Option.getD_some]

/-- A change of a valid entry writes it. -/
theorem modify_eq_set (h : entryAt es i = some e) (f : IdtEntry → IdtEntry) : es.modify i (Option.map f) = es.set i (some (f e)) := by
  have hi := lt_of_entryAt h
  rw [entryAt_of_lt hi] at h
  rw [List.modify_eq_set_getElem?, List.getElem?_eq_getElem hi, h]
  rfl

theorem entryAt_set_self (h : i < es.length) (o : Option IdtEntry) : entryAt (es.set i o) i = o := by
  rw [entryAt_set h, if_pos rfl]

/-- The first entry that a test of valid entries finds, where one entry alone passes it. -/
theorem findEntry_eq {p : IdtEntry → Bool} (h : entryAt es i = some e) (hp : p e = true)
    (hone : ∀ j x, entryAt es j = some x → p x = true → j = i) : (es.findIdx? fun o => o.any p) = some i := by
  have hi := lt_of_entryAt h
  rw [List.findIdx?_eq_some_iff_getElem]
  refine ⟨hi, ?_, fun j hj hpj => ?_⟩
  · rw [← entryAt_of_lt hi, h]
    exact hp
  · rw [← entryAt_of_lt (hj.trans hi), Option.any_eq_true] at hpj
    obtain ⟨x, hx, hpx⟩ := hpj
    exact absurd (hone j x hx hpx) (Nat.ne_of_lt hj)

theorem findEntry_eq_none {p : IdtEntry → Bool} (h : ∀ j x, entryAt es j = some x → p x = false) : (es.findIdx? fun o => o.any p) = none := by
  rw [List.findIdx?_eq_none_iff]
  intro o ho
  obtain ⟨j, hj, rfl⟩ := List.getElem_of_mem ho
  rw [← entryAt_of_lt hj]
  cases hx : entryAt es j with
  | none => rfl
  | some x => exact h j x hx

theorem matchedBy_tag {tag sailing : Nat} (h : e.matchedBy tag sailing = true) : e.tag = tag := by
  simp only [IdtEntry.matchedBy, Bool.and_eq_true, beq_iff_eq] at h
  exact h.1

/-- A probe hits the one entry that matches it (R78). -/
theorem TagLaw.probe_eq (htag : TagLaw s) {tag sailing : Nat} (h : entryAt s.idt.entries i = some e) (hm : e.matchedBy tag sailing = true) :
    probe s.idt.entries tag sailing = some i :=
  findEntry_eq h hm fun j x hx hmx => htag j i x e hx h ((matchedBy_tag hmx).trans (matchedBy_tag hm).symm)

theorem TagLaw.tagTest_eq (htag : TagLaw s) {tag : Nat} (h : entryAt s.idt.entries i = some e) (ht : e.tag = tag) :
    tagTest s.idt.entries tag = some i :=
  findEntry_eq h (by simpa using ht) fun j x hx htx => htag j i x e hx h (by simp only [beq_iff_eq] at htx; rw [htx, ht])

theorem SizeLaw.entries (hs : SizeLaw s) : s.idt.entries.length = 128 := by
  obtain ⟨-, -, -, h, -⟩ := hs
  exact h

/-- The statements name the entries below 128. -/
theorem probe_eq_none (hs : SizeLaw s) {tag sailing : Nat}
    (h : ∀ i < 128, ∀ e ∈ entryAt s.idt.entries i, e.matchedBy tag sailing = false) : probe s.idt.entries tag sailing = none :=
  findEntry_eq_none fun j x hx => h j (hs.entries ▸ lt_of_entryAt hx) x hx

theorem tagTest_eq_none (hs : SizeLaw s) {tag : Nat} (h : ∀ i < 128, ∀ e ∈ entryAt s.idt.entries i, e.tag ≠ tag) :
    tagTest s.idt.entries tag = none :=
  findEntry_eq_none fun j x hx => by simpa using h j (hs.entries ▸ lt_of_entryAt hx) x hx

theorem probe_eq_none_of_tag (hs : SizeLaw s) {tag : Nat} (sailing : Nat) (h : ∀ i < 128, ∀ e ∈ entryAt s.idt.entries i, e.tag ≠ tag) :
    probe s.idt.entries tag sailing = none :=
  probe_eq_none hs fun i hi e he => Bool.eq_false_iff.2 fun hm => h i hi e he (matchedBy_tag hm)

theorem inState_eq (h : entryAt es i = some e) (st : EntryState) : inState es i st = (e.state == st) := by
  rw [inState, h]
  rfl

/-! ### The oldest held entry (R96) -/

/-- What is found is such an entry. -/
theorem oldestHeld_mem {n : Nat} {p : Nat × Nat} (h : oldestHeld es n = some p) :
    p.1 < n ∧ ∃ e, entryAt es p.1 = some e ∧ e.state ≠ .onSegment ∧ e.age = p.2 := by
  induction n with
  | zero => cases h
  | succ n ih =>
    have below : oldestHeld es n = some p → p.1 < n + 1 ∧ ∃ e, entryAt es p.1 = some e ∧ e.state ≠ .onSegment ∧ e.age = p.2 := fun h =>
      ⟨(ih h).1.trans (Nat.lt_succ_self n), (ih h).2⟩
    simp only [oldestHeld] at h
    split at h
    · exact below h
    · rename_i e he
      split at h
      · exact below h
      · rename_i hst
        split at h
        · cases h
          exact ⟨Nat.lt_succ_self n, e, he, hst, rfl⟩
        · rename_i q hq
          split at h <;> cases h
          · exact ⟨Nat.lt_succ_self n, e, he, hst, rfl⟩
          · exact below hq

/-- The oldest of the held entries off the segment is found, the lowest-numbered among equals (R96). -/
theorem oldestHeld_eq {n : Nat} (hi : i < n) (he : entryAt es i = some e) (hst : e.state ≠ .onSegment)
    (hmax : ∀ j < n, ∀ x, entryAt es j = some x → x.state ≠ .onSegment → x.age ≤ e.age ∧ (j < i → x.age < e.age)) :
    oldestHeld es n = some (i, e.age) := by
  induction n with
  | zero => cases hi
  | succ n ih =>
    rcases Nat.lt_succ_iff_lt_or_eq.1 hi with hlt | rfl
    · have hbelow := ih hlt fun j hj => hmax j (hj.trans (Nat.lt_succ_self n))
      simp only [oldestHeld, hbelow]
      split
      · rfl
      · rename_i x hx
        split
        · rfl
        · rename_i hxs
          exact if_neg (Nat.not_lt.2 (hmax n (Nat.lt_succ_self n) x hx hxs).1)
    · simp only [oldestHeld, he, if_neg hst]
      cases hp : oldestHeld es i with
      | none => rfl
      | some p =>
        obtain ⟨hlt, x, hx, hxs, hage⟩ := oldestHeld_mem hp
        exact if_pos (hage ▸ (hmax p.1 (hlt.trans (Nat.lt_succ_self i)) x hx hxs).2 hlt)

theorem oldestHeld_eq_none {n : Nat} (h : ∀ j < n, ∀ x, entryAt es j = some x → x.state = .onSegment) : oldestHeld es n = none := by
  cases hp : oldestHeld es n with
  | none => rfl
  | some p =>
    obtain ⟨hlt, x, hx, hxs, -⟩ := oldestHeld_mem hp
    exact absurd (h p.1 hlt x hx) hxs

end

end Sys2Proof.Machine
end

section
/-! OBLIGATION PROOF. A received DIVERT_DONE at a reader or desk: passed over, unmatched, retiring an entry, or finding a duplicate (O41). -/

namespace Sys2Proof.Machine

open Sys2Proof

section
variable {s t : State} {c : StationConfig} {m : DivertDone} {id : Identity} {i : Nat} {e : IdtEntry} {cs : List Ctr}

theorem exec_divertDone {f : RxFrame} (hc : s.cfg = some c) (ha : s.hlc.line.actsOn = true) (h0 : f.sender ≠ 0) (h63 : f.sender ≠ 63)
    (hv : f.voided = false) (hn : f.sender.toNat ≠ c.station) (hread : readDivertDone f.payload = some m) :
    exec (.divertDone f) s = .next (s.frameHeard.takeDivertDone c m) := by
  have hlen : f.payload.length ≤ 20 := by
    obtain ⟨hp, -⟩ := readDivertDone_eq_some hread
    rw [hp]
    split <;> decide
  simp only [exec, execDivertDone, hc, hread, State.receive_good ha hlen h0 h63 hv hn, State.frameHeard]

/-- An entry restarted and moved is an entry written. -/
theorem State.restartAge_eq (h : entryAt s.idt.entries i = some e) : s.restartAge i = s.writeEntry i { e with age := 0 } := by
  rw [State.restartAge, State.modifyEntry, modify_eq_set h]
  rfl

theorem State.modifyEntry_writeEntry (h : i < s.idt.entries.length) (x : IdtEntry) (f : IdtEntry → IdtEntry) :
    (s.writeEntry i x).modifyEntry i f = s.writeEntry i (f x) := by
  have hx : entryAt (s.writeEntry i x).idt.entries i = some x := entryAt_set_self h (some x)
  rw [State.modifyEntry, modify_eq_set hx]
  simp [State.writeEntry, State.setEntries]

theorem Tallied.countElsewhere (h : Tallied cs [] s t) (hn : .divertElsewhere ∉ cs) (e : IdtEntry) (n : Nat) :
    Tallied (if e.dest = n then cs else cs ++ [.divertElsewhere]) [] s (t.countElsewhere e n) := by
  unfold State.countElsewhere
  split
  · exact h
  · exact h.bump hn

theorem State.countElsewhere_rest (s : State) (e : IdtEntry) (n : Nat) : s.countElsewhere e n = { s with stu := (s.countElsewhere e n).stu } := by
  unfold State.countElsewhere
  split <;> rfl

/-- What the retiring does to each state of the entry hit (R92). -/
theorem State.retire_of_miss (h : probe s.idt.entries id.tag id.sailing = none) (c : StationConfig) (n : Nat) :
    s.frameHeard.retire c id n = s.frameHeard.bump .divertDoneUnmatched := by
  have h' : probe s.frameHeard.idt.entries id.tag id.sailing = none := h
  simp only [State.retire, h']

theorem State.retire_of_waiting {n : Nat} (hp : probe s.idt.entries id.tag id.sailing = some i) (he : entryAt s.idt.entries i = some e)
    (hst : e.state = .onLoop ∨ e.state = .manual) (c : StationConfig) :
    s.retire c id n = ((s.writeEntry i { e with state := .diverted, age := 0 }).bump .divertDoneHit).countElsewhere e n := by
  simp only [State.retire, hp, he, State.restartAge_eq he, State.modifyEntry_writeEntry (lt_of_entryAt he)]
  rcases hst with hst | hst <;> rw [hst]

theorem State.retire_of_diverted {n : Nat} (hp : probe s.idt.entries id.tag id.sailing = some i) (he : entryAt s.idt.entries i = some e)
    (hst : e.state = .diverted) (c : StationConfig) :
    s.retire c id n = ((s.writeEntry i { e with age := 0 }).bump .divertDoneUnmatched).countElsewhere e n := by
  simp only [State.retire, hp, he, State.restartAge_eq he, hst]

/-- The bag is on the segment all the same: the entry keeps its state. -/
def State.doneTwice (i : Nat) (e : IdtEntry) (s : State) : State :=
  ((s.writeEntry i { e with age := 0 }).bump .divertDoneDuplicate).raiseEv .duplicate

theorem State.retire_of_onSegment {n : Nat} (hp : probe s.idt.entries id.tag id.sailing = some i) (he : entryAt s.idt.entries i = some e)
    (hst : e.state = .onSegment) (c : StationConfig) : s.retire c id n = match s.btu.queue.find? (·.entry == some i) with
      | none => s.doneTwice i e
      | some r => (s.doneTwice i e).offer c r.ref .duplicateTag := by
  have href : (s.doneTwice i e).referrer i = (s.btu.queue.find? (·.entry == some i)).map SegRec.ref := rfl
  have heq : s.retire c id n = match (s.doneTwice i e).referrer i with
      | none => s.doneTwice i e
      | some ref => (s.doneTwice i e).offer c ref .duplicateTag := by
    simp only [State.retire, hp, he, State.restartAge_eq he, State.doneTwice]
    split <;> rename_i h <;> rw [hst] at h <;> cases h <;> rfl
  rw [heq, href]
  cases s.btu.queue.find? (·.entry == some i) <;> rfl

/-- An entry is written and counted. -/
theorem retired_spec (hs : SizeLaw s) {k : Ctr} (hk : k ≠ .frameTaken) (hk' : k ≠ .divertElsewhere) (x : IdtEntry) (n : Nat) :
    (((s.frameHeard.writeEntry i x).bump k).countElsewhere e n).idt = { s.idt with entries := s.idt.entries.set i (some x) }
      ∧ Counted (if e.dest = n then [.frameTaken, k] else [.frameTaken, k, .divertElsewhere]) s
        (((s.frameHeard.writeEntry i x).bump k).countElsewhere e n)
      ∧ Raised [] s (((s.frameHeard.writeEntry i x).bump k).countElsewhere e n)
      ∧ (((s.frameHeard.writeEntry i x).bump k).countElsewhere e n).hlc = { s.hlc with objection := .none }
      ∧ OnlyParts [.idt, .hlc, .stu] s (((s.frameHeard.writeEntry i x).bump k).countElsewhere e n) := by
  have hdone := (((tallied_frameHeard hs).same (u := s.frameHeard.writeEntry i x) rfl).bump (a := k) (by simpa using hk)).countElsewhere
    (by simpa using hk'.symm) e n
  refine ⟨?_, hdone.counted, hdone.raised, ?_, ?_⟩
  · rw [State.countElsewhere_rest]; rfl
  · rw [State.countElsewhere_rest]; rfl
  · rw [State.countElsewhere_rest]
    simp [OnlyParts, State.frameHeard, State.writeEntry, State.setEntries]

/-- What a DIVERT_DONE for a bag on the segment leaves before the offer. -/
theorem tallied_doneTwice (hs : SizeLaw s) (i : Nat) (e : IdtEntry) :
    Tallied [.frameTaken, .divertDoneDuplicate] [.duplicate] s (s.frameHeard.doneTwice i e) :=
  (((tallied_frameHeard hs).same (u := s.frameHeard.writeEntry i { e with age := 0 }) rfl).bump (a := .divertDoneDuplicate) (by simp)).raise _

theorem State.doneTwice_parts (s : State) (i : Nat) (e : IdtEntry) : OnlyParts [.idt, .hlc, .stu] s (s.frameHeard.doneTwice i e) := by
  simp [OnlyParts, State.doneTwice, State.frameHeard, State.writeEntry, State.setEntries]

end

/-- Settles O41: what is passed over, what is unmatched, and the outcome of each entry state of R92. -/
theorem divertDoneRetiresTheTag : Obligations.DivertDoneRetiresTheTag := by
  intro c f m s hc ha h0 h63 hv hn hs hslot htag hread
  have hexec := exec_divertDone hc ha h0 h63 hv hn hread
  have htally := tallied_frameHeard hs
  have hparts : OnlyParts [.hlc, .stu] s s.frameHeard := by simp [OnlyParts, State.frameHeard]
  have hretire : ∀ id ∈ m.ident, c.reader = true ∨ c.desk = true → m.swept = false →
      s.frameHeard.takeDivertDone c m = s.frameHeard.retire c id m.chute := fun id hid hrole hswept => by
    simp [State.takeDivertDone, Option.mem_def.1 hid, hswept, hrole]
  refine ⟨fun hno => ?_, fun hrole hid hswept => ?_, fun hrole hswept id hid => ⟨fun hmiss => ?_, fun i hi e he hm => ⟨?_, fun hst => ?_, fun hst => ?_⟩⟩⟩
  · have heq : s.frameHeard.takeDivertDone c m = s.frameHeard := by
      rcases hno with ⟨hr, hd⟩ | hi
      · simp [State.takeDivertDone, hr, hd]
      · simp [State.takeDivertDone, hi]
    exact ⟨_, hexec.trans (congrArg _ heq), htally.counted, htally.raised, rfl, hparts⟩
  · obtain ⟨id, hi⟩ := Option.ne_none_iff_exists'.1 hid
    have heq : s.frameHeard.takeDivertDone c m = s.frameHeard.bump .divertDoneSwept := by
      simp [State.takeDivertDone, hi, hswept, hrole]
    exact ⟨_, hexec.trans (congrArg _ heq), (htally.bump (a := .divertDoneSwept) (by simp)).counted,
      (htally.bump (a := .divertDoneSwept) (by simp)).raised, rfl, by simpa [OnlyParts] using hparts⟩
  · rw [hretire id hid hrole hswept, State.retire_of_miss (probe_eq_none hs hmiss)] at hexec
    exact ⟨_, hexec, (htally.bump (a := .divertDoneUnmatched) (by simp)).counted, (htally.bump (a := .divertDoneUnmatched) (by simp)).raised, rfl,
      by simpa [OnlyParts] using hparts⟩
  · intro hst
    rw [hretire id hid hrole hswept, State.retire_of_waiting (s := s.frameHeard) (htag.probe_eq he hm) he hst] at hexec
    exact ⟨_, hexec, retired_spec hs (by decide) (by decide) _ _⟩
  · rw [hretire id hid hrole hswept, State.retire_of_diverted (s := s.frameHeard) (htag.probe_eq he hm) he hst] at hexec
    exact ⟨_, hexec, retired_spec hs (by decide) (by decide) _ _⟩
  · rw [hretire id hid hrole hswept, State.retire_of_onSegment (s := s.frameHeard) (htag.probe_eq he hm) he hst] at hexec
    have hqueue : s.frameHeard.btu.queue = s.btu.queue := rfl
    rw [hqueue] at hexec
    have htwice := tallied_doneTwice hs i e
    set u := s.frameHeard.doneTwice i e with hu
    cases hr : s.btu.queue.find? (fun (r : SegRec) => r.entry == some i) with
    | none =>
      rw [hr] at hexec
      refine ⟨_, hexec, rfl, ?_, ?_, fun r h => by simp at h, rfl, fun d => rfl, rfl, (s.doneTwice_parts i e).mono (by decide)⟩
      · rw [htwice.counted]; simp
      · rw [htwice.raised]; simp
    | some r =>
      rw [hr] at hexec
      have hfind : u.findRec r.ref = some r := hslot.findRec_eq (List.mem_of_find?_eq_some hr)
      have hentry : r.entry = some i := by simpa using List.find?_some hr
      have hconf : Confined [r.ref] u (u.offer c r.ref .duplicateTag) := (Confined.refl _ u).offer c _ (List.mem_singleton_self _)
      obtain ⟨v, hv⟩ := State.findRec_offer (ref := r.ref) hfind c .duplicateTag
      obtain ⟨hreason, hdest⟩ := SegRec.offered_hard (c := c) (x := .duplicateTag) rfl r
      refine ⟨_, hexec, ?_, ?_, ?_, fun q hq => ?_, ?_, ?_, ?_, ?_⟩
      · simp only [State.offer_frame]; rfl
      · rw [State.offer_ctr_of_ne htwice.counters hfind c _ (by decide) (by decide) rfl (by decide) (by decide) (by decide), htwice.counted]
        simp
      · rw [State.offer_ev htwice.events c _ _ (by decide), htwice.raised]
        simp
      · obtain rfl : r = q := by simpa using hq
        refine ⟨(StrayCounted.offer htwice.counters hfind c .duplicateTag).congr (fun k hk => (htwice.counted k).trans (if_neg ?_)) fun _ _ => rfl,
          strayNoticed_offer (s := u) hfind c .duplicateTag, _, hv, hreason, hdest, ?_, ?_, hconf.records⟩
        · rcases hk with rfl | rfl | rfl <;> decide
        · rw [SegRec.offered_rest]
          exact hentry
        · rw [SegRec.offered_rest]
      · exact hconf.btu
      · exact hconf.grants
      · rw [hconf.frames]
        rfl
      · exact ((s.doneTwice_parts i e).trans hconf.parts).mono (by decide)

end Sys2Proof.Machine
end

section
/-! OBLIGATION PROOF. A received IDENTITY_NOTICE: stored, applied on the segment, or only counted (O42). -/

namespace Sys2Proof.Machine

open Sys2Proof

section
variable {s t u : State} {c : StationConfig} {id : Identity} {i n : Nat} {e : IdtEntry} {cs : List Ctr}

/-! ### The case that R94 to R96 give a notice -/

theorem State.takeNotice_of_hit (hp : probe s.idt.entries id.tag id.sailing = some i) (he : entryAt s.idt.entries i = some e)
    (hst : e.state ≠ .onSegment) (c : StationConfig) (n : Nat) : s.takeNotice c id n = s.storeNotice i id n := by
  simp [State.takeNotice, hp, inState_eq he, hst]

theorem State.takeNotice_of_onSegment (hp : probe s.idt.entries id.tag id.sailing = some i) (he : entryAt s.idt.entries i = some e)
    (hst : e.state = .onSegment) (c : StationConfig) (n : Nat) : s.takeNotice c id n = s.noticeOnSegment c i id n := by
  simp [State.takeNotice, hp, inState_eq he, hst]

theorem State.takeNotice_of_clash (hp : probe s.idt.entries id.tag id.sailing = none) (ht : tagTest s.idt.entries id.tag = some i)
    (he : entryAt s.idt.entries i = some e) (c : StationConfig) (n : Nat) :
    s.takeNotice c id n = if e.state = .onSegment then s.bump .tagClash else (s.bump .tagClash).storeNotice i id n := by
  simp [State.takeNotice, hp, State.missedNotice, ht, inState_eq he]

/-- The lowest free held entry. -/
def freeHeld (es : List (Option IdtEntry)) : Option Nat := (List.range 16).find? fun i => (entryAt es i).isNone

theorem State.takeNotice_of_new (hp : probe s.idt.entries id.tag id.sailing = none) (ht : tagTest s.idt.entries id.tag = none)
    (c : StationConfig) (n : Nat) : s.takeNotice c id n = match freeHeld s.idt.entries with
      | some i => s.storeNotice i id n
      | none => match oldestHeld s.idt.entries 16 with
        | some p => (s.countReuse p.1).storeNotice p.1 id n
        | none => (s.bump .idtFull).raiseEv .idtFull := by
  simp only [State.takeNotice, hp, State.missedNotice, ht]
  rfl

theorem freeHeld_eq {es : List (Option IdtEntry)} (hi : i < 16) (he : entryAt es i = none) (hbelow : ∀ j < i, entryAt es j ≠ none) :
    freeHeld es = some i := by
  rw [freeHeld, List.find?_range_eq_some]
  refine ⟨by simp [he], by simpa using hi, fun j hj => ?_⟩
  simpa [Option.isSome_iff_ne_none] using hbelow j hj

theorem freeHeld_eq_none {es : List (Option IdtEntry)} (h : ∀ i < 16, entryAt es i ≠ none) : freeHeld es = none := by
  rw [freeHeld, List.find?_eq_none]
  intro i hi
  simpa using h i (by simpa using hi)

/-! ### A notice stored (R94) -/

/-- The order of the counters does not matter. -/
theorem Counted.of_mem {cs' : List Ctr} (h : Counted cs s t) (hm : ∀ k, k ∈ cs ↔ k ∈ cs') : Counted cs' s t := fun k => by
  rw [h k]
  simp only [hm]

theorem stored_spec (h : Tallied cs [] s u) (hidt : u.idt = s.idt) (hhlc : u.hlc = { s.hlc with objection := .none })
    (hparts : OnlyParts [.hlc, .stu] s u) (hn : .noticeStored ∉ cs) (i : Nat) (id : Identity) (n : Nat) :
    (u.storeNotice i id n).idt
        = { s.idt with entries := s.idt.entries.set i (some ⟨id.tag, id.sailing, id.sailing == 0, id.cabin, n, .manual, .notice, 0⟩) }
      ∧ Counted (cs ++ [.noticeStored]) s (u.storeNotice i id n) ∧ Raised [] s (u.storeNotice i id n)
      ∧ (u.storeNotice i id n).hlc = { s.hlc with objection := .none } ∧ OnlyParts [.idt, .hlc, .stu] s (u.storeNotice i id n) := by
  have hdone := (h.same (u := u.writeEntry i (noticeEntry id n .manual)) rfl).bump hn
  refine ⟨?_, hdone.counted, hdone.raised, hhlc, (hparts.trans (?_ : OnlyParts [.idt, .stu] u (u.storeNotice i id n))).mono (by decide)⟩
  · rw [← hidt]; rfl
  · simp [OnlyParts, State.storeNotice, State.writeEntry, State.setEntries]

theorem Confined.idt_eq {refs : List RecRef} (h : Confined refs s t) : t.idt = s.idt := by
  obtain ⟨-, -, -, -, -, hidt, -⟩ := h.parts
  exact hidt.resolve_left (by decide)

/-! ### A notice applied to the bag on the segment (R95, R148) -/

/-- The record as the notice rewrites it, its divert status aside. -/
def SegRec.noticed (id : Identity) (n : Nat) (r : SegRec) : SegRec := { r with ident := some id, dest := some n, reason := none, passes := 0 }

/-- What the application makes of the station. -/
structure NoticeApplied (c : StationConfig) (r : SegRec) (id : Identity) (n : Nat) (s t : State) : Prop where
  confined : Confined [r.ref] s t
  hlc : t.hlc = s.hlc
  found : t.findRec r.ref = some ((r.noticed id n).withdrawnBy (s.lostGrants c r.ref (some n) .d0 ++ s.lostGrants c r.ref (some n) .d1))
  grants : ∀ d, (t.dvs.get d).grants = (s.dvs.get d).grants.filter fun g => !(leavesChute c (some n) d && g.ref == r.ref)
  withdrawn : (t.ctr .withdrawnDestination).toNat = min 65535 ((s.ctr .withdrawnDestination).toNat
    + ((s.lostGrants c r.ref (some n) .d0).length + (s.lostGrants c r.ref (some n) .d1).length))
  cleared : t.ctr .strayCleared = if r.reason = none then s.ctr .strayCleared else satInc (s.ctr .strayCleared)
  ctr : ∀ k, k ≠ .lateUpdate → k ≠ .withdrawnDestination → k ≠ .strayCleared → t.ctr k = s.ctr k

theorem State.applyNotice_spec {r : SegRec} (hs : s.stu.counters.length = 117) (h : s.findRec r.ref = some r) (c : StationConfig) (id : Identity)
    (n : Nat) : NoticeApplied c r id n s (s.applyNotice c r.ref id n) := by
  set m := s.mapRec r.ref (SegRec.noticed id n) with hm
  set d := m.tellDestination c r.ref (some n) with hd
  have heq : s.applyNotice c r.ref id n = if r.reason.isSome then d.bump .strayCleared else d := by
    simp only [State.applyNotice, h]
    rfl
  have hconf : Confined [r.ref] s d :=
    ((Confined.refl _ s).mapRec (f := SegRec.noticed id n) (fun _ => rfl) (List.mem_singleton_self _)).tellDestination c _ (List.mem_singleton_self _)
  have hfind : m.findRec r.ref = some (r.noticed id n) := State.findRec_mapRec s (f := SegRec.noticed id n) (fun _ => rfl) h
  have hlen : d.stu.counters.length = 117 := by rw [hd, (State.tellDestination_stu_lengths _ _ _ _).1]; exact hs
  have hfound : d.findRec r.ref = some ((r.noticed id n).withdrawnBy (s.lostGrants c r.ref (some n) .d0 ++ s.lostGrants c r.ref (some n) .d1)) := by
    rw [hd, State.findRec_tellDestination, hfind]
    rfl
  have hgrants : ∀ e, (d.dvs.get e).grants = (s.dvs.get e).grants.filter fun g => !(leavesChute c (some n) e && g.ref == r.ref) := fun e => by
    rw [hd, State.tellDestination_grants]
    rfl
  have hwithdrawn := State.tellDestination_ctr (s := m) hs c r.ref (some n) (a := .withdrawnDestination) (by decide)
  rw [if_pos rfl] at hwithdrawn
  have hctr : ∀ k, k ≠ .lateUpdate → k ≠ .withdrawnDestination → d.ctr k = s.ctr k := fun k h1 h2 =>
    (State.tellDestination_ctr_of_ne (s := m) hs c _ _ h1 h2).trans rfl
  have hhlc : d.hlc = s.hlc := by simp [hd, hm]
  rw [heq]
  by_cases hreason : r.reason.isSome = true
  · rw [if_pos hreason]
    have hne : r.reason ≠ none := Option.isSome_iff_ne_none.1 hreason
    refine ⟨hconf.bump _, hhlc, hfound, hgrants, ?_, ?_, fun k h1 h2 h3 => ?_⟩
    · rw [State.bump_ctr_of_ne _ (by decide)]
      exact hwithdrawn
    · rw [if_neg hne, State.bump_ctr hlen, if_pos rfl, hctr _ (by decide) (by decide)]
    · rw [State.bump_ctr_of_ne _ h3, hctr k h1 h2]
  · rw [if_neg hreason]
    have hne : r.reason = none := by simpa using hreason
    exact ⟨hconf, hhlc, hfound, hgrants, hwithdrawn, by rw [if_pos hne, hctr _ (by decide) (by decide)], fun k h1 h2 _ => hctr k h1 h2⟩

/-- Of the grants of a diverter, those lost are the ones that are gone. -/
theorem NoticeApplied.grants_eq_iff {r : SegRec} (h : NoticeApplied c r id n s t) (d : Div) :
    (t.dvs.get d).grants = (s.dvs.get d).grants ↔ s.lostGrants c r.ref (some n) d = [] := by
  rw [h.grants, State.lostGrants, List.filter_eq_self, List.filter_eq_nil_iff]
  simp only [Bool.not_eq_true', Bool.not_eq_true]

theorem NoticeApplied.lost_length {r : SegRec} (h : NoticeApplied c r id n s t) (d : Div) :
    (s.lostGrants c r.ref (some n) d).length = (s.dvs.get d).grants.length - (t.dvs.get d).grants.length := by
  have hsum := (s.dvs.get d).grants.length_eq_length_filter_add fun g => leavesChute c (some n) d && g.ref == r.ref
  rw [h.grants, State.lostGrants]
  omega

/-- Where none of the lost grants is the record's, none is lost: they are all its own. -/
theorem lostGrants_none {ref : RecRef} {dest : Option Nat}
    (h : (s.lostGrants c ref dest .d0 ++ s.lostGrants c ref dest .d1).any (·.ref == ref) = false) :
    s.lostGrants c ref dest .d0 = [] ∧ s.lostGrants c ref dest .d1 = [] := by
  have hno := List.any_eq_false.1 h
  have hall : ∀ d, ∀ g ∈ s.lostGrants c ref dest d, g.ref = ref := fun d g hg => ref_of_mem_lostGrants hg
  exact ⟨List.eq_nil_iff_forall_not_mem.2 fun g hg => hno g (List.mem_append_left _ hg) (by simpa using hall .d0 g hg),
    List.eq_nil_iff_forall_not_mem.2 fun g hg => hno g (List.mem_append_right _ hg) (by simpa using hall .d1 g hg)⟩

theorem leavesChute_some (c : StationConfig) (n : Nat) (d : Div) : leavesChute c (some n) d = (c.diverter d).any fun v => v.chute != n := by
  refine congrArg (fun f => Option.any f (c.diverter d)) (funext fun v => ?_)
  rw [Bool.eq_iff_iff]
  simp

/-- The entry of the bag on the segment is rewritten. -/
def State.noticeMarked (i : Nat) (id : Identity) (n : Nat) (s : State) : State :=
  (s.writeEntry i (noticeEntry id n .onSegment)).bump .noticeOnSegment

theorem State.noticeOnSegment_eq (s : State) (c : StationConfig) (i : Nat) (id : Identity) (n : Nat) :
    s.noticeOnSegment c i id n = match s.btu.queue.find? (·.entry == some i) with
      | none => s.noticeMarked i id n
      | some r => (s.noticeMarked i id n).applyNotice c r.ref id n := by
  have href : (s.noticeMarked i id n).referrer i = (s.btu.queue.find? (·.entry == some i)).map SegRec.ref := rfl
  have heq : s.noticeOnSegment c i id n = match (s.noticeMarked i id n).referrer i with
      | none => s.noticeMarked i id n
      | some ref => (s.noticeMarked i id n).applyNotice c ref id n := rfl
  rw [heq, href]
  cases s.btu.queue.find? (·.entry == some i) <;> rfl

theorem exec_identityNotice {f : RxFrame} (hc : s.cfg = some c) (ha : s.hlc.line.actsOn = true) (h0 : f.sender ≠ 0) (h63 : f.sender ≠ 63)
    (hv : f.voided = false) (hn : f.sender.toNat ≠ c.station) (hread : readIdentityNotice f.payload = some (id, n)) :
    exec (.identityNotice f) s = .next (if c.reader then s.frameHeard.takeNotice c id n else s.frameHeard) := by
  have hlen : f.payload.length ≤ 20 := by
    obtain ⟨hp, -⟩ := readIdentityNotice_eq_some hread
    omega
  simp only [exec, execIdentityNotice, hc, hread, State.receive_good ha hlen h0 h63 hv hn, State.frameHeard]

end

/-- Settles O42: a reader's outcome for each of R94, R95 and R96, and none elsewhere. -/
theorem identityNoticeIsStoredOrApplied : Obligations.IdentityNoticeIsStoredOrApplied := by
  intro c f id n s hc ha h0 h63 hv hn hs hslot htag hread
  have hexec := exec_identityNotice hc ha h0 h63 hv hn hread
  have htally := tallied_frameHeard hs
  have hparts : OnlyParts [.hlc, .stu] s s.frameHeard := by simp [OnlyParts, State.frameHeard]
  have hstored := stored_spec (u := s.frameHeard) htally rfl rfl hparts (by simp)
  have hclash := htally.bump (a := .tagClash) (by simp)
  have hclashed : OnlyParts [.hlc, .stu] s (s.frameHeard.bump .tagClash) := by simpa [OnlyParts] using hparts
  refine ⟨fun hr => ?_, fun hr => ?_⟩
  · rw [hr] at hexec
    exact ⟨_, hexec, htally.counted, htally.raised, rfl, hparts⟩
  · rw [if_pos hr] at hexec
    refine ⟨fun i hi e he hm => ⟨fun hst => ?_, fun hst => ?_⟩, fun hnew i hi hfree hbelow => ?_, fun hnew hheld => ⟨fun i hi e he hst hmax => ?_, fun hall => ?_⟩,
      fun hmiss i hi e he ht => ⟨fun hst => ?_, fun hst => ?_⟩⟩
    · rw [State.takeNotice_of_hit (s := s.frameHeard) (htag.probe_eq he hm) he hst] at hexec
      exact ⟨_, hexec, hstored i id n⟩
    · rw [State.takeNotice_of_onSegment (s := s.frameHeard) (htag.probe_eq he hm) he hst, State.noticeOnSegment_eq] at hexec
      have hmark : Tallied [.frameTaken, .noticeOnSegment] [] s (s.frameHeard.noticeMarked i id n) :=
        (htally.same (u := s.frameHeard.writeEntry i (noticeEntry id n .onSegment)) rfl).bump (by simp)
      have hmarked : OnlyParts [.idt, .hlc, .stu] s (s.frameHeard.noticeMarked i id n) := by
        simp [OnlyParts, State.noticeMarked, State.frameHeard, State.writeEntry, State.setEntries]
      have hqueue : s.frameHeard.btu.queue = s.btu.queue := rfl
      rw [hqueue] at hexec
      set u := s.frameHeard.noticeMarked i id n with hu
      have hstray : ∀ k, k = .straySet ∨ k = .strayReplaced ∨ k = .strayKept → u.ctr k = s.ctr k := fun k hk =>
        (hmark.counted k).trans (if_neg (by rcases hk with rfl | rfl | rfl <;> decide))
      cases hr : s.btu.queue.find? (fun (r : SegRec) => r.entry == some i) with
      | none =>
        rw [hr] at hexec
        refine ⟨_, hexec, rfl, ?_, .of_same hstray, rfl, fun r h => by simp at h, rfl, fun d => rfl, hmarked.mono (by decide)⟩
        rw [hmark.counted]
        simp
      | some r =>
        rw [hr] at hexec
        have hfind : u.findRec r.ref = some r := hslot.findRec_eq (List.mem_of_find?_eq_some hr)
        have hentry : r.entry = some i := by simpa using List.find?_some hr
        have happ := State.applyNotice_spec hmark.counters hfind c id n
        refine ⟨_, hexec, happ.confined.idt_eq.trans rfl, ?_, ?_, happ.hlc.trans rfl, fun q hq => ?_, happ.confined.btu, happ.confined.grants,
          (hmarked.trans happ.confined.parts).mono (by decide)⟩
        · rw [happ.ctr _ (by decide) (by decide) (by decide), hmark.counted]
          simp
        · refine .of_same fun k hk => (happ.ctr k ?_ ?_ ?_).trans (hstray k hk) <;> rcases hk with rfl | rfl | rfl <;> decide
        · obtain rfl : r = q := by simpa using hq
          refine ⟨_, happ.found, ?_, ?_, ?_, ?_, ?_, ?_, fun d => ?_, fun hne => ?_, fun heq => ?_, ?_, happ.confined.records⟩
          · rw [SegRec.withdrawnBy_eq]; rfl
          · rw [SegRec.withdrawnBy_eq]; rfl
          · rw [SegRec.withdrawnBy_eq]; rfl
          · rw [SegRec.withdrawnBy_eq]; rfl
          · rw [SegRec.withdrawnBy_eq]; exact hentry
          · rw [happ.cleared, hmark.counted]
            simp
          · rw [happ.grants, ← leavesChute_some]
            cases leavesChute c (some n) d <;> simp [bne] <;> rfl
          · rw [SegRec.withdrawnBy_divert]
            refine if_pos (by_contra fun hno => hne ?_)
            obtain ⟨h0, h1⟩ := lostGrants_none (Bool.eq_false_iff.2 hno)
            exact Prod.ext ((happ.grants_eq_iff .d0).2 h0) ((happ.grants_eq_iff .d1).2 h1)
          · rw [Prod.mk.injEq] at heq
            obtain ⟨h0, h1⟩ := heq
            rw [SegRec.withdrawnBy_divert, (happ.grants_eq_iff .d0).1 h0, (happ.grants_eq_iff .d1).1 h1]
            rfl
          · rw [happ.withdrawn, happ.lost_length .d0, happ.lost_length .d1, hmark.counted, ← Nat.add_assoc]
            rfl
    · rw [State.takeNotice_of_new (s := s.frameHeard) (probe_eq_none_of_tag hs _ hnew) (tagTest_eq_none hs hnew),
        show freeHeld s.frameHeard.idt.entries = some i from freeHeld_eq hi hfree hbelow] at hexec
      exact ⟨_, hexec, hstored i id n⟩
    · rw [State.takeNotice_of_new (s := s.frameHeard) (probe_eq_none_of_tag hs _ hnew) (tagTest_eq_none hs hnew),
        show freeHeld s.frameHeard.idt.entries = none from freeHeld_eq_none hheld,
        show oldestHeld s.frameHeard.idt.entries 16 = some (i, e.age) from oldestHeld_eq hi he hst hmax] at hexec
      have hmanual : inState s.frameHeard.idt.entries i .manual = (e.state == .manual) := inState_eq he _
      simp only [State.countReuse, hmanual, beq_iff_eq] at hexec
      by_cases hmade : e.state = .manual
      · rw [if_pos hmade] at hexec ⊢
        obtain ⟨hidt, hcount, hrest⟩ := stored_spec (u := s.frameHeard.bump .manualReused) (htally.bump (a := .manualReused) (by simp)) rfl rfl
          (by simpa [OnlyParts] using hparts) (by simp) i id n
        exact ⟨_, hexec, hidt, hcount.of_mem (by simp; tauto), hrest⟩
      · rw [if_neg hmade] at hexec ⊢
        exact ⟨_, hexec, hstored i id n⟩
    · rw [State.takeNotice_of_new (s := s.frameHeard) (probe_eq_none_of_tag hs _ hnew) (tagTest_eq_none hs hnew),
        show freeHeld s.frameHeard.idt.entries = none from freeHeld_eq_none hheld,
        show oldestHeld s.frameHeard.idt.entries 16 = none from oldestHeld_eq_none hall] at hexec
      have hfull := (htally.bump (a := .idtFull) (by simp)).raise .idtFull
      exact ⟨_, hexec, hfull.counted, hfull.raised, rfl, by simpa [OnlyParts] using hparts⟩
    · rw [State.takeNotice_of_clash (s := s.frameHeard) (probe_eq_none hs hmiss) (htag.tagTest_eq he ht) he, if_pos hst] at hexec
      exact ⟨_, hexec, hclash.counted, hclash.raised, rfl, hclashed⟩
    · rw [State.takeNotice_of_clash (s := s.frameHeard) (probe_eq_none hs hmiss) (htag.tagTest_eq he ht) he, if_neg hst] at hexec
      exact ⟨_, hexec, stored_spec (u := s.frameHeard.bump .tagClash) hclash rfl rfl hclashed (by simp) i id n⟩

end Sys2Proof.Machine
end

section
/-! OBLIGATION PROOF. An M record at a desk: the sailing check, the decode, and the acceptance or the refusal (O34). -/

namespace Sys2Proof.Machine

open Sys2Proof

/-! ### The decode (R101, R102) -/

theorem serves_iff (g : Range) (sl : Sailing) : serves g sl = true
    ↔ (g.slot = .any ∧ sl ≠ .refused) ∨ (g.slot = .a ∧ sl = .a) ∨ (g.slot = .b ∧ sl = .b) := by
  cases h : g.slot <;> cases sl <;> simp [serves, h]

/-- The first range that serves the check result and includes the cabin. -/
theorem lookupRange_eq (ranges : List Range) (sl : Sailing) (cabin : Nat) : lookupRange ranges sl cabin
    = ranges.find? fun g => decide (g.low ≤ cabin ∧ cabin ≤ g.high
      ∧ ((g.slot = .any ∧ sl ≠ .refused) ∨ (g.slot = .a ∧ sl = .a) ∨ (g.slot = .b ∧ sl = .b))) := by
  rw [lookupRange]
  refine congrArg (fun p => ranges.find? p) (funext fun g => ?_)
  rw [Bool.eq_iff_iff, Bool.and_eq_true, serves_iff, decide_eq_true_eq, decide_eq_true_eq]
  tauto

theorem chooseChute_eq (v : Rrv) (g : Range) : chooseChute v g =
    if (v.entry g.primary).state ≠ .full ∧ (v.entry g.primary).state ≠ .closed then .primary g.primary
    else if g.overflow ≠ 0 ∧ (v.entry g.overflow).state ≠ .full ∧ (v.entry g.overflow).state ≠ .closed then .overflow g.overflow
    else if (v.entry g.primary).state = .full then .primaryFull g.primary
    else .unavailable := by
  have husable : ∀ x : ChuteState, x.usable = true ↔ x ≠ .full ∧ x ≠ .closed := fun x => by cases x <;> simp [ChuteState.usable]
  simp only [chooseChute, husable, Bool.and_eq_true, bne_iff_ne]

/-! ### The receipt of an M record (R60, R151) -/

section
variable {s t : State} {c : StationConfig} {rc : ReaderConfig} {held : List Byte} {id : Identity} {n : Nat}

/-- The record's own check goes before the desk's steps. -/
def State.deskReceived (valid : Bool) (s : State) : State := if valid then s.setAsm .idle none else (s.setAsm .idle none).bump .badCheck

theorem exec_deskRecord (hc : s.cfg = some c) (hdesk : c.desk = true) (hrc : c.readerSection = some rc) (ha : s.rdu.asm = .assembling held)
    (hlen : held.length = 21) (hm : held.head? = some letterM) : exec (.scanByte charCR false none) s
      = .next ((s.deskReceived (recordValid held)).deskRecord c rc (recordValid held) (recordIdentity held)) := by
  obtain ⟨digits, rfl⟩ := List.head?_eq_some_iff.1 hm
  rw [exec_completed (.inr rfl) hc ha (by simpa using hlen)]
  simp only [State.receipt, List.head?_cons, Option.some.injEq, show letterM ≠ letterN by decide, show letterM ≠ letterR by decide, if_false, hdesk, hrc,
    State.deskReceived]

theorem tallied_deskReceived (hs : SizeLaw s) : Tallied [] [] s (s.deskReceived true) ∧ Tallied [.badCheck] [] s (s.deskReceived false) :=
  ⟨(Tallied.refl hs).same rfl, ((Tallied.refl hs).same (u := s.setAsm .idle none) rfl).bump (a := .badCheck) (by simp)⟩

theorem State.deskReceived_parts (s : State) (valid : Bool) : OnlyParts [.rdu, .stu] s (s.deskReceived valid)
    ∧ (s.deskReceived valid).rdu = ⟨.idle, none⟩ := by
  cases valid <;> exact ⟨by simp [OnlyParts, State.deskReceived], rfl⟩

/-- A refusal is counted under its step. -/
theorem deskRefuse_spec {cs : List Ctr} {u : State} (h : Tallied cs [] s u) (hrdu : u.rdu = ⟨.idle, none⟩) (hparts : OnlyParts [.rdu, .stu] s u) {k : Ctr}
    (hk : k ∉ cs) : (u.deskRefuse k).rdu = ⟨.idle, none⟩ ∧ Counted (cs ++ [k]) s (u.deskRefuse k) ∧ Raised [.deskRefused] s (u.deskRefuse k)
      ∧ OnlyParts [.rdu, .stu] s (u.deskRefuse k) := by
  have hdone := (h.bump hk).raise .deskRefused
  exact ⟨hrdu, hdone.counted, hdone.raised, by simpa [OnlyParts, State.deskRefuse] using hparts⟩

/-- The steps of R151 in their order. -/
theorem State.deskRecord_eq (s : State) (c : StationConfig) (rc : ReaderConfig) (id : Identity) : s.deskRecord c rc true id =
    if sailingCheck rc id.sailing = .refused then s.deskRefuse .deskRefusedSailing
    else match decodeDestination c s.rrv (sailingCheck rc id.sailing) id.cabin with
      | .noCabin => s.deskRefuse .deskRefusedCabin
      | .unavailable => s.deskRefuse .deskRefusedClosed
      | .primary n => s.deskAccept c id n
      | .overflow n => s.deskAccept c id n
      | .primaryFull n => s.deskAccept c id n := rfl

theorem State.deskRecord_of_chute (hs : sailingCheck rc id.sailing ≠ .refused)
    (hn : n ∈ (decodeDestination c s.rrv (sailingCheck rc id.sailing) id.cabin).chute) : s.deskRecord c rc true id = s.deskAccept c id n := by
  rw [State.deskRecord_eq, if_neg hs]
  cases hd : decodeDestination c s.rrv (sailingCheck rc id.sailing) id.cabin <;> rw [hd] at hn <;>
    simp only [Decode.chute, Option.mem_def, Option.some.injEq, reduceCtorEq] at hn <;> subst hn <;> rfl

/-! ### The notice of an accepted record (R152) -/

/-- The notice is counted and queued. -/
def State.deskSent (id : Identity) (n : Nat) (s : State) : State := (s.bump .deskAccepted).queueFrame (.identityNotice id n)

theorem State.deskAccept_eq (s : State) (c : StationConfig) (id : Identity) (n : Nat) :
    s.deskAccept c id n = if c.reader then (s.deskSent id n).takeNotice c id n else s.deskSent id n := rfl

/-- What an accepted record has counted, queued and left before the reader's own table. -/
structure DeskSent (id : Identity) (n : Nat) (s u : State) : Prop where
  rdu : u.rdu = ⟨.idle, none⟩
  tally : TalliedBeside [.deskAccepted] [] s u
  notice : s.hlc.queue.length < 8 → Queued (.identityNotice id n) u
  frames : OnlyFrames s u
  idt : u.idt = s.idt
  parts : OnlyParts [.rdu, .hlc, .stu] s u

theorem deskSent_spec (hs : SizeLaw s) (id : Identity) (n : Nat) : DeskSent id n s ((s.deskReceived true).deskSent id n) := by
  have htally := (((TalliedBeside.refl hs).same (u := s.deskReceived true) rfl).bump (a := .deskAccepted) (by simp)).queueFrame
    (.identityNotice id n)
  have hparts : OnlyParts [.rdu, .hlc, .stu] s ((s.deskReceived true).deskSent id n) := by
    simp [OnlyParts, State.deskSent, State.deskReceived]
  refine ⟨by simp [State.deskSent, State.deskReceived], htally, fun hroom => ?_, ?_, by simp [State.deskSent, State.deskReceived], hparts⟩
  · exact queued_queueFrame (s := (s.deskReceived true).bump .deskAccepted) hroom _
  · rw [OnlyFrames, State.deskSent, State.queueFrame_hlc]
    rfl

/-- The reader's own entry is made like that of a received notice (R152, R94, R96). -/
theorem DeskSent.stored {u : State} (h : DeskSent id n s u) (i : Nat) : (u.storeNotice i id n).rdu = ⟨.idle, none⟩
    ∧ CountedBeside [.deskAccepted, .noticeStored] s (u.storeNotice i id n) ∧ RaisedBeside [] s (u.storeNotice i id n)
    ∧ (u.storeNotice i id n).idt
      = { s.idt with entries := s.idt.entries.set i (some ⟨id.tag, id.sailing, id.sailing == 0, id.cabin, n, .manual, .notice, 0⟩) }
    ∧ (s.hlc.queue.length < 8 → Queued (.identityNotice id n) (u.storeNotice i id n)) ∧ OnlyFrames s (u.storeNotice i id n)
    ∧ OnlyParts [.rdu, .idt, .hlc, .stu] s (u.storeNotice i id n) := by
  have htally := (h.tally.same (u := u.writeEntry i (noticeEntry id n .manual)) rfl).bump (a := .noticeStored) (by simp)
  have hstore : OnlyParts [.idt, .stu] u (u.storeNotice i id n) := by simp [OnlyParts, State.storeNotice, State.writeEntry, State.setEntries]
  refine ⟨h.rdu, htally.counted, htally.raised, ?_, h.notice, h.frames, (h.parts.trans hstore).mono (by decide)⟩
  rw [← h.idt]
  rfl

end

/-- Settles O34: the two tables, each refusing step of R151, and the acceptance of R152. -/
theorem deskRecordIsAcceptedOrRefused : Obligations.DeskRecordIsAcceptedOrRefused := by
  intro c rc held sl cabin code s hc htag hdesk hrc hs ha hlen hm
  have hexec := exec_deskRecord hc hdesk hrc ha hlen hm
  obtain ⟨hvalid, hbad⟩ := tallied_deskReceived hs
  have hrdu := fun v => (s.deskReceived_parts v).2
  have hparts := fun v => (s.deskReceived_parts v).1
  refine ⟨rfl, fun hr => ?_, fun g hg => ?_, fun hv => ?_, fun hv => ⟨fun hsl => ?_, fun hsl => ⟨fun hd => ?_, fun hd => ?_, fun n hn =>
    ⟨fun hr => ?_, fun hr => ⟨fun i hi hnew hfree hbelow => ?_, fun i hi e he hm hst => ?_⟩⟩⟩⟩⟩
  · rw [decodeDestination, lookupRange_eq, hr]
  · rw [decodeDestination, lookupRange_eq, Option.mem_def.1 hg]
    exact chooseChute_eq _ _
  · rw [hv] at hexec
    exact ⟨_, hexec, deskRefuse_spec hbad (hrdu false) (hparts false) (by decide)⟩
  · rw [hv, State.deskRecord_eq, if_pos hsl] at hexec
    exact ⟨_, hexec, deskRefuse_spec hvalid (hrdu true) (hparts true) (by decide)⟩
  · rw [hv, State.deskRecord_eq, if_neg hsl, show (s.deskReceived true).rrv = s.rrv from rfl, hd] at hexec
    exact ⟨_, hexec, deskRefuse_spec hvalid (hrdu true) (hparts true) (by decide)⟩
  · rw [hv, State.deskRecord_eq, if_neg hsl, show (s.deskReceived true).rrv = s.rrv from rfl, hd] at hexec
    exact ⟨_, hexec, deskRefuse_spec hvalid (hrdu true) (hparts true) (by decide)⟩
  all_goals
    have hsent := deskSent_spec hs (recordIdentity held) n
    rw [hv, State.deskRecord_of_chute (s := s.deskReceived true) hsl hn, State.deskAccept_eq, hr] at hexec
  · exact ⟨_, hexec, hsent.rdu, hsent.tally.counted, hsent.tally.raised, hsent.notice, hsent.frames, hsent.parts⟩
  · rw [if_pos rfl, State.takeNotice_of_new (by rw [hsent.idt]; exact probe_eq_none_of_tag hs _ hnew)
      (by rw [hsent.idt]; exact tagTest_eq_none hs hnew), hsent.idt, freeHeld_eq hi hfree hbelow] at hexec
    exact ⟨_, hexec, hsent.stored i⟩
  · rw [if_pos rfl, State.takeNotice_of_hit (by rw [hsent.idt]; exact htag.probe_eq he hm) (by rw [hsent.idt]; exact he) hst] at hexec
    exact ⟨_, hexec, hsent.stored i⟩

end Sys2Proof.Machine
end

section
/-! SUPPORT. What a complete read record holds and which records are its candidates (R64, R65, R66). -/

namespace Sys2Proof.Machine

open Sys2Proof

/-! ### The digits of a record (R64) -/

theorem decimal_digits (l : List Byte) : decimal (l.map digitOf) = l.foldl (fun n b => 10 * n + (b.toNat - 48)) 0 := by
  rw [decimal, List.foldl_map]
  rfl

/-- Each digit with its place. -/
theorem zipIdx_eq_map_range (l : List Nat) : l.zipIdx = (List.range l.length).map fun k => (l.getD k 0, k) := by
  refine List.ext_getElem (by simp) fun i h1 h2 => ?_
  have hi : i < l.length := by simpa using h1
  simp [List.getD_eq_getElem?_getD, List.getElem?_eq_getElem hi]

section
variable {held : List Byte} {sum : Nat}

theorem recordDigits_length (hlen : held.length = 21) : (recordDigits held).length = 19 := by
  simp [recordDigits, hlen]

theorem recordDigits_getD (hlen : held.length = 21) {k : Nat} (hk : k < 19) :
    (recordDigits held).getD k 0 = (held.getD (k + 1) 0).toNat - 48 := by
  have h1 : k + 1 < held.length := by omega
  have h2 : 1 + k < held.length := by omega
  simp only [recordDigits, List.getD_eq_getElem?_getD, List.getElem?_map, List.getElem?_take, if_pos hk, List.getElem?_drop,
    List.getElem?_eq_getElem h1, List.getElem?_eq_getElem h2, Option.map_some, Option.getD_some]
  simp only [digitOf, Nat.add_comm 1 k]

/-- The check is the sum of the digits with their multipliers modulo 11. -/
theorem checkDigits_eq (hlen : held.length = 21)
    (hsum : sum = ((List.range 19).map fun k => ((held.getD (k + 1) 0).toNat - 48) * [2, 3, 5, 7].getD (k % 4) 0).sum) :
    checkDigits (recordDigits held) = sum % 11 := by
  rw [checkDigits, zipIdx_eq_map_range, recordDigits_length hlen, List.map_map, hsum]
  refine congrArg (fun l : List Nat => l.sum % 11) (List.map_congr_left fun k hk => ?_)
  simp only [Function.comp_apply, multiplier, recordDigits_getD hlen (List.mem_range.1 hk)]

theorem recordValid_iff (hlen : held.length = 21)
    (hsum : sum = ((List.range 19).map fun k => ((held.getD (k + 1) 0).toNat - 48) * [2, 3, 5, 7].getD (k % 4) 0).sum) :
    recordValid held = true ↔ held.getD 20 0 = if sum % 11 = 10 then 0x58 else BitVec.ofNat 8 (48 + sum % 11) := by
  rw [recordValid, checkDigits_eq hlen hsum, beq_iff_eq]
  rfl

theorem recordIdentity_eq (held : List Byte) :
    (recordIdentity held).tag = ((held.drop 1).take 10).foldl (fun n b => 10 * n + (b.toNat - 48)) 0
      ∧ (recordIdentity held).sailing = ((held.drop 11).take 4).foldl (fun n b => 10 * n + (b.toNat - 48)) 0
      ∧ (recordIdentity held).cabin = ((held.drop 15).take 5).foldl (fun n b => 10 * n + (b.toNat - 48)) 0 := by
  refine ⟨?_, ?_, ?_⟩
  · show decimal ((recordDigits held).take 10) = _
    rw [recordDigits, ← List.map_take, List.take_take, decimal_digits]
    rfl
  · show decimal (((recordDigits held).drop 10).take 4) = _
    rw [recordDigits, ← List.map_drop, ← List.map_take, List.drop_take, List.take_take, List.drop_drop, decimal_digits]
    rfl
  · show decimal ((recordDigits held).drop 14) = _
    rw [recordDigits, ← List.map_drop, List.drop_take, List.drop_drop, decimal_digits]

end

/-! ### The candidates (R65, R66) -/

/-- The records that the read window held at the scan count. -/
theorem candidates_eq (rc : ReaderConfig) (s : State) : candidates rc s = s.btu.queue.filter fun (q : SegRec) => decide (
    fwd q.ein (s.btu.e - BitVec.ofNat 24 ((rc.latency * s.btu.v + 127) / 128)) < 2 ^ 23
    ∧ rc.pRead ≤ fwd q.ein (s.btu.e - BitVec.ofNat 24 ((rc.latency * s.btu.v + 127) / 128)) + rc.margin
    ∧ ∀ l ∈ q.len, fwd q.ein (s.btu.e - BitVec.ofNat 24 ((rc.latency * s.btu.v + 127) / 128)) ≤ rc.pRead + rc.margin + l) := by
  refine congrArg (fun p => s.btu.queue.filter p) (funext fun q => ?_)
  rw [Bool.eq_iff_iff]
  simp only [isCandidate, atOrAfter, Bool.and_eq_true, decide_eq_true_eq, Option.all_eq_true, and_assoc]
  rfl

section
variable {s : State} {c : StationConfig} {rc : ReaderConfig} {held : List Byte}

/-- The record is an N record, or an R record of 19 digits and a check character. -/
def ReadHeld (held : List Byte) : Prop := held = [letterN] ∨ (held.length = 21 ∧ held.head? = some letterR)

/-- What the record tells of the bag (R64, R69). -/
def scanOf (held : List Byte) : Scan :=
  if held = [letterN] then .noRead else if recordValid held then .valid (recordIdentity held) else .badCheck

/-- The receipt of a read, a bad check counted. -/
def State.readReceived (held : List Byte) (s : State) : State :=
  if held = [letterN] ∨ recordValid held = true then s.setAsm .idle none else (s.setAsm .idle none).bump .badCheck

theorem exec_readRecord {race : Option Race} (hc : s.cfg = some c) (hr : c.reader = true) (hrc : c.readerSection = some rc)
    (ha : s.rdu.asm = .assembling held) (hheld : ReadHeld held) : exec (.scanByte charCR false race) s
      = .next ((s.readReceived held).associate c rc (scanOf held) race) := by
  rcases hheld with rfl | ⟨hlen, hhead⟩
  · have hfit : fitByte [letterN] charCR = .complete := rfl
    simp only [exec_scanByte_assembling hc ha, State.byteAssembling, hfit, Bool.false_eq_true, if_false, State.receipt, List.head?_cons,
      if_true, hr, hrc]
    rfl
  · obtain ⟨digits, rfl⟩ := List.head?_eq_some_iff.1 hhead
    have hne : letterR :: digits ≠ [letterN] := by simp [show letterR ≠ letterN by decide]
    rw [exec_completed (.inl rfl) hc ha (by simpa using hlen)]
    simp only [State.receipt, List.head?_cons, Option.some.injEq, show letterR ≠ letterN by decide, if_false, if_true, hr, hrc,
      State.readReceived, scanOf, hne, false_or]

theorem State.readReceived_parts (s : State) (held : List Byte) : OnlyParts [.rdu, .stu] s (s.readReceived held)
    ∧ (s.readReceived held).rdu = ⟨.idle, none⟩ := by
  unfold State.readReceived
  split <;> exact ⟨by simp [OnlyParts], rfl⟩

theorem tallied_readReceived (hs : SizeLaw s) (held : List Byte) :
    Tallied (if held = [letterN] ∨ recordValid held = true then [] else [.badCheck]) [] s (s.readReceived held) := by
  unfold State.readReceived
  split
  · exact (Tallied.refl hs).same rfl
  · exact ((Tallied.refl hs).same (u := s.setAsm .idle none) rfl).bump (a := .badCheck) (by simp)

end

end Sys2Proof.Machine
end

section
/-! OBLIGATION PROOF. A read is taken by its candidates: none, several, or one of them (O33). -/

namespace Sys2Proof.Machine

open Sys2Proof

section
variable {s t u : State} {c : StationConfig} {rc : ReaderConfig} {held : List Byte} {r q : SegRec} {x : Reason} {refs : List RecRef}

/-- A change of records after a received read, in the terms of the statement. -/
theorem Confined.received (h : Confined refs (s.readReceived held) t) : OnlyParts [.btu, .rdu, .dvs, .hlc, .stu] s t ∧ OnlyFrames s t
    ∧ OnlyGrants s t ∧ t.btu = { s.btu with queue := t.btu.queue } ∧ t.rdu = ⟨.idle, none⟩ ∧ OnlyRecords refs s t := by
  obtain ⟨hparts, hrdu⟩ := s.readReceived_parts held
  have hsame : (s.readReceived held).btu = s.btu ∧ (s.readReceived held).hlc = s.hlc ∧ (s.readReceived held).dvs = s.dvs := by
    unfold State.readReceived
    split <;> exact ⟨rfl, rfl, rfl⟩
  obtain ⟨hbtu, hhlc, hdvs⟩ := hsame
  obtain ⟨-, -, -, -, hkept, -⟩ := h.parts
  refine ⟨(hparts.trans h.parts).mono (by decide), ?_, fun d => ?_, ?_, ?_, ?_⟩
  · rw [OnlyFrames, ← hhlc]
    exact h.frames
  · rw [← hdvs]
    exact h.grants d
  · rw [← hbtu]
    exact h.btu
  · rw [hkept.resolve_left (by decide), hrdu]
  · rw [OnlyRecords, ← hbtu]
    exact h.records

theorem State.readReceived_hlc (s : State) (held : List Byte) : (s.readReceived held).hlc = s.hlc := by
  unfold State.readReceived
  split <;> rfl

/-- A notice is told against the queue as it stood. -/
theorem StrayNoticed.of_source (h : StrayNoticed r x s t) (e : s.hlc = u.hlc) : StrayNoticed r x u t := by
  simpa only [StrayNoticed, e] using h

theorem findRec_readReceived (hslot : SlotLaw s) (hq : q ∈ s.btu.queue) : (s.readReceived held).findRec q.ref = some q := by
  have hqueue : (s.readReceived held).btu.queue = s.btu.queue := by unfold State.readReceived; split <;> rfl
  rw [State.findRec_congr hqueue]
  exact hslot.findRec_eq hq

theorem State.updateRec_of_found {ref : RecRef} (h : s.findRec ref = some r) (f : SegRec → SegRec) : s.updateRec ref f = s.mapRec ref f :=
  if_pos (by rw [h]; rfl)

/-! ### A failed read (R70) -/

/-- The record of a failed read, before any offer. -/
def SegRec.failed (r : SegRec) : SegRec := { r with readStatus := .noRead }

/-- What a failed read makes of the station. -/
structure ReadFailed (c : StationConfig) (r : SegRec) (x : Reason) (s t : State) : Prop where
  confined : Confined [r.ref] s t
  strays : StrayCounted (if r.ident = none then [(r.reason, x)] else []) s t
  noticed : r.ident = none → StrayNoticed r x s t
  found : ∃ q ∈ t.findRec r.ref, q.readStatus = .noRead ∧ q.ident = r.ident
    ∧ q.reason = (if r.ident = none ∧ r.reason = none then some x else r.reason)
    ∧ q.dest = (if r.ident = none ∧ r.reason = none then some c.problem else r.dest)
  ctr : ∀ k, k = .noRead ∨ k = .badCheck → t.ctr k = s.ctr k

theorem State.failedRead_spec (hs : s.stu.counters.length = 117) (h : s.findRec r.ref = some r) (hx : x.hard = false) (c : StationConfig) :
    ReadFailed c r x s (s.failedRead c r x) := by
  set m := s.mapRec r.ref SegRec.failed with hm
  have hfind : m.findRec r.failed.ref = some r.failed := State.findRec_mapRec s (f := SegRec.failed) (fun _ => rfl) h
  have heq : s.failedRead c r x = m.offerUnidentified c r.failed x := by
    rw [State.failedRead, State.updateRec_of_found h]
    rfl
  have hconf : Confined [r.ref] s m := (Confined.refl _ s).mapRec (f := SegRec.failed) (fun _ => rfl) (List.mem_singleton_self _)
  obtain ⟨v, hv⟩ := State.findRec_offerUnidentified hx hfind c
  rw [heq]
  refine ⟨hconf.offerUnidentified (r := r.failed) c x (List.mem_singleton_self _), StrayCounted.offerUnidentified (s := m) hs hfind c x,
    strayNoticed_offerUnidentified hfind c x, ⟨_, hv, rfl, rfl, rfl, rfl⟩, fun k hk => ?_⟩
  rcases hk with rfl | rfl <;>
    exact State.offerUnidentified_ctr (s := m) hs hfind c x (by decide) (by decide) rfl (by decide) (by decide) (by decide)

/-! ### A tag conflict (R71) -/

/-- What a tag conflict makes of the station. -/
structure Conflicted (c : StationConfig) (r : SegRec) (s t : State) : Prop where
  confined : Confined [r.ref] s t
  strays : StrayCounted [(r.reason, .tagConflict)] s t
  noticed : StrayNoticed r .tagConflict s t
  counted : t.ctr .tagConflict = satInc (s.ctr .tagConflict)
  raised : t.ev .readConflict = true
  found : ∃ q ∈ t.findRec r.ref, q.readStatus = .read ∧ q.ident = r.ident ∧ q.entry = r.entry
    ∧ q.reason = (if r.reason.all Reason.soft then some .tagConflict else r.reason)
    ∧ q.dest = (if r.reason.all Reason.soft then some c.problem else r.dest)

theorem State.conflict_spec (hs : s.stu.counters.length = 117) (hev : s.stu.events.length = 33) (h : s.findRec r.ref = some r)
    (c : StationConfig) : Conflicted c r s (s.conflict c r) := by
  set r' : SegRec := { r with readStatus := .read } with hr'
  set m := ((s.mapRec r.ref fun q => { q with readStatus := .read }).bump .tagConflict).raiseEv .readConflict with hm
  have hfind : m.findRec r'.ref = some r' := State.findRec_mapRec s (f := fun q => { q with readStatus := .read }) (fun _ => rfl) h
  have heq : s.conflict c r = m.offer c r'.ref .tagConflict := by
    rw [State.conflict, State.updateRec_of_found h]
    rfl
  have hconf : Confined [r.ref] s m := (((Confined.refl _ s).mapRec (f := fun q => { q with readStatus := .read }) (fun _ => rfl)
    (List.mem_singleton_self _)).bump _).raise _
  have hlen : m.stu.counters.length = 117 := by simpa [hm] using hs
  have hlen' : m.stu.events.length = 33 := by simpa [hm] using hev
  have hctr : ∀ k, m.ctr k = if k = .tagConflict then satInc (s.ctr k) else s.ctr k := fun k => by
    rw [hm, State.raiseEv_ctr, State.bump_ctr (by exact hs)]
    rfl
  obtain ⟨v, hv⟩ := State.findRec_offer hfind c .tagConflict
  obtain ⟨hreason, hdest⟩ := SegRec.offered_hard (c := c) (x := .tagConflict) rfl r'
  rw [heq]
  refine ⟨hconf.offer c _ (List.mem_singleton_self _), ?_, strayNoticed_offer (s := m) hfind c .tagConflict, ?_, ?_, ⟨_, hv, ?_⟩⟩
  · exact (StrayCounted.offer hlen hfind c .tagConflict).congr (fun k hk => (hctr k).trans (if_neg (by rcases hk with rfl | rfl | rfl <;> decide)))
      fun _ _ => rfl
  · rw [State.offer_ctr_of_ne hlen hfind c _ (by decide) (by decide) rfl (by decide) (by decide) (by decide), hctr, if_pos rfl]
  · rw [State.offer_ev hlen' c _ _ (by decide), hm, State.raiseEv_ev (by exact hev)]
    simp
  · refine ⟨?_, ?_, ?_, hreason, hdest⟩ <;> rw [SegRec.offered_rest]

/-! ### An ambiguous read (R68) -/

/-- The candidates that an ambiguous read reaches. -/
def unreadOf (rs : List SegRec) : List SegRec := rs.filter (·.readStatus != .read)

/-- The record marked, before the offer. -/
def SegRec.marked (r : SegRec) : SegRec := { r with ambiguous := true }

/-- What an ambiguous read makes of the station. -/
structure Ambiguated (c : StationConfig) (rs : List SegRec) (s t : State) : Prop where
  confined : Confined ((unreadOf rs).map SegRec.ref) s t
  found : ∀ q ∈ rs, q.readStatus ≠ .read → ∃ v, t.findRec q.ref = some { q.marked.offered c .ambiguous with divert := v }
  strays : StrayCounted ((unreadOf rs).map fun q => (q.reason, Reason.ambiguous)) s t
  counters : t.stu.counters.length = 117
  events : t.stu.events.length = 33
  ctr : t.ctr .ambiguousRead = s.ctr .ambiguousRead
  ev : t.ev .ambiguousRead = s.ev .ambiguousRead

theorem State.ambiguousCandidate_spec (hs : s.stu.counters.length = 117) (hev : s.stu.events.length = 33) (h : s.findRec r.ref = some r)
    (c : StationConfig) : Ambiguated c [r] s (s.ambiguousCandidate c r) := by
  by_cases hread : r.readStatus = .read
  · have hnone : unreadOf [r] = [] := by simp [unreadOf, hread]
    rw [State.ambiguousCandidate, if_pos hread]
    refine ⟨.refl _ s, fun q hq hn => ?_, by rw [hnone]; exact .of_same fun _ _ => rfl, hs, hev, rfl, rfl⟩
    rw [List.mem_singleton.1 hq] at hn
    exact absurd hread hn
  · have hone : unreadOf [r] = [r] := by simp [unreadOf, hread]
    set m := s.mapRec r.ref SegRec.marked with hm
    have hfind : m.findRec r.marked.ref = some r.marked := State.findRec_mapRec s (f := SegRec.marked) (fun _ => rfl) h
    have heq : s.ambiguousCandidate c r = m.offer c r.marked.ref .ambiguous := by
      rw [State.ambiguousCandidate, if_neg hread, State.updateRec_of_found h]
      rfl
    have hconf : Confined [r.ref] s m := (Confined.refl _ s).mapRec (f := SegRec.marked) (fun _ => rfl) (List.mem_singleton_self _)
    obtain ⟨v, hv⟩ := State.findRec_offer hfind c .ambiguous
    rw [heq]
    refine ⟨?_, fun q hq _ => ⟨v, ?_⟩, ?_, ?_, ?_, ?_, ?_⟩
    · rw [hone]
      exact hconf.offer (ref := r.marked.ref) c _ (List.mem_singleton_self _)
    · rw [List.mem_singleton.1 hq]
      exact hv
    · rw [hone]
      exact StrayCounted.offer (s := m) hs hfind c .ambiguous
    · rw [(m.offer_stu_lengths c _ _).1]; exact hs
    · rw [(m.offer_stu_lengths c _ _).2]; exact hev
    · exact State.offer_ctr_of_ne (s := m) hs hfind c _ (by decide) (by decide) rfl (by decide) (by decide) (by decide)
    · exact State.offer_ev (s := m) hev c _ _ (by decide)

theorem ambiguousCandidates_spec (c : StationConfig) {rs : List SegRec} (hnodup : (rs.map SegRec.ref).Nodup) {s : State}
    (hs : s.stu.counters.length = 117) (hev : s.stu.events.length = 33) (hslot : SlotLaw s) (h : ∀ q ∈ rs, s.findRec q.ref = some q) :
    Ambiguated c rs s (rs.foldl (fun t r => t.ambiguousCandidate c r) s) := by
  induction rs generalizing s with
  | nil => exact ⟨.refl _ s, by simp, .of_same fun _ _ => rfl, hs, hev, rfl, rfl⟩
  | cons r rs ih =>
    obtain ⟨hfresh, hnodup⟩ := List.nodup_cons.1 hnodup
    have hone := State.ambiguousCandidate_spec hs hev (h r List.mem_cons_self) c
    have hwithin : Confined [r.ref] s (s.ambiguousCandidate c r) := hone.confined.mono (by
      intro ref href
      obtain ⟨q, hq, rfl⟩ := List.mem_map.1 href
      rw [List.mem_singleton.1 (List.mem_filter.1 hq).1]
      exact List.mem_singleton_self _)
    have hslot' := hwithin.records.slotLaw hslot
    have hne : ∀ q ∈ rs, q.ref ≠ r.ref := fun q hq e => hfresh (e ▸ List.mem_map_of_mem hq)
    have hrest := ih hnodup hone.counters hone.events hslot' fun q hq =>
      hwithin.records.findRec hslot (h q (List.mem_cons_of_mem _ hq)) (by simpa using hne q hq)
    have happend : unreadOf (r :: rs) = unreadOf [r] ++ unreadOf rs := by rw [unreadOf, unreadOf, unreadOf, ← List.filter_append]; rfl
    have hsub : ∀ q ∈ unreadOf rs, q ∈ rs := fun q hq => (List.mem_filter.1 hq).1
    refine ⟨?_, fun q hq hread => ?_, ?_, hrest.counters, hrest.events, hrest.ctr.trans hone.ctr, hrest.ev.trans hone.ev⟩
    · rw [happend, List.map_append]
      exact (hone.confined.mono (List.subset_append_left _ _)).trans (hrest.confined.mono (List.subset_append_right _ _))
    · rcases List.mem_cons.1 hq with rfl | hq
      · obtain ⟨v, hv⟩ := hone.found q List.mem_cons_self hread
        refine ⟨v, hrest.confined.records.findRec hslot' hv fun hm => ?_⟩
        obtain ⟨p, hp, hpq⟩ := List.mem_map.1 hm
        exact hne p (hsub p hp) hpq
      · exact hrest.found q hq hread
    · rw [happend, List.map_append]
      exact hone.strays.trans hrest.strays

end

section
variable {s : State} {c : StationConfig} {rc : ReaderConfig} {scan : Scan} {race : Option Race} {r : SegRec}

/-! ### The branches of R67 to R69 -/

theorem State.associate_of_none (h : candidates rc s = []) : s.associate c rc scan race = (s.bump .unassociated).raiseEv .unassociated := by
  simp only [State.associate, h]

theorem State.associate_of_one (h : candidates rc s = [r]) : s.associate c rc scan race = s.singleRead c rc scan r race := by
  simp only [State.associate, h]

theorem State.associate_of_several (h : 2 ≤ (candidates rc s).length) : s.associate c rc scan race = s.ambiguousRead c (candidates rc s) := by
  simp only [State.associate]
  split
  · rename_i he; simp [he] at h
  · rename_i he; simp [he] at h
  · rfl

theorem candidates_readReceived (rc : ReaderConfig) (s : State) (held : List Byte) : candidates rc (s.readReceived held) = candidates rc s := by
  unfold State.readReceived
  split <;> rfl

theorem sameTag_iff (i j : Identity) : i.sameTag j = true ↔ i.tag = j.tag ∧ i.sailing = j.sailing := by
  simp [Identity.sameTag]

end

/-- Settles O33: the check and the candidates, then R67, R68, R70 for a failed read and a bad check, R69's double read, and R71. -/
theorem readIsTakenByItsCandidates : Obligations.ReadIsTakenByItsCandidates := by
  intro c rc held sum r s hc hr hrc hs hslot ha hheld hsum
  have hexec := exec_readRecord (race := none) hc hr hrc ha hheld
  have htally := tallied_readReceived hs held
  obtain ⟨hparts, hrdu⟩ := s.readReceived_parts held
  have hcands := candidates_readReceived rc s held
  set u := s.readReceived held with hu
  have hin : ∀ q ∈ candidates rc s, q ∈ s.btu.queue := fun q hq => (List.mem_filter.1 hq).1
  have hkept : ∀ k, k ≠ .badCheck → u.ctr k = s.ctr k := fun k hk =>
    (htally.counted k).trans (if_neg (by split <;> simp [hk]))
  have hstray : ∀ k, k = .straySet ∨ k = .strayReplaced ∨ k = .strayKept → u.ctr k = s.ctr k := fun k hk =>
    hkept k (by rcases hk with rfl | rfl | rfl <;> decide)
  refine ⟨candidates_eq rc s, fun hlen => ⟨recordValid_iff hlen hsum, recordIdentity_eq held⟩, fun hnone => ?_, fun hmany => ?_,
    fun hone hN hread => ?_, fun hone hR hbad => ⟨fun hread => ?_, fun hread => ?_⟩, fun hone hread hsame => ?_, fun hone hR hvalid hother => ?_⟩
  · rw [State.associate_of_none (hcands.trans hnone)] at hexec
    have hdone := (htally.bump (a := .unassociated) (by split <;> simp)).raise .unassociated
    refine ⟨_, hexec, hrdu, hdone.counted.of_mem fun k => ?_, hdone.raised, by simpa [OnlyParts] using hparts⟩
    split
    · simp
    · simp only [List.mem_append, List.mem_cons, List.not_mem_nil, or_false]
      exact or_comm
  · rw [State.associate_of_several (hcands ▸ hmany), hcands] at hexec
    set v := (u.bump .ambiguousRead).raiseEv .ambiguousRead with hv
    have hnodup : ((candidates rc s).map SegRec.ref).Nodup := hslot.refs_nodup.sublist (List.filter_sublist.map _)
    have hconf : ∀ refs, Confined refs u v := fun refs => ((Confined.refl refs u).bump _).raise _
    have hlen : v.stu.counters.length = 117 := by simpa [hv] using htally.counters
    have hlen' : v.stu.events.length = 33 := by simpa [hv] using htally.events
    have hfind : ∀ q ∈ candidates rc s, v.findRec q.ref = some q := fun q hq => findRec_readReceived hslot (hin q hq)
    have hslot' : SlotLaw v := by
      obtain ⟨-, -, -, -, -, hrecs⟩ := (hconf []).received
      exact hrecs.slotLaw hslot
    have hamb := ambiguousCandidates_spec c hnodup hlen hlen' hslot' hfind
    obtain ⟨h1, h2, h3, h4, h5, hrefs, hsame⟩ := ((hconf _).trans hamb.confined).received
    refine ⟨_, hexec, h1, h2, h3, h4, h5, hrefs, fun q hq hno => hsame q hq fun hm => ?_, fun q hq hread => ?_, ?_, ?_, ?_⟩
    · obtain ⟨p, hp, hpq⟩ := List.mem_map.1 hm
      obtain ⟨hpc, hpread⟩ := List.mem_filter.1 hp
      obtain rfl := hslot.ref_inj (hin p hpc) hq hpq
      rcases hno with hno | hno
      · exact hno hpc
      · simp [hno] at hpread
    · obtain ⟨w, hw⟩ := hamb.found q hq hread
      obtain ⟨hreason, hdest⟩ := SegRec.offered_soft (c := c) (x := .ambiguous) rfl q.marked
      refine ⟨_, hw, ?_, ?_, ?_, hreason, hdest⟩ <;> rw [SegRec.offered_rest] <;> rfl
    · refine hamb.strays.congr (fun k hk => ?_) fun _ _ => rfl
      rw [hv, State.raiseEv_ctr, State.bump_ctr_of_ne _ (by rcases hk with rfl | rfl | rfl <;> decide), hstray k hk]
    · refine hamb.ctr.trans ?_
      rw [hv, State.raiseEv_ctr, State.bump_ctr htally.counters, if_pos rfl, hkept _ (by decide)]
    · refine hamb.ev.trans ?_
      rw [hv, State.raiseEv_ev (by simpa using htally.events)]
      simp
  all_goals
    have hmem : r ∈ s.btu.queue := hin r (by simp [hone])
    have hfind : u.findRec r.ref = some r := findRec_readReceived hslot hmem
    rw [State.associate_of_one (hcands.trans hone)] at hexec
  · subst hN
    have heq : u.singleRead c rc (scanOf [letterN]) r none = (u.bump .noRead).failedRead c r .noRead := if_neg hread
    have hfail := State.failedRead_spec (s := u.bump .noRead) (by simpa using htally.counters) hfind (x := .noRead) rfl c
    obtain ⟨h1, h2, h3, h4, h5, h6⟩ := (((Confined.refl _ u).bump .noRead).trans hfail.confined).received
    refine ⟨_, hexec.trans (congrArg _ heq), h1, h2, h3, h4, h5, ?_, ?_, fun hn => ?_, h6, hfail.found⟩
    · rw [hfail.ctr _ (.inl rfl), State.bump_ctr htally.counters, if_pos rfl, hkept _ (by decide)]
    · refine hfail.strays.congr (fun k hk => ?_) fun _ _ => rfl
      rw [State.bump_ctr_of_ne _ (by rcases hk with rfl | rfl | rfl <;> decide), hstray k hk]
    · exact (hfail.noticed hn).of_source (State.readReceived_hlc s _)
  · have hscan : scanOf held = .badCheck := by rw [scanOf, if_neg hR, if_neg (by simp [hbad])]
    have heq : u.singleRead c rc (scanOf held) r none = u.failedRead c r .badCheck := by rw [hscan]; exact if_neg hread
    have hfail := State.failedRead_spec htally.counters hfind (x := .badCheck) rfl c
    obtain ⟨h1, h2, h3, h4, h5, h6⟩ := hfail.confined.received
    refine ⟨_, hexec.trans (congrArg _ heq), h1, h2, h3, h4, h5, ?_, hfail.strays.congr hstray fun _ _ => rfl, fun hn => ?_, ?_, h6, hfail.found⟩
    · rw [hfail.ctr _ (.inr rfl), htally.counted, if_neg (show ¬ (held = [letterN] ∨ recordValid held = true) by simp [hR, hbad])]
      simp
    · exact (hfail.noticed hn).of_source (State.readReceived_hlc s _)
    · rw [hfail.ctr _ (.inl rfl), hkept _ (by decide)]
  · have hscan : scanOf held = .badCheck := by rw [scanOf, if_neg hR, if_neg (by simp [hbad])]
    have heq : u.singleRead c rc (scanOf held) r none = u := by rw [hscan]; exact if_pos hread
    rw [if_neg (show ¬ (held = [letterN] ∨ recordValid held = true) by simp [hR, hbad])] at htally
    exact ⟨_, hexec.trans (congrArg _ heq), hrdu, htally.counted, htally.raised, hparts⟩
  · have hgood : held = [letterN] ∨ recordValid held = true := hsame.imp_right fun h => h.2.1
    have heq : u.singleRead c rc (scanOf held) r none = u.bump .doubleRead := by
      rcases hsame with hN | ⟨hR, hvalid, hid⟩
      · rw [scanOf, if_pos hN]
        exact if_pos hread
      · rw [scanOf, if_neg hR, if_pos hvalid]
        exact if_pos ⟨hread, hid⟩
    rw [if_pos hgood] at htally
    have hdone := htally.bump (a := .doubleRead) (by simp)
    exact ⟨_, hexec.trans (congrArg _ heq), hrdu, hdone.counted, hdone.raised, by simpa [OnlyParts] using hparts⟩
  · obtain ⟨i, hi, hne⟩ := hother
    have hdiffer : i.sameTag (recordIdentity held) = false := Bool.eq_false_iff.2 fun h => hne ((sameTag_iff _ _).1 h)
    have heq : u.singleRead c rc (scanOf held) r none = u.conflict c r := by
      rw [scanOf, if_neg hR, if_pos hvalid, State.singleRead, Option.mem_def.1 hi]
      simp [hdiffer]
    have hconflict := State.conflict_spec htally.counters htally.events hfind c
    obtain ⟨h1, h2, h3, h4, h5, h6⟩ := hconflict.confined.received
    refine ⟨_, hexec.trans (congrArg _ heq), h1, h2, h3, h4, h5, ?_, hconflict.strays.congr hstray fun _ _ => rfl,
      hconflict.noticed.of_source (State.readReceived_hlc s _), hconflict.raised, h6, hconflict.found⟩
    rw [hconflict.counted, hkept _ (by decide)]

end Sys2Proof.Machine
end

section
/-! SUPPORT. The bytes of a STATUS_REPLY (R181), and the state between the reply to a query and its segment clear (R180). -/

namespace Sys2Proof.Machine

open Sys2Proof

/-! ### Bits packed into bytes -/

theorem bitsNat_append (a b : List Bool) : bitsNat (a ++ b) = bitsNat a * 2 ^ b.length + bitsNat b := by
  induction a with
  | nil => simp [bitsNat]
  | cons x a ih =>
    rw [List.cons_append, bitsNat_cons, ih, bitsNat_cons, List.length_append]
    ring

theorem bitsNat_lt (l : List Bool) : bitsNat l < 2 ^ l.length := by
  induction l with
  | nil => simp [bitsNat]
  | cons b l ih =>
    rw [bitsNat_cons, List.length_cons, pow_succ]
    have : b.toNat ≤ 1 := Bool.toNat_le b
    nlinarith

/-- The bits stand from the high end. -/
theorem testBit_bitsNat {l : List Bool} {i : Nat} (h : i < l.length) : (bitsNat l).testBit (l.length - 1 - i) = l[i] := by
  induction l generalizing i with
  | nil => simp at h
  | cons b l ih =>
    rw [bitsNat_cons, Nat.mul_comm, Nat.testBit_two_pow_mul_add _ (bitsNat_lt l)]
    cases i with
    | zero => cases b <;> simp
    | succ i =>
      have hi : i < l.length := by simpa using h
      rw [if_pos (by simp; omega), List.getElem_cons_succ, ← ih hi]
      congr 1
      simp
      omega

theorem packBits_eight {l : List Bool} (h : l.length = 8) : packBits l = [BitVec.ofNat 8 (bitsNat l)] := by
  have hself : l.take 8 = l := List.take_of_length_le h.le
  simp [packBits, h, hself]

theorem toNat_packed {l : List Bool} (h : l.length = 8) : (BitVec.ofNat 8 (bitsNat l)).toNat = bitsNat l := by
  have := bitsNat_lt l
  rw [BitVec.toNat_ofNat]
  exact Nat.mod_eq_of_lt (h ▸ this)

theorem getLsbD_packed {l : List Bool} (h : l.length = 8) {i : Nat} (hi : i < l.length) :
    (BitVec.ofNat 8 (bitsNat l)).getLsbD (7 - i) = l[i] := by
  rw [← BitVec.testBit_toNat, toNat_packed h, ← testBit_bitsNat hi, h]

theorem natBits_flag (b : Bool) : natBits 1 b.toNat = [b] := by cases b <;> rfl

theorem flatMap_flagItem (bs : List Bool) : ((bs.map flagItem).flatMap fun i => natBits i.1 i.2) = bs := by
  induction bs with
  | nil => rfl
  | cons b bs ih => simpa [flagItem, natBits_flag] using ih

theorem packItems_flags (bs : List Bool) : packItems (bs.map flagItem) = packBits bs := by rw [packItems, flatMap_flagItem]

/-! ### The head of a reply -/

section
variable {s : State} {c : StationConfig} {q : Query}

/-- The places of the second, third and fourth byte. -/
def State.headBits (q : Query) (s : State) : List (List Bool) :=
  [natBits 4 s.hlc.queue.length ++ [false] ++ natBits 3 s.hlc.line.code
  , Block.all.map s.summary ++ [s.btu.blockedFlag]
  , natBits 2 s.btu.speed.code ++ [s.btu.permit, q.zero, q.clear, false, false, false]]

theorem State.length_headBits (q : Query) (s : State) : ∀ l ∈ s.headBits q, l.length = 8 := by
  simp [State.headBits, Block.all]

theorem State.replyHead_eq (q : Query) (s : State) :
    s.replyHead q = q.tag :: (s.headBits q).map fun l => BitVec.ofNat 8 (bitsNat l) := by
  have hline : packItems [(4, s.hlc.queue.length), (1, 0), (3, s.hlc.line.code)]
      = packBits (natBits 4 s.hlc.queue.length ++ [false] ++ natBits 3 s.hlc.line.code) := by
    simp [packItems, show natBits 1 0 = [false] from rfl]
  have hblocks : packItems (Block.all.map (fun b => flagItem (s.summary b)) ++ [flagItem s.btu.blockedFlag])
      = packBits (Block.all.map s.summary ++ [s.btu.blockedFlag]) := by
    rw [← packItems_flags]
    simp [Function.comp_def]
  have hmarks : packItems [(2, s.btu.speed.code), flagItem s.btu.permit, flagItem q.zero, flagItem q.clear, (3, 0)]
      = packBits (natBits 2 s.btu.speed.code ++ [s.btu.permit, q.zero, q.clear, false, false, false]) := by
    simp [packItems, flagItem, natBits_flag, show natBits 3 0 = [false, false, false] from rfl]
  rw [State.replyHead, hline, hblocks, hmarks]
  have h := s.length_headBits q
  simp only [State.headBits, List.forall_mem_cons] at h
  obtain ⟨h1, h2, h3, -⟩ := h
  rw [packBits_eight h1, packBits_eight h2, packBits_eight h3]
  rfl

theorem State.reply_drop (c : StationConfig) (q : Query) (s : State) : (s.reply c q).drop 4 = s.replyBody c q.group q.page := by
  rw [State.reply, State.replyHead_eq]
  rfl

/-- What the head of a reply tells (R181). -/
structure HeadTells (q : Query) (s : State) (bytes : List Byte) : Prop where
  tag : bytes.getD 0 0 = q.tag
  line : (bytes.getD 1 0).toNat % 8 = s.hlc.line.code
  waiting : (bytes.getD 1 0).toNat / 16 = s.hlc.queue.length
  speed : (bytes.getD 3 0).toNat / 64 = s.btu.speed.code
  permit : (bytes.getD 3 0).getLsbD 5 = s.btu.permit
  zero : (bytes.getD 3 0).getLsbD 4 = q.zero
  clear : (bytes.getD 3 0).getLsbD 3 = q.clear
  blocks : ∀ b ∈ Block.all.zipIdx, (bytes.getD 2 0).getLsbD (7 - b.2) = s.summary b.1
  flag : (bytes.getD 2 0).getLsbD 0 = s.btu.blockedFlag

theorem State.reply_head (hroom : s.hlc.queue.length < 16) (c : StationConfig) (q : Query) : HeadTells q s (s.reply c q) := by
  have hbytes : s.reply c q = (q.tag :: (s.headBits q).map fun l => BitVec.ofNat 8 (bitsNat l)) ++ s.replyBody c q.group q.page := by
    rw [State.reply, State.replyHead_eq]
  have h := s.length_headBits q
  simp only [State.headBits, List.forall_mem_cons] at h
  obtain ⟨hline, hblocks, hmarks, -⟩ := h
  have hcode : s.hlc.line.code < 8 := by cases s.hlc.line <;> decide
  have hspeed : s.btu.speed.code < 4 := by cases s.btu.speed <;> decide
  have h1 : ((s.reply c q).getD 1 0).toNat = s.hlc.queue.length * 16 + s.hlc.line.code := by
    rw [hbytes]
    refine (toNat_packed hline).trans ?_
    rw [bitsNat_append, bitsNat_append, bitsNat_natBits, bitsNat_natBits]
    simp [bitsNat]
    omega
  have h2 : (s.reply c q).getD 2 0 = BitVec.ofNat 8 (bitsNat (Block.all.map s.summary ++ [s.btu.blockedFlag])) := by
    rw [hbytes]
    rfl
  have h3 : (s.reply c q).getD 3 0
      = BitVec.ofNat 8 (bitsNat (natBits 2 s.btu.speed.code ++ [s.btu.permit, q.zero, q.clear, false, false, false])) := by
    rw [hbytes]
    rfl
  have hmark : ∀ i (hi : i < 6), (BitVec.ofNat 8 (bitsNat (natBits 2 s.btu.speed.code ++ [s.btu.permit, q.zero, q.clear, false, false, false]))).getLsbD
      (5 - i) = [s.btu.permit, q.zero, q.clear, false, false, false][i] := by
    intro i hi
    rw [show 5 - i = 7 - (i + 2) by omega, getLsbD_packed hmarks (by simp; omega), List.getElem_append_right (by simp)]
    simp
  refine ⟨by rw [hbytes]; rfl, by omega, by omega, ?_, ?_, ?_, ?_, fun b hb => ?_, ?_⟩
  · rw [h3, toNat_packed hmarks, bitsNat_append, bitsNat_natBits]
    have := bitsNat_lt [s.btu.permit, q.zero, q.clear, false, false, false]
    simp at this ⊢
    omega
  · rw [h3]; exact hmark 0 (by decide)
  · rw [h3]; exact hmark 1 (by decide)
  · rw [h3]; exact hmark 2 (by decide)
  · obtain ⟨b, i⟩ := b
    have hget := List.mk_mem_zipIdx_iff_getElem?.1 hb
    obtain ⟨hi, rfl⟩ := List.getElem?_eq_some_iff.1 hget
    rw [h2, getLsbD_packed hblocks (by simp; omega), List.getElem_append_left (by simpa using hi)]
    simp
  · rw [h2]
    exact getLsbD_packed hblocks (i := 7) (by simp [Block.all])

/-! ### The pages -/

theorem State.page8_bits (hc : s.cfg = some c) : packItems s.page8 = packBits (s.stu.events
    ++ ([Div.d0, .d1].flatMap fun d => [(s.dvs.get d).inState .full, (s.dvs.get d).inState .closed])
    ++ [s.hlc.line == .quiet, s.hlc.line == .lineFault, s.hlc.dup, false]) := by
  have hvalid : s.cfl.load.isInvalid = false := by
    unfold State.cfg at hc
    cases hl : s.cfl.load with
    | valid c' => rfl
    | loading => simp [hl] at hc
    | invalid r => simp [hl] at hc
  rw [State.page8, packItems_flags, hvalid]
  simp only [List.append_assoc]
  rfl

theorem sourceItems_eq (n : Nat) (u : Upstream) : sourceItems (n != 0) u
    = [(2, if n = 0 then 0 else u.reported.code), (10, if n = 0 then 0 else u.vsrc), (1, if n = 0 then 0 else u.silent.toNat)] := by
  by_cases h : n = 0 <;> simp [sourceItems, flagItem, h]

theorem State.page9_eq (c : StationConfig) (s : State) : s.page9 c
    = [(5, s.btu.queue.length), (5, (s.btu.queue.filter fun r => r.reason.any Reason.soft).length)
      , (5, (s.btu.queue.filter fun r => r.reason.any Reason.hard).length), (4, s.btu.expects.length)
      , (2, if c.upA = 0 then 0 else s.btu.upA.reported.code), (10, if c.upA = 0 then 0 else s.btu.upA.vsrc)
      , (1, if c.upA = 0 then 0 else s.btu.upA.silent.toNat)
      , (2, if c.upB = 0 then 0 else s.btu.upB.reported.code), (10, if c.upB = 0 then 0 else s.btu.upB.vsrc)
      , (1, if c.upB = 0 then 0 else s.btu.upB.silent.toNat)
      , (1, s.btu.down.heard.toNat), (1, s.btu.down.lastBlocked.toNat), (1, s.btu.down.silent.toNat), (2, s.hlc.tally)] := by
  rw [State.page9, sourceItems_eq, sourceItems_eq]
  rfl

theorem accountItems_none_bits : ((accountItems none).flatMap fun i => natBits i.1 i.2) = List.replicate 37 false := by decide

theorem accountItems_some_bits (a : Account) : ((accountItems (some a)).flatMap fun i => natBits i.1 i.2)
    = natBits 5 a.chute ++ natBits 3 a.state.code ++ natBits 12 a.fill ++ natBits 12 a.capacity ++ [a.fullSensor, a.closeSwitch]
      ++ natBits 3 a.lastSent.code := by
  simp [accountItems, flagItem, natBits_flag]

theorem State.viewPage_bits (s : State) (k : Nat) : packItems (s.viewPage k)
    = packBits (((s.rrv.view.drop (8 * k)).take 8).flatMap fun v =>
        natBits 3 v.state.code ++ natBits 2 v.age ++ natBits 6 v.owner ++ natBits 4 (if v.capacity = 0 then 0
          else min 15 (16 * v.fill / v.capacity))) := by
  rw [packItems, State.viewPage, List.flatMap_assoc]
  simp [ViewEntry.items, fillShare]

end

/-! ### The zeroing and the clearing of event bits -/

theorem ctorIdx_lt_counters (k : Ctr) : k.ctorIdx < 117 := by cases k <;> decide

theorem State.zeroGroup_ctr (s : State) {g : Nat} (hg : g ≠ 0) (k : Ctr) : (s.zeroGroup g).ctr k
    = if (groupSpan g).1 ≤ k.ctorIdx ∧ k.ctorIdx < (groupSpan g).1 + (groupSpan g).2 then 0 else s.ctr k := by
  rw [State.zeroGroup, if_neg hg]
  simp only [State.ctr, List.getD_eq_getElem?_getD, List.getElem?_mapIdx]
  cases s.stu.counters[k.ctorIdx]? <;> simp

theorem State.zeroGroup_btu (s : State) (g : Nat) : (s.zeroGroup g).btu = { s.btu with flow := (s.zeroGroup g).btu.flow } := by
  unfold State.zeroGroup
  split <;> rfl

theorem State.zeroGroup_zero (s : State) : (s.zeroGroup 0).btu.flow = ⟨BitVec.ofNat 32 s.btu.queue.length, 0, 0, 0, 0, 0, 0⟩ := rfl

theorem State.zeroGroup_ev (s : State) (g : Nat) (e : Ev) : (s.zeroGroup g).ev e = s.ev e := by
  unfold State.zeroGroup
  split <;> rfl

theorem State.clearEvents_ctr (s : State) (mask : Byte) (k : Ctr) : (s.clearEvents mask).ctr k = s.ctr k := rfl

theorem State.clearEvents_ev (s : State) (mask : Byte) (e : Ev) : (s.clearEvents mask).ev e
    = (s.ev e && !(Block.all.zipIdx.any fun p => mask.getLsbD (7 - p.2)
        && decide (p.1.events.1 ≤ e.ctorIdx ∧ e.ctorIdx < p.1.events.1 + p.1.events.2))) := by
  simp only [State.ev, State.clearEvents, List.getD_eq_getElem?_getD, List.getElem?_mapIdx, maskBit]
  cases s.stu.events[e.ctorIdx]? <;> simp

end Sys2Proof.Machine
end

section
/-! OBLIGATION PROOF. A status query taken in the order of R180 (O45). -/

namespace Sys2Proof.Machine

open Sys2Proof

section
variable {s : State} {c : StationConfig} {q : Query}

/-- A frame of a lower kind than one that waits always joins (R168). -/
theorem fresh_mem_enqueue_of_kind_lt {f : Frame} {o : OutFrame} {l : List OutFrame} (ho : o ∈ l) (hw : o.sending = false)
    (hk : f.kind < o.kind) : .fresh f ∈ enqueue f l := by
  have hf : (OutFrame.fresh f).overtakenBy f = .fresh f := OutFrame.overtakenBy_of_waiting rfl f
  have hhigh : f.kind < highestWaiting l := hk.trans_le (kind_le_highestWaiting ho hw)
  unfold enqueue
  split_ifs with hany hroom
  · exact List.mem_map.2 ⟨_, fresh_mem_replaceFrame hany, hf⟩
  · exact List.mem_map.2 ⟨_, mem_insertFrame.2 (.inl rfl), hf⟩
  · exact List.mem_map.2 ⟨_, mem_insertFrame.2 (.inl rfl), hf⟩

/-! ### The steps of a query -/

/-- The state whose values the reply tells. -/
def State.queried (s : State) : State := s.frameHeard.bump .queryTaken

/-- The query after its reply, the zeroing and the clearing of event bits, with the segment clear still to come. -/
def State.answered (c : StationConfig) (q : Query) (s : State) : State :=
  let t := s.queried.queueFrame (.statusReply (s.queried.reply c q))
  (if q.zero then t.zeroGroup q.group else t).clearEvents q.mask

theorem exec_statusQuery {f : RxFrame} (hc : s.cfg = some c) (ha : s.hlc.line.actsOn = true) (h0 : f.sender ≠ 0) (h63 : f.sender ≠ 63)
    (hv : f.voided = false) (hn : f.sender.toNat ≠ c.station) (hread : readStatusQuery f.payload = some q) :
    exec (.statusQuery f) s = .next (s.frameHeard.screenQuery c q) := by
  have hlen : f.payload.length ≤ 20 := by
    obtain ⟨hp, -⟩ := readStatusQuery_eq_some hread
    omega
  simp only [exec, execStatusQuery, State.statusQuery, hc, hread, State.receive_good ha hlen h0 h63 hv hn, State.frameHeard]

theorem State.takeQuery_eq (s : State) (c : StationConfig) (q : Query) :
    s.frameHeard.takeQuery c q = if q.clear then (s.answered c q).segmentClear c else s.answered c q := rfl

theorem State.answered_frame (s : State) (c : StationConfig) (q : Query) :
    (s.answered c q).pending = s.pending ∧ (s.answered c q).pins = s.pins ∧ (s.answered c q).cfl = s.cfl ∧ (s.answered c q).rdu = s.rdu
      ∧ (s.answered c q).idt = s.idt ∧ (s.answered c q).rrv = s.rrv ∧ (s.answered c q).dvs = s.dvs
      ∧ (s.answered c q).hlc.line = s.hlc.line := by
  unfold State.answered
  split <;> simp [State.queried, State.frameHeard]

theorem State.answered_btu (s : State) (c : StationConfig) (q : Query) :
    (s.answered c q).btu = { s.btu with flow := (s.answered c q).btu.flow } := by
  unfold State.answered
  split
  · rw [State.clearEvents_btu, State.zeroGroup_btu]
    simp [State.queried, State.frameHeard]
  · simp [State.queried, State.frameHeard]

theorem State.answered_outbound (s : State) (c : StationConfig) (q : Query) :
    (s.answered c q).hlc.queue = enqueue (.statusReply (s.queried.reply c q)) s.hlc.queue := by
  unfold State.answered
  split <;> simp [State.queried, State.frameHeard]

theorem State.answered_ev (hs : SizeLaw s) (c : StationConfig) (q : Query) {e : Ev} (he : e ≠ .dropped) : (s.answered c q).ev e
    = (s.ev e && !(Block.all.zipIdx.any fun p => q.mask.getLsbD (7 - p.2)
        && decide (p.1.events.1 ≤ e.ctorIdx ∧ e.ctorIdx < p.1.events.1 + p.1.events.2))) := by
  have hqueued := State.queueFrame_ev (s := s.queried) hs.events (.statusReply (s.queried.reply c q)) he
  simp only [State.answered, State.clearEvents_ev]
  congr 1
  split
  · rw [State.zeroGroup_ev, hqueued]; rfl
  · rw [hqueued]; rfl

theorem State.answered_zeroed (hz : q.zero = true) (hg : q.group ≠ 0) {k : Ctr} (s : State) (c : StationConfig)
    (hk : (groupSpan q.group).1 ≤ k.ctorIdx ∧ k.ctorIdx < (groupSpan q.group).1 + (groupSpan q.group).2) : (s.answered c q).ctr k = 0 := by
  simp only [State.answered, hz, if_true, State.clearEvents_ctr]
  rw [State.zeroGroup_ctr _ hg, if_pos hk]

theorem State.answered_queryTaken (hs : SizeLaw s) (hz : q.zero = false) (c : StationConfig) :
    (s.answered c q).ctr .queryTaken = satInc (s.ctr .queryTaken) := by
  have htally : Tallied [.frameTaken, .queryTaken] [] s s.queried := (tallied_frameHeard hs).bump (a := .queryTaken) (by simp)
  simp only [State.answered, hz, Bool.false_eq_true, if_false, State.clearEvents_ctr]
  rw [State.queueFrame_ctr htally.counters _ rfl]
  exact (htally.counted .queryTaken).trans (if_pos (by simp))

theorem State.answered_kept (hz : q.zero = false) (s : State) (c : StationConfig) : (s.answered c q).btu = s.btu := by
  simp [State.answered, hz, State.queried, State.frameHeard]

theorem State.answered_lengths (hs : SizeLaw s) (c : StationConfig) (q : Query) :
    (s.answered c q).stu.counters.length = 117 ∧ (s.answered c q).stu.events.length = 33 := by
  have hc := hs.counters
  have he := hs.events
  have hzero : ∀ (t : State) (g : Nat), (t.zeroGroup g).stu.counters.length = t.stu.counters.length
      ∧ (t.zeroGroup g).stu.events.length = t.stu.events.length := fun t g => by
    unfold State.zeroGroup
    split <;> simp [State.zeroFlow]
  unfold State.answered
  split <;> simp [State.clearEvents, State.queried, State.frameHeard, hzero, hc, he]

theorem State.emptied_hlc (s : State) : s.emptied.hlc = s.hlc := by simp [State.emptied]

theorem State.emptied_btu (s : State) : s.emptied.btu = { s.btu with
    queue := []
    expects := []
    openRec := none
    flow := { s.btu.flow with cleared := s.btu.flow.cleared + BitVec.ofNat 32 s.btu.queue.length } } := rfl

/-- The flag of a segment clear, which finds the reply in the queue. -/
theorem State.answered_flagFollows (s : State) (c : StationConfig) (q : Query) : FlagFollows c s ((s.answered c q).segmentClear c) := by
  have hbtu := s.answered_btu c q
  have hout : (s.answered c q).emptied.hlc.queue = enqueue (.statusReply (s.queried.reply c q)) s.hlc.queue := by
    rw [State.emptied_hlc, State.answered_outbound]
  rw [State.segmentClear_eq]
  refine Reports.flagFollows ⟨?_, ?_, ?_, ?_, fun o ho hk => ?_, fun hroom b => ?_⟩
  · rw [State.emptied_btu, hbtu]
  · rw [State.emptied_btu, hbtu]
  · rw [State.emptied_btu, hbtu]
  · rw [State.emptied_btu, hbtu]
  · rw [hout] at ho
    exact mem_of_mem_enqueue_of_kind_ne ho (by simp [hk, Frame.kind])
  · rw [hout]
    exact fresh_mem_enqueue_of_kind_lt (enqueue_room hroom) rfl (by simp [OutFrame.fresh, OutFrame.kind, Frame.kind])

theorem State.queried_queued (hroom : s.hlc.queue.length < 7) (c : StationConfig) (q : Query) :
    Queued (.statusReply (s.queried.reply c q)) (if q.clear then (s.answered c q).segmentClear c else s.answered c q) := by
  have hq : Queued (.statusReply (s.queried.reply c q)) (s.answered c q) :=
    ⟨.fresh _, by rw [State.answered_outbound]; exact enqueue_room (by omega), rfl, rfl⟩
  split
  · refine Queued.evalBlocked_of_kind (s := (s.answered c q).emptied) (hq.congr (by rw [State.emptied_hlc])) (by simp [Frame.kind]) ?_ c
    have := s.queueFrame_length_le (.statusReply (s.queried.reply c q))
    rw [State.queueFrame_queue] at this
    rw [State.emptied_hlc, State.answered_outbound]
    omega
  · exact hq

theorem State.segmentClear_ev {t : State} (h : t.stu.events.length = 33) (c : StationConfig) {e : Ev} (he : e ≠ .dropped) :
    (t.segmentClear c).ev e = t.ev e := by
  rw [State.segmentClear_eq, State.evalBlocked_ev (by simpa [State.emptied] using h) c he]
  exact State.bumpN_ev _ _ _ e

theorem State.segmentClear_ctr {t : State} (h : t.stu.counters.length = 117) (c : StationConfig) {k : Ctr} (hq : k.ofQueue = false)
    (hg : k ≠ .grantCancelled) : (t.segmentClear c).ctr k = t.ctr k := by
  rw [State.segmentClear_eq, State.evalBlocked_ctr c (by simpa [State.emptied] using h) hq]
  exact State.bumpN_ctr_of_ne _ hg _

/-! ### The counter pages of the reply -/

theorem State.replyBody_counters {g p : Nat} (hp : p < 8) (c : StationConfig) (s : State) : s.replyBody c g p = s.counterPage g p :=
  if_pos hp

theorem State.replyBody_view {g p : Nat} (hp : 12 ≤ p) (c : StationConfig) (s : State) :
    s.replyBody c g p = packItems (s.viewPage (p - 12)) := by
  unfold State.replyBody
  rw [if_neg (by omega), if_neg (by omega), if_neg (by omega), if_neg (by omega), if_neg (by omega)]

theorem State.counterPage_flow {p : Nat} (hp : 2 ≤ p) (s : State) : s.counterPage 0 p = [] := by
  have hdrop : s.btu.flow.list.drop (4 * p) = [] := List.drop_eq_nil_of_le (by change 7 ≤ _; omega)
  simp [State.counterPage, hdrop]

theorem length_counters_of_query (hs : SizeLaw s) : s.queried.stu.counters.length = 117 :=
  ((tallied_frameHeard hs).bump (a := .queryTaken) (by simp)).counters

end

/-- Settles O45: the reply page by page, the zeroing, the event bits and the clear, from the state after the reply. -/
theorem statusQueryIsTakenInOrder : Obligations.StatusQueryIsTakenInOrder := by
  intro c f q u s hc ha h0 h63 hv hn hs hread hu
  have hexec := exec_statusQuery hc ha h0 h63 hv hn hread
  refine ⟨fun hself hall => ?_, fun htarget => ?_⟩
  · have htally := (tallied_frameHeard hs).bump (a := .queryOther) (by simp)
    rw [State.screenQuery, if_neg (by simp [hself, hall])] at hexec
    exact ⟨_, hexec, rfl, htally.counted, htally.raised, by simp [OnlyParts, State.frameHeard]⟩
  rw [State.screenQuery, if_pos htarget, State.takeQuery_eq] at hexec
  refine ⟨_, hexec, fun hroom => ?_, ?_⟩
  · obtain ⟨o, ho, hframe, -⟩ := s.queried_queued hroom c q
    obtain ⟨htag, hline, hwaiting, hspeed, hpermit, hzero, hclear, hblocks, hflag⟩ :=
      s.queried.reply_head (by change s.hlc.queue.length < 16; omega) c q
    have hbody := s.queried.reply_drop c q
    have hcounters : s.queried.stu.counters = u := hu.symm
    have hulen : u.length = 117 := hcounters ▸ length_counters_of_query hs
    refine ⟨_, List.mem_filterMap.2 ⟨_, List.mem_map.2 ⟨o, ho, hframe⟩, rfl⟩, htag, hline, hwaiting, hspeed, hpermit, hzero, hclear, hblocks,
      hflag, fun hg hp => ?_, fun hg hp => ?_, fun hp => ⟨fun hg h2 => ?_, fun hg => ?_, fun hg => ?_, fun hg => ?_⟩, fun hp => ?_, fun hp => ?_,
      fun hp => ?_, fun hp => ?_, fun hp => ?_⟩
    · rw [hbody, hg, hp]
      simp [State.replyBody, State.counterPage, Flow.list]
      rfl
    · rw [hbody, hg, hp]
      simp [State.replyBody, State.counterPage, Flow.list]
      rfl
    · rw [hbody, State.replyBody_counters hp, hg, State.counterPage_flow h2]
    · rw [hbody, State.replyBody_counters hp, hg, ← hcounters]
      rfl
    · rw [hbody, State.replyBody_counters hp, hg, ← hcounters]
      rfl
    · have hall : (u.drop 64).take 53 = u.drop 64 := List.take_of_length_le (by simp [hulen])
      rw [hbody, State.replyBody_counters hp, hg, ← hall, ← hcounters]
      rfl
    · rw [hbody, hp]
      exact State.page8_bits (s := s.queried) hc
    · rw [hbody, hp]
      exact congrArg packItems (State.page9_eq c s.queried)
    · rw [hbody, hp]
      rfl
    · rw [hbody, hp]
      change packBits ((accountItems s.dvs.d0.account ++ accountItems s.dvs.d1.account).flatMap _) = _
      rw [List.flatMap_append]
      cases h0 : s.dvs.d0.account <;> cases h1 : s.dvs.d1.account <;>
        simp [Dvs.get, h0, h1, accountItems_none_bits, accountItems_some_bits]
    · rw [hbody, State.replyBody_view hp, State.viewPage_bits]
      rfl
  · obtain ⟨hpend, hpins, hcfl, hrdu, hidt, hrrv, hdvs, hline⟩ := s.answered_frame c q
    obtain ⟨hctrs, hevs⟩ := State.answered_lengths hs c q
    have hbtu := s.answered_btu c q
    cases hcl : q.clear with
    | false =>
      simp only [Bool.false_eq_true, if_false]
      refine ⟨fun hg hz _ => ?_, fun hz _ => State.answered_kept hz s c, fun h => absurd h (by decide), fun h => absurd h (by decide),
        fun _ => hbtu, fun _ => ⟨by rw [hbtu], hdvs, hidt⟩, fun hz _ hg k hk => ?_, fun hz _ hg k hlo hhi => ?_, fun hz _ hg k hlo => ?_,
        fun hz => State.answered_queryTaken hs hz c, fun e he => State.answered_ev hs c q he, hline, hrdu, hrrv, hpins, hcfl, hpend⟩
      · simp only [State.answered, hz, hg, if_true, State.clearEvents_btu, State.zeroGroup_zero]
        simp [State.queried, State.frameHeard]
      · exact s.answered_zeroed hz (by omega) c (by rw [hg]; exact ⟨Nat.zero_le _, by simpa [groupSpan] using hk⟩)
      · exact s.answered_zeroed hz (by omega) c (by rw [hg]; exact ⟨hlo, hhi⟩)
      · exact s.answered_zeroed hz (by omega) c (by rw [hg]; exact ⟨hlo, ctorIdx_lt_counters k⟩)
    | true =>
      simp only [if_true]
      obtain ⟨hq, hx, ho, -⟩ := (s.answered c q).segmentClear_fields c
      refine ⟨fun _ _ h => absurd h (by decide), fun _ h => absurd h (by decide), fun _ => ⟨hq, hx, ho⟩, fun _ => s.answered_flagFollows c q,
        fun h => absurd h (by decide), fun h => absurd h (by decide), fun _ h => absurd h (by decide), fun _ h => absurd h (by decide),
        fun _ h => absurd h (by decide), fun hz => ?_, fun e he => ?_, ?_⟩
      · rw [State.segmentClear_ctr hctrs c rfl (by decide), State.answered_queryTaken hs hz]
      · rw [State.segmentClear_ev hevs c he, State.answered_ev hs c q he]
      · simp [hline, hrdu, hrrv, hpins, hcfl, hpend]

end Sys2Proof.Machine
end

section
/-! SUPPORT. The rotating allocation (R82), and what the sailing check and the decode of an identification count (R99, R102, R110). -/

namespace Sys2Proof.Machine

open Sys2Proof

/-! ### The rotating allocation -/

theorem reusable_eq (a : Nat) (o : Option IdtEntry) : reusable a o
    = o.all fun e => e.state == .diverted || ((e.state == .onLoop || e.state == .manual) && decide (a ≤ e.age)) := by
  cases o with
  | none => rfl
  | some e => cases h : e.state <;> simp [reusable, h]

/-- How many entries are examined before entry j, from a pointer p. -/
def turnsTo (p j : Nat) : Nat := (p + 112 - j) % 112

/-- The entry that is examined after k others. -/
def atTurn (p k : Nat) : Nat := 16 + (p + 96 - k) % 112

section
variable {p i k : Nat}

theorem atTurn_turnsTo (hp : 16 ≤ p ∧ p ≤ 127) (hi : 16 ≤ i ∧ i ≤ 127) : atTurn p (turnsTo p i) = i := by
  unfold atTurn turnsTo
  omega

theorem turnsTo_atTurn (hp : 16 ≤ p ∧ p ≤ 127) (hk : k < 112) : turnsTo p (atTurn p k) = k := by
  unfold atTurn turnsTo
  omega

theorem atTurn_range (p k : Nat) : 16 ≤ atTurn p k ∧ atTurn p k ≤ 127 := by
  unfold atTurn
  omega

theorem turnsTo_lt (p i : Nat) : turnsTo p i < 112 := Nat.mod_lt _ (by decide)

theorem rotating_eq (a p : Nat) (es : List (Option IdtEntry)) : rotating a p es
    = ((List.range 112).find? fun k => reusable a (entryAt es (atTurn p k))).map (atTurn p) := by
  rw [rotating, rotation, List.find?_map]
  rfl

theorem rotating_eq_some_iff (hp : 16 ≤ p ∧ p ≤ 127) (a : Nat) (es : List (Option IdtEntry)) : rotating a p es = some i
    ↔ 16 ≤ i ∧ i ≤ 127 ∧ reusable a (entryAt es i) = true
      ∧ ∀ j < 128, 16 ≤ j → turnsTo p j < turnsTo p i → ¬ reusable a (entryAt es j) = true := by
  rw [rotating_eq, Option.map_eq_some_iff]
  constructor
  · rintro ⟨k, hk, rfl⟩
    obtain ⟨htaken, hmem, hbefore⟩ := List.find?_range_eq_some.1 hk
    obtain ⟨hlo, hhi⟩ := atTurn_range p k
    refine ⟨hlo, hhi, htaken, fun j hj hj' hlt => ?_⟩
    rw [turnsTo_atTurn hp (List.mem_range.1 hmem)] at hlt
    have := hbefore _ hlt
    rw [atTurn_turnsTo hp ⟨hj', by omega⟩] at this
    simpa using this
  · rintro ⟨hlo, hhi, htaken, hbefore⟩
    have hi := atTurn_turnsTo hp ⟨hlo, hhi⟩
    refine ⟨turnsTo p i, List.find?_range_eq_some.2 ⟨by rwa [hi], List.mem_range.2 (turnsTo_lt p i), fun m hm => ?_⟩, hi⟩
    obtain ⟨hlo', hhi'⟩ := atTurn_range p m
    have hm' : m < 112 := hm.trans (turnsTo_lt p i)
    simpa using hbefore _ (by omega) hlo' (by rwa [turnsTo_atTurn hp hm'])

theorem rotating_eq_none_iff (hp : 16 ≤ p ∧ p ≤ 127) (a : Nat) (es : List (Option IdtEntry)) : rotating a p es = none
    ↔ ∀ j < 128, 16 ≤ j → ¬ reusable a (entryAt es j) = true := by
  rw [rotating_eq, Option.map_eq_none_iff, List.find?_eq_none]
  constructor
  · intro h j hj hj'
    have := h _ (List.mem_range.2 (turnsTo_lt p j))
    rwa [atTurn_turnsTo hp ⟨hj', by omega⟩] at this
  · intro h k _
    obtain ⟨hlo, hhi⟩ := atTurn_range p k
    exact h _ (by omega) hlo

end

/-! ### The sailing check and the decode -/

/-- The counter of a sailing check (R99). -/
def sailingCtr : Sailing → Ctr
  | .a => .sailingA
  | .b => .sailingB
  | .noSailing => .sailingNone
  | .refused => .wrongSailing

/-- The counter of a decode (R102). -/
def decodeCtr : Decode → Ctr
  | .noCabin => .noCabin
  | .primary _ => .decodePrimary
  | .overflow _ => .decodeOverflow
  | .primaryFull _ => .decodePrimaryFull
  | .unavailable => .chuteUnavailable

/-- The event bits of a decode. -/
def decodeEvs : Decode → List Ev
  | .noCabin => [.noCabin]
  | .unavailable => [.chuteUnavailable]
  | .primary _ | .overflow _ | .primaryFull _ => []

section
variable {s t : State} {cs : List Ctr} {es : List Ev}

theorem Tallied.countSailing (h : Tallied cs es s t) {sl : Sailing} (hsl : sl ≠ .refused) (hn : sailingCtr sl ∉ cs) :
    Tallied (cs ++ [sailingCtr sl]) es s (t.countSailing sl) := by
  cases sl with
  | a => exact h.bump hn
  | b => exact h.bump hn
  | noSailing => exact h.bump hn
  | refused => exact absurd rfl hsl

theorem Tallied.countDecode (h : Tallied cs es s t) (dd : Decode) (hn : decodeCtr dd ∉ cs) :
    Tallied (cs ++ [decodeCtr dd]) (es ++ decodeEvs dd) s (t.countDecode dd) := by
  cases dd with
  | noCabin => exact (h.bump hn).raise .noCabin
  | unavailable => exact (h.bump hn).raise .chuteUnavailable
  | primary n => rw [decodeEvs, List.append_nil]; exact h.bump hn
  | overflow n => rw [decodeEvs, List.append_nil]; exact h.bump hn
  | primaryFull n => rw [decodeEvs, List.append_nil]; exact h.bump hn

theorem sailingCtr_eq (sl : Sailing) : (if sl = .a then Ctr.sailingA else if sl = .b then .sailingB else if sl = .noSailing then .sailingNone
    else .wrongSailing) = sailingCtr sl := by
  cases sl <;> rfl

theorem decodeCtr_eq (dd : Decode) : (if dd = .noCabin then Ctr.noCabin else if dd = .unavailable then .chuteUnavailable
    else if dd = .primary (dd.chute.getD 0) then .decodePrimary else if dd = .overflow (dd.chute.getD 0) then .decodeOverflow
    else .decodePrimaryFull) = decodeCtr dd := by
  cases dd <;> simp [Decode.chute, decodeCtr]

theorem decode_cases (dd : Decode) : (dd = .noCabin → dd.reason = some .noCabin ∧ dd.chute = none)
    ∧ (dd = .unavailable → dd.reason = some .chuteUnavailable ∧ dd.chute = none)
    ∧ ∀ n ∈ dd.chute, dd.reason = none ∧ (dd = .primary n ∨ dd = .overflow n ∨ dd = .primaryFull n) := by
  cases dd <;> simp [Decode.chute, Decode.reason]

end

end Sys2Proof.Machine
end

section
/-! SUPPORT. The write of an identification: the record, the stray counters and the notice, and the entry's destination (R73, R85, R146,
R148); and the write that comes too late (R89). -/

namespace Sys2Proof.Machine

open Sys2Proof

/-- The counters that a write may move. -/
def Ctr.byWrite (k : Ctr) : Bool := k.ofQueue
  || [Ctr.goodRead, .strayCleared, .straySet, .strayReplaced, .strayKept, .lateUpdate, .withdrawnDestination, .grantCancelled].contains k

section
variable {s t p : State} {c : StationConfig} {f : Finding} {r : SegRec} {x : Reason} {refs : List RecRef} {k : Ctr} {i : Nat} {e : IdtEntry}

theorem Ctr.byWrite_eq_false : k.byWrite = false ↔ k.ofQueue = false ∧ k ≠ .goodRead ∧ k ≠ .strayCleared ∧ k ≠ .straySet ∧ k ≠ .strayReplaced
    ∧ k ≠ .strayKept ∧ k ≠ .lateUpdate ∧ k ≠ .withdrawnDestination ∧ k ≠ .grantCancelled := by
  simp [Ctr.byWrite]

theorem byWrite_sailingCtr (sl : Sailing) : (sailingCtr sl).byWrite = false := by cases sl <;> rfl

theorem byWrite_decodeCtr (dd : Decode) : (decodeCtr dd).byWrite = false := by cases dd <;> rfl

/-! ### The reason held -/

theorem Finding.heldAfter_eq (h : f.answer.isManual = false) (r : SegRec) :
    f.heldAfter r = if r.reason.all Reason.soft then none else r.reason := by
  rw [Finding.heldAfter, h, if_neg (by simp)]
  cases r.reason with
  | none => rfl
  | some y => cases hy : y.soft <;> simp [hy]

theorem Finding.heldAfter_manual (h : f.answer.isManual = true) (r : SegRec) : f.heldAfter r = none := if_pos h

theorem Finding.isNone_heldAfter (h : f.answer.isManual = false) (r : SegRec) : (f.heldAfter r).isNone = r.reason.all Reason.soft := by
  rw [Finding.heldAfter_eq h]
  cases r.reason with
  | none => rfl
  | some y => cases hy : y.soft <;> simp [hy]

/-- What is held after the clearing is hard, so an offer takes exactly where nothing is held. -/
theorem Finding.offerTakes_heldAfter (f : Finding) (r : SegRec) (x : Reason) : offerTakes (f.heldAfter r) x = (f.heldAfter r).isNone := by
  cases hm : f.answer.isManual with
  | true => rw [Finding.heldAfter_manual hm]; rfl
  | false =>
    rw [Finding.heldAfter_eq hm]
    cases r.reason with
    | none => rfl
    | some y => cases hy : y.soft <;> simp [offerTakes, hy]

theorem Finding.offerCtr_heldAfter (f : Finding) (r : SegRec) (x : Reason) :
    offerCtr (f.heldAfter r) x = if (f.heldAfter r).isNone then .straySet else .strayKept := by
  rw [offerCtr, f.offerTakes_heldAfter]
  split <;> rfl

theorem Finding.finalReason_eq (h : f.answer.isManual = false) (r : SegRec) :
    f.finalReason r = if r.reason.all Reason.soft then f.reason else r.reason := by
  have hheld := Finding.heldAfter_eq h r
  have htakes := Finding.isNone_heldAfter h r
  unfold Finding.finalReason
  cases hx : f.reason with
  | none => simp only [hheld]
  | some x =>
    simp only [f.offerTakes_heldAfter, htakes]
    split
    · rfl
    · rename_i hall; rw [hheld, if_neg hall]

theorem Finding.finalDest_eq (h : f.answer.isManual = false) (c : StationConfig) (r : SegRec) :
    f.finalDest c r = if r.reason.all Reason.soft = true ∧ f.reason = none then f.chute else some c.problem := by
  rw [Finding.finalDest, Finding.finalReason_eq h]
  cases hr : r.reason with
  | none => cases f.reason <;> simp
  | some y => cases hy : y.soft <;> cases f.reason <;> simp [hy]

/-! ### The report of the write -/

/-- The state in which a cleared reason has been counted. -/
def State.clearingCounted (f : Finding) (r : SegRec) (s : State) : State :=
  if r.reason.isSome && (f.heldAfter r).isNone then s.bump .strayCleared else s

/-- The notice of the write. -/
def Finding.notice (c : StationConfig) (f : Finding) (r : SegRec) (x : Reason) : Frame :=
  .strayNotice ⟨x, (f.write c r).ident, (f.write c r).passes, orZero r.dest, r.origin⟩

theorem State.reportWrite_of_none (h : f.reason = none) (s : State) (c : StationConfig) (r : SegRec) :
    s.reportWrite c f r = s.clearingCounted f r := by
  simp only [State.reportWrite, h]
  rfl

theorem State.reportWrite_of_some (h : f.reason = some x) (s : State) (c : StationConfig) (r : SegRec) : s.reportWrite c f r
    = if (f.heldAfter r).isNone then ((s.clearingCounted f r).bump .straySet).queueFrame (f.notice c r x)
      else (s.clearingCounted f r).bump .strayKept := by
  simp only [State.reportWrite, State.clearingCounted, h, f.offerTakes_heldAfter]
  cases (f.heldAfter r).isNone <;> rfl

/-- One offer counted, in the terms of the statement. -/
theorem StrayCounted.of_offerCtr {held : Option Reason}
    (h : ∀ k, k = .straySet ∨ k = .strayReplaced ∨ k = .strayKept → t.ctr k = if k = offerCtr held x then satInc (s.ctr k) else s.ctr k) :
    StrayCounted [(held, x)] s t := by
  have value : ∀ k, k = .straySet ∨ k = .strayReplaced ∨ k = .strayKept →
      (t.ctr k).toNat = min 65535 ((s.ctr k).toNat + if k = offerCtr held x then 1 else 0) := by
    intro k hk
    have := (s.ctr k).isLt
    rw [h k hk]
    split
    · exact satInc_toNat _
    · omega
  unfold StrayCounted
  rw [value _ (.inl rfl), value _ (.inr (.inl rfl)), value _ (.inr (.inr rfl))]
  cases hr : held with
  | none => simp [offerCtr, offerTakes]
  | some y => cases hy : y.soft <;> cases hx : x.hard <;> simp [offerCtr, offerTakes, hy, hx]

/-- What the report of a write makes of the station. -/
structure WriteReported (c : StationConfig) (f : Finding) (r : SegRec) (s t : State) : Prop where
  confined : ∀ refs, Confined refs s t
  records : t.btu.queue = s.btu.queue
  strays : StrayCounted (if f.reason = none then [] else [(f.heldAfter r, f.reason.getD .lost)]) s t
  cleared : t.ctr .strayCleared = if r.reason.isSome && (f.heldAfter r).isNone then satInc (s.ctr .strayCleared) else s.ctr .strayCleared
  ctr : ∀ k, k.byWrite = false ∨ k = .goodRead → t.ctr k = s.ctr k
  ev : ∀ e, e ≠ .dropped → t.ev e = s.ev e
  quiet : f.reason = none → t.hlc = s.hlc ∧ ∀ e, t.ev e = s.ev e
  noticed : ∀ x ∈ f.reason, (f.heldAfter r).isNone = true → s.hlc.queue.length < 8 → Queued (f.notice c r x) t

theorem State.clearingCounted_stu (hs : s.stu.counters.length = 117) (f : Finding) (r : SegRec) (k : Ctr) : (s.clearingCounted f r).ctr k
    = if k = .strayCleared ∧ (r.reason.isSome && (f.heldAfter r).isNone) = true then satInc (s.ctr k) else s.ctr k := by
  unfold State.clearingCounted
  split
  · rename_i h
    rw [State.bump_ctr hs]
    simp [h]
  · rename_i h
    simp [h]

theorem State.clearingCounted_rest (s : State) (f : Finding) (r : SegRec) :
    (s.clearingCounted f r).stu.counters.length = s.stu.counters.length ∧ (s.clearingCounted f r).stu.events = s.stu.events
      ∧ (s.clearingCounted f r).btu = s.btu ∧ (s.clearingCounted f r).hlc = s.hlc := by
  unfold State.clearingCounted
  split <;> simp

theorem Confined.clearingCounted (h : Confined refs s t) (f : Finding) (r : SegRec) : Confined refs s (t.clearingCounted f r) := by
  unfold State.clearingCounted
  split
  · exact h.bump _
  · exact h

theorem State.reportWrite_spec (hs : s.stu.counters.length = 117) (hev : s.stu.events.length = 33) (c : StationConfig) (f : Finding)
    (r : SegRec) : WriteReported c f r s (s.reportWrite c f r) := by
  obtain ⟨hlen, hevs, hbtu, hhlc⟩ := s.clearingCounted_rest f r
  have hctr := State.clearingCounted_stu hs f r
  have hconf : ∀ refs, Confined refs s (s.clearingCounted f r) := fun refs => (Confined.refl refs s).clearingCounted f r
  have hother : ∀ k, k ≠ .strayCleared → (s.clearingCounted f r).ctr k = s.ctr k := fun k hk => by
    rw [hctr, if_neg fun h => hk h.1]
  have hcleared : (s.clearingCounted f r).ctr .strayCleared
      = if r.reason.isSome && (f.heldAfter r).isNone then satInc (s.ctr .strayCleared) else s.ctr .strayCleared := by
    rw [hctr]
    simp
  have hevent : ∀ e, (s.clearingCounted f r).ev e = s.ev e := fun e => by rw [State.ev, hevs]; rfl
  have hlen' : ∀ a, ((s.clearingCounted f r).bump a).stu.counters.length = 117 := fun a => by simpa [hlen] using hs
  have hevlen : ∀ a, ((s.clearingCounted f r).bump a).stu.events.length = 33 := fun a => by simpa [hevs] using hev
  cases hx : f.reason with
  | none =>
    rw [State.reportWrite_of_none hx]
    refine ⟨hconf, by rw [hbtu], ?_, hcleared, fun k hk => hother k ?_, fun e _ => hevent e, fun _ => ⟨hhlc, hevent⟩, by simp [hx]⟩
    · rw [hx, if_pos rfl]
      exact .of_same fun k hk => hother k (by rcases hk with rfl | rfl | rfl <;> decide)
    · rcases hk with hk | rfl
      · exact (Ctr.byWrite_eq_false.1 hk).2.2.1
      · decide
  | some x =>
    have hstray : ∀ k : Ctr, k = .straySet ∨ k = .strayReplaced ∨ k = .strayKept → k.ofQueue = false ∧ k ≠ .strayCleared := fun k hk => by
      rcases hk with rfl | rfl | rfl <;> decide
    have hwritten : ∀ k : Ctr, k.byWrite = false ∨ k = .goodRead → k.ofQueue = false ∧ k ≠ .strayCleared ∧ k ≠ .straySet ∧ k ≠ .strayKept := by
      rintro k (hk | rfl)
      · obtain ⟨h1, -, h2, h3, -, h4, -⟩ := Ctr.byWrite_eq_false.1 hk
        exact ⟨h1, h2, h3, h4⟩
      · decide
    rw [State.reportWrite_of_some hx]
    cases hheld : (f.heldAfter r).isNone with
    | true =>
      rw [if_pos rfl]
      refine ⟨fun refs => ((hconf refs).bump _).queueFrame _, by simp [hbtu], ?_, ?_, fun k hk => ?_, fun e he => ?_, by simp [hx], fun y hy _ hroom => ?_⟩
      · rw [hx, if_neg (by simp)]
        refine .of_offerCtr fun k hk => ?_
        rw [State.queueFrame_ctr (hlen' _) _ (hstray k hk).1, State.bump_ctr (by rw [hlen]; exact hs), hother k (hstray k hk).2,
          Option.getD_some, f.offerCtr_heldAfter, hheld, if_pos rfl]
      · rw [State.queueFrame_ctr (hlen' _) _ rfl, State.bump_ctr_of_ne _ (by decide), hcleared, hheld]
      · obtain ⟨hq, hc, hset, -⟩ := hwritten k hk
        rw [State.queueFrame_ctr (hlen' _) _ hq, State.bump_ctr_of_ne _ hset, hother k hc]
      · exact (State.queueFrame_ev (hevlen _) _ he).trans (hevent e)
      · obtain rfl : y = x := by simpa [hx] using hy.symm
        exact queued_queueFrame (s := (s.clearingCounted f r).bump .straySet) (by simpa [hhlc] using hroom) _
    | false =>
      rw [if_neg (by simp)]
      refine ⟨fun refs => (hconf refs).bump _, by simp [hbtu], ?_, ?_, fun k hk => ?_, fun e _ => hevent e, by simp [hx], by simp [hheld]⟩
      · rw [hx, if_neg (by simp)]
        refine .of_offerCtr fun k hk => ?_
        rw [State.bump_ctr (by rw [hlen]; exact hs), hother k (hstray k hk).2, Option.getD_some, f.offerCtr_heldAfter, hheld, if_neg Bool.false_ne_true]
      · rw [State.bump_ctr_of_ne _ (by decide), hcleared, hheld]
      · obtain ⟨-, hc, -, hkept⟩ := hwritten k hk
        rw [State.bump_ctr_of_ne _ hkept, hother k hc]

end

end Sys2Proof.Machine
end

section
/-! SUPPORT. A write that reaches its record, on top of what the steps before it made of the station, and a late update (R72, R73, R89). -/

namespace Sys2Proof.Machine

open Sys2Proof

section
variable {s t p : State} {c : StationConfig} {f : Finding} {r : SegRec} {refs : List RecRef} {xs : List (Option Reason × Reason)} {cs : List Ctr}
  {es : List Ev} {i : Nat} {e : IdtEntry}

/-! ### The entry's destination -/

theorem State.writeEntryDest_eq (s : State) (f : Finding) (d : Option Nat) :
    s.writeEntryDest f d = s.setEntries (s.writeEntryDest f d).idt.entries := by
  unfold State.writeEntryDest
  split <;> rfl

theorem State.writeEntryDest_of_none (h : f.answer.entry = none) (s : State) (d : Option Nat) : s.writeEntryDest f d = s := by
  simp only [State.writeEntryDest, h]

theorem State.writeEntryDest_of_some (h : f.answer.entry = some i) (he : entryAt s.idt.entries i = some e) (d : Option Nat) :
    s.writeEntryDest f d = s.writeEntry i { e with dest := orZero d } := by
  simp only [State.writeEntryDest, h, State.setEntryDest, State.modifyEntry, State.writeEntry, modify_eq_set he]

/-! ### The write of the record -/

/-- The write but for the entry's destination. -/
def State.written (c : StationConfig) (f : Finding) (r : SegRec) (s : State) : State :=
  (((s.mapRec r.ref (f.write c)).bump .goodRead).tellDestination c r.ref (f.finalDest c r)).reportWrite c f r

theorem State.writeFinding_of_found (h : s.findRec r.ref = some r) (c : StationConfig) (f : Finding) :
    s.writeFinding c f r = (s.written c f r).writeEntryDest f (f.finalDest c r) := by
  simp only [State.writeFinding, h, State.written]

/-- What the write makes of the station. -/
structure Written (c : StationConfig) (f : Finding) (r : SegRec) (s t : State) : Prop where
  confined : Confined [r.ref] s t
  found : ∃ v, t.findRec r.ref = some { f.write c r with divert := v }
  strays : StrayCounted (if f.reason = none then [] else [(f.heldAfter r, f.reason.getD .lost)]) s t
  cleared : t.ctr .strayCleared = if r.reason.isSome && (f.heldAfter r).isNone then satInc (s.ctr .strayCleared) else s.ctr .strayCleared
  good : t.ctr .goodRead = satInc (s.ctr .goodRead)
  ctr : ∀ k, k.byWrite = false → t.ctr k = s.ctr k
  ev : ∀ e, e ≠ .dropped → t.ev e = s.ev e
  quiet : f.reason = none → t.hlc = s.hlc ∧ ∀ e, t.ev e = s.ev e
  noticed : ∀ x ∈ f.reason, (f.heldAfter r).isNone = true → s.hlc.queue.length < 8 → Queued (f.notice c r x) t

theorem State.written_spec (hs : s.stu.counters.length = 117) (hev : s.stu.events.length = 33) (h : s.findRec r.ref = some r)
    (c : StationConfig) (f : Finding) : Written c f r s (s.written c f r) := by
  set m := (s.mapRec r.ref (f.write c)).bump .goodRead with hm
  set n := m.tellDestination c r.ref (f.finalDest c r) with hn
  have hmfind : m.findRec r.ref = some (f.write c r) := State.findRec_mapRec s (f := f.write c) (fun _ => rfl) h
  have hmlen : m.stu.counters.length = 117 := by simpa [hm] using hs
  have hnlen : n.stu.counters.length = 117 := by simpa [hn] using hmlen
  have hnev : n.stu.events.length = 33 := by simpa [hn, hm] using hev
  have hconf : Confined [r.ref] s n := (((Confined.refl _ s).mapRec (f := f.write c) (fun _ => rfl) (List.mem_singleton_self _)).bump
    .goodRead).tellDestination c (f.finalDest c r) (List.mem_singleton_self _)
  have hctr : ∀ k, k ≠ .lateUpdate → k ≠ .withdrawnDestination → n.ctr k = if k = .goodRead then satInc (s.ctr k) else s.ctr k := by
    intro k hl hw
    rw [hn, State.tellDestination_ctr_of_ne hmlen c r.ref _ hl hw, hm, State.bump_ctr (by exact hs)]
    rfl
  have hsame : ∀ e, n.ev e = s.ev e := fun e => by rw [hn, State.tellDestination_ev]; rfl
  have hhlc : n.hlc = s.hlc := by simp [hn, hm]
  have hrep := State.reportWrite_spec hnlen hnev c f r
  have heq : s.written c f r = n.reportWrite c f r := rfl
  have hnfind := State.findRec_tellDestination m c r.ref (f.finalDest c r) r.ref
  rw [hmfind, Option.map_some, SegRec.withdrawnBy_eq] at hnfind
  rw [heq]
  refine ⟨hconf.trans (hrep.confined _), ⟨_, (State.findRec_congr hrep.records _).trans hnfind⟩, hrep.strays.congr (fun k hk => ?_) fun _ _ => rfl,
    ?_, ?_, fun k hk => ?_, fun e he => (hrep.ev e he).trans (hsame e), fun hx => ?_, fun x hx hheld hroom => hrep.noticed x hx hheld (by rwa [hhlc])⟩
  · rcases hk with rfl | rfl | rfl <;> exact hctr _ (by decide) (by decide)
  · rw [hrep.cleared, (hctr .strayCleared (by decide) (by decide)).trans (if_neg (by decide))]
  · rw [hrep.ctr _ (.inr rfl), hctr _ (by decide) (by decide), if_pos rfl]
  · obtain ⟨-, hgood, -, -, -, -, hlate, hwith, -⟩ := Ctr.byWrite_eq_false.1 hk
    rw [hrep.ctr k (.inl hk), hctr k hlate hwith, if_neg hgood]
  · obtain ⟨hq, he⟩ := hrep.quiet hx
    exact ⟨hq.trans hhlc, fun e => (he e).trans (hsame e)⟩

/-! ### An identification from its steps -/

/-- What the steps before the write make of the station: entries, counters and event bits, and the offers xs to other records. -/
structure FoundBy (r : SegRec) (refs : List RecRef) (xs : List (Option Reason × Reason)) (cs : List Ctr) (es : List Ev) (s p : State) : Prop where
  parts : OnlyParts [.btu, .rdu, .idt, .dvs, .hlc, .stu] s p
  rdu : p.rdu = ⟨.idle, none⟩
  btu : p.btu = { s.btu with queue := p.btu.queue }
  grants : OnlyGrants s p
  frames : OnlyFrames s p
  records : OnlyRecords refs s p
  found : p.findRec r.ref = some r
  room : s.hlc.queue.length < 7 → p.hlc.queue.length < 8
  strays : StrayCounted xs s p
  cleared : p.ctr .strayCleared = s.ctr .strayCleared
  good : p.ctr .goodRead = s.ctr .goodRead
  counted : ∀ k, k.byWrite = false → p.ctr k = if k ∈ cs then satInc (s.ctr k) else s.ctr k
  raised : ∀ e, e ≠ .dropped → p.ev e = (s.ev e || decide (e ∈ es))
  counters : p.stu.counters.length = 117
  events : p.stu.events.length = 33

theorem FoundBy.of_tallied (h : Tallied cs es s p) (hcs : ∀ k ∈ cs, k.byWrite = false) (hparts : OnlyParts [.rdu, .idt, .stu] s p)
    (hrdu : p.rdu = ⟨.idle, none⟩) (hfind : s.findRec r.ref = some r) : FoundBy r [r.ref] [] cs es s p := by
  have hkept : ∀ k, k.byWrite = true → p.ctr k = s.ctr k := fun k hk =>
    (h.counted k).trans (if_neg fun hm => by rw [hcs k hm] at hk; exact Bool.false_ne_true hk)
  have hother := hparts
  obtain ⟨-, -, -, hbtu, -, -, -, hdvs, hhlc, -⟩ := hparts
  have hbtu := hbtu.resolve_left (by decide)
  have hdvs := hdvs.resolve_left (by decide)
  have hhlc := hhlc.resolve_left (by decide)
  refine ⟨hother.mono (by decide), hrdu, by rw [hbtu], fun d => by rw [hdvs], by rw [OnlyFrames, hhlc], ?_, ?_, fun hl => ?_, .of_same fun k hk => ?_,
    hkept _ rfl, hkept _ rfl, fun k _ => h.counted k, fun e _ => h.raised e, h.counters, h.events⟩
  · rw [OnlyRecords, hbtu]
    exact OnlyRecords.refl _ s
  · exact (State.findRec_congr (congrArg Btu.queue hbtu) _).trans hfind
  · rw [hhlc]; omega
  · rcases hk with rfl | rfl | rfl <;> exact hkept _ rfl

/-- What an identification that no MANUAL entry answers leaves of the bag (R73): with the decoded chute, unless a reason x is found or a
hard one is held. -/
def IdentifiedAs (c : StationConfig) (r : SegRec) (ident : Option Identity) (entry chute : Option Nat) (x : Option Reason) (refs : List RecRef)
    (xs : List (Option Reason × Reason)) (s t : State) : Prop :=
  t.ctr .strayCleared = (if r.reason.any Reason.soft then satInc (s.ctr .strayCleared) else s.ctr .strayCleared)
    ∧ (∃ q ∈ t.findRec r.ref, q.ident = ident ∧ q.entry = entry ∧ q.readStatus = .read ∧ q.ambiguous = false ∧ q.passes = r.passes
      ∧ q.reason = (if r.reason.all Reason.soft then x else r.reason)
      ∧ q.dest = (if r.reason.all Reason.soft = true ∧ x = none then chute else some c.problem)
      ∧ q.len = r.len ∧ q.front = r.front ∧ q.back = r.back ∧ q.origin = r.origin ∧ q.tight = r.tight ∧ q.lateId = r.lateId
      ∧ q.awaiting = r.awaiting
      ∧ ∀ y ∈ x, r.reason.all Reason.soft = true → s.hlc.queue.length < 7 →
        Queued (.strayNotice ⟨y, q.ident, q.passes, r.dest.getD 0, r.origin⟩) t)
    ∧ StrayCounted (xs ++ if x = none then [] else [(if r.reason.all Reason.soft then none else r.reason, x.getD .lost)]) s t
    ∧ OnlyRecords refs s t ∧ t.btu = { s.btu with queue := t.btu.queue } ∧ OnlyGrants s t ∧ OnlyFrames s t
    ∧ OnlyParts [.btu, .rdu, .idt, .dvs, .hlc, .stu] s t

/-- The outcome of an identification: what it leaves of the bag, and the counters and event bits of its steps. -/
structure Identified (c : StationConfig) (r : SegRec) (ident : Option Identity) (entry chute : Option Nat) (x : Option Reason)
    (refs : List RecRef) (xs : List (Option Reason × Reason)) (cs : List Ctr) (es : List Ev) (s t : State) : Prop where
  bag : IdentifiedAs c r ident entry chute x refs xs s t
  rdu : t.rdu = ⟨.idle, none⟩
  good : t.ctr .goodRead = satInc (s.ctr .goodRead)
  counted : ∀ k, k.byWrite = false → t.ctr k = if k ∈ cs then satInc (s.ctr k) else s.ctr k
  raised : ∀ e, e ≠ .dropped → t.ev e = (s.ev e || decide (e ∈ es))

theorem FoundBy.identified (h : FoundBy r refs xs cs es s p) (hr : r.ref ∈ refs) (hm : f.answer.isManual = false) (c : StationConfig) :
    Identified c r (f.write c r).ident (f.answer.entry.or r.entry) f.chute f.reason refs xs cs es s (p.writeFinding c f r) := by
  have hw := State.written_spec h.counters h.events h.found c f
  have hheld := Finding.heldAfter_eq hm r
  have hsoft := Finding.isNone_heldAfter hm r
  rw [State.writeFinding_of_found h.found, State.writeEntryDest_eq]
  set w := p.written c f r with hwdef
  obtain ⟨v, hfound⟩ := hw.found
  have hconf : Confined refs p w := hw.confined.mono (by simpa using hr)
  have hkept : ∀ es, OnlyParts [.btu, .rdu, .idt, .dvs, .hlc, .stu] s (w.setEntries es) := fun es => by
    have hidt : OnlyParts [.idt] w (w.setEntries es) := by simp [OnlyParts]
    exact ((h.parts.trans hconf.parts).trans hidt).mono (by decide)
  have hbtu : w.btu = { s.btu with queue := w.btu.queue } := by rw [hconf.btu, h.btu]
  have hgrants : OnlyGrants s w := fun d => by rw [hconf.grants d, h.grants d]
  have hframes : OnlyFrames s w := by
    have hto := hconf.frames
    have hfrom := h.frames
    rw [OnlyFrames] at *
    rw [hto, hfrom]
  obtain ⟨-, -, -, -, hrdu, -⟩ := hconf.parts
  refine ⟨⟨?_, ⟨_, hfound, rfl, rfl, rfl, rfl, ?_, Finding.finalReason_eq hm r, Finding.finalDest_eq hm c r, rfl, rfl, rfl, rfl, rfl, rfl, rfl,
    fun y hy hall hroom => ?_⟩, ?_, h.records.trans hconf.records, ?_, fun d => ?_, ?_, hkept _⟩, ?_, ?_, fun k hk => ?_, fun e he => ?_⟩
  · refine hw.cleared.trans ?_
    rw [h.cleared, hsoft]
    cases r.reason with
    | none => rfl
    | some y => cases hy : y.soft <;> simp [hy]
  · exact if_neg (by simp [hm])
  · exact hw.noticed y hy (hsoft.trans hall) (h.room hroom)
  · have := h.strays.trans hw.strays
    rwa [hheld] at this
  · exact hbtu
  · exact hgrants d
  · exact hframes
  · exact (hrdu.resolve_left (by decide)).trans h.rdu
  · exact hw.good.trans (by rw [h.good])
  · exact (hw.ctr k hk).trans (h.counted k hk)
  · exact (hw.ev e he).trans (h.raised e he)

end

end Sys2Proof.Machine
end

section
/-! SUPPORT. The entry after a write, and a write whose record a segment clear has taken first (R85, R89). -/

namespace Sys2Proof.Machine

open Sys2Proof

section
variable {s t p : State} {c : StationConfig} {f : Finding} {r : SegRec} {cs : List Ctr} {es : List Ev} {i : Nat} {e : IdtEntry} {k ks : Ctr}

/-! ### The entry after a write -/

theorem State.writeFinding_idt_of_none (h : p.findRec r.ref = some r) (hp : p.stu.counters.length = 117) (hp' : p.stu.events.length = 33)
    (hentry : f.answer.entry = none) (c : StationConfig) : (p.writeFinding c f r).idt = p.idt := by
  rw [State.writeFinding_of_found h, State.writeEntryDest_of_none hentry]
  exact (State.written_spec hp hp' h c f).confined.idt_eq

theorem State.writeFinding_idt_of_some (h : p.findRec r.ref = some r) (hp : p.stu.counters.length = 117) (hp' : p.stu.events.length = 33)
    (hentry : f.answer.entry = some i) (he : entryAt p.idt.entries i = some e) (c : StationConfig) : (p.writeFinding c f r).idt
      = { p.idt with entries := p.idt.entries.set i (some { e with dest := orZero (f.finalDest c r) }) } := by
  have hidt := (State.written_spec hp hp' h c f).confined.idt_eq
  rw [State.writeFinding_of_found h, State.writeEntryDest_of_some hentry (by rw [hidt]; exact he)]
  simp [State.writeEntry, hidt]

/-! ### The segment clear that comes first -/

theorem State.jamClr_eq (h : s.cfg = some c) :
    s.jamClr = (s.raiseJamPin.setBtu { s.btu with jamSample := true }).segmentClear c := by
  have hcfg : s.cfg = some c := h
  simp only [State.jamClr, hcfg]

theorem State.jamClr_ctr (h : s.cfg = some c) (hs : s.stu.counters.length = 117) (hq : k.ofQueue = false) (hg : k ≠ .grantCancelled) :
    s.jamClr.ctr k = s.ctr k := by
  rw [State.jamClr_eq h]
  exact State.segmentClear_ctr (t := s.raiseJamPin.setBtu { s.btu with jamSample := true }) hs c hq hg

theorem State.jamClr_fields (h : s.cfg = some c) : s.jamClr.btu.queue = [] ∧ s.jamClr.rdu = s.rdu ∧ s.jamClr.pending = s.pending
    ∧ s.jamClr.idt = { s.idt with
        entries := s.btu.queue.foldl (fun es (r : SegRec) => releaseEntry .cleared r.entry es) s.idt.entries }
    ∧ s.jamClr.stu.counters.length = s.stu.counters.length := by
  rw [State.jamClr_eq h]
  obtain ⟨hq, -, -, -, -, hidt, -⟩ := (s.raiseJamPin.setBtu { s.btu with jamSample := true }).segmentClear_fields c
  exact ⟨hq, by simp [State.raiseJamPin], by simp [State.raiseJamPin], hidt, by simp [State.raiseJamPin]⟩

theorem State.jamClr_entry (h : s.cfg = some c) (he : entryAt s.idt.entries i = some e) :
    entryAt s.jamClr.idt.entries i = some e ∨ entryAt s.jamClr.idt.entries i = some { e with state := .onLoop, age := 0 } := by
  obtain ⟨-, -, -, hidt, -⟩ := State.jamClr_fields h
  rw [hidt, entryAt_releaseEach .cleared s.btu.queue s.idt.entries i, he]
  split
  · exact .inr rfl
  · exact .inl rfl

/-! ### A late update -/

/-- A write that finds no record. -/
def State.undone (c : StationConfig) (f : Finding) (r : SegRec) (s : State) : State :=
  ((s.bump .lateUpdate).writeEntryDest f (f.finalDest c r)).undoRead f.answer f.old

theorem State.writeFinding_of_gone (h : s.findRec r.ref = none) (c : StationConfig) (f : Finding) : s.writeFinding c f r = s.undone c f r := by
  simp only [State.writeFinding, h, State.undone]

theorem State.undone_eq (s : State) (c : StationConfig) (f : Finding) (r : SegRec) :
    s.undone c f r = (s.bump .lateUpdate).setEntries (s.undone c f r).idt.entries := by
  have hundo : ∀ (t : State) (a : IdtAnswer) (old : Option IdtEntry), t.undoRead a old = t.setEntries (t.undoRead a old).idt.entries :=
    fun t a old => by cases a <;> rfl
  set v := (s.bump .lateUpdate).writeEntryDest f (f.finalDest c r) with hv
  calc s.undone c f r = v.setEntries (s.undone c f r).idt.entries := hundo _ _ _
    _ = ((s.bump .lateUpdate).setEntries v.idt.entries).setEntries (s.undone c f r).idt.entries := by rw [hv, ← State.writeEntryDest_eq]
    _ = (s.bump .lateUpdate).setEntries (s.undone c f r).idt.entries := rfl

/-- An entry made goes to ON_LOOP with the destination of the record as read. -/
theorem State.undone_made (hans : f.answer = .made i) (he : entryAt s.idt.entries i = some e) :
    entryAt (s.undone c f r).idt.entries i = some { e with dest := orZero (f.finalDest c r), state := .onLoop, age := 0 } := by
  have hlen : i < s.idt.entries.length := lt_of_entryAt he
  rw [State.undone, State.writeEntryDest_of_some (by rw [hans]; rfl) (by exact he), hans, State.undoRead,
    State.modifyEntry_writeEntry (by exact hlen)]
  exact entryAt_set_self (by exact hlen) _

/-- An entry moved returns to what it was. -/
theorem State.undone_moved (hans : f.answer = .returning i ∨ ∃ n, f.answer = .manual i n) (hlen : i < s.idt.entries.length) :
    entryAt (s.undone c f r).idt.entries i = f.old.map fun e => { e with age := 0 } := by
  have hdest : ∀ (t : State) (d : Option Nat), (t.writeEntryDest f d).idt.entries.length = t.idt.entries.length := fun t d => by
    unfold State.writeEntryDest
    split <;> simp [State.setEntryDest, State.modifyEntry]
  have hlen' : i < ((s.bump .lateUpdate).writeEntryDest f (f.finalDest c r)).idt.entries.length := by rw [hdest]; exact hlen
  rw [State.undone]
  rcases hans with hans | ⟨n, hans⟩ <;> rw [hans] <;> exact entryAt_set_self hlen' _

/-- What a late update leaves: entry i as e, counters k and ks counted, and no stray counted. -/
def LateUpdated (i : Nat) (e : IdtEntry) (pointer : Nat) (k ks : Ctr) (s t : State) : Prop :=
  t.btu.queue = [] ∧ entryAt t.idt.entries i = some e ∧ t.idt.pointer = pointer ∧ t.ctr k = satInc (s.ctr k)
    ∧ t.ctr .lateUpdate = satInc (s.ctr .lateUpdate) ∧ t.ctr .goodRead = s.ctr .goodRead ∧ t.ctr .straySet = s.ctr .straySet
    ∧ StrayCounted [] s t ∧ t.ctr ks = satInc (s.ctr ks) ∧ t.rdu = ⟨.idle, none⟩ ∧ t.pending = s.pending

theorem Tallied.lateUpdated (h : Tallied cs es s p) (hcs : ∀ k ∈ cs, k.byWrite = false) (hparts : OnlyParts [.rdu, .idt, .stu] s p)
    (hrdu : p.rdu = ⟨.idle, none⟩) (hc : p.cfg = some c) (hk : k ∈ cs) (hks : ks ∈ cs)
    (he : entryAt (p.jamClr.undone c f r).idt.entries i = some e) :
    LateUpdated i e p.idt.pointer k ks s ((p.takeRace c (some .jamClr)).writeFinding c f r) := by
  obtain ⟨hq, hr, hpend, hidt, hlen⟩ := State.jamClr_fields hc
  have hgone : (p.takeRace c (some .jamClr)).findRec r.ref = none := by
    change p.jamClr.btu.queue.find? _ = none
    rw [hq]
    rfl
  rw [State.writeFinding_of_gone hgone]
  change LateUpdated i e p.idt.pointer k ks s (p.jamClr.undone c f r)
  rw [State.undone_eq]
  have hctr : ∀ a : Ctr, a.ofQueue = false → a ≠ .grantCancelled → ((p.jamClr.bump .lateUpdate).setEntries
      (p.jamClr.undone c f r).idt.entries).ctr a = if a = .lateUpdate then satInc (p.ctr a) else p.ctr a := fun a ha hg => by
    rw [← State.jamClr_ctr hc h.counters ha hg]
    exact State.bump_ctr (hlen.trans h.counters) _ _
  have hkept : ∀ a : Ctr, a ∉ cs → p.ctr a = s.ctr a := fun a ha => (h.counted a).trans (if_neg ha)
  have hfresh : ∀ a : Ctr, a.byWrite = true → a ∉ cs := fun a ha hm => by rw [hcs a hm] at ha; exact Bool.false_ne_true ha
  have hstray : ∀ a : Ctr, a = .straySet ∨ a = .strayReplaced ∨ a = .strayKept → ((p.jamClr.bump .lateUpdate).setEntries
      (p.jamClr.undone c f r).idt.entries).ctr a = s.ctr a := fun a ha => by
    rcases ha with rfl | rfl | rfl <;> exact (hctr _ rfl (by decide)).trans (hkept _ (hfresh _ rfl))
  have hcounted : ∀ a ∈ cs, ((p.jamClr.bump .lateUpdate).setEntries (p.jamClr.undone c f r).idt.entries).ctr a = satInc (s.ctr a) := by
    intro a ha
    obtain ⟨hq, -, -, -, -, -, hlate, -, hg⟩ := Ctr.byWrite_eq_false.1 (hcs a ha)
    rw [hctr a hq hg, if_neg hlate, h.counted, if_pos ha]
  obtain ⟨hpending, -⟩ := hparts
  refine ⟨hq, he, ?_, hcounted k hk, ?_, ?_, hstray _ (.inl rfl), .of_same hstray, hcounted ks hks, hr.trans hrdu, hpend.trans hpending⟩
  · change p.jamClr.idt.pointer = p.idt.pointer
    rw [hidt]
  · exact ((hctr _ rfl (by decide)).trans (if_pos rfl)).trans (by rw [hkept _ (hfresh _ rfl)])
  · exact ((hctr _ rfl (by decide)).trans (if_neg (by decide))).trans (hkept _ (hfresh _ rfl))

end

end Sys2Proof.Machine
end

section
/-! SUPPORT. The identity table's part of an identification, case by case (R82 to R88), and the decode after it (R72). -/

namespace Sys2Proof.Machine

open Sys2Proof

section
variable {s u v p : State} {c : StationConfig} {rc : ReaderConfig} {r : SegRec} {id : Identity} {sl : Sailing} {dd : Decode} {a : IdtAnswer}
  {cs : List Ctr} {es : List Ev} {i : Nat} {e : IdtEntry}

/-! ### The sailing check -/

theorem State.countSailing_rest (s : State) (sl : Sailing) : s.countSailing sl = { s with stu := (s.countSailing sl).stu } := by
  cases sl <;> rfl

theorem State.find_of_refused (h : sailingCheck rc id.sailing = .refused) (c : StationConfig) (s : State) :
    s.find c rc id = (s.countSailing .refused, ⟨id, true, .noEntry, none, none, some .wrongSailing⟩) := by
  simp only [State.find, h, if_true]

theorem State.find_of_accepted (h : sailingCheck rc id.sailing = sl) (hsl : sl ≠ .refused) (c : StationConfig) (s : State) :
    s.find c rc id = (s.countSailing sl).findEntry c sl id := by
  simp only [State.find, h, hsl, if_false]

/-! ### The table's answer -/

/-- The state in which a read has been given entry i. -/
def State.entryMade (i : Nat) (id : Identity) (s : State) : State := ((s.countReuse i).writeEntry i (newEntry id)).bump .newTag

theorem State.readIdt_of_miss (h : probe s.idt.entries id.tag id.sailing = none) (c : StationConfig) : s.readIdt c id = s.missedRead c id := by
  simp only [State.readIdt, h]

theorem State.missedRead_of_clash (h : tagTest s.idt.entries id.tag = some i) (he : entryAt s.idt.entries i = some e) (c : StationConfig) :
    s.missedRead c id = if e.state = .onSegment then (s.bump .tagClash, .noEntry) else ((s.bump .tagClash).entryMade i id, .made i) := by
  simp only [State.missedRead, h, inState_eq he, beq_iff_eq]
  rfl

theorem State.missedRead_of_full (h : tagTest s.idt.entries id.tag = none)
    (hr : rotating c.ageLimit s.idt.pointer s.idt.entries = none) :
    s.missedRead c id = ((s.bump .idtFull).raiseEv .idtFull, .noEntry) := by
  simp only [State.missedRead, h, hr]

theorem State.missedRead_of_room (h : tagTest s.idt.entries id.tag = none)
    (hr : rotating c.ageLimit s.idt.pointer s.idt.entries = some i) :
    s.missedRead c id = (({ s with idt := { s.idt with pointer := pointerAfter i } } : State).entryMade i id, .made i) := by
  simp only [State.missedRead, h, hr]
  rfl

/-- An entry hit whose tag is a duplicate, before any offer to the bag that carries it. -/
def State.duplicateHit (i : Nat) (e : IdtEntry) (s : State) : State :=
  ((s.writeEntry i { e with age := 0 }).bump .duplicateTag).raiseEv .duplicate

section
variable (hp : probe s.idt.entries id.tag id.sailing = some i) (he : entryAt s.idt.entries i = some e)
include hp he

/-- An entry hit that goes back on the segment. -/
theorem State.readIdt_of_waiting (c : StationConfig) (hst : e.state = .onLoop ∨ e.state = .manual) :
    s.readIdt c id = if e.state = .onLoop
      then ((s.writeEntry i { e with state := .onSegment, age := 0 }).bump .returning, .returning i)
      else ((s.writeEntry i { e with state := .onSegment, age := 0 }).bump .manualHit, .manual i e.dest) := by
  simp only [State.readIdt, hp, he, State.restartAge_eq he, State.modifyEntry_writeEntry (lt_of_entryAt he)]
  rcases hst with hst | hst <;> simp [hst]

theorem State.readIdt_of_diverted (c : StationConfig) (hst : e.state = .diverted) :
    s.readIdt c id = (s.duplicateHit i e, .duplicate) := by
  simp only [State.readIdt, hp, he, State.restartAge_eq he, State.duplicateHit, hst]

theorem State.readIdt_of_onSegment (c : StationConfig) (hst : e.state = .onSegment) {q : SegRec}
    (hq : s.btu.queue.find? (fun (x : SegRec) => x.entry == some i) = some q) :
    s.readIdt c id = ((s.duplicateHit i e).offer c q.ref .duplicateTag, .duplicate) := by
  have href : (s.duplicateHit i e).referrer i = some q.ref := congrArg (Option.map SegRec.ref) hq
  simp only [State.duplicateHit, hst] at href
  simp only [State.readIdt, hp, he, State.restartAge_eq he, State.duplicateHit, hst, href]

end

/-! ### The decode -/

/-- A finding with a decode. -/
def decodedFinding (id : Identity) (a : IdtAnswer) (old : Option IdtEntry) (dd : Decode) : Finding := ⟨id, false, a, old, dd.chute, dd.reason⟩

theorem State.findEntry_of_decoded (h : s.readIdt c id = (p, a)) (ha : a = .noEntry ∨ (∃ i, a = .made i) ∨ ∃ i, a = .returning i)
    (hdd : decodeDestination c p.rrv sl id.cabin = dd) : s.findEntry c sl id
      = (p.countDecode dd, decodedFinding id a (a.entry.bind fun i => entryAt s.idt.entries i) dd) := by
  rcases ha with rfl | ⟨i, rfl⟩ | ⟨i, rfl⟩ <;> simp only [State.findEntry, h, hdd, decodedFinding]

theorem State.findEntry_of_duplicate (h : s.readIdt c id = (p, .duplicate)) (sl : Sailing) :
    s.findEntry c sl id = (p, ⟨id, false, .duplicate, none, none, some .duplicateTag⟩) := by
  simp only [State.findEntry, h]
  rfl

theorem State.findEntry_of_manual {n : Nat} (h : s.readIdt c id = (p, .manual i n)) (sl : Sailing) :
    s.findEntry c sl id = (p, ⟨id, false, .manual i n, entryAt s.idt.entries i, some n, none⟩) := by
  simp only [State.findEntry, h]
  rfl

theorem State.countDecode_rest (s : State) (dd : Decode) : s.countDecode dd = { s with stu := (s.countDecode dd).stu } := by
  cases dd <;> rfl

theorem OnlyParts.countDecode {ps : List Part} (h : OnlyParts ps s p) (hm : .stu ∈ ps) (dd : Decode) : OnlyParts ps s (p.countDecode dd) := by
  rw [State.countDecode_rest]
  refine (h.trans (t := p) (qs := [.stu]) (by simp [OnlyParts])).mono ?_
  simpa using hm

/-! ### What the table's part counts -/

/-- What an entry taken from a MANUAL tag counts. -/
def reuseCtrs (es : List (Option IdtEntry)) (i : Nat) : List Ctr := if inState es i .manual then [.manualReused] else []

theorem Tallied.entryMade (h : Tallied cs es s p) (hr : .manualReused ∉ cs) (hn : .newTag ∉ cs) (i : Nat) (id : Identity) :
    Tallied (cs ++ reuseCtrs p.idt.entries i ++ [.newTag]) es s (p.entryMade i id) := by
  have hreuse : Tallied (cs ++ reuseCtrs p.idt.entries i) es s (p.countReuse i) := by
    unfold State.countReuse reuseCtrs
    split
    · exact h.bump hr
    · rw [List.append_nil]; exact h
  have hwrite : ((p.countReuse i).writeEntry i (newEntry id)).stu = (p.countReuse i).stu := rfl
  refine (hreuse.same hwrite).bump ?_
  unfold reuseCtrs
  split <;> simp [hn]

theorem State.entryMade_rest (s : State) (i : Nat) (id : Identity) : s.entryMade i id
    = { s with idt := { s.idt with entries := s.idt.entries.set i (some (newEntry id)) }, stu := (s.entryMade i id).stu } := by
  unfold State.entryMade State.countReuse
  split <;> rfl

theorem byWrite_reuseCtrs (es : List (Option IdtEntry)) (i : Nat) : ∀ k ∈ reuseCtrs es i, k.byWrite = false := by
  unfold reuseCtrs
  split <;> simp [Ctr.byWrite, Ctr.ofQueue]

theorem mem_reuseCtrs (es : List (Option IdtEntry)) (i : Nat) (k : Ctr) :
    k ∈ reuseCtrs es i ↔ k = .manualReused ∧ (entryAt es i).any (·.state == .manual) = true := by
  unfold reuseCtrs inState
  split <;> simp [*]

/-! ### The outcome of a decode -/

theorem Identified.decode {ident : Option Identity} {entry chute : Option Nat} {x : Option Reason} {refs : List RecRef}
    {xs : List (Option Reason × Reason)} {t : State}
    (h : Identified c r ident entry chute x refs xs (cs ++ [decodeCtr dd]) (es ++ decodeEvs dd) s t) (hks : sailingCtr sl ∈ cs) :
    t.ctr .goodRead = satInc (s.ctr .goodRead) ∧ t.ctr (sailingCtr sl) = satInc (s.ctr (sailingCtr sl))
      ∧ t.ctr (decodeCtr dd) = satInc (s.ctr (decodeCtr dd)) ∧ (dd = .noCabin → t.ev .noCabin = true)
      ∧ (dd = .unavailable → t.ev .chuteUnavailable = true) ∧ IdentifiedAs c r ident entry chute x refs xs s t := by
  refine ⟨h.good, ?_, ?_, ?_, ?_, h.bag⟩
  · rw [h.counted _ (byWrite_sailingCtr sl), if_pos (List.mem_append_left _ hks)]
  · rw [h.counted _ (byWrite_decodeCtr dd), if_pos (by simp)]
  · rintro rfl
    rw [h.raised _ (by decide)]
    simp [decodeEvs]
  · rintro rfl
    rw [h.raised _ (by decide)]
    simp [decodeEvs]

end

end Sys2Proof.Machine
end

section
/-! SUPPORT. A read that the sailing check accepts on one bag without identity: the outcomes of its table answers, with the record still
there and with a segment clear first (R72, R85 to R89). -/

namespace Sys2Proof.Machine

open Sys2Proof

section
variable {s v p : State} {c : StationConfig} {rc : ReaderConfig} {r : SegRec} {id : Identity} {sl : Sailing} {dd : Decode} {a : IdtAnswer}
  {cs : List Ctr} {es : List Ev} {i : Nat} {e : IdtEntry} {held : List Byte}

theorem OnlyParts.cfg_eq {ps : List Part} (h : OnlyParts ps s p) (hm : .cfl ∉ ps) : p.cfg = s.cfg := by
  obtain ⟨-, -, hcfl, -⟩ := h
  rw [State.cfg, hcfl.resolve_left hm]
  rfl

/-- The identification of a valid read on one record, unread or without identity. -/
theorem exec_identify (hc : s.cfg = some c) (hr : c.reader = true) (hrc : c.readerSection = some rc)
    (ha : s.rdu.asm = .assembling held) (hlen : held.length = 21) (hhead : held.head? = some letterR) (hvalid : recordValid held = true)
    (hone : candidates rc s = [r]) (hid : recordIdentity held = id)
    (hown : ∀ x ∈ r.ident, x.tag = id.tag ∧ x.sailing = id.sailing ∧ r.readStatus ≠ .read) (race : Option Race) :
    exec (.scanByte charCR false race) s = .next ((s.readReceived held).identify c rc id r race) := by
  have hN : held ≠ [letterN] := fun h => by simp [h] at hlen
  have hscan : scanOf held = .valid id := by rw [scanOf, if_neg hN, if_pos hvalid, hid]
  rw [exec_readRecord hc hr hrc ha (.inr ⟨hlen, hhead⟩), State.associate_of_one ((candidates_readReceived rc s held).trans hone), hscan]
  have hnew : ¬ (r.readStatus = .read ∧ r.ident.any (·.sameTag id) = true) ∧ ¬ r.ident.any (fun j => !j.sameTag id) = true := by
    cases hi : r.ident with
    | none => simp
    | some x =>
      obtain ⟨htag, hsailing, hread⟩ := hown x hi
      simp [(sameTag_iff x id).2 ⟨htag, hsailing⟩, hread]
  rw [State.singleRead, if_neg hnew.1, if_neg hnew.2]

/-- A read on record r that the sailing check has accepted as sl: v is the station then, dd the decode. -/
structure AcceptedRead (c : StationConfig) (r : SegRec) (id : Identity) (sl : Sailing) (dd : Decode) (s v : State) : Prop where
  exec : ∀ race, exec (.scanByte charCR false race) s
    = .next (((v.findEntry c sl id).1.takeRace c race).writeFinding c (v.findEntry c sl id).2 r)
  tally : Tallied [sailingCtr sl] [] s v
  parts : OnlyParts [.rdu, .stu] s v
  rdu : v.rdu = ⟨.idle, none⟩
  cfg : s.cfg = some c
  decode : decodeDestination c s.rrv sl id.cabin = dd
  found : s.findRec r.ref = some r

/-- A state between: the table's part has counted cs and raised es, and touched no other part. -/
structure TableDone (cs : List Ctr) (es : List Ev) (s p : State) : Prop where
  tally : Tallied cs es s p
  own : ∀ k ∈ cs, k.byWrite = false
  parts : OnlyParts [.rdu, .idt, .stu] s p
  rdu : p.rdu = ⟨.idle, none⟩

theorem TableDone.decoded (h : TableDone cs es s p) (dd : Decode) (hn : decodeCtr dd ∉ cs) :
    TableDone (cs ++ [decodeCtr dd]) (es ++ decodeEvs dd) s (p.countDecode dd) := by
  refine ⟨h.tally.countDecode dd hn, fun k hk => ?_, h.parts.countDecode (by simp) dd, by rw [State.countDecode_rest]; exact h.rdu⟩
  rcases List.mem_append.1 hk with hk | hk
  · exact h.own k hk
  · rw [List.mem_singleton.1 hk]; exact byWrite_decodeCtr dd

/-- The destination written to the entry. -/
def entryDest (c : StationConfig) (r : SegRec) (dd : Decode) : Nat :=
  if r.reason.all Reason.soft = true ∧ dd.reason = none then dd.chute.getD 0 else c.problem

theorem orZero_finalDest (ha : a.isManual = false) (old : Option IdtEntry) (c : StationConfig) (r : SegRec) :
    orZero ((decodedFinding id a old dd).finalDest c r) = entryDest c r dd := by
  rw [Finding.finalDest_eq (f := decodedFinding id a old dd) ha]
  unfold entryDest decodedFinding
  split <;> rfl

/-- The outcome of a decode, with the record still there. -/
theorem AcceptedRead.identified (h : AcceptedRead c r id sl dd s v) (hread : v.readIdt c id = (p, a))
    (ha : a = .noEntry ∨ (∃ i, a = .made i) ∨ ∃ i, a = .returning i) (hp : TableDone cs es s p) (hn : decodeCtr dd ∉ cs) :
    ∃ t, Sys2Proof.Machine.exec (.scanByte charCR false none) s = .next t
      ∧ Identified c r (some id) (a.entry.or r.entry) dd.chute dd.reason [r.ref] [] (cs ++ [decodeCtr dd]) (es ++ decodeEvs dd) s t
      ∧ (a.entry = none → t.idt = p.idt)
      ∧ ∀ i e, a.entry = some i → entryAt p.idt.entries i = some e →
        t.idt = { p.idt with entries := p.idt.entries.set i (some { e with dest := entryDest c r dd }) } := by
  have hrrv : p.rrv = s.rrv := by
    obtain ⟨-, -, -, -, -, -, hrrv, -⟩ := hp.parts
    exact hrrv.resolve_left (by decide)
  have hfind := State.findEntry_of_decoded hread ha (hrrv ▸ h.decode)
  have hm : a.isManual = false := by rcases ha with rfl | ⟨i, rfl⟩ | ⟨i, rfl⟩ <;> rfl
  have hexec := h.exec none
  rw [hfind] at hexec
  set old := a.entry.bind fun i => entryAt v.idt.entries i
  have hdone := hp.decoded dd hn
  have hby := FoundBy.of_tallied hdone.tally hdone.own hdone.parts hdone.rdu h.found
  have hidt : (p.countDecode dd).idt = p.idt := by rw [State.countDecode_rest]
  refine ⟨_, hexec, hby.identified (List.mem_singleton_self _) (f := decodedFinding id a old dd) hm c, fun hentry => ?_, fun i e hentry he => ?_⟩
  · rw [← hidt]
    exact State.writeFinding_idt_of_none hby.found hby.counters hby.events (f := decodedFinding id a old dd) hentry c
  · have hwritten := State.writeFinding_idt_of_some hby.found hby.counters hby.events (f := decodedFinding id a old dd) hentry
      (by rw [hidt]; exact he) c
    rw [orZero_finalDest hm, hidt] at hwritten
    exact hwritten

/-- The outcome of a decode whose record a segment clear takes first. -/
theorem AcceptedRead.late (h : AcceptedRead c r id sl dd s v) (hread : v.readIdt c id = (p, a)) (hp : TableDone cs es s p)
    (hn : decodeCtr dd ∉ cs) {k : Ctr} (hk : k ∈ cs) (hks : sailingCtr sl ∈ cs) :
    (∀ e, a = .made i → entryAt p.idt.entries i = some e → ∃ t, Sys2Proof.Machine.exec (.scanByte charCR false (some .jamClr)) s = .next t
      ∧ LateUpdated i { e with dest := entryDest c r dd, state := .onLoop, age := 0 } p.idt.pointer k (sailingCtr sl) s t)
    ∧ ∀ e, a = .returning i → i < p.idt.entries.length → entryAt v.idt.entries i = some e →
      ∃ t, Sys2Proof.Machine.exec (.scanByte charCR false (some .jamClr)) s = .next t
        ∧ LateUpdated i { e with age := 0 } p.idt.pointer k (sailingCtr sl) s t := by
  have hrrv : p.rrv = s.rrv := by
    obtain ⟨-, -, -, -, -, -, hrrv, -⟩ := hp.parts
    exact hrrv.resolve_left (by decide)
  have hexec := h.exec (some .jamClr)
  have hdone := hp.decoded dd hn
  have hcfg : (p.countDecode dd).cfg = some c := (hdone.parts.cfg_eq (by decide)).trans h.cfg
  have hidt : (p.countDecode dd).idt = p.idt := by rw [State.countDecode_rest]
  have hlate : ∀ {f : Finding} {e : IdtEntry}, entryAt ((p.countDecode dd).jamClr.undone c f r).idt.entries i = some e →
      LateUpdated i e (p.countDecode dd).idt.pointer k (sailingCtr sl) s (((p.countDecode dd).takeRace c (some .jamClr)).writeFinding c f r) :=
    fun he => hdone.tally.lateUpdated hdone.own hdone.parts hdone.rdu hcfg (List.mem_append_left _ hk) (List.mem_append_left _ hks) he
  rw [hidt] at hlate
  refine ⟨fun e ha he => ?_, fun e ha hlen he => ?_⟩
  · rw [State.findEntry_of_decoded hread (.inr (.inl ⟨i, ha⟩)) (hrrv ▸ h.decode)] at hexec
    refine ⟨_, hexec, hlate ?_⟩
    rw [← orZero_finalDest (id := id) (a := a) (by rw [ha]; rfl) (a.entry.bind fun i => entryAt v.idt.entries i)]
    rcases State.jamClr_entry hcfg (by rw [hidt]; exact he) with hj | hj 
    · exact State.undone_made ha hj
    · have hmade := State.undone_made (f := decodedFinding id a (a.entry.bind fun i => entryAt v.idt.entries i) dd) (c := c) (r := r) ha hj
      exact hmade
  · rw [State.findEntry_of_decoded hread (.inr (.inr ⟨i, ha⟩)) (hrrv ▸ h.decode)] at hexec
    refine ⟨_, hexec, hlate ?_⟩
    obtain ⟨-, -, -, hjidt, -⟩ := State.jamClr_fields hcfg
    have hjlen : (p.countDecode dd).jamClr.idt.entries.length = p.idt.entries.length := by
      rw [hjidt, hidt]
      exact length_releaseEach _ _ _
    rw [State.undone_moved (.inl ha) (by rw [hjlen]; exact hlen)]
    subst ha
    exact congrArg (Option.map fun e : IdtEntry => { e with age := 0 }) he

end

end Sys2Proof.Machine
end

section
/-! SUPPORT. The outcomes of a read that hits an entry: DUPLICATE_TAG with an offer to the other bag, and a MANUAL entry (R87, R88). -/

namespace Sys2Proof.Machine

open Sys2Proof

section
variable {s v p : State} {c : StationConfig} {r u : SegRec} {id : Identity} {sl : Sailing} {dd : Decode} {cs : List Ctr} {es : List Ev}
  {refs : List RecRef} {xs : List (Option Reason × Reason)} {i n : Nat} {e : IdtEntry} {x : Reason}

theorem TableDone.foundBy (h : TableDone cs es s p) (hfind : s.findRec r.ref = some r) : FoundBy r [r.ref] [] cs es s p :=
  .of_tallied h.tally h.own h.parts h.rdu hfind

/-- An offer to another record before the write. -/
theorem FoundBy.offer (h : FoundBy r [r.ref] [] cs es s p) (hhlc : p.hlc = s.hlc) (hu : p.findRec u.ref = some u) (hne : u.ref ≠ r.ref)
    (c : StationConfig) (x : Reason) : FoundBy r [r.ref, u.ref] [(u.reason, x)] cs es s (p.offer c u.ref x) := by
  have hconf : Confined [r.ref, u.ref] p (p.offer c u.ref x) := (Confined.refl _ p).offer c x (by simp)
  obtain ⟨hlen, hevs⟩ := p.offer_stu_lengths c u.ref x
  obtain ⟨-, -, -, -, hrdu, -⟩ := hconf.parts
  refine ⟨(h.parts.trans hconf.parts).mono (by decide), (hrdu.resolve_left (by decide)).trans h.rdu, by rw [hconf.btu, h.btu],
    fun d => by rw [hconf.grants d, h.grants d], ?_, (h.records.mono (by simp)).trans hconf.records,
    (State.findRec_offer_of_ne hne.symm p c x).trans h.found, fun hroom => ?_, h.strays.trans (StrayCounted.offer h.counters hu c x), ?_, ?_,
    fun k hk => ?_, fun e he => (State.offer_ev h.events c u.ref x he).trans (h.raised e he), hlen.trans h.counters, hevs.trans h.events⟩
  · have hto := hconf.frames
    rw [OnlyFrames, hhlc] at hto
    exact hto
  · rw [State.offer_outbound hu, hhlc]
    split
    · have hle := s.queueFrame_length_le (.strayNotice ⟨x, u.ident, u.passes, orZero u.dest, u.origin⟩)
      rw [State.queueFrame_queue] at hle
      omega
    · omega
  · rw [← h.cleared]
    exact State.offer_ctr_of_ne h.counters hu c x (by decide) (by decide) rfl (by decide) (by decide) (by decide)
  · rw [← h.good]
    exact State.offer_ctr_of_ne h.counters hu c x (by decide) (by decide) rfl (by decide) (by decide) (by decide)
  · obtain ⟨hq, -, -, hset, hreplaced, hkept, hlate, hwith, -⟩ := Ctr.byWrite_eq_false.1 hk
    exact (State.offer_ctr_of_ne h.counters hu c x hlate hwith hq hset hreplaced hkept).trans (h.counted k hk)

/-- The outcome of a duplicate. -/
theorem AcceptedRead.duplicate (h : AcceptedRead c r id sl dd s v) (hread : v.readIdt c id = (p, .duplicate))
    (hp : FoundBy r refs xs cs es s p) (hr : r.ref ∈ refs) :
    ∃ t, Sys2Proof.Machine.exec (.scanByte charCR false none) s = .next t
      ∧ Identified c r (some id) r.entry none (some .duplicateTag) refs xs cs es s t ∧ t.idt = p.idt ∧ Confined [r.ref] p t := by
  have hexec := h.exec none
  rw [State.findEntry_of_duplicate hread] at hexec
  refine ⟨_, hexec, hp.identified hr (f := ⟨id, false, .duplicate, none, none, some .duplicateTag⟩) rfl c,
    State.writeFinding_idt_of_none hp.found hp.counters hp.events (f := ⟨id, false, .duplicate, none, none, some .duplicateTag⟩) rfl c, ?_⟩
  change Confined [r.ref] p (p.writeFinding c _ r)
  rw [State.writeFinding_of_found hp.found, State.writeEntryDest_of_none rfl]
  exact (State.written_spec hp.counters hp.events hp.found c _).confined

theorem Identified.tagged {ident : Option Identity} {entry chute : Option Nat} {y : Option Reason} {t : State} {ks : Ctr}
    (h : Identified c r ident entry chute y refs xs cs es s t) (hks : ks ∈ cs) (hby : ks.byWrite = false) :
    t.ctr .goodRead = satInc (s.ctr .goodRead) ∧ t.ctr ks = satInc (s.ctr ks) ∧ IdentifiedAs c r ident entry chute y refs xs s t := by
  refine ⟨h.good, ?_, h.bag⟩
  rw [h.counted _ hby, if_pos hks]

/-- The finding of a MANUAL entry. -/
def manualFinding (id : Identity) (i n : Nat) (old : Option IdtEntry) : Finding := ⟨id, false, .manual i n, old, some n, none⟩

/-- What a MANUAL hit leaves (R73, R87). -/
structure ManuallyIdentified (r : SegRec) (id : Identity) (i n : Nat) (cs : List Ctr) (s t : State) : Prop where
  rdu : t.rdu = ⟨.idle, none⟩
  good : t.ctr .goodRead = satInc (s.ctr .goodRead)
  counted : ∀ k, k.byWrite = false → t.ctr k = if k ∈ cs then satInc (s.ctr k) else s.ctr k
  cleared : t.ctr .strayCleared = if r.reason.isSome then satInc (s.ctr .strayCleared) else s.ctr .strayCleared
  raised : Raised [] s t
  strays : StrayCounted [] s t
  found : ∃ q ∈ t.findRec r.ref, q.ident = some id ∧ q.entry = some i ∧ q.readStatus = .read ∧ q.ambiguous = false ∧ q.passes = 0
    ∧ q.reason = none ∧ q.dest = some n ∧ q.len = r.len ∧ q.origin = r.origin
  records : OnlyRecords [r.ref] s t
  btu : t.btu = { s.btu with queue := t.btu.queue }
  grants : OnlyGrants s t
  parts : OnlyParts [.btu, .rdu, .idt, .dvs, .stu] s t

theorem AcceptedRead.manual (h : AcceptedRead c r id sl dd s v) (hread : v.readIdt c id = (p, .manual i n)) (hp : TableDone cs [] s p)
    (he : entryAt p.idt.entries i = some e) :
    ∃ t, Sys2Proof.Machine.exec (.scanByte charCR false none) s = .next t ∧ ManuallyIdentified r id i n cs s t
      ∧ t.idt = { p.idt with entries := p.idt.entries.set i (some { e with dest := n }) } := by
  have hexec := h.exec none
  rw [State.findEntry_of_manual hread] at hexec
  have hby := hp.foundBy h.found
  set f := manualFinding id i n (entryAt v.idt.entries i) with hf
  have hw := State.written_spec hby.counters hby.events hby.found c f
  refine ⟨_, hexec, ?_, State.writeFinding_idt_of_some hby.found hby.counters hby.events (f := f) rfl he c⟩
  change ManuallyIdentified r id i n cs s (p.writeFinding c f r)
  rw [State.writeFinding_of_found hby.found, State.writeEntryDest_eq]
  obtain ⟨v, hfound⟩ := hw.found
  obtain ⟨hhlc, hev⟩ := hw.quiet rfl
  obtain ⟨hpend, hpins, hcfl, -, hrdu, -, hrrv, -, -, -⟩ := hw.confined.parts
  obtain ⟨hpend', hpins', hcfl', -, -, -, hrrv', -, hhlc', -⟩ := hp.parts
  refine ⟨(hrdu.resolve_left (by decide)).trans hby.rdu, ?_, fun k hk => ?_, ?_, fun e => ?_,
    ?_, ⟨_, hfound, rfl, rfl, rfl, rfl, rfl, rfl, rfl, rfl, rfl⟩, hby.records.trans hw.confined.records, ?_, fun d => ?_, ?_⟩
  · exact hw.good.trans (by rw [hby.good])
  · exact (hw.ctr k hk).trans (hby.counted k hk)
  · refine hw.cleared.trans ?_
    rw [hby.cleared, Finding.heldAfter_manual rfl]
    simp
  · exact (hev e).trans (hp.tally.raised e)
  · exact hby.strays.trans hw.strays
  · have hbtu : (p.written c f r).btu = { s.btu with queue := (p.written c f r).btu.queue } := by rw [hw.confined.btu, hby.btu]
    exact hbtu
  · have hgrants : (p.written c f r).dvs.get d = { s.dvs.get d with grants := ((p.written c f r).dvs.get d).grants } := by
      rw [hw.confined.grants d, hby.grants d]
    exact hgrants
  · refine ⟨hpend.trans hpend', .inr ((hpins.resolve_left (by decide)).trans (hpins'.resolve_left (by decide))),
      .inr ((hcfl.resolve_left (by decide)).trans (hcfl'.resolve_left (by decide))), .inl (by decide), .inl (by decide), .inl (by decide),
      .inr ((hrrv.resolve_left (by decide)).trans (hrrv'.resolve_left (by decide))), .inl (by decide),
      .inr (hhlc.trans (hhlc'.resolve_left (by decide))), .inl (by decide)⟩

theorem AcceptedRead.manualLate (h : AcceptedRead c r id sl dd s v) (hread : v.readIdt c id = (p, .manual i n)) (hp : TableDone cs [] s p)
    (hlen : i < p.idt.entries.length) (he : entryAt v.idt.entries i = some e) {k ks : Ctr} (hk : k ∈ cs) (hks : ks ∈ cs) :
    ∃ t, Sys2Proof.Machine.exec (.scanByte charCR false (some .jamClr)) s = .next t
      ∧ LateUpdated i { e with age := 0 } p.idt.pointer k ks s t := by
  have hexec := h.exec (some .jamClr)
  rw [State.findEntry_of_manual hread] at hexec
  have hcfg : p.cfg = some c := (hp.parts.cfg_eq (by decide)).trans h.cfg
  obtain ⟨-, -, -, hjidt, -⟩ := State.jamClr_fields hcfg
  have hjlen : p.jamClr.idt.entries.length = p.idt.entries.length := by
    rw [hjidt]
    exact length_releaseEach _ _ _
  refine ⟨_, hexec, hp.tally.lateUpdated hp.own hp.parts hp.rdu hcfg hk hks ?_⟩
  rw [State.undone_moved (.inr ⟨n, rfl⟩) (by rw [hjlen]; exact hlen)]
  exact congrArg (Option.map fun e : IdtEntry => { e with age := 0 }) he

end

end Sys2Proof.Machine
end

section
/-! OBLIGATION PROOF. A valid read on one bag identifies it (O32). -/

namespace Sys2Proof.Machine

open Sys2Proof

section
variable {s v p : State} {c : StationConfig} {rc : ReaderConfig} {r : SegRec} {id : Identity} {sl : Sailing} {dd : Decode} {cs : List Ctr}
  {es : List Ev} {i : Nat} {e : IdtEntry} {held : List Byte}

/-! ### Steps of the table's part -/

theorem TableDone.bump (h : TableDone cs es s p) {a : Ctr} (ha : a ∉ cs) (hby : a.byWrite = false) : TableDone (cs ++ [a]) es s (p.bump a) := by
  refine ⟨h.tally.bump ha, fun k hk => ?_, by simpa [OnlyParts] using h.parts, by simpa using h.rdu⟩
  rcases List.mem_append.1 hk with hk | hk
  · exact h.own k hk
  · rwa [List.mem_singleton.1 hk]

theorem TableDone.raise (h : TableDone cs es s p) (x : Ev) : TableDone cs (es ++ [x]) s (p.raiseEv x) :=
  ⟨h.tally.raise x, h.own, by simpa [OnlyParts] using h.parts, h.rdu⟩

theorem TableDone.table (h : TableDone cs es s p) (t : Idt) : TableDone cs es s { p with idt := t } :=
  ⟨h.tally.same rfl, h.own, (h.parts.trans (t := p) (qs := [.idt]) (by simp [OnlyParts])).mono (by decide), h.rdu⟩

theorem TableDone.entryMade (h : TableDone cs es s p) (hr : .manualReused ∉ cs) (hn : .newTag ∉ cs) (i : Nat) (id : Identity) :
    TableDone (cs ++ reuseCtrs p.idt.entries i ++ [.newTag]) es s (p.entryMade i id) := by
  refine ⟨h.tally.entryMade hr hn i id, fun k hk => ?_, ?_, ?_⟩
  · simp only [List.mem_append, List.mem_singleton] at hk
    rcases hk with (hk | hk) | rfl
    · exact h.own k hk
    · exact byWrite_reuseCtrs _ _ k hk
    · rfl
  · rw [State.entryMade_rest]
    exact (h.parts.trans (t := p) (qs := [.idt, .stu]) (by simp [OnlyParts])).mono (by decide)
  · rw [State.entryMade_rest]
    exact h.rdu

theorem TableDone.duplicateHit (h : TableDone cs es s p) (hn : .duplicateTag ∉ cs) (i : Nat) (e : IdtEntry) :
    TableDone (cs ++ [.duplicateTag]) (es ++ [.duplicate]) s (p.duplicateHit i e) :=
  ((h.table _).bump hn rfl).raise .duplicate

/-- The counters of the table's part. -/
def tableCtrs : List Ctr := [.newTag, .manualReused, .idtFull, .tagClash, .returning, .manualHit, .duplicateTag]

theorem tableCtrs_ne_sailingCtr (sl : Sailing) : ∀ k ∈ tableCtrs, k ≠ sailingCtr sl := by cases sl <;> decide

theorem tableCtrs_ne_decodeCtr (dd : Decode) : ∀ k ∈ tableCtrs, k ≠ decodeCtr dd := by cases dd <;> simp [tableCtrs, decodeCtr]

theorem decodeCtr_notMem (sl : Sailing) (dd : Decode) {l : List Ctr} (h : l ⊆ tableCtrs) : decodeCtr dd ∉ sailingCtr sl :: l := by
  rw [List.mem_cons, not_or]
  refine ⟨?_, fun hm => tableCtrs_ne_decodeCtr dd _ (h hm) rfl⟩
  cases dd <;> cases sl <;> simp [decodeCtr, sailingCtr]

/-! ### The read accepted -/

theorem State.readReceived_of_valid (h : recordValid held = true) (s : State) : s.readReceived held = s.setAsm .idle none := if_pos (.inr h)

/-- The station after the sailing check. -/
def State.sailingChecked (held : List Byte) (sl : Sailing) (s : State) : State := (s.readReceived held).countSailing sl

theorem State.sailingChecked_rest (h : recordValid held = true) (s : State) (sl : Sailing) : s.sailingChecked held sl
    = { s with rdu := ⟨.idle, none⟩, stu := (s.sailingChecked held sl).stu } := by
  unfold State.sailingChecked
  rw [State.countSailing_rest, State.readReceived_of_valid h]
  rfl

theorem acceptedRead (hc : s.cfg = some c) (hs : SizeLaw s) (hslot : SlotLaw s) (hvalid : recordValid held = true) (hone : candidates rc s = [r])
    (hexec : ∀ race, exec (.scanByte charCR false race) s = .next ((s.readReceived held).identify c rc id r race))
    (hcheck : sailingCheck rc id.sailing = sl) (hsl : sl ≠ .refused) (hdd : decodeDestination c s.rrv sl id.cabin = dd) :
    AcceptedRead c r id sl dd s (s.sailingChecked held sl) := by
  have htally := tallied_readReceived hs held
  rw [if_pos (.inr hvalid)] at htally
  have hmem : r ∈ s.btu.queue := (List.mem_filter.1 (show r ∈ candidates rc s by simp [hone])).1
  refine ⟨fun race => ?_, htally.countSailing hsl (by simp), ?_, ?_, hc, hdd, hslot.findRec_eq hmem⟩
  · rw [hexec, State.identify, State.find_of_accepted hcheck hsl]
    rfl
  · rw [State.sailingChecked_rest hvalid]
    simp [OnlyParts]
  · rw [State.sailingChecked_rest hvalid]

theorem AcceptedRead.tableDone (h : AcceptedRead c r id sl dd s v) : TableDone [sailingCtr sl] [] s v :=
  ⟨h.tally, by simpa using byWrite_sailingCtr sl, h.parts.mono (by decide), h.rdu⟩

theorem AcceptedRead.same (h : AcceptedRead c r id sl dd s v) : v.idt = s.idt ∧ v.btu = s.btu ∧ v.hlc = s.hlc := by
  obtain ⟨-, -, -, hbtu, -, hidt, -, -, hhlc, -⟩ := h.parts
  exact ⟨hidt.resolve_left (by decide), hbtu.resolve_left (by decide), hhlc.resolve_left (by decide)⟩

theorem AcceptedRead.fresh (_ : AcceptedRead c r id sl dd s v) {k : Ctr} (hk : k ∈ tableCtrs) : k ∉ [sailingCtr sl] := by
  simpa using tableCtrs_ne_sailingCtr sl k hk

/-! ### The outcomes by the table's answer -/

/-- What a read that is given entry i leaves, with the table as the read found it in q. -/
theorem AcceptedRead.made (h : AcceptedRead c r id sl dd s v) {l : List Ctr} (hq : TableDone (sailingCtr sl :: l) [] s p)
    (hl : l ⊆ [.tagClash]) (hentries : p.idt.entries = s.idt.entries) (hi : i < s.idt.entries.length)
    (hread : v.readIdt c id = (p.entryMade i id, .made i)) :
    (∃ t, Sys2Proof.Machine.exec (.scanByte charCR false none) s = .next t
      ∧ Identified c r (some id) (some i) dd.chute dd.reason [r.ref] []
        (sailingCtr sl :: l ++ reuseCtrs s.idt.entries i ++ [.newTag] ++ [decodeCtr dd]) ([] ++ decodeEvs dd) s t
      ∧ t.idt = { p.idt with
          entries := s.idt.entries.set i (some ⟨id.tag, id.sailing, id.sailing == 0, id.cabin, entryDest c r dd, .onSegment, .read, 0⟩) }
      ∧ t.ctr .newTag = satInc (s.ctr .newTag)
      ∧ t.ctr .manualReused = if (entryAt s.idt.entries i).any (·.state == .manual) then satInc (s.ctr .manualReused) else s.ctr .manualReused)
    ∧ ∃ t, Sys2Proof.Machine.exec (.scanByte charCR false (some .jamClr)) s = .next t
      ∧ LateUpdated i ⟨id.tag, id.sailing, id.sailing == 0, id.cabin, entryDest c r dd, .onLoop, .read, 0⟩ p.idt.pointer .newTag (sailingCtr sl) s t := by
  have hne := tableCtrs_ne_sailingCtr sl
  have hnotin : ∀ k ∈ tableCtrs, k ≠ .tagClash → k ∉ sailingCtr sl :: l := fun k hk hc hm => by
    rcases List.mem_cons.1 hm with hm | hm
    · exact hne k hk hm
    · exact hc (by simpa using hl hm)
  have hdone := hq.entryMade (hnotin _ (by decide) (by decide)) (hnotin _ (by decide) (by decide)) i id
  have hidt : (p.entryMade i id).idt = { p.idt with entries := s.idt.entries.set i (some (newEntry id)) } := by
    rw [State.entryMade_rest, hentries]
  have hat : entryAt (p.entryMade i id).idt.entries i = some (newEntry id) := by
    rw [hidt]
    exact entryAt_set_self hi _
  have hnew : decodeCtr dd ∉ sailingCtr sl :: l ++ reuseCtrs p.idt.entries i ++ [.newTag] := by
    have hsub : l ++ reuseCtrs p.idt.entries i ++ [.newTag] ⊆ tableCtrs := by
      intro k hk
      simp only [List.mem_append, List.mem_singleton, mem_reuseCtrs] at hk
      rcases hk with (hk | hk) | rfl
      · rw [List.mem_singleton.1 (hl hk)]; decide
      · rw [hk.1]; decide
      · decide
    exact decodeCtr_notMem sl dd hsub
  refine ⟨?_, ?_⟩
  · obtain ⟨t, hexec, hident, -, htable⟩ := h.identified hread (.inr (.inl ⟨i, rfl⟩)) hdone hnew
    rw [hentries] at hident
    refine ⟨t, hexec, hident, ?_, ?_, ?_⟩
    · rw [htable i _ rfl hat, hidt]
      simp [newEntry]
    · rw [hident.counted _ rfl, if_pos (by simp)]
    · rw [hident.counted _ rfl]
      refine if_congr ?_ rfl rfl
      have hmr := hnotin .manualReused (by decide) (by decide)
      have hd := tableCtrs_ne_decodeCtr dd .manualReused (by decide)
      simp only [List.mem_append, List.mem_singleton, mem_reuseCtrs, hmr, hd, false_or, or_false, true_and, reduceCtorEq]
  · have hlate := (h.late hread hdone hnew (k := .newTag) (by simp) (by simp)).1 _ rfl hat
    rw [hidt] at hlate
    exact hlate

/-- What a read that is given no entry leaves. -/
theorem AcceptedRead.unmade (h : AcceptedRead c r id sl dd s v) {k : Ctr} {es : List Ev} (hk : k ∈ tableCtrs)
    (hq : TableDone [sailingCtr sl, k] es s p) (hidt : p.idt = s.idt) (hread : v.readIdt c id = (p, .noEntry)) :
    ∃ t, Sys2Proof.Machine.exec (.scanByte charCR false none) s = .next t
      ∧ Identified c r (some id) r.entry dd.chute dd.reason [r.ref] [] ([sailingCtr sl, k] ++ [decodeCtr dd]) (es ++ decodeEvs dd) s t
      ∧ t.idt = s.idt := by
  obtain ⟨t, hexec, hident, htable, -⟩ := h.identified hread (.inl rfl) hq (decodeCtr_notMem sl dd (by simpa using hk))
  exact ⟨t, hexec, hident, (htable rfl).trans hidt⟩

/-- What a read of a refused sailing leaves: no probe and no decode (R99). -/
theorem refusedRead (hs : SizeLaw s) (hslot : SlotLaw s) (hvalid : recordValid held = true) (hone : candidates rc s = [r])
    (hexec : ∀ race, exec (.scanByte charCR false race) s = .next ((s.readReceived held).identify c rc id r race))
    (hcheck : sailingCheck rc id.sailing = .refused) :
    ∃ t, exec (.scanByte charCR false none) s = .next t
      ∧ Identified c r (if 4095 < id.sailing then r.ident else some id) r.entry none (some .wrongSailing) [r.ref] [] [.wrongSailing] [.wrongSailing] s t
      ∧ t.idt = s.idt := by
  have htally := tallied_readReceived hs held
  rw [if_pos (.inr hvalid)] at htally
  have hmem : r ∈ s.btu.queue := (List.mem_filter.1 (show r ∈ candidates rc s by simp [hone])).1
  have hdone : TableDone [.wrongSailing] [.wrongSailing] s (s.sailingChecked held .refused) := by
    refine ⟨(htally.bump (by simp)).raise .wrongSailing, by simp [Ctr.byWrite, Ctr.ofQueue], ?_, ?_⟩
    · rw [State.sailingChecked_rest hvalid]
      simp [OnlyParts]
    · rw [State.sailingChecked_rest hvalid]
  have hby := hdone.foundBy (hslot.findRec_eq hmem)
  have hrun := hexec none
  rw [State.identify, State.find_of_refused hcheck] at hrun
  set f : Finding := ⟨id, true, .noEntry, none, none, some .wrongSailing⟩ with hf
  have hident : (f.write c r).ident = if 4095 < id.sailing then r.ident else some id := by simp [Finding.write, hf, maxSailing]
  have hidt : (s.sailingChecked held .refused).idt = s.idt := by rw [State.sailingChecked_rest hvalid]
  exact ⟨_, hrun, hident ▸ hby.identified (List.mem_singleton_self _) (f := f) rfl c,
    (State.writeFinding_idt_of_none hby.found hby.counters hby.events (f := f) rfl c).trans hidt⟩

/-! ### The outcomes of a hit -/

section
variable {j : Nat} (h : AcceptedRead c r id sl dd s v) (hp : probe s.idt.entries id.tag id.sailing = some j)
  (he : entryAt s.idt.entries j = some e)
include h hp he

/-- The hit as the station finds it after the sailing check. -/
theorem AcceptedRead.hit : probe v.idt.entries id.tag id.sailing = some j ∧ entryAt v.idt.entries j = some e ∧ j < v.idt.entries.length := by
  obtain ⟨hidt, -, -⟩ := h.same
  rw [hidt]
  exact ⟨hp, he, lt_of_entryAt he⟩

/-- An ON_LOOP entry that is hit (R87). -/
theorem AcceptedRead.returning (hst : e.state = .onLoop) :
    (∃ t, Sys2Proof.Machine.exec (.scanByte charCR false none) s = .next t
      ∧ Identified c r (some id) (some j) dd.chute dd.reason [r.ref] [] ([sailingCtr sl, .returning] ++ [decodeCtr dd]) ([] ++ decodeEvs dd) s t
      ∧ t.idt = { s.idt with entries := s.idt.entries.set j (some { e with state := .onSegment, age := 0, dest := entryDest c r dd }) })
    ∧ ∃ t, Sys2Proof.Machine.exec (.scanByte charCR false (some .jamClr)) s = .next t
      ∧ LateUpdated j { e with age := 0 } s.idt.pointer .returning (sailingCtr sl) s t := by
  obtain ⟨hprobe, hat, hlt⟩ := h.hit hp he
  obtain ⟨hidt, -, -⟩ := h.same
  have hanswer := State.readIdt_of_waiting hprobe hat c (.inl hst)
  rw [if_pos hst] at hanswer
  have hdone := (h.tableDone.table (v.writeEntry j { e with state := .onSegment, age := 0 }).idt).bump (a := .returning)
    (h.fresh (by decide)) rfl
  have hdec := decodeCtr_notMem sl dd (l := [.returning]) (by decide)
  obtain ⟨t, hrun, hident, -, htable⟩ := h.identified hanswer (.inr (.inr ⟨j, rfl⟩)) hdone hdec
  have hlate := (h.late hanswer hdone hdec (i := j) (k := .returning) (by simp) (by simp)).2 e rfl (by simpa using hlt) hat
  rw [← hidt]
  refine ⟨⟨t, hrun, hident, ?_⟩, hlate⟩
  rw [htable j _ rfl (entryAt_set_self hlt _)]
  simp [State.writeEntry]

/-- A MANUAL entry that is hit (R87). -/
theorem AcceptedRead.manualHit (hst : e.state = .manual) :
    (∃ t, Sys2Proof.Machine.exec (.scanByte charCR false none) s = .next t
      ∧ ManuallyIdentified r id j e.dest [sailingCtr sl, .manualHit] s t
      ∧ t.idt = { s.idt with entries := s.idt.entries.set j (some { e with state := .onSegment, age := 0 }) })
    ∧ ∃ t, Sys2Proof.Machine.exec (.scanByte charCR false (some .jamClr)) s = .next t
      ∧ LateUpdated j { e with age := 0 } s.idt.pointer .manualHit (sailingCtr sl) s t := by
  obtain ⟨hprobe, hat, hlt⟩ := h.hit hp he
  obtain ⟨hidt, -, -⟩ := h.same
  have hanswer := State.readIdt_of_waiting hprobe hat c (.inr hst)
  rw [if_neg (by simp [hst])] at hanswer
  have hdone := (h.tableDone.table (v.writeEntry j { e with state := .onSegment, age := 0 }).idt).bump (a := .manualHit)
    (h.fresh (by decide)) rfl
  obtain ⟨t, hrun, hman, htable⟩ := h.manual hanswer hdone (entryAt_set_self hlt _)
  have hlate := h.manualLate hanswer hdone (by simpa using hlt) hat (k := .manualHit) (ks := sailingCtr sl) (by simp) (by simp)
  rw [← hidt]
  refine ⟨⟨t, hrun, hman, ?_⟩, hlate⟩
  rw [htable]
  simp [State.writeEntry]

/-- A DIVERTED entry that is hit (R88). -/
theorem AcceptedRead.divertedHit (hst : e.state = .diverted) :
    ∃ t, Sys2Proof.Machine.exec (.scanByte charCR false none) s = .next t
      ∧ Identified c r (some id) r.entry none (some .duplicateTag) [r.ref] [] [sailingCtr sl, .duplicateTag] [.duplicate] s t
      ∧ t.idt = { s.idt with entries := s.idt.entries.set j (some { e with age := 0 }) } := by
  obtain ⟨hprobe, hat, -⟩ := h.hit hp he
  obtain ⟨hidt, -, -⟩ := h.same
  have hdone := h.tableDone.duplicateHit (h.fresh (by decide)) j e
  obtain ⟨t, hrun, hident, htable, -⟩ :=
    h.duplicate (State.readIdt_of_diverted hprobe hat c hst) (hdone.foundBy h.found) (List.mem_singleton_self _)
  exact ⟨t, hrun, hident, by rw [htable, ← hidt]; rfl⟩

/-- An ON_SEGMENT entry that is hit, which the record u carries (R88). -/
theorem AcceptedRead.onSegmentHit (hslot : SlotLaw s) (hst : e.state = .onSegment) {u : SegRec}
    (hu : s.btu.queue.find? (fun (x : SegRec) => x.entry == some j) = some u) (hne : u.ref ≠ r.ref) :
    ∃ t, Sys2Proof.Machine.exec (.scanByte charCR false none) s = .next t
      ∧ Identified c r (some id) r.entry none (some .duplicateTag) [r.ref, u.ref] [(u.reason, .duplicateTag)]
        [sailingCtr sl, .duplicateTag] [.duplicate] s t
      ∧ t.idt = { s.idt with entries := s.idt.entries.set j (some { e with age := 0 }) }
      ∧ ∃ d, t.findRec u.ref = some { u.offered c .duplicateTag with divert := d } := by
  obtain ⟨hprobe, hat, -⟩ := h.hit hp he
  obtain ⟨hidt, hbtu, hhlc⟩ := h.same
  have hdone := h.tableDone.duplicateHit (h.fresh (by decide)) j e
  have hfind : (v.duplicateHit j e).findRec u.ref = some u :=
    (State.findRec_congr (congrArg Btu.queue hbtu) u.ref).trans (hslot.findRec_eq (List.mem_of_find?_eq_some hu))
  have hby := (hdone.foundBy h.found).offer hhlc hfind hne c .duplicateTag
  obtain ⟨t, hrun, hident, htable, hconf⟩ :=
    h.duplicate (State.readIdt_of_onSegment hprobe hat c hst (q := u) (by rw [hbtu]; exact hu)) hby (by simp)
  obtain ⟨d, hd⟩ := State.findRec_offer hfind c .duplicateTag
  have hoffer : ((v.duplicateHit j e).offer c u.ref .duplicateTag).idt = (v.duplicateHit j e).idt := by simp
  refine ⟨t, hrun, hident, by rw [htable, hoffer, ← hidt]; rfl, d, ?_⟩
  exact hconf.records.findRec (hby.records.slotLaw hslot) hd (by simpa using hne)

end

end

/-- Settles O32: the decode and the rotation, then the refused sailing, a new tag, a clash, and a hit in each state of the entry. -/
theorem goodReadIdentifiesANewBag : Obligations.GoodReadIdentifiesANewBag := by
  intro c rc held r id sl dd k ks i s hc hr hrc hs hslot htag ha hlen hhead hvalid hone hid hown hsl hdd hk hks
  rw [decodeCtr_eq] at hk
  rw [sailingCtr_eq] at hks
  subst hk hks
  have hentries := hs.entries
  have hpointer : 16 ≤ s.idt.pointer ∧ s.idt.pointer ≤ 127 := by
    obtain ⟨-, -, -, -, -, -, -, -, -, hlo, hhi, -⟩ := hs
    exact ⟨hlo, hhi⟩
  have hexec := exec_identify hc hr hrc ha hlen hhead hvalid hone hid hown
  have hrot := rotating_eq_some_iff (i := i) hpointer c.ageLimit s.idt.entries
  have hfull := rotating_eq_none_iff hpointer c.ageLimit s.idt.entries
  obtain ⟨hno, hun, hchute⟩ := decode_cases dd
  have hread : sl ≠ .refused → AcceptedRead c r id sl dd s (s.sailingChecked held sl) := fun h =>
    acceptedRead hc hs hslot hvalid hone hexec hsl h hdd
  refine ⟨⟨hno, hun, hchute⟩, by simpa only [reusable_eq, turnsTo] using hrot, by simpa only [reusable_eq] using hfull, fun href => ?_,
    fun hacc hnew => ⟨fun hi => ?_, fun hnone => ?_⟩, fun hacc hmiss j hj e he ht => ⟨fun hst => ?_, fun hst => ?_⟩,
    fun hacc j hj e he hm => ⟨fun hst => ?_, fun hst => ?_, fun hst => ?_, fun hst u hu hne => ?_⟩⟩
  · subst href
    obtain ⟨t, hrun, hident, hidt⟩ := refusedRead hs hslot hvalid hone hexec hsl
    refine ⟨t, hrun, hident.rdu, hidt, ?_, hident.tagged (ks := .wrongSailing) (by simp) rfl⟩
    rw [hident.raised _ (by decide)]
    simp
  all_goals
    have h := hread hacc
    generalize s.sailingChecked held sl = v at h
    obtain ⟨hvidt, -, -⟩ := h.same
  · obtain ⟨hlo, hhi, -⟩ := hrot.1 hi
    have hanswer : v.readIdt c id = (({ v with idt := { v.idt with pointer := pointerAfter i } } : State).entryMade i id, .made i) := by
      rw [State.readIdt_of_miss (by rw [hvidt]; exact probe_eq_none_of_tag hs _ hnew),
        State.missedRead_of_room (by rw [hvidt]; exact tagTest_eq_none hs hnew) (by rw [hvidt]; exact hi)]
    obtain ⟨⟨t, hrun, hident, hidt, hnt, hmr⟩, hlate⟩ := h.made (h.tableDone.table { v.idt with pointer := pointerAfter i }) (by simp) (by rw [← hvidt])
      (show i < s.idt.entries.length by omega) hanswer
    rw [hvidt] at hidt
    exact ⟨⟨t, hrun, hident.rdu, by rw [hidt]; rfl, by rw [hidt]; rfl, by rw [hidt], hnt, hmr, hident.decode (by simp)⟩, hlate⟩
  · have hanswer : v.readIdt c id = ((v.bump .idtFull).raiseEv .idtFull, .noEntry) := by
      rw [State.readIdt_of_miss (by rw [hvidt]; exact probe_eq_none_of_tag hs _ hnew),
        State.missedRead_of_full (by rw [hvidt]; exact tagTest_eq_none hs hnew) (by rw [hvidt]; exact hnone)]
    obtain ⟨t, hrun, hident, hidt⟩ := h.unmade (k := .idtFull) (by decide) ((h.tableDone.bump (h.fresh (by decide)) rfl).raise .idtFull) hvidt hanswer
    refine ⟨t, hrun, hident.rdu, hidt, ?_, ?_, hident.decode (by simp)⟩
    · rw [hident.counted _ rfl, if_pos (by simp)]
    · rw [hident.raised _ (by decide)]
      simp
  · have hanswer : v.readIdt c id = ((v.bump .tagClash).entryMade j id, .made j) := by
      rw [State.readIdt_of_miss (by rw [hvidt]; exact probe_eq_none hs hmiss),
        State.missedRead_of_clash (by rw [hvidt]; exact htag.tagTest_eq he ht) (by rw [hvidt]; exact he), if_neg hst]
    obtain ⟨⟨t, hrun, hident, hidt, hnt, hmr⟩, -⟩ := h.made (h.tableDone.bump (a := .tagClash) (h.fresh (by decide)) rfl) (by simp)
      (congrArg Idt.entries hvidt) (lt_of_entryAt he) hanswer
    refine ⟨t, hrun, hident.rdu, ?_, ?_, hnt, hmr, hident.decode (by simp)⟩
    · rw [hidt, ← hvidt]
      rfl
    · rw [hident.counted _ rfl, if_pos (by simp)]
  · have hanswer : v.readIdt c id = (v.bump .tagClash, .noEntry) := by
      rw [State.readIdt_of_miss (by rw [hvidt]; exact probe_eq_none hs hmiss),
        State.missedRead_of_clash (by rw [hvidt]; exact htag.tagTest_eq he ht) (by rw [hvidt]; exact he), if_pos hst]
    obtain ⟨t, hrun, hident, hidt⟩ := h.unmade (k := .tagClash) (by decide) (h.tableDone.bump (h.fresh (by decide)) rfl) hvidt hanswer
    refine ⟨t, hrun, hident.rdu, hidt, ?_, ?_, hident.decode (by simp)⟩
    · rw [hident.counted _ rfl, if_pos (by simp)]
    · rw [hident.counted _ rfl, if_neg]
      simp [tableCtrs_ne_sailingCtr sl .idtFull (by decide), tableCtrs_ne_decodeCtr dd .idtFull (by decide)]
  all_goals have hprobe := htag.probe_eq he hm
  · obtain ⟨⟨t, hrun, hident, hidt⟩, hlate⟩ := h.returning hprobe he hst
    exact ⟨⟨t, hrun, hident.rdu, hidt, (hident.counted _ rfl).trans (if_pos (by simp)), hident.decode (by simp)⟩, hlate⟩
  · obtain ⟨⟨t, hrun, hman, hidt⟩, hlate⟩ := h.manualHit hprobe he hst
    exact ⟨⟨t, hrun, hman.rdu, hidt, hman.good, (hman.counted _ (byWrite_sailingCtr sl)).trans (if_pos (by simp)),
      (hman.counted _ rfl).trans (if_pos (by simp)), hman.cleared, hman.raised, hman.strays, hman.found, hman.records, hman.btu, hman.grants,
      hman.parts⟩, hlate⟩
  · obtain ⟨t, hrun, hident, hidt⟩ := h.divertedHit hprobe he hst
    refine ⟨t, hrun, hident.rdu, hidt, (hident.counted _ rfl).trans (if_pos (by simp)), ?_, hident.tagged (by simp) (byWrite_sailingCtr sl)⟩
    rw [hident.raised _ (by decide)]
    simp
  · obtain ⟨t, hrun, hident, hidt, d, hfound⟩ := h.onSegmentHit hprobe he hslot hst hu hne
    obtain ⟨hreason, hdest⟩ := SegRec.offered_hard (c := c) (x := .duplicateTag) rfl u
    refine ⟨t, hrun, hident.rdu, hidt, (hident.counted _ rfl).trans (if_pos (by simp)), ?_, ⟨_, hfound, hreason, hdest, ?_, ?_⟩,
      hident.tagged (by simp) (byWrite_sailingCtr sl)⟩
    · rw [hident.raised _ (by decide)]
      simp
    · rw [SegRec.offered_rest]
    · rw [SegRec.offered_rest]

end Sys2Proof.Machine
end
